-- ==== Sys2Proof/Word.lean ====
section
/-! DEFINITION. The word types of the K8 and their plainest arithmetic. -/

namespace Sys2Proof

/-- A byte. -/
abbrev Byte := BitVec 8
/-- A CSR word (R11). -/
abbrev Word32 := BitVec 32
/-- A 64-bit word: a queue element, a plate SRAM word, half of a capture. -/
abbrev Word64 := BitVec 64
/-- A block-memory line or operand-memory word: 72 bits. -/
abbrev Word72 := BitVec 72
/-- One 64-byte unit of packet body or one DRAM line (R166). -/
abbrev Line := BitVec 512
/-- One configuration frame (R62). -/
abbrev Frame := BitVec 2048

/-- The value of bits [hi:lo] of a number. -/
def bitsOf (v hi lo : Nat) : Nat := v / 2 ^ lo % 2 ^ (hi + 1 - lo)

/-- Bit `n` of a number. -/
def bitOf (v n : Nat) : Bool := v / 2 ^ n % 2 == 1

/-- A saturating sum of `width` bits. -/
def addSat (width a b : Nat) : Nat := min (a + b) (2 ^ width - 1)

/-- A number as one bit. -/
def boolNat (b : Bool) : Nat := if b then 1 else 0

/-- The signed value of the low `w` bits of a number. -/
def signedOf (w v : Nat) : Int :=
  if v % 2 ^ w < 2 ^ (w - 1) then (v % 2 ^ w : Nat) else (v % 2 ^ w : Nat) - (2 ^ w : Nat)

/-- The low `w` bits of an integer, as a number. -/
def unsignedOf (w : Nat) (i : Int) : Nat := (i % (2 ^ w : Nat)).toNat

/-- An integer clamped to `w` signed bits. -/
def clampSigned (w : Nat) (i : Int) : Int :=
  if i < -((2 ^ (w - 1) : Nat) : Int) then -((2 ^ (w - 1) : Nat) : Int)
  else if i > ((2 ^ (w - 1) : Nat) : Int) - 1 then ((2 ^ (w - 1) : Nat) : Int) - 1
  else i

/-- A list of bytes, the first the least significant, as a number. -/
def leBytes : List Byte → Nat
  | [] => 0
  | b :: bs => b.toNat + 256 * leBytes bs

/-- The low `n` bytes of a number, least significant first. -/
def toLeBytes : Nat → Nat → List Byte
  | 0, _ => []
  | n + 1, v => BitVec.ofNat 8 v :: toLeBytes n (v / 256)

/-- A list of bytes, the first the most significant, as a number. -/
def beBytes (bs : List Byte) : Nat := leBytes bs.reverse

/-- The low `n` bytes of a number, most significant first. -/
def toBeBytes (n v : Nat) : List Byte := (toLeBytes n v).reverse

end Sys2Proof
end

