-- ==== Sys2Proof/Syntax.lean ====
section
/-! DEFINITION. The commands of the K8 and the operands they carry. -/

namespace Sys2Proof

/-- Response status codes (R181). -/
inductive Stat where
  | ok | timeout | noRoute | decode | prot | poison | tooLong | wakeFail | hopLim | malformed
  | retryExhausted | busy | fenced
deriving DecidableEq, Repr

/-- The code of a status (R181). -/
def Stat.code : Stat → Nat
  | .ok => 0 | .timeout => 1 | .noRoute => 2 | .decode => 3 | .prot => 4 | .poison => 5 | .tooLong => 6
  | .wakeFail => 7 | .hopLim => 8 | .malformed => 9 | .retryExhausted => 10 | .busy => 11 | .fenced => 12

/-- A Rovis packet: the header fields of R169, HDATA, and its body flits (R168). -/
structure Packet where
  pri : BitVec 2
  opc : BitVec 6
  len : BitVec 8
  tag : BitVec 16
  dst : BitVec 11
  src : BitVec 11
  label : BitVec 16
  icls : BitVec 3
  stat : BitVec 4
  addr : BitVec 56
  aux : BitVec 32
  hoplim : BitVec 8
  ext : BitVec 64
  hdata : BitVec 256
  body : List Line
deriving DecidableEq, Repr

/-- A CSR write: the unit and offset, 4 or 8 bytes of data, the initiator class and SRC, and whether it comes over the management core's
private path (R11-R13, R17, R38). -/
structure CsrAccess where
  unit : BitVec 8
  off : BitVec 24
  size : Nat
  data : Word64
  icls : BitVec 3
  src : BitVec 11
  priv : Bool
deriving DecidableEq, Repr

/-- The inputs of a block-memory port at one edge (R97). -/
structure PortIn where
  addr : BitVec 13
  din : Word64
  be : Byte
  en : Bool
  we : Bool
  /-- PUSH on port A, POP on port B. -/
  queueOp : Bool
  qsel : BitVec 2
deriving DecidableEq, Repr

/-- What the DRAM, its transfers and the counter cache bring into one access (R36, R322-R324, R334, R335, R352-R354). `tamper`, `tagTamper` and
`nodeTamper` change what the devices hold of a line, of the tag of a line and of the tree node of a level, with check bytes that agree;
`upset`, `tagUpset` and `nodeUpset` upset bits of the stored burst, bit 40 × beat + DQ, of a line, of a tag line (by line / 8) and of a node;
`bus`, `tagBus` and `nodeBus` upset such bits on the transfer alone. `cacheUpset` changes the counter-cache entry of a level, `rootDouble` is a
double-bit error in the root, `evict` gives entries that leave the cache, by level and index. `lbSingle` and `lbDouble` are line-buffer
entries with a bit error. `lost` says, for a request to a dispatcher slice, that the operands it meets fail their code (R231). -/
structure MemEnv where
  tamper : List (BitVec 42 × Line) := []
  upset : List (BitVec 42 × BitVec 640) := []
  bus : List (BitVec 42 × BitVec 640) := []
  tagTamper : List (BitVec 42 × Word64) := []
  tagUpset : List (BitVec 39 × BitVec 640) := []
  tagBus : List (BitVec 39 × BitVec 640) := []
  nodeTamper : List (Fin 5 × Line) := []
  nodeUpset : List (Fin 5 × BitVec 640) := []
  nodeBus : List (Fin 5 × BitVec 640) := []
  cacheUpset : List (Fin 5 × Line) := []
  rootDouble : Bool := false
  evict : List (Fin 5 × BitVec 32) := []
  lbSingle : List (BitVec 42) := []
  lbDouble : List (BitVec 42) := []
  lost : Bool := false
deriving DecidableEq, Repr

/-- What training finds on one channel (R348, R349, R358, R363): whether every SPD could be read, DDR_CAP and DDR_MAP of its population,
whether training succeeds, t_RD and the timing parameters of the SPD, and whether every device reports support of command parity. -/
structure ChannelTraining where
  present : Bool
  cap : Word32
  map : Word32
  ok : Bool
  trd : BitVec 16
  tp : List (BitVec 16)
  parity : Bool := false
deriving DecidableEq, Repr

/-- The BARs of a function (R388): the inbound window, the mailbox of PF 0, the MSI-X table with the doorbells. -/
inductive PciBar where
  | bar0 | bar2 | bar4
deriving DecidableEq, Repr

/-- An inbound PCIe memory request to a BAR (R388, R389): its port (true B), its BAR, function, offset, whether it is a write, Relaxed Ordering, its TAG,
and its bytes: of a write with the enabled ones given, of a read their number. -/
structure PciReq where
  port : Bool
  bar : PciBar
  vf : Bool
  func : BitVec 9
  off : BitVec 40
  write : Bool
  relaxed : Bool
  tag : BitVec 10
  data : List (Option Byte)
  count : Nat
deriving DecidableEq, Repr

/-- The outcome of a PCIe request to the host (R391). -/
inductive CplOutcome where
  | success | unsupported | abort | retry | poisoned
deriving DecidableEq, Repr

/-- When an asynchronous set/reset is released (R47): within the window; less than t_REC before the next active edge; less than t_REM after the
previous one. -/
inductive SrTime where
  | clear | late | early
deriving DecidableEq, Repr

/-- A cause of CONTAIN that a sensor or a supply monitor finds (R452): the hottest junction sensor in °C; the group B core rails, by bit of
MGT_SUPPLY.CORE, that are lost. -/
inductive ContainCause where
  | thermal (celsius : BitVec 8)
  | supply (rails : BitVec 7)
deriving DecidableEq, Repr

/-- What a worker core does at an address (R502, R503): an AMO by its RISC-V operation. -/
inductive CoreOp where
  | fetch | load | store | amoadd | amoswap | amoand | amoor | amoxor | amomax | amomin | amomaxu | amominu | lr | sc
  | clean | flush | inval
deriving DecidableEq, Repr

/-- What the device measures or times while a dictionary request is served (R485, R500): a telemetry value; whether an answer comes more
than 60 s after its challenge; whether less than 1 s has passed since a wrong answer. -/
structure DictEnv where
  measured : Word32
  late : Bool
  soon : Bool
deriving DecidableEq, Repr

/-- A flit on a channel of a fabric port (R186-R188). -/
structure Flit where
  data : Line
  eop : Bool
  pri : BitVec 2
deriving DecidableEq, Repr

/-- A read command of a configuration port, answered (R261): the port, the address, the command code and dummy cycles, and the data. -/
structure XspiBurst where
  port : Fin 4
  addr : BitVec 32
  opc : BitVec 8
  dummy : BitVec 8
  data : List Byte
deriving DecidableEq, Repr

/-- The commands of the K8: one constructor for each row of the opcode table. A default of an operand is only a
shorter way to write a common case. -/
inductive Instr where
  /-- CSR_WRITE (R6). -/
  | csrWrite (a : CsrAccess)
  /-- PLATE_SRAM_ACCESS (R35). -/
  | plateSramAccess (p : Packet) (single : List Nat) (double : List Nat)
  /-- ERROR_REPORT_SEND (R39). -/
  | errorReportSend (u : BitVec 8)
  /-- SPAN_FENCE (R77). -/
  | spanFence (c : Fin 131072)
  /-- FENCE_CLEAR_CHANNEL (R78). -/
  | fenceClearChannel (d : Fin 8) (c : BitVec 17)
  /-- FENCE_CLEAR_ALL (R92). -/
  | fenceClearAll (d : Fin 8)
  /-- ROTATION (R84). -/
  | rotation (d : Fin 8) (site : Fin 24576) (wire : Fin 32)
  /-- ROTATION_SELECT_SPARE (R83). -/
  | rotationSelectSpare (d : Fin 8) (site : Fin 24576) (matched : Bool) (s0Pass : Bool) (lapUs : Word32 := 0)
  /-- ROTATION_SWEEP_DONE (R83). -/
  | rotationSweepDone (d : Fin 8) (site : Fin 24576) (lo : BitVec 6) (width : Fin 65) (drv : BitVec 2) (lapUs : Word32 := 0)
  /-- ROTATION_RETURN (R83). -/
  | rotationReturn (d : Fin 8) (site : Fin 24576) (lapUs : Word32)
  /-- SPARE_CALIBRATION (R83). -/
  | spareCalibration (d : Fin 8) (site : Fin 24576) (spare : Fin 2) (lo : BitVec 6) (width : Fin 65) (drv : BitVec 2)
  /-- STARTUP_CALIBRATION (R86). -/
  | startupCalibration (d : Fin 8) (site : Fin 24576) (wire : Fin 34) (lo : BitVec 6) (width : Fin 65) (drv : BitVec 2)
  /-- FORCE_REPAIR (R93). -/
  | forceRepair (d : Fin 8)
  /-- CAL_NOW (R93). -/
  | calNow (d : Fin 8)
  /-- BM_READ (R104). -/
  | bmRead (m : Fin 16384) (port : Fin 2) (inp : Option PortIn) (other : Option PortIn := none)
  /-- BM_WRITE (R101). -/
  | bmWrite (m : Fin 16384) (port : Fin 2) (inp : Option PortIn) (other : Option PortIn)
  /-- LINE_REFETCH (R104). -/
  | lineRefetch (m : Fin 16384) (side : Fin 3)
  /-- REFETCH_TIMEOUT (R105). -/
  | refetchTimeout (m : Fin 16384) (side : Fin 3)
  /-- LINE_CMD_REFETCH (R107). -/
  | lineCmdRefetch (d : Fin 8) (m : Fin 2048) (line : Fin 1024)
  /-- LINE_CMD_RECOMPUTE (R107). -/
  | lineCmdRecompute (d : Fin 8) (m : Fin 2048) (line : Fin 1024)
  /-- LINE_CMD_EXECUTE (R107). -/
  | lineCmdExecute (d : Fin 8)
  /-- PUSH (R112). -/
  | push (m : Fin 16384) (inp : Option PortIn)
  /-- POP (R112). -/
  | pop (m : Fin 16384) (inp : Option PortIn)
  /-- FLUSH (R115). -/
  | flush (qn : BitVec 16)
  /-- APERTURE_PUSH (R117). -/
  | aperturePush (p : Packet)
  /-- APERTURE_POP (R117). -/
  | aperturePop (p : Packet)
  /-- PEEK (R116). -/
  | peek (p : Packet)
  /-- HELD_REQUEST_PROCEED (R118). -/
  | heldRequestProceed (qn : BitVec 16)
  /-- HOLD_TIMEOUT (R118). -/
  | holdTimeout (n : Fin 128) (i : Fin 8)
  /-- NETWORK_TRANSFER_DONE (R119). -/
  | networkTransferDone (qn : BitVec 16)
  /-- MEMORY_CLEAR_DONE (R122). -/
  | memoryClearDone
  /-- NOP (R146). -/
  | nop (i : Fin 8192) (upset : Bool := false)
  /-- HALT (R146). -/
  | halt (i : Fin 8192) (upset : Bool := false)
  /-- SIG (R146). -/
  | sig (i : Fin 8192) (upset : Bool := false)
  /-- JMP (R146). -/
  | jmp (i : Fin 8192) (upset : Bool := false)
  /-- LOOP (R148). -/
  | loop (i : Fin 8192) (upset : Bool := false)
  /-- WAITD (R149). -/
  | waitd (i : Fin 8192) (upset : Bool := false)
  /-- AGSET (R142). -/
  | agset (i : Fin 8192) (upset : Bool := false)
  /-- AGADD (R142). -/
  | agadd (i : Fin 8192) (upset : Bool := false)
  /-- FTAP (R146). -/
  | ftap (i : Fin 8192) (upset : Bool := false)
  /-- MAC (R146). -/
  | mac (i : Fin 8192) (upset : Bool := false)
  /-- LDDL (R146). -/
  | lddl (i : Fin 8192) (upset : Bool := false)
  /-- LDC (R146). -/
  | ldc (i : Fin 8192) (upset : Bool := false)
  /-- ST (R146). -/
  | st (i : Fin 8192) (upset : Bool := false)
  /-- IN (R146). -/
  | inp (i : Fin 8192) (upset : Bool := false)
  /-- OUT (R146). -/
  | out (i : Fin 8192) (upset : Bool := false)
  /-- OUTA (R146). -/
  | outa (i : Fin 8192) (upset : Bool := false)
  /-- BFLY (R153). -/
  | bfly (i : Fin 8192) (upset : Bool := false)
  /-- BEXP (R154). -/
  | bexp (i : Fin 8192) (upset : Bool := false)
  /-- ENGINE_WAIT_RESUME (R147). -/
  | engineWaitResume (i : Fin 8192) (waited : Word32)
  /-- FIFO_INPUT (R138). -/
  | fifoInput (i : Fin 8192) (data : Option (BitVec 36))
  /-- FIFO_OUTPUT (R138). -/
  | fifoOutput (i : Fin 8192) (rdy : Option Bool) (data : Option (BitVec 36))
  /-- ENGINE_APERTURE_REQUEST (R156). -/
  | engineApertureRequest (p : Packet)
  /-- ENGINE_START (R157). -/
  | engineStart (i : Fin 8192)
  /-- START_PIN (R157). -/
  | startPin (i : Fin 8192) (high : Option Bool)
  /-- ENGINE_STOP (R157). -/
  | engineStop (i : Fin 8192)
  /-- ENGINE_STOP_COMPLETE (R157). -/
  | engineStopComplete (i : Fin 8192)
  /-- ENGINE_CLEAR (R157). -/
  | engineClear (i : Fin 8192)
  /-- DOORBELL_ADD (R149). -/
  | doorbellAdd (i : Fin 8192) (v : BitVec 16)
  /-- IMEM_DOMAIN_WRITE (R163). -/
  | imemDomainWrite (i : Fin 8192) (data : List Byte)
  /-- INGRESS_ACCEPT (R171). -/
  | ingressAccept (node : BitVec 7) (port : BitVec 4) (p : Packet)
  /-- READ (R172). -/
  | read (p : Packet) (e : MemEnv)
  /-- WRITE (R172). -/
  | write (p : Packet) (e : MemEnv)
  /-- ATOMIC (R173). -/
  | atomic (p : Packet) (e : MemEnv)
  /-- RESPONSE_ACCEPT (R183). -/
  | responseAccept (p : Packet)
  /-- REQUEST_TIMEOUT (R183). -/
  | requestTimeout (node : BitVec 7) (port : BitVec 4) (tag : BitVec 16)
  /-- TAG_RELEASE (R184). -/
  | tagRelease (node : BitVec 7) (port : BitVec 4) (tag : BitVec 16)
  /-- NO_ROUTE (R175). -/
  | noRoute (p : Packet)
  /-- WAKE_HOLD (R185). -/
  | wakeHold (p : Packet)
  /-- HELD_PACKET_DELIVER (R185). -/
  | heldPacketDeliver (d : Fin 160)
  /-- WAKE_FAIL (R185). -/
  | wakeFail (node : BitVec 7) (d : Fin 160)
  /-- IQ_SUBMIT (R188). -/
  | iqSubmit (n : Fin 128) (data : Line) (eop : Bool) (pri : BitVec 2)
  /-- TS_RESPONSE (R189). -/
  | tsResponse (n : Fin 128) (x : Flit)
  /-- LINK_FRAME_RECEIVE (R199). -/
  | linkFrameReceive (p : Fin 16) (syms : List (List (BitVec 2)))
  /-- ACK_TIMEOUT (R199). -/
  | ackTimeout (p : Fin 16)
  /-- LINK_ENABLE (R201). -/
  | linkEnable (p : Fin 16)
  /-- LINK_DISABLE (R215). -/
  | linkDisable (p : Fin 16)
  /-- LINK_RETRAIN (R217). -/
  | linkRetrain (p : Fin 16)
  /-- LINK_TRANSMIT (R202). -/
  | linkTransmit (p : Fin 16) (pkt : Packet)
  /-- LINK_PACKET_RECEIVE (R203). -/
  | linkPacketReceive (p : Fin 16) (pri : Fin 4) (response : Bool)
  /-- MARK_SEND (R213). -/
  | markSend (p : Fin 16) (offset : BitVec 16)
  /-- DOPND (R226). -/
  | dopnd (p : Packet) (lost : Bool)
  /-- TOKEN_WINDOW_WRITE (R227). -/
  | tokenWindowWrite (p : Packet) (lost : Bool)
  /-- DESCRIPTOR_FETCH (R224). -/
  | descriptorFetch (sl : Fin 8) (lost : Bool := false)
  /-- HELD_TOKEN_MATCH (R230). -/
  | heldTokenMatch (sl : Fin 8) (completing : Bool) (lost : Bool := false)
  /-- TOKEN_HOLD_TIMEOUT (R230). -/
  | tokenHoldTimeout (sl : Fin 8) (i : Fin 64)
  /-- TICK (R232). -/
  | tick
  /-- DELAYED_TOKEN_RELEASE (R233). -/
  | delayedTokenRelease (sl : Fin 8) (lost : Bool)
  /-- FIRING_RING_ARRIVE (R228). -/
  | firingRingArrive (sl : Fin 8) (src : Fin 8) (lost : Bool := false)
  /-- DTAKE (R234). -/
  | dtake (p : Packet) (lost : Bool)
  /-- TAKE_WAIT_EXPIRE (R234). -/
  | takeWaitExpire (sl : Fin 8) (i : Fin 256)
  /-- TAKE_WINDOW_READ (R238). -/
  | takeWindowRead (p : Packet) (lost : Bool)
  /-- TAKE_LOAD (R239). -/
  | takeLoad (core : Fin 32) (slice : Fin 8) (profile : Fin 64) (va : Word64)
  /-- TAKE_BUFFER_LOAD (R239). -/
  | takeBufferLoad (core : Fin 32) (slice : Fin 8) (profile : Fin 64) (off : Fin 128) (size : Fin 4) (va : Word64)
  /-- EXEC_TAKE (R240). -/
  | execTake (n : Fin 128) (prof : BitVec 3)
  /-- PURGE (R241). -/
  | purge (g : BitVec 8)
  /-- PURGE_DONE (R241). -/
  | purgeDone (g : BitVec 8)
  /-- INVAL (R224). -/
  | inval (g : BitVec 8)
  /-- OPEN (R263). -/
  | openLoad (src : BitVec 4) (icls : BitVec 3)
  /-- ABORT (R266). -/
  | abortLoad (icls : BitVec 3)
  /-- FLIP (R269). -/
  | flip (icls : BitVec 3)
  /-- COMMIT_SVN (R274). -/
  | commitSvn (icls : BitVec 3)
  /-- STREAM_WRITE (R262). -/
  | streamWrite (p : Packet)
  /-- XSPI_READ (R261). -/
  | xspiRead (r : XspiBurst)
  /-- SOURCE_TIMEOUT (R261). -/
  | sourceTimeout
  /-- FRAME_WRITE (R263). -/
  | frameWrite (misrouted : Option (BitVec 7))
  /-- INIT_DATA_WRITE (R264). -/
  | initDataWrite (e : MemEnv)
  /-- VERIFY (R265). -/
  | verify
  /-- FLIP_WAKE_TIMEOUT (R269). -/
  | flipWakeTimeout (i : Nat)
  /-- FLIP_EXECUTE (R270). -/
  | flipExecute (i : Nat)
  /-- INIT_COMPLETE (R270). -/
  | initComplete (i : Nat) (e : MemEnv)
  /-- OUTPUTS (R270). -/
  | outputs (i : Nat)
  /-- ENABLES (R270). -/
  | enables (i : Nat)
  /-- RESETS (R270). -/
  | resets (i : Nat)
  /-- SL_OPEN (R288). -/
  | slOpen (icls : BitVec 3) (src : BitVec 11)
  /-- SL_ABORT (R288). -/
  | slAbort (icls : BitVec 3) (src : BitVec 11)
  /-- SL_FLIP (R288). -/
  | slFlip (icls : BitVec 3) (src : BitVec 11)
  /-- SL_DATA_WRITE (R287). -/
  | slDataWrite (p : Packet)
  /-- SCRUB_FRAME_READ (R295). -/
  | scrubFrameRead (d : Fin 8) (upset : Frame) (misread : Frame) (tableUpset : Word32) (lapUs : Word32) (e : MemEnv)
  /-- CANDIDATE_FETCH (R295). -/
  | candidateFetch (d : Fin 8) (xspi : Option (List Byte)) (e : MemEnv)
  /-- REPAIR (R296). -/
  | repair (d : Fin 8) (readBack : Bool)
  /-- TMR_CORRECT (R299). -/
  | tmrCorrect
  /-- DIGEST_NOW (R302). -/
  | digestNow
  /-- DIGEST_FRAME_READ (R302). -/
  | digestFrameRead (d : Fin 8) (upset : Frame) (misread : Frame) (tableUpset : Word32) (e : MemEnv)
  /-- DIGEST_DONE (R302). -/
  | digestDone
  /-- CENSUS_START (R304). -/
  | censusStart
  /-- ROUND_PERIOD (R304). -/
  | roundPeriod
  /-- REF (R305). -/
  | ref (p : Packet)
  /-- SUMMARY (R306). -/
  | summary (p : Packet)
  /-- DISSENT (R307). -/
  | dissent (p : Packet)
  /-- CENSUS_WAIT_EXPIRE (R306). -/
  | censusWaitExpire
  /-- KID_LOAD (R338). -/
  | kidLoad (e : Fin 8) (kid : BitVec 8)
  /-- GENERATE (R338). -/
  | generate (kid : BitVec 8)
  /-- KID_INIT (R339). -/
  | kidInit (kid : BitVec 8)
  /-- KID_INIT_DONE (R339). -/
  | kidInitDone (kid : BitVec 8)
  /-- KID_ENABLE (R339). -/
  | kidEnable (kid : BitVec 8)
  /-- RETIRE (R340). -/
  | retire (kid : BitVec 8)
  /-- RETIRE_DONE (R340). -/
  | retireDone (kid : BitVec 8)
  /-- VERIFY_DONE (R327). -/
  | verifyDone (i : Nat)
  /-- VTIME_ALARM (R328). -/
  | vtimeAlarm (i : Nat)
  /-- VERIFY_REFETCH (R330). -/
  | verifyRefetch (i : Nat) (e : MemEnv)
  /-- ALARM_POP (R342). -/
  | alarmPop (e : Fin 8)
  /-- DRAIN_MODE (R356). -/
  | drainMode (c : Fin 8) (aged : Bool)
  /-- READ_MODE (R356). -/
  | readMode (c : Fin 8) (aged : Bool)
  /-- REFRESH_DEBT (R359). -/
  | refreshDebt (c : Fin 8) (rank : Fin 4)
  /-- REFRESH (R359). -/
  | refresh (c : Fin 8) (rank : Fin 4) (bank : BitVec 10)
  /-- RD_THRESHOLD (R360). -/
  | rdThreshold (c : Fin 8) (bank : BitVec 12)
  /-- THROTTLE_EXPIRE (R360). -/
  | throttleExpire (c : Fin 8) (i : Fin 16)
  /-- TRACKER_CLEAR (R360). -/
  | trackerClear (c : Fin 8)
  /-- PARITY_ALERT (R361). -/
  | parityAlert (c : Fin 8) (done : Fin 65)
  /-- ALERT_CLEAR (R361). -/
  | alertClear (c : Fin 8)
  /-- DDR_RETRAIN (R362). -/
  | ddrRetrain (c : Fin 8) (t : ChannelTraining) (lost : Bool)
  /-- DDR_DISABLE (R362). -/
  | ddrDisable (c : Fin 8)
  /-- DRAM_TRAINING_DONE (R363). -/
  | dramTrainingDone (t : List ChannelTraining)
  /-- DRIFT_CHECK (R364). -/
  | driftCheck (c : Fin 8) (rank : Fin 4) (drift : Nat)
  /-- RETRAINING_WINDOW (R364). -/
  | retrainingWindow (c : Fin 8) (rank : Fin 4) (unmet : Bool := false)
  /-- RETRAINING_WINDOW_END (R364). -/
  | retrainingWindowEnd (c : Fin 8) (rank : Fin 4)
  /-- ENERGY_DETECT (R374). -/
  | energyDetect (k : Fin 4) (lane : Fin 32)
  /-- TRAIN_LOCK (R374). -/
  | trainLock (k : Fin 4) (lane : Fin 32) (seed : BitVec 31)
  /-- TRAIN_TIMEOUT (R374). -/
  | trainTimeout (k : Fin 4) (lane : Fin 32)
  /-- CAPS_FRAME_RECEIVE (R375). -/
  | capsFrameReceive (k : Fin 4) (lane : Fin 32) (syms : List (BitVec 2)) (at_ : Nat)
  /-- LANE_SLIP (R377). -/
  | laneSlip (k : Fin 4) (lane : Fin 32) (n : BitVec 10)
  /-- LANE_DROP (R378). -/
  | laneDrop (k : Fin 4) (lane : Fin 32)
  /-- TX_SLEEP (R379). -/
  | txSleep (k : Fin 4) (lane : Fin 32) (v : Bool)
  /-- RX_SLEEP (R379). -/
  | rxSleep (k : Fin 4) (lane : Fin 32) (v : Bool)
  /-- TUNING_STEP (R380). -/
  | tuningStep (k : Fin 4) (lane : Fin 32) (ns : Nat) (here : Nat) (below : Nat) (above : Nat)
  /-- EYE_SCAN_START (R381). -/
  | eyeScanStart (k : Fin 4) (lane : Fin 40)
  /-- EYE_SCAN_SLICE (R424). -/
  | eyeScanSlice (k : Fin 4) (lane : Fin 40)
  /-- EYE_SCAN_DONE (R381). -/
  | eyeScanDone (k : Fin 4) (lane : Fin 40) (mismatches : Nat)
  /-- LANE_MODE_WRITE (R383). -/
  | laneModeWrite (k : Fin 4) (lane : Fin 32) (mode : BitVec 2)
  /-- PCIE_ENABLE (R387). -/
  | pcieEnable (c : Fin 2)
  /-- PCIE_LINK_DROP (R387). -/
  | pcieLinkDrop (c : Fin 2) (port : Bool)
  /-- INBOUND_REQUEST (R389). -/
  | inboundRequest (c : Fin 2) (r : PciReq)
  /-- OUTBOUND_REQUEST (R391). -/
  | outboundRequest (p : Packet)
  /-- OUTBOUND_COMPLETION (R391). -/
  | outboundCompletion (c : Fin 2) (i : Nat) (outcome : CplOutcome) (data : List Byte)
  /-- COMPLETION_TIMEOUT (R391). -/
  | completionTimeout (c : Fin 2) (i : Nat)
  /-- DMA_DOORBELL (R394). -/
  | dmaDoorbell (c : Fin 2) (k : BitVec 8) (pi : BitVec 16) (fn : Option (Bool × BitVec 9))
  /-- DMA_DESCRIPTOR_CHECK (R393). -/
  | dmaDescriptorCheck (c : Fin 2) (k : BitVec 8) (desc : BitVec 256)
  /-- DMA_WRITE_BACK (R394). -/
  | dmaWriteBack (c : Fin 2) (k : BitVec 8)
  /-- DMA_ENABLE (R394). -/
  | dmaEnable (c : Fin 2) (k : BitVec 8)
  /-- FUNCTION_LEVEL_RESET (R395). -/
  | functionLevelReset (c : Fin 2) (vf : Bool) (func : BitVec 9)
  /-- XTAL_QUALIFY (R399). -/
  | xtalQualify
  /-- HF_SETTLE (R400). -/
  | hfSettle
  /-- MONITOR_TRIP (R401). -/
  | monitorTrip (count : Option Nat := none)
  /-- FALLBACK_TIMEOUT (R402). -/
  | fallbackTimeout
  /-- HF_CHECK_FAIL (R403). -/
  | hfCheckFail (count : Nat := 0)
  /-- TRIM_MEASUREMENT (R404). -/
  | trimMeasurement (count : Nat) (expected : Nat)
  /-- PLL_ENABLE (R406). -/
  | pllEnable (k : Fin 64) (en : Bool)
  /-- PLL_LOCK (R406). -/
  | pllLock (k : Fin 64)
  /-- PLL_STANDBY (R408). -/
  | pllStandby (k : Fin 64)
  /-- DOMAIN_GATE (R411). -/
  | domainGate (i : Fin 160)
  /-- DOMAIN_OFF (R411). -/
  | domainOff (n : Fin 128)
  /-- DOMAIN_RUN (R412). -/
  | domainRun (i : Fin 160)
  /-- AUTO_CLOSE (R411). -/
  | autoClose (i : Fin 160)
  /-- CLOSE_READY (R411). -/
  | closeReady (i : Fin 160)
  /-- CLOSE_REFUSE (R411). -/
  | closeRefuse (i : Fin 160)
  /-- CLOSE_TIMEOUT (R412). -/
  | closeTimeout (i : Fin 160)
  /-- WAKE_DONE (R412). -/
  | wakeDone (i : Fin 160)
  /-- VF_TARGET (R416). -/
  | vfTarget (g : Fin 3) (target : Fin 8)
  /-- VF_SETTLE (R416). -/
  | vfSettle (g : Fin 3) (millivolt : BitVec 16) (fault : Bool)
  /-- VF_DONE (R416). -/
  | vfDone (g : Fin 3)
  /-- FRET_BOUNDARY (R422). -/
  | fretBoundary
  /-- DROWSE (R450). -/
  | drowse (icls : BitVec 3)
  /-- WAKE (R450). -/
  | wake (icls : BitVec 3)
  /-- WAKE_SOURCE (R450). -/
  | wakeSource (src : Fin 5)
  /-- CONTAIN (R453). -/
  | contain (icls : BitVec 3)
  /-- CONTAIN_CAUSE (R452). -/
  | containCause (cause : ContainCause)
  /-- RESUMABLE (R452). -/
  | resumable (celsius : BitVec 8)
  /-- RESUME (R454). -/
  | resume (icls : BitVec 3)
  /-- DORMANT (R451). -/
  | dormant (icls : BitVec 3)
  /-- SERVICE_ENTER (R455). -/
  | serviceEnter
  /-- POWER_ON_RESET (R440). -/
  | powerOnReset (sealIntact : Bool)
  /-- PIN_RESET (R441). -/
  | pinReset (lowNs : Nat)
  /-- RESET_SYSTEM_CMD (R457). -/
  | resetSystemCmd (key : Byte) (icls : BitVec 3)
  /-- RESET_MANAGEMENT_CMD (R457). -/
  | resetManagementCmd (key : Byte) (icls : BitVec 3)
  /-- SYSTEM_RESET (R440). -/
  | systemReset
  /-- MANAGEMENT_RESET (R440). -/
  | managementReset (recent : Nat)
  /-- STRAP_SAMPLE (R439). -/
  | strapSample (bootsrc : Fin 8) (pull : Fin 3) (node : BitVec 7)
  /-- GROUP_B_GOOD (R438). -/
  | groupBGood
  /-- SUPPLY_TIMEOUT (R438). -/
  | supplyTimeout
  /-- BOOT_WINDOW_WRITE (R445). -/
  | bootWindowWrite (p : Packet)
  /-- HANDOVER (R448). -/
  | handover (container : List Byte)
  /-- AUTOFLIP (R449). -/
  | autoflip
  /-- OBJECT_READ (R471). -/
  | objectRead (e : DictEnv)
  /-- OBJECT_WRITE (R471). -/
  | objectWrite (e : DictEnv)
  /-- SEG_READ (R471). -/
  | segRead (e : DictEnv)
  /-- SEG_WRITE (R471). -/
  | segWrite
  /-- SEGMENT (R472). -/
  | segment (e : DictEnv)
  /-- RECORD_ABORT (R471). -/
  | recordAbort
  /-- TRANSFER_TIMEOUT (R473). -/
  | transferTimeout (session : Fin 32)
  /-- CAN_FRAME_RECEIVE (R476). -/
  | canFrameReceive (c : Fin 2) (id : BitVec 29) (data : List Byte)
  /-- BUS_OFF_REJOIN (R477). -/
  | busOffRejoin (c : Fin 2)
  /-- MAILBOX_DOORBELL (R478). -/
  | mailboxDoorbell (c : Fin 2) (seq : BitVec 16)
  /-- RELAY_SEND (R480). -/
  | relaySend
  /-- RELAY_RESPONSE (R480). -/
  | relayResponse (p : Packet)
  /-- RELAY_TIMEOUT (R480). -/
  | relayTimeout (session : Fin 32)
  /-- PRESENCE_PRESS (R481). -/
  | presencePress (held : Bool)
  /-- PRESENCE_EXPIRE (R481). -/
  | presenceExpire
  /-- SEAL_BREAK (R482). -/
  | sealBreak
  /-- CHALLENGE_READ (R485). -/
  | challengeRead (e : DictEnv)
  /-- CHALLENGE_ANSWER (R485). -/
  | challengeAnswer (e : DictEnv)
  /-- PRESENCE_UNLOCK (R485). -/
  | presenceUnlock
  /-- LOCK (R486). -/
  | lock
  /-- UNLOCK_EXPIRE (R486). -/
  | unlockExpire (session : Fin 32)
  /-- KEY_SLOT_PROVISION (R488). -/
  | keySlotProvision
  /-- KEY_SLOT_REVOKE (R488). -/
  | keySlotRevoke
  /-- KEY_WRAP (R489). -/
  | keyWrap
  /-- EXPERT_KEY_WRITE (R488). -/
  | expertKeyWrite
  /-- MEASUREMENT_EXTEND (R490). -/
  | measurementExtend (slot : Fin 8) (icls : BitVec 3)
  /-- ATTESTATION_READ (R491). -/
  | attestationRead
  /-- ERROR_REPORT_RECEIVE (R493). -/
  | errorReportReceive (remote : Bool) (now : Word64)
  /-- ERR_WINDOW_END (R493). -/
  | errWindowEnd (entry : Fin 513)
  /-- ERR_DELIVERY_QUEUED (R495). -/
  | errDeliveryQueued
  /-- ERR_POP (R497). -/
  | errPop
  /-- RETURN_PREPARATION (R573). -/
  | returnPreparation (steps : Fin 6)
  /-- RETURN_COMPLETION (R574). -/
  | returnCompletion
  /-- CORE_RUN (R505). -/
  | coreRun (run : Word32) (icls : BitVec 3)
  /-- EVENT_EDGE (R509). -/
  | eventEdge (n : BitVec 12) (v : Bool)
  /-- EVENT_REASSIGN (R510). -/
  | eventReassign (n : BitVec 12)
  /-- CLAIM (R511). -/
  | claim (t : Fin 65) (icls : BitVec 3)
  /-- COMPLETION (R511). -/
  | completion (t : Fin 65) (n : BitVec 12) (icls : BitVec 3)
  /-- SWSET (R531). -/
  | swset (num : BitVec 6)
  /-- WATCHDOG_KICK (R515). -/
  | watchdogKick (i : Fin 33) (key : Byte) (icls : BitVec 3)
  /-- WATCHDOG_WARNING (R515). -/
  | watchdogWarning (i : Fin 33)
  /-- WATCHDOG_EXPIRE (R515). -/
  | watchdogExpire (i : Fin 33) (recent : Nat)
  /-- STYLUS_BREAK (R517). -/
  | stylusBreak
  /-- STYLUS_ENTRY (R518). -/
  | stylusEntry
  /-- RD (R518). -/
  | rd (addr : BitVec 56)
  /-- WR (R518). -/
  | wr (addr : BitVec 56) (data : Word32)
  /-- DRD (R518). -/
  | drd (ofs : BitVec 24)
  /-- DWR (R518). -/
  | dwr (ofs : BitVec 24) (data : Word32)
  /-- STYLUS_EXIT (R518). -/
  | stylusExit
  /-- STYLUS_TIMEOUT (R518). -/
  | stylusTimeout
  /-- KX_START (R521). -/
  | kxStart (soon : Bool) (icls : BitVec 3)
  /-- KX_ANSWER (R521). -/
  | kxAnswer (late : Bool) (icls : BitVec 3)
  /-- KX_CLOSE (R521). -/
  | kxClose (icls : BitVec 3)
  /-- KX_SESSION_TIMEOUT (R521). -/
  | kxSessionTimeout
  /-- DBG_HALT (R524). -/
  | dbgHalt (i : Fin 33) (regs : List (BitVec 16 × Word64))
  /-- DBG_RESUME (R524). -/
  | dbgResume (i : Fin 33)
  /-- DBG_STEP (R524). -/
  | dbgStep (i : Fin 33) (regs : List (BitVec 16 × Word64))
  /-- EBREAK_HALT (R524). -/
  | ebreakHalt (i : Fin 33) (regs : List (BitVec 16 × Word64))
  /-- COMPARATOR_MATCH (R526). -/
  | comparatorMatch (i : Fin 33) (pc : Word64) (acc : List (Bool × Word64)) (scontext : BitVec 16) (regs : List (BitVec 16 × Word64))
  /-- WATCH_MATCH (R526). -/
  | watchMatch (i : Fin 33) (w : Fin 4) (pc : Word64) (write : Bool) (addr : Word64) (size : Fin 4) (value : Word64) (scontext : BitVec 16) (regs : List (BitVec 16 × Word64))
  /-- REGISTER_ACCESS (R524). -/
  | registerAccess (i : Fin 33) (write : Bool) (reg : BitVec 16)
  /-- CAPTURE_ARM (R529). -/
  | captureArm
  /-- CAPTURE_STOP (R533). -/
  | captureStop
  /-- CAPTURE_TRIGGER (R529). -/
  | captureTrigger
  /-- CAPTURE_DONE (R529). -/
  | captureDone
  /-- FUNCTION_SWITCH (R545). -/
  | functionSwitch (i : Fin 192) (second : Bool) (pads : BitVec 192)
  /-- GPIO_WRITE (R548). -/
  | gpioWrite (bank : Fin 6) (oe : Bool) (value : Word32) (icls : BitVec 3) (src : BitVec 11)
  /-- PATTERN_FIRE (R549). -/
  | patternFire (b : Fin 5) (k : Fin 8) (pads : Word32)
  /-- ADC_CONVERSION (R544). -/
  | adcConversion (code : BitVec 12)
  /-- IDCODE (R570). -/
  | idcode
  /-- SAMPLE_PRELOAD (R570). -/
  | samplePreload (sampled : List Bool) (shifted : List Bool)
  /-- EXTEST (R571). -/
  | extest (sampled : List Bool) (shifted : List Bool)
  /-- EXTEST_PULSE (R571). -/
  | extestPulse (sampled : List Bool) (shifted : List Bool)
  /-- EXTEST_TRAIN (R571). -/
  | extestTrain (sampled : List Bool) (shifted : List Bool)
  /-- CLAMP (R571). -/
  | clamp
  /-- HIGHZ (R571). -/
  | highz
  /-- BYPASS (R570). -/
  | bypass
  /-- TEST_LOGIC_RESET (R571). -/
  | testLogicReset
  /-- REGIONAL_CLOCK_EDGE (R46). -/
  | regionalClockEdge (n : Fin 128) (track : Fin 8) (falling : Bool) (pads : Option (BitVec 48)) (also : List (Fin 128 × Fin 8 × Bool) := [])
  /-- ASYNC_SET_RESET (R46). -/
  | asyncSetReset (n : Fin 128) (x : Fin 192) (y : Fin 128) (set : Bool) (rises : Bool) (when : SrTime)
  /-- SPAN_EDGE (R71). -/
  | spanEdge
  /-- DRAM_COMMAND_ISSUE (R357). -/
  | dramCommandIssue (c : Fin 8) (met : List Nat) (old : List Nat) (gap : List Nat) (raa : Option (BitVec 12 × Bool)) (ref : List (Fin 4) := [])
  /-- INVAL_DONE (R224). -/
  | invalDone (g : BitVec 8)
  /-- PCIE_LINK_UP (R386). -/
  | pcieLinkUp (c : Fin 2) (port : Bool) (speed : BitVec 3) (width : BitVec 5)
  /-- CAN_BUS_ERROR (R477). -/
  | canBusError (c : Fin 2) (transmit : Bool) (step : BitVec 4)
  /-- STYLUS_FRAMING_ERROR (R517). -/
  | stylusFramingError
  /-- STYLUS_FRAME_TIMEOUT (R517). -/
  | stylusFrameTimeout
  /-- STYLUS_BAD_FRAME (R518). -/
  | stylusBadFrame
  /-- STYLUS_SLOT (R519). -/
  | stylusSlot
  /-- FW_FAIL (R443). -/
  | fwFail (container : Option (List Byte))
  /-- SELFTEST_FAIL (R448). -/
  | selftestFail
  /-- CONTENT_LOST (R453). -/
  | contentLost (c : Fin 8)
  /-- VCCIO_CHANGE (R437). -/
  | vccioChange (bank : Fin 30) (good : Bool)
  /-- CORE_MEMORY_ACCESS (R502). -/
  | coreMemoryAccess (core : Fin 32) (op : CoreOp) (va : Word64) (addr : BitVec 56) (size : Fin 4) (data : Word64) (victim : Option (BitVec 50))
  /-- LANE_SIGNAL (R379). -/
  | laneSignal (k : Fin 4) (lane : Fin 32) (v : Bool)
deriving DecidableEq, Repr

end Sys2Proof
end

