-- ==== Sys2Proof/Machine/Crypto.lean ====
section
/-! DEFINITION. The cryptographic functions the spec names: AES-256, GMAC, AES key wrap, SHA-384, HMAC-SHA-384 and ECDSA over P-384
(R259, R260, R321, R322, R338, R485, R489, R491, R521). -/

namespace Sys2Proof.Crypto

open Sys2Proof

/-! ### SHA-384 and HMAC -/

/-- The low 64 bits. -/
def w64 (x : Nat) : Nat := x % 2 ^ 64

/-- A 64-bit rotation to the right. -/
def rotr (x n : Nat) : Nat := x / 2 ^ n + x % 2 ^ n * 2 ^ (64 - n)

/-- The round constants of SHA-384. -/
def sha384K : List Nat :=
  [0x428a2f98d728ae22, 0x7137449123ef65cd, 0xb5c0fbcfec4d3b2f, 0xe9b5dba58189dbbc, 0x3956c25bf348b538,
   0x59f111f1b605d019, 0x923f82a4af194f9b, 0xab1c5ed5da6d8118, 0xd807aa98a3030242, 0x12835b0145706fbe] ++
  [0x243185be4ee4b28c, 0x550c7dc3d5ffb4e2, 0x72be5d74f27b896f, 0x80deb1fe3b1696b1, 0x9bdc06a725c71235,
   0xc19bf174cf692694, 0xe49b69c19ef14ad2, 0xefbe4786384f25e3, 0x0fc19dc68b8cd5b5, 0x240ca1cc77ac9c65] ++
  [0x2de92c6f592b0275, 0x4a7484aa6ea6e483, 0x5cb0a9dcbd41fbd4, 0x76f988da831153b5, 0x983e5152ee66dfab,
   0xa831c66d2db43210, 0xb00327c898fb213f, 0xbf597fc7beef0ee4, 0xc6e00bf33da88fc2, 0xd5a79147930aa725] ++
  [0x06ca6351e003826f, 0x142929670a0e6e70, 0x27b70a8546d22ffc, 0x2e1b21385c26c926, 0x4d2c6dfc5ac42aed,
   0x53380d139d95b3df, 0x650a73548baf63de, 0x766a0abb3c77b2a8, 0x81c2c92e47edaee6, 0x92722c851482353b] ++
  [0xa2bfe8a14cf10364, 0xa81a664bbc423001, 0xc24b8b70d0f89791, 0xc76c51a30654be30, 0xd192e819d6ef5218,
   0xd69906245565a910, 0xf40e35855771202a, 0x106aa07032bbd1b8, 0x19a4c116b8d2d0c8, 0x1e376c085141ab53] ++
  [0x2748774cdf8eeb99, 0x34b0bcb5e19b48a8, 0x391c0cb3c5c95a63, 0x4ed8aa4ae3418acb, 0x5b9cca4f7763e373,
   0x682e6ff3d6b2b8a3, 0x748f82ee5defb2fc, 0x78a5636f43172f60, 0x84c87814a1f0ab72, 0x8cc702081a6439ec] ++
  [0x90befffa23631e28, 0xa4506cebde82bde9, 0xbef9a3f7b2c67915, 0xc67178f2e372532b, 0xca273eceea26619c,
   0xd186b8c721c0c207, 0xeada7dd6cde0eb1e, 0xf57d4f7fee6ed178, 0x06f067aa72176fba, 0x0a637dc5a2c898a6] ++
  [0x113f9804bef90dae, 0x1b710b35131c471b, 0x28db77f523047d84, 0x32caab7b40c72493, 0x3c9ebe0a15c9bebc,
   0x431d67c49c100d4c, 0x4cc5d4becb3e42b6, 0x597f299cfc657e2a, 0x5fcb6fab3ad6faec, 0x6c44198c4a475817]

/-- The initial state of SHA-384. -/
def sha384Init : List Nat :=
  [0xcbbb9d5dc1059ed8, 0x629a292a367cd507, 0x9159015a3070dd17, 0x152fecd8f70e5939,
   0x67332667ffc00b31, 0x8eb44a8768581511, 0xdb0c2e0d64f98fa7, 0x47b5481dbefa4fa4]

/-- Bytes, most significant first, as a number. -/
def ofBE (bs : List Byte) : Nat := bs.foldl (fun a b => a * 256 + b.toNat) 0

/-- The message schedule, continued from its latest words (the last first). -/
def schedule : Nat → List Nat → List Nat
  | 0, ws => ws
  | n + 1, ws =>
    let a := ws.getD 1 0
    let b := ws.getD 14 0
    let s1 := rotr a 19 ^^^ rotr a 61 ^^^ (a / 2 ^ 6)
    let s0 := rotr b 1 ^^^ rotr b 8 ^^^ (b / 2 ^ 7)
    schedule n (w64 (s1 + ws.getD 6 0 + s0 + ws.getD 15 0) :: ws)

/-- One round on the eight working variables. -/
def round (h : List Nat) (kw : Nat × Nat) : List Nat :=
  match h with
  | [a, b, c, d, e, f, g, k] =>
    let s1 := rotr e 14 ^^^ rotr e 18 ^^^ rotr e 41
    let ch := (e &&& f) ^^^ ((2 ^ 64 - 1 - e) &&& g)
    let t1 := k + s1 + ch + kw.1 + kw.2
    let s0 := rotr a 28 ^^^ rotr a 34 ^^^ rotr a 39
    let maj := (a &&& b) ^^^ (a &&& c) ^^^ (b &&& c)
    [w64 (t1 + s0 + maj), a, b, c, w64 (d + t1), e, f, g]
  | _ => h

/-- Sixteen words of a 128-byte block, the last first. -/
def blockWords : Nat → List Byte → List Nat → List Nat
  | 0, _, acc => acc
  | n + 1, bs, acc => blockWords n (bs.drop 8) (ofBE (bs.take 8) :: acc)

/-- One block compressed into the state. -/
def compress (h : List Nat) (block : List Byte) : List Nat :=
  let ws := (schedule 64 (blockWords 16 block [])).reverse
  let r := (sha384K.zip ws).foldl round h
  (h.zip r).map (fun p => w64 (p.1 + p.2))

/-- All blocks of a padded message. -/
def blocks : Nat → List Nat → List Byte → List Nat
  | 0, h, _ => h
  | n + 1, h, bs => blocks n (compress h (bs.take 128)) (bs.drop 128)

/-- SHA-384 padding. -/
def pad (bs : List Byte) : List Byte :=
  bs ++ 0x80#8 :: List.replicate ((239 - bs.length % 128) % 128) 0#8 ++ toBeBytes 16 (bs.length * 8)

/-- SHA-384: 48 bytes. -/
def sha384 (bs : List Byte) : List Byte :=
  let p := pad bs
  ((blocks (p.length / 128) sha384Init p).take 6).flatMap (toBeBytes 8)

/-- HMAC-SHA-384. -/
def hmac384 (key msg : List Byte) : List Byte :=
  let k0 := if key.length ≤ 128 then key else sha384 key
  let k := k0 ++ List.replicate (128 - k0.length) 0#8
  sha384 (k.map (· ^^^ 0x5C#8) ++ sha384 (k.map (· ^^^ 0x36#8) ++ msg))

/-! ### AES-256 -/

/-- Multiplication by x in GF(2^8). -/
def xtime (b : Nat) : Nat := if b < 128 then b * 2 else (b * 2 % 256) ^^^ 0x1B

/-- Multiplication in GF(2^8), by the bits of the second factor from bit 7. -/
def gmul (a b : Nat) : Nat :=
  (List.range 8).foldl (fun r i => xtime r ^^^ (if bitOf b (7 - i) then a else 0)) 0

/-- The square in GF(2^8). -/
def gsq (a : Nat) : Nat := gmul a a

/-- The inverse in GF(2^8), 0 for 0: the 254th power. -/
def ginv (a : Nat) : Nat :=
  let p3 := gmul (gsq a) a
  let p15 := gmul (gsq (gsq p3)) p3
  let p63 := gmul (gsq (gsq p15)) p3
  gsq (gmul (gsq p63) a)

/-- A rotation of a byte to the left. -/
def rol8 (b n : Nat) : Nat := b * 2 ^ n % 256 + b / 2 ^ (8 - n)

/-- SubBytes on one byte. -/
def sbox (b : Nat) : Nat :=
  let i := ginv b
  i ^^^ rol8 i 1 ^^^ rol8 i 2 ^^^ rol8 i 3 ^^^ rol8 i 4 ^^^ 0x63

/-- The affine part undone, then the inverse. -/
def invSbox (b : Nat) : Nat := ginv (rol8 b 1 ^^^ rol8 b 3 ^^^ rol8 b 6 ^^^ 0x05)

/-- Key words of 4 bytes, the last first, from the eight of the key on. -/
def expand : Nat → Nat → Nat → List (List Nat) → List (List Nat)
  | 0, _, _, ws => ws
  | n + 1, i, rcon, ws =>
    let t := ws.getD 0 []
    let u :=
      if i % 8 = 0 then
        (match t with
        | [a, b, c, d] => [sbox b ^^^ rcon, sbox c, sbox d, sbox a]
        | _ => t)
      else if i % 8 = 4 then t.map sbox else t
    expand n (i + 1) (if i % 8 = 0 then xtime rcon else rcon) (List.zipWith (· ^^^ ·) u (ws.getD 7 []) :: ws)

/-- A list cut into pieces of four. -/
def fours {α : Type} : Nat → List α → List (List α)
  | 0, _ => []
  | n + 1, l => l.take 4 :: fours n (l.drop 4)

/-- The fifteen round keys of a 32-byte key, 16 bytes each. -/
def roundKeys (key : List Nat) : List (List Nat) :=
  let ws := (expand 52 8 1 (fours 8 key).reverse).reverse
  (fours 15 ws).map (fun l => l.flatten)

/-- The byte of a state at row `r`, column `c`. -/
def at4 (s : List Nat) (r c : Nat) : Nat := s.getD (4 * (c % 4) + r) 0

/-- ShiftRows. -/
def shiftRows (s : List Nat) : List Nat := (List.range 16).map (fun i => at4 s (i % 4) (i / 4 + i % 4))

/-- The inverse of ShiftRows. -/
def invShiftRows (s : List Nat) : List Nat := (List.range 16).map (fun i => at4 s (i % 4) (i / 4 + 4 - i % 4))

/-- A column multiplied by a circulant matrix given by its first row. -/
def mixWith (m : List Nat) (s : List Nat) : List Nat :=
  (List.range 16).map (fun i =>
    (List.range 4).foldl (fun a k => a ^^^ gmul (at4 s k (i / 4)) (m.getD ((k + 4 - i % 4) % 4) 0)) 0)

/-- AddRoundKey. -/
def addKey (s k : List Nat) : List Nat := List.zipWith (· ^^^ ·) s k

/-- One AES block encrypted: 16 bytes under a 32-byte key. -/
def aesEncBytes (key s : List Nat) : List Nat :=
  let ks := roundKeys key
  let s1 := (ks.drop 1).dropLast.foldl (fun t k => addKey (mixWith [2, 3, 1, 1] (shiftRows (t.map sbox))) k) (addKey s (ks.getD 0 []))
  addKey (shiftRows (s1.map sbox)) (ks.getD 14 [])

/-- One AES block decrypted. -/
def aesDecBytes (key s : List Nat) : List Nat :=
  let ks := (roundKeys key).reverse
  let s1 := (ks.drop 1).dropLast.foldl (fun t k => mixWith [14, 11, 13, 9] (addKey ((invShiftRows t).map invSbox) k)) (addKey s (ks.getD 0 []))
  addKey ((invShiftRows s1).map invSbox) (ks.getD 14 [])

/-- A number as `n` bytes, most significant first. -/
def natBytes (n v : Nat) : List Nat := (toBeBytes n v).map (·.toNat)

/-- Bytes, most significant first, as a number. -/
def bytesNat (bs : List Nat) : Nat := bs.foldl (fun a b => a * 256 + b) 0

/-- AES-256 of a 128-bit block under a 256-bit key, the first byte the most significant. -/
def aes (key block : Nat) : Nat := bytesNat (aesEncBytes (natBytes 32 key) (natBytes 16 block))

/-- The inverse of `aes`. -/
def aesInv (key block : Nat) : Nat := bytesNat (aesDecBytes (natBytes 32 key) (natBytes 16 block))

/-! ### GMAC (NIST SP 800-38D) -/

/-- Multiplication in GF(2^128), bit 127 the coefficient of 1. -/
def ghMul (x y : Nat) : Nat :=
  ((List.range 128).foldl (fun (zv : Nat × Nat) i =>
    (if bitOf x (127 - i) then zv.1 ^^^ zv.2 else zv.1,
     if zv.2 % 2 = 1 then (zv.2 / 2) ^^^ (0xE1 * 2 ^ 120) else zv.2 / 2)) (0, y)).1

/-- GHASH of 128-bit blocks under H. -/
def ghash (h : Nat) (bs : List Nat) : Nat := bs.foldl (fun y b => ghMul (y ^^^ b) h) 0

/-- GMAC with an initial counter block of `bits` bits of data, given as 128-bit blocks of which the last ends in zeros: 128 bits. -/
def gmac (key icb bits : Nat) (bs : List Nat) : Nat := ghash (aes key 0) (bs ++ [bits * 2 ^ 64]) ^^^ aes key icb

/-! ### AES key wrap (RFC 3394) -/

/-- The four registers of a wrap of 32 bytes, stepped forward. -/
def wrapSteps (kek : Nat) : Nat → Nat → Nat × List Nat → Nat × List Nat
  | 0, _, st => st
  | n + 1, t, (a, rs) =>
    match rs with
    | r :: rest =>
      let b := aes kek (a * 2 ^ 64 + r)
      wrapSteps kek n (t + 1) ((b / 2 ^ 64) ^^^ t, rest ++ [b % 2 ^ 64])
    | [] => (a, rs)

/-- A 256-bit key wrapped: 40 bytes, the first the most significant. -/
def keyWrap (kek key : Nat) : Nat :=
  let r := wrapSteps kek 24 1 (0xA6A6A6A6A6A6A6A6, [key / 2 ^ 192, key / 2 ^ 128 % 2 ^ 64, key / 2 ^ 64 % 2 ^ 64, key % 2 ^ 64])
  r.2.foldl (fun v w => v * 2 ^ 64 + w) r.1

/-- The registers stepped back. -/
def unwrapSteps (kek : Nat) : Nat → Nat × List Nat → Nat × List Nat
  | 0, st => st
  | n + 1, (a, rs) =>
    match rs.reverse with
    | r :: rest =>
      let b := aesInv kek ((a ^^^ (n + 1)) * 2 ^ 64 + r)
      unwrapSteps kek n (b / 2 ^ 64, b % 2 ^ 64 :: rest.reverse)
    | [] => (a, rs)

/-- A 40-byte value unwrapped; none where it fails to unwrap. -/
def keyUnwrap (kek v : Nat) : Option Nat :=
  let r := unwrapSteps kek 24 (v / 2 ^ 256,
    [v / 2 ^ 192 % 2 ^ 64, v / 2 ^ 128 % 2 ^ 64, v / 2 ^ 64 % 2 ^ 64, v % 2 ^ 64])
  if r.1 = 0xA6A6A6A6A6A6A6A6 then some (r.2.foldl (fun x w => x * 2 ^ 64 + w) 0) else none

/-! ### P-384 and ECDSA -/

/-- The field prime of P-384. -/
def p384 : Nat := 2 ^ 384 - 2 ^ 128 - 2 ^ 96 + 2 ^ 32 - 1
/-- The order of the base point. -/
def n384 : Nat := 0xffffffffffffffffffffffffffffffffffffffffffffffffc7634d81f4372ddf581a0db248b0a77aecec196accc52973
/-- The coefficient b of the curve. -/
def b384 : Nat := 0xb3312fa7e23ee7e4988e056be3f82d19181d9c6efe8141120314088f5013875ac656398d8a2ed19d2a85c8edd3ec2aef
/-- The base point. -/
def g384 : Nat × Nat :=
  (0xaa87ca22be8b05378eb1c71ef320ad746e1d3b628ba79b9859f741e082542a385502f25dbf55296c3a545e3872760ab7,
   0x3617de4a96262c6f5d9e98bf9292dc29f8f41dbd289a147ce9da3113b5f0b8c00a60b1ce1d7e819d7a431d7c90ea0e5f)

/-- A power modulo `m`, by the bits of the exponent. -/
def powMod (m : Nat) : Nat → Nat → Nat → Nat
  | 0, _, _ => 1 % m
  | n + 1, a, e =>
    let r := powMod m n (a * a % m) (e / 2)
    if e % 2 = 1 then r * a % m else r

/-- The inverse modulo a prime of 384 bits. -/
def invMod (m a : Nat) : Nat := powMod m 384 (a % m) (m - 2)

/-- A point of the curve; none is the point at infinity. -/
abbrev Point := Option (Nat × Nat)

/-- The sum of two points. -/
def pointAdd (a b : Point) : Point :=
  match a, b with
  | none, q => q
  | q, none => q
  | some (x1, y1), some (x2, y2) =>
    if x1 = x2 ∧ (y1 + y2) % p384 = 0 then none
    else
      let l :=
        if x1 = x2 then (3 * x1 * x1 + p384 - 3) * invMod p384 (2 * y1) % p384
        else (y2 + p384 - y1) * invMod p384 (x2 + p384 - x1) % p384
      let x3 := (l * l + 2 * p384 - x1 - x2) % p384
      some (x3, (l * (x1 + p384 - x3) + p384 - y1) % p384)

/-- A multiple of a point, by the bits of the number. -/
def pointMul : Nat → Nat → Point → Point
  | 0, _, _ => none
  | n + 1, k, q =>
    let r := pointMul n (k / 2) (pointAdd q q)
    if k % 2 = 1 then pointAdd r q else r

/-- Whether a point lies on the curve. -/
def onCurve (x y : Nat) : Bool :=
  decide (x < p384) && decide (y < p384) && (y * y % p384 == (x * x * x + (p384 - 3) * x + b384) % p384)

/-- ECDSA verification of a 384-bit hash under a public key. -/
def ecdsaVerify (x y hash r s : Nat) : Bool :=
  if r = 0 ∨ n384 ≤ r ∨ s = 0 ∨ n384 ≤ s ∨ !onCurve x y then false
  else
    let w := invMod n384 s
    match pointAdd (pointMul 384 (hash * w % n384) (some g384)) (pointMul 384 (r * w % n384) (some (x, y))) with
    | some (px, _) => px % n384 == r
    | none => false

/-- An ECDSA signature of a hash by a private key with a nonce. -/
def ecdsaSign (d k hash : Nat) : Nat × Nat :=
  match pointMul 384 (k % n384) (some g384) with
  | some (px, _) =>
    let r := px % n384
    (r, invMod n384 k * (hash + r * d) % n384)
  | none => (0, 0)

/-- A public key of a private key. -/
def publicKey (d : Nat) : Nat × Nat := (pointMul 384 (d % n384) (some g384)).getD (0, 0)

/-- The shared secret of ECDH: the x coordinate, 48 bytes. -/
def ecdh (d x y : Nat) : List Byte := toBeBytes 48 (((pointMul 384 (d % n384) (some (x, y))).map (·.1)).getD 0)

end Sys2Proof.Crypto
end

