-- ==== Sys2Proof/Machine/Checks.lean ====
section
/-! DEFINITION. The cyclic redundancy checks of the spec: CRC-8 of a memory line (R103), CRC-32C of frames and blocks (R258, R293),
and the shift-register steps they share. -/

namespace Sys2Proof.Machine

open Sys2Proof

/-- One bit into a CRC register of `w` bits, most significant bit first. -/
def crcStep (w poly crc : Nat) (b : Bool) : Nat :=
  let top := bitOf crc (w - 1)
  let sh := crc * 2 % 2 ^ w
  if top != b then sh ^^^ poly else sh

/-- A CRC over bits in the order they are fed. -/
def crcBits (w poly init : Nat) (bits : List Bool) : Nat := bits.foldl (crcStep w poly) init

/-- Bits `n - 1` down to 0 of a number. -/
def bitsDown : Nat → Nat → List Bool
  | 0, _ => []
  | n + 1, v => bitOf v n :: bitsDown n v

/-- The check of a block-memory line: generator 0x2F, initial value 0xFF, bit 63 first, no final inversion (R103). -/
def crc8 (data : Nat) : Nat := crcBits 8 0x2F 0xFF (bitsDown 64 data)

/-- One byte into a reflected CRC-32C register. -/
def crc32cByte (crc : Nat) (b : Byte) : Nat :=
  (List.range 8).foldl (fun c _ => if c % 2 = 1 then (c / 2) ^^^ 0x82F63B78 else c / 2) (crc ^^^ b.toNat)

/-- CRC-32C of bytes: reflected, initial value and final inversion all ones (R258). -/
def crc32c (bs : List Byte) : Nat := (bs.foldl crc32cByte 0xFFFFFFFF) ^^^ 0xFFFFFFFF

/-- CRC-32C of a number's low `n` bytes, least significant byte first. -/
def crc32cOf (n v : Nat) : Nat := crc32c (toLeBytes n v)

end Sys2Proof.Machine
end

