-- ==== Sys2Proof/Config.lean ====
section
/-! DEFINITION. What one device fixes and the values the spec leaves open: opaque constants without a body. -/

namespace Sys2Proof.Config

/-- A fresh free value: the step applies it to `State.free`, which counts the free values drawn (log entry 3). -/
opaque freeWord : Nat → BitVec 64

/-- The speed grade of the device less one (R2, R3): a grade is 1, 2 or 3. -/
opaque gradeCode : Fin 3

/-- The speed grade of the device (R2). -/
def grade : Nat := gradeCode.val + 1

/-- The AVS voltage fused for a point of a group, in mV (R415, CLK_AVS). -/
opaque avsMillivolt : Nat → Nat → BitVec 10

/-- Fixed device identity bytes the spec names and gives no value: the UID (0) and the endorsement certificate (1) (R492, R499). -/
opaque identityByte : Nat → Nat → Byte

/-- What a window read of a plate SRAM partition shows where the spec names no layout: a function of what its owner holds, and of the window
offset (R35, log entry 6). -/
opaque partitionByte {α : Type} : α → Nat → Byte

/-- What a DRAM line holds after its channel's contents were lost, by loss and line (R362, R453, log entry 9). -/
opaque lostLine : Nat → Nat → Line

/-- The initial counter block of a node's MAC, by level, position and counter in its parent: the rule names what it is formed from, and not how
(R324, log entry 143). -/
opaque nodeIv : Nat → Nat → Nat → BitVec 128

/-- The tree key that an engine drew at the power-on reset State.reset stands for (R324). -/
opaque firstTreeKey : Nat → BitVec 256

/-- The device key-encryption key of the fuse key store (R338, R489). -/
opaque deviceKek : BitVec 256

/-- The secret that the attestation key pair is derived from (R491). -/
opaque attestSecret : BitVec 384

/-- The length of the endorsement certificate, up to 2,048 bytes (R492). -/
opaque certLength : Fin 2049

/-- Treard's JEP106 code, which the BSDL file gives (R569). -/
opaque jep106 : BitVec 11

/-- Max Read Request Size of a function, VFs from 8 on, as its host configures it: 128 bytes times a power of two up to 4,096 (R386, log 164). -/
opaque maxReadCode : Nat → Nat → Fin 6

/-- Max Payload Size of a controller, as its host configures it: 128 bytes times a power of two up to 512 (R386, log 164). -/
opaque maxPayloadCode : Nat → Fin 3

/-- The boundary-register cell of a pin, service and always-on pins 0-191 and user pins from 192 on: 0 its output, 1 its enable; the order
is the BSDL file's (R569). -/
opaque boundaryCell : Nat → Nat → Nat

end Sys2Proof.Config
end

