-- ==== Sys2Proof/Machine/Map.lean ====
section
/-! DEFINITION. Sparse tables: the plain-data form of every indexed store of the machine (CSRs, memories, frames). -/

namespace Sys2Proof.Machine

/-- A sparse table: entries with keys strictly rising, none equal to what an unlisted key reads as. -/
abbrev SMap (α : Type) := List (Nat × α)

/-- The entry listed for a key. -/
def SMap.find {α : Type} (m : SMap α) (k : Nat) : Option α :=
  match m with
  | [] => none
  | (j, v) :: r => if j = k then some v else SMap.find r k

/-- The value at a key, `d` where none is listed. -/
def SMap.get {α : Type} (d : α) (m : SMap α) (k : Nat) : α := (SMap.find m k).getD d

/-- The table without a key. -/
def SMap.erase {α : Type} (m : SMap α) (k : Nat) : SMap α :=
  match m with
  | [] => []
  | (j, v) :: r => if j = k then SMap.erase r k else (j, v) :: SMap.erase r k

/-- A pair put before the first greater key. -/
def SMap.insert {α : Type} (m : SMap α) (k : Nat) (v : α) : SMap α :=
  match m with
  | [] => [(k, v)]
  | (j, w) :: r => if k < j then (k, v) :: (j, w) :: r else (j, w) :: SMap.insert r k v

/-- The table with `v` at `k`, whatever unlisted keys read as. -/
def SMap.put {α : Type} (m : SMap α) (k : Nat) (v : α) : SMap α := SMap.insert (SMap.erase m k) k v

/-- The table with `v` at `k`, in canonical form: the entry is removed where `v` is the default `d`. -/
def SMap.store {α : Type} [DecidableEq α] (d : α) (m : SMap α) (k : Nat) (v : α) : SMap α :=
  if v = d then SMap.erase m k else SMap.put m k v

/-- The value at a key changed by a function. -/
def SMap.modify {α : Type} [DecidableEq α] (d : α) (m : SMap α) (k : Nat) (f : α → α) : SMap α :=
  SMap.store d m k (f (SMap.get d m k))

/-- Every entry whose key meets the test removed. -/
def SMap.drop {α : Type} (m : SMap α) (p : Nat → Bool) : SMap α := m.filter (fun e => !p e.1)

/-- Keys strictly rising above `lo`, no entry equal to the default. -/
def SMap.wfFrom {α : Type} [DecidableEq α] (d : α) (lo : Nat) (m : SMap α) : Bool :=
  match m with
  | [] => true
  | (k, v) :: r => decide (lo ≤ k) && decide (v ≠ d) && SMap.wfFrom d (k + 1) r

/-- The canonical form of a sparse table. -/
def SMap.wf {α : Type} [DecidableEq α] (d : α) (m : SMap α) : Bool := SMap.wfFrom d 0 m

/-- Keys strictly rising. -/
def SMap.Rising {α : Type} (m : SMap α) : Prop := (m.map (·.1)).Pairwise (· < ·)

/-- The canonical form where the default depends on the key: keys strictly rising, no entry equal to what its key reads as unlisted. -/
def SMap.Canon {α : Type} (d : Nat → α) (m : SMap α) : Prop := m.Rising ∧ ∀ e ∈ m, e.2 ≠ d e.1

/-- A set of numbers, as a rising list. -/
abbrev NSet := List Nat

/-- A number put into a set. -/
def NSet.add (s : NSet) (k : Nat) : NSet :=
  match s with
  | [] => [k]
  | j :: r => if k < j then k :: j :: r else if k = j then j :: r else j :: NSet.add r k

/-- A number taken out of a set. -/
def NSet.del (s : NSet) (k : Nat) : NSet := s.filter (fun j => j ≠ k)

end Sys2Proof.Machine
end

