-- ==== Sys2Proof/Machine/Geometry.lean ====
section
/-! DEFINITION. Capacities, coordinates, unit numbers and the device address map (R1, R19-R34, R66, R67). -/

namespace Sys2Proof.Machine

/-- Logic dies of the device (R1). -/
def nDies : Nat := 8
/-- Regions of the device (R1). -/
def nRegions : Nat := 128
/-- Clusters of a region: 192 columns by 128 rows (R27, R28). -/
def regionCols : Nat := 192
/-- Rows of a region. -/
def regionRows : Nat := 128
/-- Cells of the device (R1). -/
def nCells : Nat := 128 * 24576 * 16
/-- Block memories of the device (R1). -/
def nMems : Nat := 16384
/-- Tap engines of the device (R1). -/
def nEngines : Nat := 8192
/-- Hardware queues of the device (R1). -/
def nQueues : Nat := 65536
/-- Frames of a region (R62). -/
def regionFrames : Nat := 22528

/-- Device coordinates of a cluster (R27). -/
def deviceX (d x : Nat) : Nat := d % 4 * 768 + x
/-- Device coordinates of a cluster (R27). -/
def deviceY (d y : Nat) : Nat := d / 4 * 512 + y
/-- The region of a cluster within its die (R28). -/
def regionOf (x y : Nat) : Nat := 4 * (y / 128) + x / 192
/-- The device region number (R28). -/
def devRegion (d r : Nat) : Nat := d * 16 + r
/-- The die of a device region. -/
def dieOfRegion (n : Nat) : Nat := n / 16
/-- Die-local column of the west edge of a device region. -/
def regionX0 (n : Nat) : Nat := 192 * (n % 16 % 4)
/-- Die-local row of the south edge of a device region. -/
def regionY0 (n : Nat) : Nat := 128 * (n % 16 / 4)
/-- The bridge site of a cluster, die-local (R29). -/
def siteOf (x y : Nat) : Nat := y / 8 * 384 + x / 2
/-- The tap index of a cluster within its site (R57). -/
def tapOf (x y : Nat) : Nat := 2 * (y % 8) + x % 2
/-- Sites of a die (R29). -/
def dieSites : Nat := 24576
/-- The device region of a die-local bridge site (R28, R29). -/
def regionOfSite (d site : Nat) : Nat := devRegion d (4 * (site / 384 * 8 / 128) + site % 384 * 2 / 192)
/-- Die-local memory index (R30). -/
def memIndex (r k : Nat) : Nat := r * 128 + k
/-- Die-local engine index (R30). -/
def engineIndex (r e : Nat) : Nat := r * 64 + e
/-- Mesh coordinates of a router (R32). -/
def meshX (n : Nat) : Nat := n / 16 % 4 * 4 + n % 16 % 4
/-- Mesh coordinates of a router (R32). -/
def meshY (n : Nat) : Nat := n / 64 * 4 + n % 16 / 4
/-- The router at a mesh position. -/
def routerAt (mx my : Nat) : Nat := (my / 4 * 4 + mx / 4) * 16 + my % 4 * 4 + mx % 4

/-- Nodes of DRAM controllers 0-7 (R33). -/
def ddrNode (c : Nat) : Nat := [0, 8, 64, 72, 51, 59, 115, 123].getD c 0
/-- Nodes of link ports 0-15 (R33). -/
def linkNode (p : Nat) : Nat := [0, 2, 16, 18, 32, 34, 48, 50, 76, 78, 92, 94, 108, 110, 124, 126].getD p 0
/-- Nodes of core clusters 0-3 (R33). -/
def coreNode (c : Nat) : Nat := [29, 46, 81, 98].getD c 0
/-- Nodes of dispatcher slices 0-7 (R33). -/
def sliceNode (s : Nat) : Nat := [9, 25, 41, 57, 69, 85, 101, 117].getD s 0
/-- Nodes of PCIe controllers 0-1 (R33). -/
def pcieNode (c : Nat) : Nat := [19, 108].getD c 0
/-- Nodes of lane dies LN0-LN3 (R33). -/
def laneNode (k : Nat) : Nat := [0, 32, 76, 108].getD k 0

/-- The units of R24. -/
def unitAssigned (u : Nat) : Bool :=
  decide (u ≤ 6) || (decide (8 ≤ u) && decide (u ≤ 0x26)) || (decide (0x28 ≤ u) && decide (u ≤ 0x29)) ||
  (decide (0x30 ≤ u) && decide (u ≤ 0x43)) || (decide (0x48 ≤ u) && decide (u ≤ 0x4A)) ||
  (decide (0x50 ≤ u) && decide (u ≤ 0x57)) || (decide (0x60 ≤ u) && decide (u ≤ 0xDF))

/-- Unit numbers (R24). -/
def uMgt : Nat := 0
/-- Clock and power. -/
def uClk : Nat := 1
/-- Error collector. -/
def uErr : Nat := 2
/-- Budget controller. -/
def uBud : Nat := 3
/-- Burin. -/
def uCfg : Nat := 4
/-- Scrubber. -/
def uScb : Nat := 5
/-- Census. -/
def uCns : Nat := 6
/-- DRAM controller `c`. -/
def uDdr (c : Nat) : Nat := 8 + c
/-- Protection engine `e`. -/
def uIpe (e : Nat) : Nat := 0x10 + e
/-- Dispatcher slice `s`. -/
def uDsp (s : Nat) : Nat := 0x18 + s
/-- Core cluster `c`. -/
def uCore (c : Nat) : Nat := 0x20 + c
/-- Event distributor. -/
def uEvt : Nat := 0x24
/-- Debug. -/
def uDbg : Nat := 0x25
/-- Probe multiplexers. -/
def uPrb : Nat := 0x26
/-- PCIe controller `c`. -/
def uPci (c : Nat) : Nat := 0x28 + c
/-- Link port `p`. -/
def uLnk (p : Nat) : Nat := 0x30 + p
/-- Lane die `k`. -/
def uLane (k : Nat) : Nat := 0x40 + k
/-- Service pin control. -/
def uPin : Nat := 0x48
/-- Always-on pins. -/
def uAo : Nat := 0x49
/-- CAN FD controllers. -/
def uCan : Nat := 0x4A
/-- Logic-die controller `d`. -/
def uDie (d : Nat) : Nat := 0x50 + d
/-- Router `n`. -/
def uNoc (n : Nat) : Nat := 0x60 + n

/-- Whether the management core reaches a unit over its private path (R38). -/
def privateUnit (u : Nat) : Bool := decide (u < 4) || u == uAo || u == uCan

/-- The attachment, node and port, to which a request for a unit's CSR space goes (R33). -/
def attachment (u : Nat) : Nat × Nat :=
  if u < 4 then (96, 6)
  else if u < 7 then (31, u + 2)
  else if u < 0x10 then (ddrNode (u - 8), 1)
  else if u < 0x18 then (ddrNode (u - 0x10), 1)
  else if u < 0x20 then (sliceNode (u - 0x18), 5)
  else if u < 0x24 then (coreNode (u - 0x20), 4)
  else if u = 0x24 then (96, 7)
  else if u < 0x27 then (96, 8)
  else if u < 0x2A then (pcieNode (u - 0x28), 2)
  else if u < 0x40 then (linkNode (u - 0x30), 3)
  else if u < 0x44 then (laneNode (u - 0x40), 14)
  else if u = 0x48 then (96, 9)
  else if u < 0x4B then (96, 6)
  else if u < 0x58 then ((u - 0x50) * 16 + 5, 15)
  else (u - 0x60, 12)

/-- Whether a router port has an attachment (R33); port 12 is the router's own CSR port. -/
def portOccupied (node port : Nat) : Bool :=
  if port = 0 then true
  else if port = 12 then true
  else if port = 1 then (List.range 8).any (fun c => ddrNode c == node)
  else if port = 2 then node == 19 || node == 108
  else if port = 3 then (List.range 16).any (fun c => linkNode c == node)
  else if port = 4 then (List.range 4).any (fun c => coreNode c == node)
  else if port = 5 then (List.range 8).any (fun c => sliceNode c == node)
  else if port = 6 then node == 31 || node == 96
  else if port = 7 then node == 31 || node == 96
  else if port = 8 then node == 31 || node == 96
  else if port = 9 then node == 96
  else if port = 14 then (List.range 4).any (fun c => laneNode c == node)
  else if port = 15 then node % 16 == 5
  else false

/-- The ranges of R22. -/
inductive Region48 where
  | dram | fabric (port off : Nat) | sram (off : Nat) | csr (unit off : Nat) | pcie (ctl off : Nat) | none
deriving DecidableEq, Repr

/-- The range a 48-bit address lies in (R22, R23). -/
def mapAddr (a : Nat) : Region48 :=
  if a < 0x040000000000 then .dram
  else if 0x080000000000 ≤ a && a < 0x088000000000 then
    .fabric ((a - 0x080000000000) / 0x100000000) ((a - 0x080000000000) % 0x100000000)
  else if 0x0C0000000000 ≤ a && a < 0x0C0006000000 then .sram (a - 0x0C0000000000)
  else if 0x0E0000000000 ≤ a && a < 0x0E0100000000 then
    .csr ((a - 0x0E0000000000) / 0x1000000) ((a - 0x0E0000000000) % 0x1000000)
  else if 0x0F0000000000 ≤ a && a < 0x0F8000000000 then .pcie 0 (a - 0x0F0000000000)
  else if 0x0F8000000000 ≤ a && a < 0x100000000000 then .pcie 1 (a - 0x0F8000000000)
  else .none

/-- The key identifier of a 56-bit device address (R19). -/
def kidOf (a : Nat) : Nat := a / 2 ^ 48 % 256

/-- The protection classes of R20. -/
inductive KidClass where
  | clear | full | light | invalid
deriving DecidableEq, Repr

/-- The class of a KID (R20). -/
def kidClass (k : Nat) : KidClass :=
  if k = 0 then .clear else if k ≤ 191 then .full else if k ≤ 254 then .light else .invalid

/-- The initiator classes of R17. -/
def iclsCore : Nat := 0
/-- Fabric. -/
def iclsFabric : Nat := 1
/-- DMA and PCIe. -/
def iclsPcie : Nat := 2
/-- Debug. -/
def iclsDebug : Nat := 3
/-- Management. -/
def iclsMgmt : Nat := 4
/-- Burin. -/
def iclsBurin : Nat := 5
/-- Dispatcher. -/
def iclsDsp : Nat := 6
/-- Link-forwarded. -/
def iclsLink : Nat := 7

/-- The partitions of the plate SRAM window (R34). -/
inductive Partition where
  | matching | l2 | lineBuffer | frameCheck | counterCache | general
deriving DecidableEq, Repr

/-- The partition of a window offset (R34). -/
def partitionOf (o : Nat) : Partition :=
  if o < 0x2000000 then .matching else if o < 0x3000000 then .l2 else if o < 0x4000000 then .lineBuffer
  else if o < 0x4B00000 then .frameCheck else if o < 0x5300000 then .counterCache else .general

/-- The owning unit of a window offset (R34, R36). -/
def partitionOwner (o : Nat) : Nat :=
  match partitionOf o with
  | .matching => uDsp (o / 0x400000)
  | .l2 => uCore ((o - 0x2000000) / 0x400000)
  | .lineBuffer => uDdr ((o - 0x3000000) / 0x200000)
  | .frameCheck => uScb
  | .counterCache => uIpe ((o - 0x4B00000) / 0x100000)
  | .general => uMgt

/-- Span channels of the device (R67). -/
def nChannels : Nat := 131072
/-- The home region of a channel (R67). -/
def channelHome (c : Nat) : Nat := c / 1024
/-- The home die of a channel (R67). -/
def channelDie (c : Nat) : Nat := c / 16384

end Sys2Proof.Machine
end

