-- ==== Sys2Proof/Machine/CsrTable.lean ====
section
/-! DEFINITION. The register tables of the spec: every CSR with its unit kind, offset, fields, access codes and reset
values, and a named field for each (R6, R10, R11, R90-R93, R125-R129, R161, R162, R190, R191, R217, R218, R243-R245,
R277-R279, R309-R311, R342-R344, R366, R384, R385, R396, R417-R420, R430, R457, R477, R484, R490, R497, R530-R533, R551-R553). -/

namespace Sys2Proof.Machine

/-- The access codes of R6. -/
inductive Acc where
  | ro | rw | wo | w1c | rsx
deriving DecidableEq, Repr

/-- A field of a register: bits, access, reset value, and the ranges of its defined encodings (empty: every one). -/
structure FieldD where
  hi : Nat
  lo : Nat
  acc : Acc
  rst : Nat
  ok : List (Nat × Nat)
deriving DecidableEq, Repr

/-- A register of a unit kind, repeated `n1` times at stride `s1` and, within, `n2` times at stride `s2`. -/
structure RegD where
  off : Nat
  n1 : Nat
  s1 : Nat
  n2 : Nat
  s2 : Nat
  fields : List FieldD
deriving DecidableEq, Repr

/-- A named field: where it lies in its unit's CSR space, with the strides of its repetitions. -/
structure Fld where
  off : Nat
  s1 : Nat
  s2 : Nat
  hi : Nat
  lo : Nat
deriving DecidableEq, Repr

/-- The kinds of unit that have registers (R24). -/
inductive UnitKind where
  | mgt | clk | err | bud | cfg | scb | cns | ddr | ipe | dsp | evt | dbg | prb | pci | lnk | lane | pin | ao | can | die | noc | core | none
deriving DecidableEq, Repr

/-- The kind of a unit number (R24). -/
def unitKind (u : Nat) : UnitKind :=
  if u = 0 then .mgt else if u = 1 then .clk else if u = 2 then .err else if u = 3 then .bud
  else if u = 4 then .cfg else if u = 5 then .scb else if u = 6 then .cns else if u = 7 then .none
  else if u < 0x10 then .ddr else if u < 0x18 then .ipe else if u < 0x20 then .dsp else if u < 0x24 then .core
  else if u = 0x24 then .evt else if u = 0x25 then .dbg else if u = 0x26 then .prb else if u = 0x27 then .none
  else if u < 0x2A then .pci else if u < 0x30 then .none else if u < 0x40 then .lnk else if u < 0x44 then .lane
  else if u < 0x48 then .none else if u = 0x48 then .pin else if u = 0x49 then .ao else if u = 0x4A then .can
  else if u < 0x50 then .none else if u < 0x58 then .die else if u < 0x60 then .none else if u < 0xE0 then .noc
  else .none

/-- Registers of unit kind `mgt` (R457, R484, R490, R530). -/
def regsMgt : List RegD :=
  [
    ⟨0x10000, 1, 4, 1, 4, [⟨7, 7, .ro, 0, []⟩, ⟨6, 4, .ro, 0, []⟩, ⟨2, 0, .ro, 1, []⟩]⟩,
    ⟨0x10004, 1, 4, 1, 4, [⟨31, 28, .wo, 0, []⟩]⟩,
    ⟨0x10008, 1, 4, 1, 4, [⟨31, 28, .ro, 0, []⟩, ⟨2, 2, .ro, 0, []⟩, ⟨1, 1, .w1c, 0, []⟩, ⟨0, 0, .w1c, 0, []⟩]⟩,
    ⟨0x1000c, 1, 4, 1, 4, [⟨8, 8, .w1c, 0, []⟩, ⟨7, 7, .w1c, 0, []⟩, ⟨6, 6, .w1c, 0, []⟩, ⟨5, 5, .w1c, 0, []⟩, ⟨4, 4, .w1c, 0, []⟩, ⟨3, 3, .w1c, 0, []⟩, ⟨2, 2, .w1c, 0, []⟩, ⟨1, 1, .w1c, 0, []⟩, ⟨0, 0, .w1c, 1, []⟩]⟩,
    ⟨0x10010, 1, 4, 1, 4, [⟨31, 24, .wo, 0, []⟩, ⟨1, 0, .wo, 0, []⟩]⟩,
    ⟨0x10014, 1, 4, 1, 4, [⟨14, 8, .ro, 0, []⟩, ⟨5, 4, .ro, 0, []⟩, ⟨2, 0, .ro, 0, []⟩]⟩,
    ⟨0x10018, 1, 4, 1, 4, [⟨31, 28, .ro, 0, []⟩, ⟨7, 7, .rw, 1, []⟩, ⟨3, 3, .ro, 0, []⟩, ⟨2, 2, .ro, 0, []⟩, ⟨1, 1, .ro, 0, []⟩, ⟨0, 0, .ro, 0, []⟩]⟩,
    ⟨0x1001c, 1, 4, 1, 4, [⟨12, 8, .ro, 0, []⟩, ⟨6, 0, .ro, 0, []⟩]⟩,
    ⟨0x10020, 1, 4, 1, 4, [⟨31, 0, .ro, 0, []⟩]⟩,
    ⟨0x10024, 1, 4, 1, 4, [⟨31, 0, .ro, 0, []⟩]⟩,
    ⟨0x10028, 1, 4, 1, 4, [⟨7, 0, .rw, 130, [(100, 140)]⟩]⟩,
    ⟨0x1002c, 1, 4, 1, 4, [⟨23, 0, .ro, 0, []⟩]⟩,
    ⟨0x10030, 1, 4, 1, 4, [⟨4, 0, .rw, 3, []⟩]⟩,
    ⟨0x10034, 1, 4, 1, 4, [⟨31, 0, .rw, 0, []⟩]⟩,
    ⟨0x10038, 1, 4, 1, 4, [⟨4, 0, .w1c, 0, []⟩]⟩,
    ⟨0x1003c, 1, 4, 1, 4, [⟨8, 6, .rw, 7, []⟩, ⟨5, 3, .rw, 7, []⟩, ⟨2, 0, .rw, 7, []⟩]⟩,
    ⟨0x10040, 5, 4, 1, 4, [⟨31, 0, .rw, 0, []⟩]⟩,
    ⟨0x10060, 4, 4, 1, 4, [⟨31, 0, .rw, 0, []⟩]⟩,
    ⟨0x20000, 1, 4, 1, 4, [⟨31, 31, .ro, 0, []⟩, ⟨30, 30, .ro, 0, []⟩, ⟨29, 24, .ro, 0, []⟩, ⟨23, 23, .ro, 0, []⟩, ⟨22, 22, .ro, 0, []⟩, ⟨6, 0, .ro, 0, []⟩]⟩,
    ⟨0x20020, 12, 4, 1, 4, [⟨31, 0, .wo, 0, []⟩]⟩
  ]
  ++ [
    ⟨0x20010, 1, 4, 1, 4, [⟨31, 31, .ro, 0, []⟩, ⟨30, 30, .w1c, 0, []⟩, ⟨2, 0, .wo, 0, []⟩]⟩,
    ⟨0x30000, 1, 4, 1, 4, [⟨31, 0, .rw, 0, []⟩]⟩,
    ⟨0x30004, 1, 4, 1, 4, [⟨31, 0, .rw, 0, []⟩]⟩,
    ⟨0x30008, 1, 4, 1, 4, [⟨31, 0, .rw, 0, []⟩]⟩,
    ⟨0x30010, 1, 4, 1, 4, [⟨31, 31, .rw, 0, []⟩, ⟨0, 0, .rw, 1, []⟩]⟩,
    ⟨0x30014, 1, 4, 1, 4, [⟨31, 0, .rw, 65536, [(1, 4294967295)]⟩]⟩,
    ⟨0x30018, 1, 4, 1, 4, [⟨7, 0, .wo, 0, []⟩]⟩,
    ⟨0x3001c, 1, 4, 1, 4, [⟨31, 0, .ro, 65536, []⟩]⟩
  ]

/-- Registers of unit kind `clk` (R417, R418, R419, R420). -/
def regsClk : List RegD :=
  [
    ⟨0x0, 1, 4, 1, 4, [⟨23, 20, .rw, 0, []⟩, ⟨19, 16, .rw, 8, [(1, 15)]⟩, ⟨11, 10, .rw, 1, []⟩, ⟨2, 2, .rw, 1, []⟩, ⟨1, 1, .rw, 0, []⟩, ⟨0, 0, .rw, 1, []⟩]⟩,
    ⟨0x4, 1, 4, 1, 4, [⟨31, 28, .ro, 0, []⟩, ⟨27, 26, .ro, 0, []⟩, ⟨7, 7, .w1c, 0, []⟩, ⟨6, 6, .w1c, 0, []⟩, ⟨5, 5, .w1c, 0, []⟩, ⟨4, 4, .ro, 0, []⟩, ⟨3, 3, .ro, 1, []⟩, ⟨2, 2, .ro, 0, []⟩, ⟨1, 0, .ro, 0, []⟩]⟩,
    ⟨0x8, 1, 4, 1, 4, [⟨31, 16, .ro, 0, []⟩, ⟨13, 0, .rw, 0, []⟩]⟩,
    ⟨0xc, 1, 4, 1, 4, [⟨31, 16, .ro, 0, []⟩, ⟨15, 0, .ro, 0, []⟩]⟩,
    ⟨0x10, 1, 4, 1, 4, [⟨7, 0, .rw, 40, [(20, 255)]⟩]⟩,
    ⟨0x14, 1, 4, 1, 4, [⟨31, 0, .rw, 32768, []⟩]⟩,
    ⟨0x18, 1, 4, 1, 4, [⟨31, 31, .w1c, 0, []⟩, ⟨7, 0, .ro, 0, []⟩]⟩,
    ⟨0x1c, 1, 4, 1, 4, [⟨31, 0, .ro, 0, []⟩]⟩,
    ⟨0x20, 1, 4, 1, 4, [⟨15, 0, .rw, 100, []⟩]⟩,
    ⟨0x40, 3, 16, 1, 4, [⟨22, 16, .rw, 64, []⟩, ⟨15, 8, .rw, 50, [(1, 255)]⟩, ⟨2, 0, .rw, 0, []⟩]⟩,
    ⟨0x44, 3, 16, 1, 4, [⟨31, 31, .ro, 0, []⟩, ⟨30, 30, .w1c, 0, []⟩, ⟨29, 29, .w1c, 0, []⟩, ⟨28, 28, .ro, 0, []⟩, ⟨2, 0, .ro, 0, []⟩]⟩,
    ⟨0x600, 3, 32, 8, 4, [⟨9, 0, .ro, 0, []⟩]⟩,
    ⟨0x100, 64, 16, 1, 4, [⟨31, 31, .rw, 0, []⟩, ⟨30, 30, .ro, 0, []⟩, ⟨29, 27, .rw, 0, []⟩, ⟨26, 16, .rw, 0, []⟩, ⟨15, 0, .rw, 0, []⟩]⟩,
    ⟨0x104, 64, 16, 1, 4, [⟨31, 31, .ro, 0, []⟩, ⟨21, 16, .rw, 2, [(2, 63)]⟩, ⟨5, 0, .rw, 2, [(2, 63)]⟩]⟩,
    ⟨0x800, 160, 4, 1, 4, [⟨23, 21, .ro, 2, []⟩, ⟨17, 17, .w1c, 0, []⟩, ⟨16, 16, .rw, 1, []⟩, ⟨1, 0, .rw, 1, [(0, 2)]⟩]⟩,
    ⟨0xc00, 128, 4, 1, 4, [⟨8, 8, .w1c, 0, []⟩, ⟨7, 0, .ro, 0, []⟩]⟩
  ]

/-- Registers of unit kind `err` (R497). -/
def regsErr : List RegD :=
  [
    ⟨0x0, 1, 4, 1, 4, [⟨31, 31, .rw, 0, []⟩, ⟨30, 27, .rw, 0, []⟩]⟩,
    ⟨0x4, 1, 4, 1, 4, [⟨19, 0, .rw, 1000, [(0, 1000000)]⟩]⟩,
    ⟨0x8, 1, 4, 1, 4, [⟨23, 16, .rw, 0, []⟩, ⟨15, 0, .rw, 0, []⟩]⟩,
    ⟨0xc, 1, 4, 1, 4, [⟨2, 2, .w1c, 0, []⟩, ⟨1, 1, .ro, 0, []⟩, ⟨0, 0, .ro, 0, []⟩]⟩,
    ⟨0x10, 1, 4, 1, 4, [⟨6, 0, .ro, 0, []⟩]⟩,
    ⟨0x14, 1, 4, 1, 4, [⟨9, 0, .ro, 0, []⟩]⟩,
    ⟨0x18, 1, 4, 1, 4, [⟨31, 0, .ro, 0, []⟩]⟩,
    ⟨0x1c, 1, 4, 1, 4, [⟨31, 0, .ro, 0, []⟩]⟩,
    ⟨0x20, 1, 4, 1, 4, [⟨31, 0, .ro, 0, []⟩]⟩,
    ⟨0x40, 8, 4, 1, 4, [⟨31, 0, .ro, 0, []⟩]⟩,
    ⟨0x60, 1, 4, 1, 4, [⟨0, 0, .wo, 0, []⟩]⟩
  ]

/-- Registers of unit kind `bud` (R430). -/
def regsBud : List RegD :=
  [
    ⟨0x0, 1, 4, 1, 4, [⟨15, 0, .rw, 4096, [(1000, 64000)]⟩]⟩,
    ⟨0x4, 1, 4, 1, 4, [⟨9, 0, .w1c, 0, []⟩]⟩,
    ⟨0x8, 1, 4, 1, 4, [⟨31, 0, .ro, 0, []⟩]⟩,
    ⟨0xc, 1, 4, 1, 4, [⟨7, 0, .rw, 64, [(1, 255)]⟩]⟩,
    ⟨0x100, 10, 32, 1, 4, [⟨31, 0, .rw, 0, []⟩]⟩,
    ⟨0x104, 10, 32, 1, 4, [⟨31, 0, .rw, 0, []⟩]⟩,
    ⟨0x108, 10, 32, 1, 4, [⟨2, 0, .rw, 0, []⟩]⟩,
    ⟨0x10c, 10, 32, 1, 4, [⟨31, 0, .ro, 0, []⟩]⟩,
    ⟨0x110, 10, 32, 1, 4, [⟨31, 0, .ro, 0, []⟩]⟩,
    ⟨0x114, 10, 32, 1, 4, [⟨31, 0, .ro, 0, []⟩]⟩
  ]

/-- Registers of unit kind `cfg` (R277, R278, R279, R311). -/
def regsCfg : List RegD :=
  [
    ⟨0x0, 1, 4, 1, 4, [⟨0, 0, .rw, 0, []⟩]⟩,
    ⟨0x4, 1, 4, 1, 4, [⟨31, 28, .wo, 0, []⟩, ⟨27, 24, .wo, 0, []⟩]⟩,
    ⟨0x8, 1, 4, 1, 4, [⟨31, 28, .ro, 0, []⟩, ⟨27, 24, .ro, 0, []⟩, ⟨7, 7, .w1c, 0, []⟩, ⟨6, 6, .w1c, 0, []⟩, ⟨5, 5, .w1c, 0, []⟩, ⟨4, 4, .w1c, 0, []⟩, ⟨3, 3, .w1c, 0, []⟩, ⟨2, 2, .w1c, 0, []⟩, ⟨1, 1, .ro, 0, []⟩, ⟨0, 0, .ro, 0, []⟩]⟩,
    ⟨0xc, 1, 4, 1, 4, [⟨31, 0, .ro, 0, []⟩]⟩,
    ⟨0x10, 4, 4, 1, 4, [⟨31, 0, .rw, 0, []⟩]⟩,
    ⟨0x20, 1, 4, 1, 4, [⟨15, 0, .rw, 64, [(1, 65535)]⟩]⟩,
    ⟨0x24, 1, 4, 1, 4, [⟨31, 0, .rw, 0, []⟩]⟩,
    ⟨0x28, 1, 4, 1, 4, [⟨31, 24, .rw, 238, []⟩, ⟨23, 16, .rw, 20, []⟩, ⟨1, 0, .rw, 2, [(0, 2)]⟩]⟩,
    ⟨0x2c, 1, 4, 1, 4, [⟨6, 0, .ro, 0, []⟩]⟩,
    ⟨0x30, 2, 8, 1, 4, [⟨31, 0, .rw, 0, []⟩]⟩,
    ⟨0x34, 2, 8, 1, 4, [⟨23, 0, .rw, 0, []⟩]⟩,
    ⟨0x40, 2, 4, 1, 4, [⟨31, 0, .rw, 0, []⟩]⟩,
    ⟨0x48, 1, 4, 1, 4, [⟨31, 0, .ro, 0, []⟩]⟩,
    ⟨0x4c, 1, 4, 1, 4, [⟨31, 0, .ro, 0, []⟩]⟩,
    ⟨0x50, 1, 4, 1, 4, [⟨31, 0, .ro, 0, []⟩]⟩,
    ⟨0x54, 1, 4, 1, 4, [⟨31, 0, .ro, 0, []⟩]⟩,
    ⟨0x400, 128, 4, 1, 4, [⟨13, 12, .ro, 0, []⟩, ⟨9, 8, .ro, 3, []⟩, ⟨6, 4, .ro, 0, []⟩, ⟨2, 0, .ro, 0, []⟩]⟩,
    ⟨0x800, 128, 8, 2, 4, [⟨31, 25, .ro, 0, []⟩, ⟨24, 24, .ro, 0, []⟩, ⟨23, 0, .ro, 0, []⟩]⟩,
    ⟨0x60, 1, 4, 1, 4, [⟨31, 31, .rw, 0, []⟩, ⟨6, 0, .rw, 0, []⟩]⟩,
    ⟨0x64, 4, 4, 1, 4, [⟨31, 0, .rw, 0, []⟩]⟩
  ]
  ++ [
    ⟨0x400000, 1, 4, 1, 4, [⟨31, 28, .wo, 0, []⟩]⟩,
    ⟨0x400004, 1, 4, 1, 4, [⟨31, 10, .ro, 0, []⟩, ⟨9, 9, .ro, 0, []⟩, ⟨8, 8, .ro, 0, []⟩]⟩
  ]

/-- Registers of unit kind `scb` (R309). -/
def regsScb : List RegD :=
  [
    ⟨0x0, 1, 4, 1, 4, [⟨2, 2, .rw, 1, []⟩, ⟨1, 1, .rw, 1, []⟩, ⟨0, 0, .rw, 1, []⟩]⟩,
    ⟨0x4, 1, 4, 1, 4, [⟨5, 5, .w1c, 0, []⟩, ⟨4, 4, .w1c, 0, []⟩, ⟨3, 3, .w1c, 0, []⟩, ⟨2, 2, .w1c, 0, []⟩, ⟨1, 1, .w1c, 0, []⟩, ⟨0, 0, .w1c, 0, []⟩]⟩,
    ⟨0x8, 1, 4, 1, 4, [⟨31, 0, .ro, 0, []⟩]⟩,
    ⟨0xc, 1, 4, 1, 4, [⟨31, 0, .ro, 0, []⟩]⟩,
    ⟨0x10, 1, 4, 1, 4, [⟨31, 0, .ro, 0, []⟩]⟩,
    ⟨0x14, 1, 4, 1, 4, [⟨31, 0, .ro, 0, []⟩]⟩,
    ⟨0x18, 1, 4, 1, 4, [⟨31, 0, .ro, 0, []⟩]⟩,
    ⟨0x1c, 1, 4, 1, 4, [⟨31, 0, .ro, 0, []⟩]⟩,
    ⟨0x20, 1, 4, 1, 4, [⟨31, 0, .ro, 0, []⟩]⟩,
    ⟨0x24, 1, 4, 1, 4, [⟨31, 0, .ro, 0, []⟩]⟩,
    ⟨0x28, 1, 4, 1, 4, [⟨31, 0, .ro, 0, []⟩]⟩,
    ⟨0x2c, 1, 4, 1, 4, [⟨31, 31, .w1c, 0, []⟩]⟩,
    ⟨0x30, 4, 4, 1, 4, [⟨31, 0, .rw, 4294967295, []⟩]⟩,
    ⟨0x40, 4, 16, 1, 4, [⟨31, 0, .rw, 0, []⟩]⟩,
    ⟨0x44, 4, 16, 1, 4, [⟨23, 0, .rw, 0, []⟩]⟩,
    ⟨0x48, 4, 16, 1, 4, [⟨31, 0, .rw, 0, []⟩]⟩
  ]

/-- Registers of unit kind `cns` (R310). -/
def regsCns : List RegD :=
  [
    ⟨0x0, 1, 4, 1, 4, [⟨31, 16, .rw, 0, []⟩, ⟨3, 3, .rw, 1, []⟩, ⟨2, 2, .rw, 0, []⟩, ⟨1, 1, .rw, 0, []⟩, ⟨0, 0, .rw, 0, []⟩]⟩,
    ⟨0x4, 1, 4, 1, 4, [⟨1, 1, .wo, 0, []⟩, ⟨0, 0, .wo, 0, []⟩]⟩,
    ⟨0x8, 1, 4, 1, 4, [⟨15, 0, .rw, 0, []⟩]⟩,
    ⟨0xc, 1, 4, 1, 4, [⟨31, 0, .rw, 50000, [(1, 4294967295)]⟩]⟩,
    ⟨0x10, 4, 4, 1, 4, [⟨31, 0, .rw, 4294967295, []⟩]⟩,
    ⟨0x20, 1, 4, 1, 4, [⟨31, 30, .ro, 0, []⟩, ⟨4, 4, .ro, 0, []⟩, ⟨3, 3, .w1c, 0, []⟩, ⟨2, 2, .w1c, 0, []⟩, ⟨1, 1, .w1c, 0, []⟩, ⟨0, 0, .ro, 0, []⟩]⟩,
    ⟨0x24, 1, 4, 1, 4, [⟨15, 0, .ro, 0, []⟩]⟩,
    ⟨0x28, 1, 4, 1, 4, [⟨31, 0, .ro, 0, []⟩]⟩,
    ⟨0x2c, 1, 4, 1, 4, [⟨31, 0, .ro, 0, []⟩]⟩,
    ⟨0x30, 1, 4, 1, 4, [⟨31, 0, .rw, 0, []⟩]⟩,
    ⟨0x34, 1, 4, 1, 4, [⟨15, 0, .ro, 0, []⟩]⟩,
    ⟨0x38, 1, 4, 1, 4, [⟨31, 0, .ro, 0, []⟩]⟩,
    ⟨0x3c, 1, 4, 1, 4, [⟨4, 0, .ro, 0, []⟩]⟩,
    ⟨0x40, 12, 4, 1, 4, [⟨31, 0, .ro, 0, []⟩]⟩,
    ⟨0x80, 12, 4, 1, 4, [⟨31, 0, .rw, 0, []⟩]⟩,
    ⟨0xc0, 8, 4, 1, 4, [⟨31, 0, .ro, 0, []⟩]⟩
  ]

/-- Registers of unit kind `ddr` (R366). -/
def regsDdr : List RegD :=
  [
    ⟨0x0, 1, 4, 1, 4, [⟨3, 3, .rw, 1, []⟩, ⟨2, 2, .rw, 1, []⟩, ⟨1, 1, .rw, 1, []⟩, ⟨0, 0, .rw, 1, []⟩]⟩,
    ⟨0x4, 1, 4, 1, 4, [⟨31, 30, .ro, 0, []⟩, ⟨7, 7, .w1c, 0, []⟩, ⟨6, 6, .ro, 0, []⟩, ⟨5, 5, .w1c, 0, []⟩, ⟨4, 4, .w1c, 0, []⟩, ⟨3, 3, .w1c, 0, []⟩, ⟨2, 2, .w1c, 0, []⟩, ⟨1, 1, .w1c, 0, []⟩, ⟨0, 0, .w1c, 0, []⟩]⟩,
    ⟨0x8, 1, 4, 1, 4, [⟨31, 24, .ro, 0, []⟩, ⟨23, 20, .ro, 0, []⟩, ⟨19, 18, .ro, 0, []⟩, ⟨17, 17, .ro, 0, []⟩, ⟨16, 15, .ro, 0, []⟩, ⟨14, 12, .ro, 0, []⟩, ⟨9, 0, .ro, 0, []⟩]⟩,
    ⟨0xc, 1, 4, 1, 4, [⟨15, 11, .ro, 0, []⟩, ⟨10, 9, .ro, 0, []⟩, ⟨8, 7, .ro, 0, []⟩, ⟨6, 4, .ro, 0, []⟩, ⟨3, 0, .ro, 0, []⟩]⟩,
    ⟨0x10, 1, 4, 1, 4, [⟨22, 16, .rw, 48, []⟩, ⟨6, 0, .rw, 16, []⟩]⟩,
    ⟨0x14, 1, 4, 1, 4, [⟨15, 0, .rw, 4096, [(1, 65535)]⟩]⟩,
    ⟨0x18, 1, 4, 1, 4, [⟨3, 3, .rw, 1, []⟩, ⟨2, 0, .rw, 4, [(1, 4)]⟩]⟩,
    ⟨0x1c, 1, 4, 1, 4, [⟨15, 0, .rw, 4096, [(256, 65535)]⟩]⟩,
    ⟨0x20, 1, 4, 1, 4, [⟨31, 16, .rw, 2048, [(1, 65535)]⟩, ⟨15, 0, .rw, 64, [(1, 65535)]⟩]⟩,
    ⟨0x24, 1, 4, 1, 4, [⟨31, 20, .rw, 100, []⟩, ⟨19, 12, .rw, 4, [(1, 255)]⟩, ⟨11, 6, .rw, 4, [(1, 63)]⟩, ⟨5, 0, .rw, 12, []⟩]⟩,
    ⟨0x28, 1, 4, 1, 4, [⟨3, 0, .rw, 3, [(1, 15)]⟩]⟩,
    ⟨0x2c, 1, 4, 1, 4, [⟨1, 0, .wo, 0, []⟩]⟩,
    ⟨0x30, 1, 4, 1, 4, [⟨15, 0, .ro, 0, []⟩]⟩,
    ⟨0x34, 1, 4, 1, 4, [⟨31, 0, .ro, 0, []⟩]⟩,
    ⟨0x38, 1, 4, 1, 4, [⟨31, 31, .w1c, 0, []⟩, ⟨15, 0, .ro, 0, []⟩]⟩,
    ⟨0x40, 1, 4, 1, 4, [⟨31, 0, .ro, 0, []⟩]⟩,
    ⟨0x44, 1, 4, 1, 4, [⟨31, 0, .ro, 0, []⟩]⟩,
    ⟨0x48, 1, 4, 1, 4, [⟨31, 0, .ro, 0, []⟩]⟩,
    ⟨0x4c, 1, 4, 1, 4, [⟨31, 0, .ro, 0, []⟩]⟩,
    ⟨0x50, 1, 4, 1, 4, [⟨31, 0, .ro, 0, []⟩]⟩
  ]
  ++ [
    ⟨0x54, 1, 4, 1, 4, [⟨31, 0, .ro, 0, []⟩]⟩,
    ⟨0x58, 1, 4, 1, 4, [⟨31, 0, .ro, 0, []⟩]⟩,
    ⟨0x5c, 1, 4, 1, 4, [⟨31, 0, .ro, 0, []⟩]⟩,
    ⟨0x80, 16, 4, 1, 4, [⟨31, 31, .ro, 0, []⟩, ⟨26, 16, .ro, 0, []⟩, ⟨15, 0, .ro, 0, []⟩]⟩,
    ⟨0x100, 16, 4, 1, 4, [⟨15, 0, .rw, 0, []⟩]⟩
  ]

/-- Registers of unit kind `ipe` (R342, R343, R344, R345). -/
def regsIpe : List RegD :=
  [
    ⟨0x0, 1, 4, 1, 4, [⟨0, 0, .rw, 1, []⟩]⟩,
    ⟨0x4, 1, 4, 1, 4, [⟨5, 5, .w1c, 0, []⟩, ⟨4, 4, .w1c, 0, []⟩, ⟨3, 3, .w1c, 0, []⟩, ⟨2, 2, .w1c, 0, []⟩, ⟨1, 1, .w1c, 0, []⟩, ⟨0, 0, .w1c, 0, []⟩]⟩,
    ⟨0x10, 1, 4, 1, 4, [⟨31, 0, .ro, 0, []⟩]⟩,
    ⟨0x14, 1, 4, 1, 4, [⟨31, 0, .ro, 0, []⟩]⟩,
    ⟨0x18, 1, 4, 1, 4, [⟨31, 0, .ro, 0, []⟩]⟩,
    ⟨0x1c, 1, 4, 1, 4, [⟨31, 0, .ro, 0, []⟩]⟩,
    ⟨0x20, 1, 4, 1, 4, [⟨31, 0, .ro, 0, []⟩]⟩,
    ⟨0x24, 1, 4, 1, 4, [⟨31, 0, .ro, 0, []⟩]⟩,
    ⟨0x40, 1, 4, 1, 4, [⟨3, 0, .ro, 0, []⟩]⟩,
    ⟨0x44, 1, 4, 1, 4, [⟨31, 0, .ro, 0, []⟩]⟩,
    ⟨0x48, 1, 4, 1, 4, [⟨23, 0, .ro, 0, []⟩]⟩,
    ⟨0x4c, 1, 4, 1, 4, [⟨31, 29, .ro, 0, []⟩, ⟨28, 26, .ro, 0, []⟩, ⟨15, 0, .ro, 0, []⟩]⟩,
    ⟨0x50, 1, 4, 1, 4, [⟨10, 0, .ro, 0, []⟩]⟩,
    ⟨0x54, 1, 4, 1, 4, [⟨0, 0, .wo, 0, []⟩]⟩,
    ⟨0x60, 1, 4, 1, 4, [⟨6, 0, .ro, 0, []⟩]⟩,
    ⟨0x64, 1, 4, 1, 4, [⟨5, 0, .rw, 0, []⟩]⟩,
    ⟨0x68, 1, 4, 1, 4, [⟨31, 24, .ro, 0, []⟩, ⟨23, 21, .ro, 0, []⟩, ⟨20, 0, .ro, 0, []⟩]⟩,
    ⟨0x6c, 1, 4, 1, 4, [⟨14, 0, .ro, 0, []⟩]⟩,
    ⟨0x70, 1, 4, 1, 4, [⟨31, 0, .ro, 0, []⟩]⟩,
    ⟨0x100, 1, 4, 1, 4, [⟨11, 0, .rw, 0, []⟩]⟩
  ]
  ++ [
    ⟨0x104, 1, 4, 1, 4, [⟨12, 0, .rw, 0, [(0, 4096)]⟩]⟩,
    ⟨0x140, 1, 4, 1, 4, [⟨31, 28, .wo, 0, []⟩, ⟨7, 0, .wo, 0, []⟩]⟩,
    ⟨0x144, 1, 4, 1, 4, [⟨31, 31, .ro, 0, []⟩, ⟨30, 30, .w1c, 0, []⟩, ⟨29, 27, .ro, 0, []⟩, ⟨7, 0, .ro, 0, []⟩]⟩,
    ⟨0x150, 10, 4, 1, 4, [⟨31, 0, .wo, 0, []⟩]⟩,
    ⟨0x1000, 256, 16, 1, 4, [⟨31, 29, .ro, 0, []⟩, ⟨23, 16, .rw, 0, []⟩, ⟨0, 0, .rw, 0, []⟩]⟩,
    ⟨0x1004, 256, 16, 1, 4, [⟨11, 0, .rw, 0, []⟩]⟩,
    ⟨0x1008, 256, 16, 1, 4, [⟨12, 0, .rw, 0, [(0, 4096)]⟩]⟩,
    ⟨0x2000, 64, 4, 1, 4, [⟨31, 0, .rw, 0, []⟩]⟩
  ]

/-- Registers of unit kind `dsp` (R243, R244, R245). -/
def regsDsp : List RegD :=
  [
    ⟨0x0, 1, 4, 1, 4, [⟨0, 0, .rw, 0, []⟩]⟩,
    ⟨0x4, 1, 4, 1, 4, [⟨4, 4, .w1c, 0, []⟩, ⟨3, 3, .w1c, 0, []⟩, ⟨2, 2, .w1c, 0, []⟩, ⟨1, 1, .w1c, 0, []⟩, ⟨0, 0, .w1c, 0, []⟩]⟩,
    ⟨0x8, 1, 4, 1, 4, [⟨31, 0, .rw, 16384, []⟩]⟩,
    ⟨0xc, 1, 4, 1, 4, [⟨17, 0, .ro, 245760, []⟩]⟩,
    ⟨0x10, 1, 4, 1, 4, [⟨14, 0, .ro, 16384, []⟩]⟩,
    ⟨0x14, 1, 4, 1, 4, [⟨23, 0, .rw, 50, [(1, 16777215)]⟩]⟩,
    ⟨0x18, 1, 4, 1, 4, [⟨31, 0, .ro, 0, []⟩]⟩,
    ⟨0x1c, 1, 4, 1, 4, [⟨15, 0, .ro, 0, []⟩]⟩,
    ⟨0x20, 1, 4, 1, 4, [⟨31, 0, .ro, 0, []⟩]⟩,
    ⟨0x24, 1, 4, 1, 4, [⟨31, 0, .ro, 0, []⟩]⟩,
    ⟨0x28, 1, 4, 1, 4, [⟨31, 0, .ro, 0, []⟩]⟩,
    ⟨0x2c, 1, 4, 1, 4, [⟨31, 0, .ro, 0, []⟩]⟩,
    ⟨0x30, 1, 4, 1, 4, [⟨31, 0, .ro, 0, []⟩]⟩,
    ⟨0x34, 1, 4, 1, 4, [⟨31, 0, .ro, 0, []⟩]⟩,
    ⟨0x38, 1, 4, 1, 4, [⟨31, 0, .ro, 0, []⟩]⟩,
    ⟨0x3c, 1, 4, 1, 4, [⟨8, 0, .ro, 0, []⟩]⟩,
    ⟨0x40, 1, 4, 1, 4, [⟨31, 8, .ro, 0, []⟩, ⟨7, 0, .ro, 0, []⟩]⟩,
    ⟨0x44, 1, 4, 1, 4, [⟨15, 0, .ro, 0, []⟩]⟩,
    ⟨0x100, 32, 4, 1, 4, [⟨18, 0, .ro, 0, []⟩]⟩,
    ⟨0x1000, 256, 16, 1, 4, [⟨31, 4, .rw, 0, []⟩]⟩
  ]
  ++ [
    ⟨0x1004, 256, 16, 1, 4, [⟨23, 0, .rw, 0, []⟩]⟩,
    ⟨0x1008, 256, 16, 1, 4, [⟨31, 31, .rw, 0, []⟩, ⟨30, 30, .wo, 0, []⟩, ⟨29, 29, .wo, 0, []⟩, ⟨28, 28, .ro, 0, []⟩, ⟨27, 20, .rw, 255, []⟩, ⟨16, 0, .rw, 0, [(0, 65536)]⟩]⟩,
    ⟨0x2000, 64, 8, 1, 4, [⟨31, 0, .rw, 0, []⟩]⟩,
    ⟨0x2004, 64, 8, 1, 4, [⟨31, 0, .rw, 0, []⟩]⟩,
    ⟨0x3000, 16, 128, 8, 16, [⟨31, 0, .rw, 0, []⟩]⟩,
    ⟨0x3004, 16, 128, 8, 16, [⟨31, 0, .rw, 0, []⟩]⟩,
    ⟨0x3008, 16, 128, 8, 16, [⟨2, 0, .rw, 0, []⟩]⟩
  ]

/-- Registers of unit kind `evt` (R531). -/
def regsEvt : List RegD :=
  [
    ⟨0x0, 4096, 4, 1, 4, [⟨2, 0, .rw, 0, []⟩]⟩,
    ⟨0x4000, 128, 4, 1, 4, [⟨31, 0, .w1c, 0, []⟩]⟩,
    ⟨0x4200, 128, 4, 1, 4, [⟨31, 0, .ro, 0, []⟩]⟩,
    ⟨0x4400, 1, 4, 1, 4, [⟨5, 0, .wo, 0, []⟩]⟩,
    ⟨0x10000, 65, 512, 128, 4, [⟨31, 0, .rw, 0, []⟩]⟩,
    ⟨0x20000, 65, 256, 1, 4, [⟨2, 0, .rw, 0, []⟩]⟩,
    ⟨0x20004, 65, 256, 1, 4, [⟨11, 0, .rsx, 0, []⟩]⟩,
    ⟨0x30000, 32, 32, 1, 4, [⟨31, 31, .rw, 0, []⟩, ⟨0, 0, .rw, 1, []⟩]⟩,
    ⟨0x30004, 32, 32, 1, 4, [⟨31, 0, .rw, 1000000, [(1, 4294967295)]⟩]⟩,
    ⟨0x30008, 32, 32, 1, 4, [⟨7, 0, .wo, 0, []⟩]⟩,
    ⟨0x3000c, 32, 32, 1, 4, [⟨31, 0, .ro, 1000000, []⟩]⟩
  ]

/-- Registers of unit kind `dbg` (R532). -/
def regsDbg : List RegD :=
  [
    ⟨0x0, 1, 4, 1, 4, [⟨0, 0, .rw, 1, []⟩]⟩,
    ⟨0x4, 1, 4, 1, 4, [⟨3, 2, .rw, 0, [(0, 2)]⟩, ⟨1, 0, .rw, 0, [(0, 2)]⟩]⟩,
    ⟨0x8, 1, 4, 1, 4, [⟨2, 2, .ro, 0, []⟩, ⟨1, 1, .ro, 0, []⟩, ⟨0, 0, .w1c, 0, []⟩]⟩,
    ⟨0x10, 1, 4, 1, 4, [⟨1, 0, .wo, 0, []⟩]⟩,
    ⟨0x100, 60, 4, 1, 4, [⟨31, 0, .rw, 0, []⟩]⟩,
    ⟨0x1000, 33, 512, 1, 4, [⟨3, 3, .rw, 0, []⟩, ⟨2, 2, .wo, 0, []⟩, ⟨1, 1, .wo, 0, []⟩, ⟨0, 0, .wo, 0, []⟩]⟩,
    ⟨0x1004, 33, 512, 1, 4, [⟨31, 28, .ro, 0, []⟩, ⟨0, 0, .ro, 0, []⟩]⟩,
    ⟨0x1008, 33, 512, 1, 4, [⟨31, 31, .wo, 0, []⟩, ⟨15, 0, .wo, 0, []⟩]⟩,
    ⟨0x100c, 33, 512, 1, 4, [⟨31, 0, .rw, 0, []⟩]⟩,
    ⟨0x1010, 33, 512, 1, 4, [⟨31, 0, .rw, 0, []⟩]⟩,
    ⟨0x1080, 33, 512, 4, 16, [⟨31, 0, .rw, 0, []⟩]⟩,
    ⟨0x1084, 33, 512, 4, 16, [⟨31, 0, .rw, 0, []⟩]⟩,
    ⟨0x1088, 33, 512, 4, 16, [⟨31, 31, .rw, 0, []⟩, ⟨30, 29, .rw, 0, []⟩, ⟨28, 26, .rw, 0, []⟩, ⟨25, 25, .rw, 0, []⟩, ⟨24, 23, .rw, 0, [(0, 2)]⟩, ⟨7, 0, .rw, 0, []⟩]⟩,
    ⟨0x1100, 33, 512, 8, 32, [⟨31, 0, .rw, 0, []⟩]⟩,
    ⟨0x1104, 33, 512, 8, 32, [⟨31, 0, .rw, 0, []⟩]⟩,
    ⟨0x1108, 33, 512, 8, 32, [⟨31, 0, .rw, 0, []⟩]⟩,
    ⟨0x110c, 33, 512, 8, 32, [⟨31, 0, .rw, 0, []⟩]⟩,
    ⟨0x1110, 33, 512, 8, 32, [⟨31, 31, .rw, 0, []⟩, ⟨30, 30, .rw, 0, []⟩, ⟨29, 28, .rw, 0, [(0, 2)]⟩, ⟨27, 27, .rw, 0, []⟩, ⟨26, 26, .rw, 0, []⟩, ⟨25, 25, .rw, 0, []⟩, ⟨24, 24, .rw, 0, []⟩, ⟨23, 23, .rw, 0, []⟩]⟩,
    ⟨0x1114, 33, 512, 8, 32, [⟨31, 16, .rw, 0, []⟩, ⟨15, 0, .rw, 0, []⟩]⟩
  ]

/-- Registers of unit kind `prb` (R533). -/
def regsPrb : List RegD :=
  [
    ⟨0x0, 64, 4, 1, 4, [⟨31, 31, .rw, 0, []⟩, ⟨10, 4, .rw, 0, []⟩, ⟨3, 0, .rw, 0, []⟩]⟩,
    ⟨0x800, 1, 4, 1, 4, [⟨3, 0, .rw, 0, []⟩]⟩,
    ⟨0x804, 1, 4, 1, 4, [⟨31, 31, .wo, 0, []⟩, ⟨30, 30, .wo, 0, []⟩]⟩,
    ⟨0x808, 1, 4, 1, 4, [⟨31, 0, .rw, 0, []⟩]⟩,
    ⟨0x80c, 1, 4, 1, 4, [⟨31, 0, .rw, 0, []⟩]⟩,
    ⟨0x810, 1, 4, 1, 4, [⟨31, 0, .rw, 0, []⟩]⟩,
    ⟨0x814, 1, 4, 1, 4, [⟨31, 0, .rw, 0, []⟩]⟩,
    ⟨0x818, 1, 4, 1, 4, [⟨31, 0, .rw, 0, []⟩]⟩,
    ⟨0x81c, 1, 4, 1, 4, [⟨31, 0, .rw, 0, []⟩]⟩,
    ⟨0x820, 1, 4, 1, 4, [⟨31, 0, .rw, 0, []⟩]⟩,
    ⟨0x824, 1, 4, 1, 4, [⟨31, 0, .rw, 0, []⟩]⟩,
    ⟨0x828, 1, 4, 1, 4, [⟨31, 31, .ro, 0, []⟩, ⟨30, 30, .ro, 0, []⟩, ⟨29, 29, .w1c, 0, []⟩]⟩,
    ⟨0x82c, 1, 4, 1, 4, [⟨31, 0, .ro, 0, []⟩]⟩,
    ⟨0x830, 1, 4, 1, 4, [⟨31, 0, .ro, 0, []⟩]⟩,
    ⟨0x1000, 128, 64, 16, 4, [⟨23, 16, .rw, 0, []⟩, ⟨14, 8, .rw, 0, []⟩, ⟨7, 4, .rw, 0, []⟩, ⟨0, 0, .rw, 0, []⟩]⟩
  ]

/-- Registers of unit kind `pci` (R396). -/
def regsPci : List RegD :=
  [
    ⟨0x0, 1, 4, 1, 4, [⟨31, 31, .rw, 1, []⟩, ⟨25, 24, .rw, 1, []⟩, ⟨16, 16, .rw, 0, []⟩, ⟨9, 8, .rw, 0, [(0, 1)]⟩, ⟨1, 0, .rw, 0, [(0, 1)]⟩]⟩,
    ⟨0x4, 1, 4, 1, 4, [⟨31, 31, .ro, 0, []⟩, ⟨30, 28, .ro, 0, []⟩, ⟨27, 23, .ro, 0, []⟩, ⟨15, 15, .ro, 0, []⟩, ⟨14, 12, .ro, 0, []⟩, ⟨11, 7, .ro, 0, []⟩, ⟨1, 1, .w1c, 0, []⟩, ⟨0, 0, .w1c, 0, []⟩]⟩,
    ⟨0x10, 1, 4, 1, 4, [⟨31, 0, .ro, 0, []⟩]⟩,
    ⟨0x14, 1, 4, 1, 4, [⟨31, 0, .ro, 0, []⟩]⟩,
    ⟨0x18, 1, 4, 1, 4, [⟨31, 0, .ro, 0, []⟩]⟩,
    ⟨0x1c, 1, 4, 1, 4, [⟨31, 0, .ro, 0, []⟩]⟩,
    ⟨0x10000, 8, 32, 1, 4, [⟨25, 16, .rw, 0, []⟩, ⟨12, 8, .rw, 12, [(12, 30)]⟩, ⟨5, 0, .rw, 20, [(20, 39)]⟩]⟩,
    ⟨0x10004, 8, 32, 1, 4, [⟨31, 0, .rw, 0, []⟩]⟩,
    ⟨0x10008, 8, 32, 1, 4, [⟨23, 0, .rw, 0, []⟩]⟩,
    ⟨0x1000c, 8, 32, 1, 4, [⟨31, 0, .rw, 0, []⟩]⟩,
    ⟨0x10010, 8, 32, 1, 4, [⟨23, 0, .rw, 0, []⟩]⟩,
    ⟨0x20000, 8, 16, 1, 4, [⟨31, 30, .rw, 0, []⟩, ⟨29, 29, .rw, 0, []⟩, ⟨2, 0, .rw, 0, []⟩]⟩,
    ⟨0x20004, 8, 16, 1, 4, [⟨31, 0, .rw, 0, []⟩]⟩,
    ⟨0x20008, 8, 16, 1, 4, [⟨31, 0, .rw, 0, []⟩]⟩,
    ⟨0x100000, 256, 64, 1, 4, [⟨31, 31, .rw, 0, []⟩, ⟨30, 30, .rw, 0, []⟩, ⟨27, 24, .rw, 4, [(4, 15)]⟩, ⟨15, 15, .rw, 0, []⟩, ⟨8, 0, .rw, 0, []⟩]⟩,
    ⟨0x100004, 256, 64, 1, 4, [⟨31, 0, .rw, 0, []⟩]⟩,
    ⟨0x100008, 256, 64, 1, 4, [⟨31, 0, .rw, 0, []⟩]⟩,
    ⟨0x10000c, 256, 64, 1, 4, [⟨15, 0, .rw, 0, []⟩]⟩,
    ⟨0x100010, 256, 64, 1, 4, [⟨15, 0, .ro, 0, []⟩]⟩,
    ⟨0x100014, 256, 64, 1, 4, [⟨31, 31, .ro, 0, []⟩, ⟨30, 30, .w1c, 0, []⟩, ⟨7, 0, .ro, 0, []⟩]⟩
  ]
  ++ [
    ⟨0x100018, 256, 64, 1, 4, [⟨10, 0, .rw, 0, []⟩]⟩,
    ⟨0x10001c, 256, 64, 1, 4, [⟨31, 0, .ro, 0, []⟩]⟩
  ]

/-- Registers of unit kind `lnk` (R217, R218). -/
def regsLnk : List RegD :=
  [
    ⟨0x0, 1, 4, 1, 4, [⟨31, 28, .rw, 8, [(1, 15)]⟩, ⟨21, 20, .rw, 0, [(0, 2)]⟩, ⟨4, 4, .rw, 0, []⟩, ⟨3, 3, .rw, 1, []⟩, ⟨2, 1, .rw, 3, []⟩, ⟨0, 0, .rw, 0, []⟩]⟩,
    ⟨0x4, 1, 4, 1, 4, [⟨7, 7, .w1c, 0, []⟩, ⟨6, 6, .w1c, 0, []⟩, ⟨5, 5, .w1c, 0, []⟩, ⟨4, 4, .w1c, 0, []⟩, ⟨3, 3, .w1c, 0, []⟩, ⟨1, 0, .ro, 0, []⟩]⟩,
    ⟨0x8, 1, 4, 1, 4, [⟨15, 0, .rw, 2048, [(1, 65535)]⟩]⟩,
    ⟨0xc, 1, 4, 1, 4, [⟨31, 0, .rw, 50000, [(5000, 4294967295)]⟩]⟩,
    ⟨0x10, 1, 4, 1, 4, [⟨31, 16, .ro, 0, []⟩, ⟨15, 12, .ro, 0, []⟩, ⟨11, 8, .ro, 0, []⟩, ⟨7, 7, .ro, 0, []⟩, ⟨1, 0, .ro, 0, []⟩]⟩,
    ⟨0x14, 1, 4, 1, 4, [⟨31, 0, .ro, 0, []⟩]⟩,
    ⟨0x18, 1, 4, 1, 4, [⟨31, 0, .ro, 0, []⟩]⟩,
    ⟨0x1c, 1, 4, 1, 4, [⟨31, 0, .ro, 0, []⟩]⟩,
    ⟨0x20, 1, 4, 1, 4, [⟨31, 0, .ro, 0, []⟩]⟩,
    ⟨0x24, 1, 4, 1, 4, [⟨31, 0, .ro, 0, []⟩]⟩,
    ⟨0x28, 1, 4, 1, 4, [⟨31, 0, .ro, 0, []⟩]⟩,
    ⟨0x2c, 1, 4, 1, 4, [⟨0, 0, .wo, 0, []⟩]⟩,
    ⟨0x100000, 65536, 4, 1, 4, [⟨31, 0, .rw, 0, []⟩]⟩
  ]

/-- Registers of unit kind `lane` (R384, R385). -/
def regsLane : List RegD :=
  [
    ⟨0x1000, 40, 256, 1, 4, [⟨31, 24, .rw, 16, []⟩, ⟨5, 5, .rw, 0, []⟩, ⟨4, 4, .rw, 0, []⟩, ⟨1, 0, .rw, 0, [(0, 2)]⟩]⟩,
    ⟨0x1004, 40, 256, 1, 4, [⟨16, 16, .rw, 1, []⟩, ⟨15, 0, .rw, 56000, []⟩]⟩,
    ⟨0x1008, 40, 256, 1, 4, [⟨30, 0, .rw, 718625370, [(1, 2147483647)]⟩]⟩,
    ⟨0x100c, 40, 256, 1, 4, [⟨12, 12, .ro, 0, []⟩, ⟨11, 11, .w1c, 0, []⟩, ⟨10, 10, .w1c, 0, []⟩, ⟨9, 9, .w1c, 0, []⟩, ⟨8, 8, .ro, 0, []⟩, ⟨7, 7, .ro, 0, []⟩, ⟨6, 6, .ro, 0, []⟩, ⟨5, 5, .ro, 0, []⟩, ⟨2, 0, .ro, 0, []⟩]⟩,
    ⟨0x1010, 40, 256, 1, 4, [⟨9, 0, .wo, 0, []⟩]⟩,
    ⟨0x1014, 40, 256, 1, 4, [⟨31, 16, .ro, 0, []⟩, ⟨7, 0, .ro, 0, []⟩]⟩,
    ⟨0x1018, 40, 256, 1, 4, [⟨31, 16, .ro, 0, []⟩, ⟨15, 12, .ro, 0, []⟩, ⟨10, 8, .ro, 0, []⟩, ⟨7, 6, .ro, 0, []⟩]⟩,
    ⟨0x1020, 40, 256, 1, 4, [⟨31, 31, .wo, 0, []⟩, ⟨30, 24, .rw, 20, [(10, 40)]⟩, ⟨17, 16, .rw, 1, [(0, 2)]⟩, ⟨15, 8, .rw, 0, [(0, 63), (193, 255)]⟩, ⟨7, 0, .rw, 0, [(0, 31), (224, 255)]⟩]⟩,
    ⟨0x1024, 40, 256, 1, 4, [⟨31, 31, .ro, 0, []⟩, ⟨2, 0, .ro, 0, []⟩]⟩,
    ⟨0x1028, 40, 256, 1, 4, [⟨31, 0, .ro, 0, []⟩]⟩,
    ⟨0x102c, 40, 256, 1, 4, [⟨15, 8, .rw, 10, []⟩, ⟨7, 0, .rw, 2, []⟩]⟩,
    ⟨0x1030, 40, 256, 1, 4, [⟨31, 0, .ro, 0, []⟩]⟩,
    ⟨0x1034, 40, 256, 1, 4, [⟨31, 0, .ro, 0, []⟩]⟩,
    ⟨0x1038, 40, 256, 1, 4, [⟨31, 0, .ro, 0, []⟩]⟩,
    ⟨0x103c, 40, 256, 1, 4, [⟨31, 0, .ro, 0, []⟩]⟩,
    ⟨0x0, 1, 4, 1, 4, [⟨31, 0, .ro, 0, []⟩]⟩,
    ⟨0x4, 1, 4, 1, 4, [⟨7, 0, .ro, 0, []⟩]⟩
  ]

/-- Registers of unit kind `pin` (R551, R552). -/
def regsPin : List RegD :=
  [
    ⟨0x0, 160, 4, 1, 4, [⟨31, 28, .rw, 0, [(0, 5)]⟩, ⟨27, 24, .rw, 0, []⟩, ⟨23, 21, .rw, 0, []⟩, ⟨20, 18, .rw, 0, []⟩, ⟨17, 16, .rw, 0, []⟩, ⟨15, 14, .rw, 1, []⟩, ⟨13, 13, .rw, 0, []⟩, ⟨12, 12, .rw, 0, []⟩, ⟨11, 10, .rw, 0, [(0, 2)]⟩]⟩,
    ⟨0x1000, 5, 256, 1, 4, [⟨31, 0, .rw, 0, []⟩]⟩,
    ⟨0x1004, 5, 256, 1, 4, [⟨31, 0, .rw, 0, []⟩]⟩,
    ⟨0x1008, 5, 256, 1, 4, [⟨31, 0, .ro, 0, []⟩]⟩,
    ⟨0x100c, 5, 256, 1, 4, [⟨31, 31, .rw, 0, []⟩, ⟨6, 0, .rw, 0, []⟩]⟩,
    ⟨0x1010, 5, 256, 1, 4, [⟨7, 0, .w1c, 0, []⟩]⟩,
    ⟨0x1040, 5, 256, 8, 16, [⟨31, 0, .rw, 0, []⟩]⟩,
    ⟨0x1044, 5, 256, 8, 16, [⟨31, 0, .rw, 0, []⟩]⟩,
    ⟨0x1048, 5, 256, 8, 16, [⟨31, 31, .rw, 0, []⟩, ⟨30, 30, .rw, 0, []⟩, ⟨29, 28, .rw, 0, []⟩, ⟨13, 8, .rw, 0, []⟩, ⟨7, 0, .rw, 0, []⟩]⟩,
    ⟨0x2000, 1, 4, 1, 4, [⟨31, 31, .w1c, 0, []⟩, ⟨23, 16, .ro, 0, []⟩, ⟨15, 8, .ro, 0, []⟩, ⟨7, 0, .ro, 0, []⟩]⟩,
    ⟨0x2004, 1, 4, 1, 4, [⟨31, 0, .ro, 0, []⟩]⟩,
    ⟨0x2008, 1, 4, 1, 4, [⟨31, 0, .ro, 0, []⟩]⟩,
    ⟨0x3000, 16, 4, 1, 4, [⟨31, 31, .ro, 0, []⟩, ⟨11, 0, .ro, 0, []⟩]⟩
  ]

/-- Registers of unit kind `ao` (R553). -/
def regsAo : List RegD :=
  [
    ⟨0x100, 1, 4, 1, 4, [⟨31, 0, .rw, 0, []⟩]⟩,
    ⟨0x104, 1, 4, 1, 4, [⟨31, 0, .rw, 0, []⟩]⟩,
    ⟨0x108, 1, 4, 1, 4, [⟨31, 0, .ro, 0, []⟩]⟩,
    ⟨0x10c, 1, 4, 1, 4, [⟨1, 1, .rw, 0, []⟩, ⟨0, 0, .rw, 1, []⟩]⟩,
    ⟨0x110, 2, 4, 1, 4, [⟨31, 0, .ro, 0, []⟩]⟩,
    ⟨0x0, 32, 4, 1, 4, [⟨31, 31, .rw, 0, []⟩, ⟨27, 24, .rw, 0, []⟩, ⟨23, 21, .rw, 0, []⟩, ⟨20, 18, .rw, 0, []⟩, ⟨17, 16, .rw, 0, []⟩, ⟨15, 14, .rw, 1, []⟩, ⟨13, 13, .rw, 0, []⟩, ⟨12, 12, .rw, 0, []⟩, ⟨11, 10, .rw, 0, [(0, 2)]⟩]⟩
  ]

/-- Registers of unit kind `can` (R477). -/
def regsCan : List RegD :=
  [
    ⟨0x0, 2, 64, 1, 4, [⟨31, 31, .rw, 1, []⟩, ⟨7, 4, .rw, 4, [(0, 4)]⟩, ⟨3, 0, .rw, 3, [(0, 3)]⟩]⟩,
    ⟨0x4, 2, 64, 1, 4, [⟨31, 30, .ro, 0, []⟩, ⟨15, 8, .ro, 0, []⟩, ⟨7, 0, .ro, 0, []⟩]⟩,
    ⟨0x8, 2, 64, 1, 4, [⟨31, 0, .ro, 0, []⟩]⟩,
    ⟨0xc, 2, 64, 1, 4, [⟨31, 0, .ro, 0, []⟩]⟩,
    ⟨0x10, 2, 64, 1, 4, [⟨31, 0, .ro, 0, []⟩]⟩
  ]

/-- Registers of unit kind `die` (R91, R92, R93, R126, R127, R128, R129, R161, R162). -/
def regsDie : List RegD :=
  [
    ⟨0x200000, 1, 4, 1, 4, [⟨23, 16, .rw, 12, [(1, 255)]⟩, ⟨15, 8, .rw, 64, [(1, 255)]⟩, ⟨1, 1, .rw, 1, []⟩, ⟨0, 0, .rw, 1, []⟩]⟩,
    ⟨0x200004, 1, 4, 1, 4, [⟨2, 2, .ro, 0, []⟩, ⟨1, 1, .w1c, 0, []⟩, ⟨0, 0, .w1c, 0, []⟩]⟩,
    ⟨0x200008, 1, 4, 1, 4, [⟨31, 0, .ro, 0, []⟩]⟩,
    ⟨0x20000c, 1, 4, 1, 4, [⟨31, 0, .ro, 0, []⟩]⟩,
    ⟨0x200010, 1, 4, 1, 4, [⟨31, 16, .ro, 0, []⟩, ⟨15, 0, .ro, 0, []⟩]⟩,
    ⟨0x200014, 1, 4, 1, 4, [⟨31, 31, .ro, 0, []⟩, ⟨16, 0, .ro, 0, []⟩]⟩,
    ⟨0x200018, 1, 4, 1, 4, [⟨14, 0, .ro, 0, []⟩]⟩,
    ⟨0x20001c, 1, 4, 1, 4, [⟨31, 31, .wo, 0, []⟩, ⟨16, 0, .wo, 0, []⟩]⟩,
    ⟨0x200020, 1, 4, 1, 4, [⟨21, 16, .rw, 0, [(0, 33)]⟩, ⟨14, 0, .rw, 0, [(0, 24575)]⟩]⟩,
    ⟨0x200024, 1, 4, 1, 4, [⟨25, 24, .ro, 0, []⟩, ⟨23, 20, .ro, 0, []⟩, ⟨19, 18, .ro, 0, []⟩, ⟨17, 16, .ro, 0, []⟩, ⟨13, 8, .ro, 0, []⟩, ⟨7, 6, .ro, 0, []⟩, ⟨5, 0, .ro, 0, []⟩]⟩,
    ⟨0x200028, 1, 4, 1, 4, [⟨1, 1, .wo, 0, []⟩, ⟨0, 0, .wo, 0, []⟩]⟩,
    ⟨0x100000, 1, 4, 1, 4, [⟨31, 31, .w1c, 0, []⟩, ⟨26, 16, .ro, 0, []⟩, ⟨12, 11, .ro, 0, []⟩, ⟨9, 0, .ro, 0, []⟩]⟩,
    ⟨0x100004, 1, 4, 1, 4, [⟨31, 16, .ro, 0, []⟩, ⟨15, 0, .ro, 0, []⟩]⟩,
    ⟨0x100008, 1, 4, 1, 4, [⟨31, 31, .rw, 0, []⟩, ⟨10, 0, .rw, 0, []⟩]⟩,
    ⟨0x10000c, 1, 4, 1, 4, [⟨31, 0, .rw, 0, []⟩]⟩,
    ⟨0x100010, 1, 4, 1, 4, [⟨31, 0, .rw, 0, []⟩]⟩,
    ⟨0x100014, 1, 4, 1, 4, [⟨7, 0, .rw, 0, []⟩]⟩,
    ⟨0x100018, 1, 4, 1, 4, [⟨31, 30, .wo, 0, []⟩, ⟨26, 16, .wo, 0, []⟩, ⟨9, 0, .wo, 0, []⟩]⟩,
    ⟨0x10001c, 1, 4, 1, 4, [⟨31, 31, .ro, 0, []⟩, ⟨1, 0, .ro, 0, []⟩]⟩,
    ⟨0x101000, 2048, 4, 1, 4, [⟨31, 29, .ro, 0, []⟩, ⟨28, 27, .ro, 0, []⟩, ⟨26, 26, .ro, 0, []⟩, ⟨25, 25, .w1c, 0, []⟩, ⟨24, 24, .w1c, 0, []⟩, ⟨15, 0, .ro, 0, []⟩]⟩
  ]
  ++ [
    ⟨0x400000, 8192, 32, 1, 4, [⟨31, 31, .ro, 0, []⟩, ⟨30, 29, .ro, 0, []⟩, ⟨28, 28, .ro, 0, []⟩, ⟨27, 27, .ro, 0, []⟩, ⟨26, 26, .rw, 0, []⟩, ⟨21, 12, .ro, 0, []⟩, ⟨10, 0, .ro, 0, []⟩]⟩,
    ⟨0x400004, 8192, 32, 1, 4, [⟨29, 16, .ro, 0, []⟩, ⟨13, 0, .rw, 0, []⟩]⟩,
    ⟨0x400008, 8192, 32, 1, 4, [⟨29, 16, .rw, 0, []⟩, ⟨13, 0, .rw, 0, []⟩]⟩,
    ⟨0x40000c, 8192, 32, 1, 4, [⟨13, 0, .ro, 0, []⟩]⟩,
    ⟨0x400010, 8192, 32, 1, 4, [⟨7, 7, .ro, 0, []⟩, ⟨6, 6, .w1c, 0, []⟩, ⟨5, 5, .w1c, 0, []⟩, ⟨4, 4, .w1c, 0, []⟩, ⟨3, 3, .ro, 0, []⟩, ⟨2, 2, .ro, 0, []⟩, ⟨1, 1, .ro, 0, []⟩, ⟨0, 0, .ro, 1, []⟩]⟩,
    ⟨0x400014, 8192, 32, 1, 4, [⟨31, 0, .ro, 0, []⟩]⟩,
    ⟨0x400018, 8192, 32, 1, 4, [⟨0, 0, .wo, 0, []⟩]⟩,
    ⟨0x440000, 1, 4, 1, 4, [⟨31, 0, .rw, 65536, []⟩]⟩,
    ⟨0x440004, 1, 4, 1, 4, [⟨31, 0, .ro, 0, []⟩]⟩,
    ⟨0x800000, 1024, 4096, 1, 4, [⟨2, 2, .wo, 0, []⟩, ⟨1, 1, .wo, 0, []⟩, ⟨0, 0, .wo, 0, []⟩]⟩,
    ⟨0x800004, 1024, 4096, 1, 4, [⟨31, 24, .ro, 0, []⟩, ⟨23, 20, .ro, 0, []⟩, ⟨9, 9, .w1c, 0, []⟩, ⟨8, 8, .w1c, 0, []⟩, ⟨7, 7, .w1c, 0, []⟩, ⟨6, 6, .w1c, 0, []⟩, ⟨5, 5, .w1c, 0, []⟩, ⟨2, 2, .ro, 0, []⟩, ⟨1, 0, .ro, 2, []⟩]⟩,
    ⟨0x800008, 1024, 4096, 1, 4, [⟨31, 31, .ro, 0, []⟩, ⟨30, 30, .ro, 0, []⟩, ⟨29, 29, .ro, 0, []⟩, ⟨28, 26, .ro, 0, []⟩, ⟨25, 25, .ro, 0, []⟩, ⟨24, 24, .rw, 0, []⟩, ⟨23, 22, .ro, 0, []⟩, ⟨21, 20, .ro, 0, []⟩, ⟨19, 19, .ro, 0, []⟩, ⟨15, 8, .rw, 0, []⟩]⟩,
    ⟨0x800010, 1024, 4096, 4, 4, [⟨15, 0, .rw, 0, []⟩]⟩,
    ⟨0x800020, 1024, 4096, 2, 16, [⟨28, 16, .rw, 0, []⟩, ⟨12, 0, .rw, 0, []⟩]⟩,
    ⟨0x800024, 1024, 4096, 2, 16, [⟨31, 30, .rw, 0, []⟩, ⟨28, 16, .rw, 1, []⟩, ⟨13, 0, .rw, 8192, [(1, 8192)]⟩]⟩,
    ⟨0x800038, 1024, 4096, 1, 4, [⟨10, 0, .rw, 0, []⟩]⟩,
    ⟨0x80003c, 1024, 4096, 1, 4, [⟨20, 16, .ro, 17, []⟩, ⟨9, 8, .rw, 0, []⟩, ⟨7, 0, .rw, 0, []⟩]⟩,
    ⟨0x800040, 1024, 4096, 1, 4, [⟨15, 0, .ro, 0, []⟩]⟩,
    ⟨0x800044, 1024, 4096, 1, 4, [⟨15, 0, .wo, 0, []⟩]⟩,
    ⟨0x800048, 1024, 4096, 1, 4, [⟨31, 0, .ro, 0, []⟩]⟩
  ]
  ++ [
    ⟨0x80004c, 1024, 4096, 1, 4, [⟨31, 0, .ro, 0, []⟩]⟩,
    ⟨0xc00000, 32, 4, 1, 4, [⟨31, 0, .w1c, 0, []⟩]⟩,
    ⟨0xc00080, 32, 4, 1, 4, [⟨31, 0, .w1c, 0, []⟩]⟩,
    ⟨0xc00100, 1, 4, 1, 4, [⟨1, 1, .ro, 0, []⟩, ⟨0, 0, .ro, 0, []⟩]⟩,
    ⟨0x800800, 1024, 4096, 256, 4, [⟨31, 0, .rw, 0, []⟩]⟩
  ]

/-- Registers of unit kind `noc` (R190, R191). -/
def regsNoc : List RegD :=
  [
    ⟨0x0, 1, 4, 1, 4, [⟨15, 12, .rw, 2, []⟩, ⟨11, 8, .rw, 1, []⟩, ⟨0, 0, .rw, 1, []⟩]⟩,
    ⟨0x4, 1, 4, 1, 4, [⟨2, 2, .w1c, 0, []⟩, ⟨1, 1, .w1c, 0, []⟩, ⟨0, 0, .w1c, 0, []⟩]⟩,
    ⟨0x8, 1, 4, 1, 4, [⟨31, 0, .ro, 0, []⟩]⟩,
    ⟨0xc, 1, 4, 1, 4, [⟨31, 0, .ro, 0, []⟩]⟩,
    ⟨0x10, 1, 4, 1, 4, [⟨31, 0, .ro, 0, []⟩]⟩,
    ⟨0x14, 1, 4, 1, 4, [⟨31, 0, .ro, 0, []⟩]⟩,
    ⟨0x20, 4, 4, 1, 4, [⟨31, 0, .ro, 0, []⟩]⟩,
    ⟨0x1000, 16, 256, 1, 4, [⟨31, 0, .rw, 2000000, [(128000, 4294967295)]⟩]⟩,
    ⟨0x1004, 16, 256, 1, 4, [⟨8, 0, .rw, 256, [(1, 256)]⟩]⟩,
    ⟨0x1008, 16, 256, 1, 4, [⟨8, 0, .ro, 0, []⟩]⟩,
    ⟨0x100c, 16, 256, 1, 4, [⟨31, 0, .ro, 0, []⟩]⟩,
    ⟨0x1010, 16, 256, 1, 4, [⟨31, 0, .ro, 0, []⟩]⟩,
    ⟨0x1014, 16, 256, 1, 4, [⟨3, 3, .w1c, 0, []⟩, ⟨2, 2, .w1c, 0, []⟩, ⟨1, 1, .w1c, 0, []⟩, ⟨0, 0, .w1c, 0, []⟩]⟩
  ]

/-- The registers of a unit kind. -/
def unitRegs : UnitKind → List RegD
  | .mgt => regsMgt
  | .clk => regsClk
  | .err => regsErr
  | .bud => regsBud
  | .cfg => regsCfg
  | .scb => regsScb
  | .cns => regsCns
  | .ddr => regsDdr
  | .ipe => regsIpe
  | .dsp => regsDsp
  | .evt => regsEvt
  | .dbg => regsDbg
  | .prb => regsPrb
  | .pci => regsPci
  | .lnk => regsLnk
  | .lane => regsLane
  | .pin => regsPin
  | .ao => regsAo
  | .can => regsCan
  | .die => regsDie
  | .noc => regsNoc
  | .core => []
  | .none => []

namespace F

/-- MGT_MODE.PREV (R457). -/
def mgtModePrev : Fld := ⟨0x10000, 0, 0, 6, 4⟩
/-- MGT_MODE.MODE (R457). -/
def mgtModeMode : Fld := ⟨0x10000, 0, 0, 2, 0⟩
/-- MGT_MODE_CMD.OP (R457). -/
def mgtModeCmdOp : Fld := ⟨0x10004, 0, 0, 31, 28⟩
/-- MGT_MODE_STATUS.CAUSE (R457). -/
def mgtModeStatusCause : Fld := ⟨0x10008, 0, 0, 31, 28⟩
/-- MGT_MODE_STATUS.RESUMABLE (R457). -/
def mgtModeStatusResumable : Fld := ⟨0x10008, 0, 0, 2, 2⟩
/-- MGT_MODE_STATUS.REFUSED (R457). -/
def mgtModeStatusRefused : Fld := ⟨0x10008, 0, 0, 1, 1⟩
/-- MGT_MODE_STATUS.CONTAINED (R457). -/
def mgtModeStatusContained : Fld := ⟨0x10008, 0, 0, 0, 0⟩
/-- MGT_RESET_CAUSE.SUPPLY_TMO (R457). -/
def mgtResetCauseSupplyTmo : Fld := ⟨0x1000c, 0, 0, 8, 8⟩
/-- MGT_RESET_CAUSE.MGTLOOP (R457). -/
def mgtResetCauseMgtloop : Fld := ⟨0x1000c, 0, 0, 7, 7⟩
/-- MGT_RESET_CAUSE.MGT_WDOG (R457). -/
def mgtResetCauseMgtWdog : Fld := ⟨0x1000c, 0, 0, 6, 6⟩
/-- MGT_RESET_CAUSE.MGT_CMD (R457). -/
def mgtResetCauseMgtCmd : Fld := ⟨0x1000c, 0, 0, 5, 5⟩
/-- MGT_RESET_CAUSE.SYS_CMD (R457). -/
def mgtResetCauseSysCmd : Fld := ⟨0x1000c, 0, 0, 4, 4⟩
/-- MGT_RESET_CAUSE.SERVICE_EXIT (R457). -/
def mgtResetCauseServiceExit : Fld := ⟨0x1000c, 0, 0, 3, 3⟩
/-- MGT_RESET_CAUSE.DORMANT_EXIT (R457). -/
def mgtResetCauseDormantExit : Fld := ⟨0x1000c, 0, 0, 2, 2⟩
/-- MGT_RESET_CAUSE.PIN (R457). -/
def mgtResetCausePin : Fld := ⟨0x1000c, 0, 0, 1, 1⟩
/-- MGT_RESET_CAUSE.POR (R457). -/
def mgtResetCausePor : Fld := ⟨0x1000c, 0, 0, 0, 0⟩
/-- MGT_STRAP.NODE_ID (R457). -/
def mgtStrapNodeId : Fld := ⟨0x10014, 0, 0, 14, 8⟩
/-- MGT_STRAP.HOLD_PULL (R457). -/
def mgtStrapHoldPull : Fld := ⟨0x10014, 0, 0, 5, 4⟩
/-- MGT_STRAP.BOOTSRC (R457). -/
def mgtStrapBootsrc : Fld := ⟨0x10014, 0, 0, 2, 0⟩
/-- MGT_BOOT.PHASE (R457). -/
def mgtBootPhase : Fld := ⟨0x10018, 0, 0, 31, 28⟩
/-- MGT_BOOT.AUTOFLIP (R457). -/
def mgtBootAutoflip : Fld := ⟨0x10018, 0, 0, 7, 7⟩
/-- MGT_BOOT.STRAP_ERR (R457). -/
def mgtBootStrapErr : Fld := ⟨0x10018, 0, 0, 3, 3⟩
/-- MGT_BOOT.SELFTEST_FAIL (R457). -/
def mgtBootSelftestFail : Fld := ⟨0x10018, 0, 0, 2, 2⟩
/-- MGT_BOOT.FW_FAIL (R457). -/
def mgtBootFwFail : Fld := ⟨0x10018, 0, 0, 1, 1⟩
/-- MGT_BOOT.AUTOLOAD (R457). -/
def mgtBootAutoload : Fld := ⟨0x10018, 0, 0, 0, 0⟩
/-- MGT_SUPPLY.VCCIO_S (R457). -/
def mgtSupplyVccioS : Fld := ⟨0x1001c, 0, 0, 12, 8⟩
/-- MGT_SUPPLY.CORE (R457). -/
def mgtSupplyCore : Fld := ⟨0x1001c, 0, 0, 6, 0⟩
/-- MGT_FW_VERSION_LO.VERSION (R457). -/
def mgtFwVersionLoVersion : Fld := ⟨0x10020, 0, 0, 31, 0⟩
/-- MGT_FW_VERSION_HI.VERSION (R457). -/
def mgtFwVersionHiVersion : Fld := ⟨0x10024, 0, 0, 31, 0⟩
/-- MGT_THERM.CRIT (R457). -/
def mgtThermCrit : Fld := ⟨0x10028, 0, 0, 7, 0⟩
/-- MGT_SUPPLY_IO.VCCIO_U (R457). -/
def mgtSupplyIoVccioU : Fld := ⟨0x1002c, 0, 0, 23, 0⟩
/-- MGT_WAKE_EN.SRC (R457). -/
def mgtWakeEnSrc : Fld := ⟨0x10030, 0, 0, 4, 0⟩
/-- MGT_WAKE_TMR.LF_CYCLES (R457). -/
def mgtWakeTmrLfCycles : Fld := ⟨0x10034, 0, 0, 31, 0⟩
/-- MGT_WAKE_SRC.SRC (R457). -/
def mgtWakeSrcSrc : Fld := ⟨0x10038, 0, 0, 4, 0⟩
/-- MGT_DROWSE_PP.FABRIC (R457). -/
def mgtDrowsePpFabric : Fld := ⟨0x1003c, 0, 0, 8, 6⟩
/-- MGT_DROWSE_PP.CORE (R457). -/
def mgtDrowsePpCore : Fld := ⟨0x1003c, 0, 0, 5, 3⟩
/-- MGT_DROWSE_PP.PLATE (R457). -/
def mgtDrowsePpPlate : Fld := ⟨0x1003c, 0, 0, 2, 0⟩
/-- MGT_DROWSE_KEEP.DOMAINS (R457). -/
def mgtDrowseKeepDomains : Fld := ⟨0x10040, 4, 0, 31, 0⟩
/-- MGT_DROWSE_OFF.REGIONS (R457). -/
def mgtDrowseOffRegions : Fld := ⟨0x10060, 4, 0, 31, 0⟩
/-- MGT_PRES_STATUS.SEAL_INTACT (R484). -/
def mgtPresStatusSealIntact : Fld := ⟨0x20000, 0, 0, 31, 31⟩
/-- MGT_PRES_STATUS.SEAL_BROKEN (R484). -/
def mgtPresStatusSealBroken : Fld := ⟨0x20000, 0, 0, 30, 30⟩
/-- MGT_PRES_STATUS.SEAL_EVENTS (R484). -/
def mgtPresStatusSealEvents : Fld := ⟨0x20000, 0, 0, 29, 24⟩
/-- MGT_PRES_STATUS.PRESENT (R484). -/
def mgtPresStatusPresent : Fld := ⟨0x20000, 0, 0, 23, 23⟩
/-- MGT_PRES_STATUS.HELD (R484). -/
def mgtPresStatusHeld : Fld := ⟨0x20000, 0, 0, 22, 22⟩
/-- MGT_PRES_STATUS.WINDOW_S (R484). -/
def mgtPresStatusWindowS : Fld := ⟨0x20000, 0, 0, 6, 0⟩
/-- MGT_MEAS_VAL.DATA (R490). -/
def mgtMeasValData : Fld := ⟨0x20020, 4, 0, 31, 0⟩
/-- MGT_MEAS_CMD.REFUSED (R490). -/
def mgtMeasCmdRefused : Fld := ⟨0x20010, 0, 0, 30, 30⟩
/-- MGT_CORE_RUN.RUN (R530). -/
def mgtCoreRunRun : Fld := ⟨0x30000, 0, 0, 31, 0⟩
/-- MGT_CORE_VEC_LO.VEC (R530). -/
def mgtCoreVecLoVec : Fld := ⟨0x30004, 0, 0, 31, 0⟩
/-- MGT_CORE_VEC_HI.VEC (R530). -/
def mgtCoreVecHiVec : Fld := ⟨0x30008, 0, 0, 31, 0⟩
/-- MGT_WDOG_CTRL.EN (R530). -/
def mgtWdogCtrlEn : Fld := ⟨0x30010, 0, 0, 31, 31⟩
/-- MGT_WDOG_CTRL.HALT_FREEZE (R530). -/
def mgtWdogCtrlHaltFreeze : Fld := ⟨0x30010, 0, 0, 0, 0⟩
/-- MGT_WDOG_RELOAD.LF_CYCLES (R530). -/
def mgtWdogReloadLfCycles : Fld := ⟨0x30014, 0, 0, 31, 0⟩
/-- MGT_WDOG_COUNT.COUNT (R530). -/
def mgtWdogCountCount : Fld := ⟨0x3001c, 0, 0, 31, 0⟩
/-- CLK_OSC_CTRL.TRIM_PORT (R417). -/
def clkOscCtrlTrimPort : Fld := ⟨0x0, 0, 0, 23, 20⟩
/-- CLK_OSC_CTRL.TRIM_STEP (R417). -/
def clkOscCtrlTrimStep : Fld := ⟨0x0, 0, 0, 19, 16⟩
/-- CLK_OSC_CTRL.TRIM_SRC (R417). -/
def clkOscCtrlTrimSrc : Fld := ⟨0x0, 0, 0, 11, 10⟩
/-- CLK_OSC_CTRL.XTAL_USE (R417). -/
def clkOscCtrlXtalUse : Fld := ⟨0x0, 0, 0, 2, 2⟩
/-- CLK_OSC_CTRL.HF_SLEEP (R417). -/
def clkOscCtrlHfSleep : Fld := ⟨0x0, 0, 0, 1, 1⟩
/-- CLK_OSC_CTRL.MON_EN (R417). -/
def clkOscCtrlMonEn : Fld := ⟨0x0, 0, 0, 0, 0⟩
/-- CLK_OSC_STATUS.DEPTH (R417). -/
def clkOscStatusDepth : Fld := ⟨0x4, 0, 0, 31, 28⟩
/-- CLK_OSC_STATUS.QUAL (R417). -/
def clkOscStatusQual : Fld := ⟨0x4, 0, 0, 27, 26⟩
/-- CLK_OSC_STATUS.HFFAIL (R417). -/
def clkOscStatusHffail : Fld := ⟨0x4, 0, 0, 7, 7⟩
/-- CLK_OSC_STATUS.FBFAIL (R417). -/
def clkOscStatusFbfail : Fld := ⟨0x4, 0, 0, 6, 6⟩
/-- CLK_OSC_STATUS.TRIP (R417). -/
def clkOscStatusTrip : Fld := ⟨0x4, 0, 0, 5, 5⟩
/-- CLK_OSC_STATUS.LOCKED (R417). -/
def clkOscStatusLocked : Fld := ⟨0x4, 0, 0, 4, 4⟩
/-- CLK_OSC_STATUS.HF_RUN (R417). -/
def clkOscStatusHfRun : Fld := ⟨0x4, 0, 0, 3, 3⟩
/-- CLK_OSC_STATUS.XTAL_QUAL (R417). -/
def clkOscStatusXtalQual : Fld := ⟨0x4, 0, 0, 2, 2⟩
/-- CLK_OSC_STATUS.SREF (R417). -/
def clkOscStatusSref : Fld := ⟨0x4, 0, 0, 1, 0⟩
/-- CLK_HF_TRIM.ERR (R417). -/
def clkHfTrimErr : Fld := ⟨0x8, 0, 0, 31, 16⟩
/-- CLK_HF_TRIM.CODE (R417). -/
def clkHfTrimCode : Fld := ⟨0x8, 0, 0, 13, 0⟩
/-- CLK_TRIM_CNT.DISCARD (R417). -/
def clkTrimCntDiscard : Fld := ⟨0xc, 0, 0, 31, 16⟩
/-- CLK_TRIM_CNT.UPDATES (R417). -/
def clkTrimCntUpdates : Fld := ⟨0xc, 0, 0, 15, 0⟩
/-- CLK_MON.TOL (R417). -/
def clkMonTol : Fld := ⟨0x10, 0, 0, 7, 0⟩
/-- CLK_IDLE.CYCLES (R417). -/
def clkIdleCycles : Fld := ⟨0x14, 0, 0, 31, 0⟩
/-- CLK_DENY.VALID (R417). -/
def clkDenyValid : Fld := ⟨0x18, 0, 0, 31, 31⟩
/-- CLK_DENY.DOMAIN (R417). -/
def clkDenyDomain : Fld := ⟨0x18, 0, 0, 7, 0⟩
/-- CLK_DENY_CNT.COUNT (R417). -/
def clkDenyCntCount : Fld := ⟨0x1c, 0, 0, 31, 0⟩
/-- CLK_PLL_IDLE.US (R417). -/
def clkPllIdleUs : Fld := ⟨0x20, 0, 0, 15, 0⟩
/-- CLK_VF_CTRL.PMB_ADDR (R418). -/
def clkVfCtrlPmbAddr : Fld := ⟨0x40, 16, 0, 22, 16⟩
/-- CLK_VF_CTRL.TARGET (R418). -/
def clkVfCtrlTarget : Fld := ⟨0x40, 16, 0, 2, 0⟩
/-- CLK_VF_STATUS.BUSY (R418). -/
def clkVfStatusBusy : Fld := ⟨0x44, 16, 0, 31, 31⟩
/-- CLK_VF_STATUS.FAIL (R418). -/
def clkVfStatusFail : Fld := ⟨0x44, 16, 0, 30, 30⟩
/-- CLK_VF_STATUS.REFUSED (R418). -/
def clkVfStatusRefused : Fld := ⟨0x44, 16, 0, 29, 29⟩
/-- CLK_VF_STATUS.VFAIL (R418). -/
def clkVfStatusVfail : Fld := ⟨0x44, 16, 0, 28, 28⟩
/-- CLK_VF_STATUS.CUR (R418). -/
def clkVfStatusCur : Fld := ⟨0x44, 16, 0, 2, 0⟩
/-- CLK_AVS.MV (R418). -/
def clkAvsMv : Fld := ⟨0x600, 32, 4, 9, 0⟩
/-- CLK_PLL_CFG.EN (R419). -/
def clkPllCfgEn : Fld := ⟨0x100, 16, 0, 31, 31⟩
/-- CLK_PLL_CFG.LOCK (R419). -/
def clkPllCfgLock : Fld := ⟨0x100, 16, 0, 30, 30⟩
/-- CLK_PLL_CFG.REFDIV (R419). -/
def clkPllCfgRefdiv : Fld := ⟨0x100, 16, 0, 29, 27⟩
/-- CLK_PLL_CFG.FBDIV (R419). -/
def clkPllCfgFbdiv : Fld := ⟨0x100, 16, 0, 26, 16⟩
/-- CLK_PLL_CFG.FRAC (R419). -/
def clkPllCfgFrac : Fld := ⟨0x100, 16, 0, 15, 0⟩
/-- CLK_PLL_OUT.STANDBY (R419). -/
def clkPllOutStandby : Fld := ⟨0x104, 16, 0, 31, 31⟩
/-- CLK_PLL_OUT.ODIV1 (R419). -/
def clkPllOutOdiv1 : Fld := ⟨0x104, 16, 0, 21, 16⟩
/-- CLK_PLL_OUT.ODIV0 (R419). -/
def clkPllOutOdiv0 : Fld := ⟨0x104, 16, 0, 5, 0⟩
/-- CLK_DOM.STATE (R420). -/
def clkDomState : Fld := ⟨0x800, 4, 0, 23, 21⟩
/-- CLK_DOM.DENIED (R420). -/
def clkDomDenied : Fld := ⟨0x800, 4, 0, 17, 17⟩
/-- CLK_DOM.AUTO (R420). -/
def clkDomAuto : Fld := ⟨0x800, 4, 0, 16, 16⟩
/-- CLK_DOM.REQ (R420). -/
def clkDomReq : Fld := ⟨0x800, 4, 0, 1, 0⟩
/-- CLK_REGION_STAT.BADREC (R420). -/
def clkRegionStatBadrec : Fld := ⟨0xc00, 4, 0, 8, 8⟩
/-- MGT_ERR_CTRL.FWD_EN (R497). -/
def mgtErrCtrlFwdEn : Fld := ⟨0x0, 0, 0, 31, 31⟩
/-- MGT_ERR_CTRL.FWD_PORT (R497). -/
def mgtErrCtrlFwdPort : Fld := ⟨0x0, 0, 0, 30, 27⟩
/-- MGT_ERR_WINDOW.US (R497). -/
def mgtErrWindowUs : Fld := ⟨0x4, 0, 0, 19, 0⟩
/-- MGT_ERR_FWD.HOPLIM (R497). -/
def mgtErrFwdHoplim : Fld := ⟨0x8, 0, 0, 23, 16⟩
/-- MGT_ERR_FWD.LABEL (R497). -/
def mgtErrFwdLabel : Fld := ⟨0x8, 0, 0, 15, 0⟩
/-- MGT_ERR_STATUS.OVF (R497). -/
def mgtErrStatusOvf : Fld := ⟨0xc, 0, 0, 2, 2⟩
/-- MGT_ERR_STATUS.PEND (R497). -/
def mgtErrStatusPend : Fld := ⟨0xc, 0, 0, 0, 0⟩
/-- MGT_ERR_QNUM.NUM (R497). -/
def mgtErrQnumNum : Fld := ⟨0x10, 0, 0, 6, 0⟩
/-- MGT_ERR_ENTRIES.NUM (R497). -/
def mgtErrEntriesNum : Fld := ⟨0x14, 0, 0, 9, 0⟩
/-- MGT_ERR_TOTAL.COUNT (R497). -/
def mgtErrTotalCount : Fld := ⟨0x18, 0, 0, 31, 0⟩
/-- MGT_ERR_OVF_CNT.COUNT (R497). -/
def mgtErrOvfCntCount : Fld := ⟨0x1c, 0, 0, 31, 0⟩
/-- MGT_DICT_DROP.COUNT (R497). -/
def mgtDictDropCount : Fld := ⟨0x20, 0, 0, 31, 0⟩
/-- BUD_CTRL.FRET_NS (R430). -/
def budCtrlFretNs : Fld := ⟨0x0, 0, 0, 15, 0⟩
/-- BUD_STATUS.STARVED (R430). -/
def budStatusStarved : Fld := ⟨0x4, 0, 0, 9, 0⟩
/-- BUD_FRETS.COUNT (R430). -/
def budFretsCount : Fld := ⟨0x8, 0, 0, 31, 0⟩
/-- BUD_STARVE.FRETS (R430). -/
def budStarveFrets : Fld := ⟨0xc, 0, 0, 7, 0⟩
/-- BUD_CAP.UNITS (R430). -/
def budCapUnits : Fld := ⟨0x100, 32, 0, 31, 0⟩
/-- BUD_FLOOR.UNITS (R430). -/
def budFloorUnits : Fld := ⟨0x104, 32, 0, 31, 0⟩
/-- BUD_SEL.INST (R430). -/
def budSelInst : Fld := ⟨0x108, 32, 0, 2, 0⟩
/-- CFG_CTRL.EXT_CMD (R277). -/
def cfgCtrlExtCmd : Fld := ⟨0x0, 0, 0, 0, 0⟩
/-- CFG_CMD.OP (R277). -/
def cfgCmdOp : Fld := ⟨0x4, 0, 0, 31, 28⟩
/-- CFG_STATUS.PHASE (R277). -/
def cfgStatusPhase : Fld := ⟨0x8, 0, 0, 31, 28⟩
/-- CFG_STATUS.FAIL_CODE (R277). -/
def cfgStatusFailCode : Fld := ⟨0x8, 0, 0, 27, 24⟩
/-- CFG_STATUS.INIT_SKIPPED (R277). -/
def cfgStatusInitSkipped : Fld := ⟨0x8, 0, 0, 7, 7⟩
/-- CFG_STATUS.INIT_FAULT (R277). -/
def cfgStatusInitFault : Fld := ⟨0x8, 0, 0, 6, 6⟩
/-- CFG_STATUS.REFUSED (R277). -/
def cfgStatusRefused : Fld := ⟨0x8, 0, 0, 5, 5⟩
/-- CFG_STATUS.FLIPPED (R277). -/
def cfgStatusFlipped : Fld := ⟨0x8, 0, 0, 4, 4⟩
/-- CFG_STATUS.VERIFIED (R277). -/
def cfgStatusVerified : Fld := ⟨0x8, 0, 0, 3, 3⟩
/-- CFG_STATUS.FAILED (R277). -/
def cfgStatusFailed : Fld := ⟨0x8, 0, 0, 2, 2⟩
/-- CFG_STATUS.RELEASING (R277). -/
def cfgStatusReleasing : Fld := ⟨0x8, 0, 0, 1, 1⟩
/-- CFG_STATUS.BUSY (R277). -/
def cfgStatusBusy : Fld := ⟨0x8, 0, 0, 0, 0⟩
/-- CFG_FAIL_INFO.INFO (R277). -/
def cfgFailInfoInfo : Fld := ⟨0xc, 0, 0, 31, 0⟩
/-- CFG_FLIP_MASK.REGIONS (R277). -/
def cfgFlipMaskRegions : Fld := ⟨0x10, 4, 0, 31, 0⟩
/-- CFG_RELEASE_GAP.CYCLES (R277). -/
def cfgReleaseGapCycles : Fld := ⟨0x20, 0, 0, 15, 0⟩
/-- CFG_XSPI_BASE.ADDR (R277). -/
def cfgXspiBaseAddr : Fld := ⟨0x24, 0, 0, 31, 0⟩
/-- CFG_XSPI_CFG.RD_OPC (R277). -/
def cfgXspiCfgRdOpc : Fld := ⟨0x28, 0, 0, 31, 24⟩
/-- CFG_XSPI_CFG.DUMMY (R277). -/
def cfgXspiCfgDummy : Fld := ⟨0x28, 0, 0, 23, 16⟩
/-- CFG_XSPI_CFG.PORTS (R277). -/
def cfgXspiCfgPorts : Fld := ⟨0x28, 0, 0, 1, 0⟩
/-- CFG_SVN.COUNTER (R277). -/
def cfgSvnCounter : Fld := ⟨0x2c, 0, 0, 6, 0⟩
/-- CFG_STAGE_BASE_LO.BASE (R277). -/
def cfgStageBaseLoBase : Fld := ⟨0x30, 8, 0, 31, 0⟩
/-- CFG_STAGE_BASE_HI.BASE (R277). -/
def cfgStageBaseHiBase : Fld := ⟨0x34, 8, 0, 23, 0⟩
/-- CFG_STAGE_SIZE.MIB (R277). -/
def cfgStageSizeMib : Fld := ⟨0x40, 4, 0, 31, 0⟩
/-- CFG_STAGE_NEED.BYTES (R277). -/
def cfgStageNeedBytes : Fld := ⟨0x48, 0, 0, 31, 0⟩
/-- CFG_LOAD_SEQ.SEQ (R277). -/
def cfgLoadSeqSeq : Fld := ⟨0x4c, 0, 0, 31, 0⟩
/-- CFG_STREAM_POS_LO.POS (R277). -/
def cfgStreamPosLoPos : Fld := ⟨0x50, 0, 0, 31, 0⟩
/-- CFG_STREAM_POS_HI.POS (R277). -/
def cfgStreamPosHiPos : Fld := ⟨0x54, 0, 0, 31, 0⟩
/-- CFG_REGION.STAGE (R278). -/
def cfgRegionStage : Fld := ⟨0x400, 4, 0, 13, 12⟩
/-- CFG_REGION.ACT (R278). -/
def cfgRegionAct : Fld := ⟨0x400, 4, 0, 9, 8⟩
/-- CFG_REGION.PLANE1 (R278). -/
def cfgRegionPlane1 : Fld := ⟨0x400, 4, 0, 6, 4⟩
/-- CFG_REGION.PLANE0 (R278). -/
def cfgRegionPlane0 : Fld := ⟨0x400, 4, 0, 2, 0⟩
/-- CFG_PLANE.SVN (R279). -/
def cfgPlaneSvn : Fld := ⟨0x800, 8, 4, 31, 25⟩
/-- CFG_SL_PORT.EN (R311). -/
def cfgSlPortEn : Fld := ⟨0x60, 0, 0, 31, 31⟩
/-- CFG_SL_PORT.PORT (R311). -/
def cfgSlPortPort : Fld := ⟨0x60, 0, 0, 6, 0⟩
/-- CFG_SL_GRANT.REGIONS (R311). -/
def cfgSlGrantRegions : Fld := ⟨0x64, 4, 0, 31, 0⟩
/-- SCB_CTRL.XSPI_TRY (R309). -/
def scbCtrlXspiTry : Fld := ⟨0x0, 0, 0, 2, 2⟩
/-- SCB_CTRL.ZERO_TRY (R309). -/
def scbCtrlZeroTry : Fld := ⟨0x0, 0, 0, 1, 1⟩
/-- SCB_CTRL.EN (R309). -/
def scbCtrlEn : Fld := ⟨0x0, 0, 0, 0, 0⟩
/-- SCB_STATUS.TMR (R309). -/
def scbStatusTmr : Fld := ⟨0x4, 0, 0, 5, 5⟩
/-- SCB_STATUS.UNANCHORED (R309). -/
def scbStatusUnanchored : Fld := ⟨0x4, 0, 0, 4, 4⟩
/-- SCB_STATUS.TABLE (R309). -/
def scbStatusTable : Fld := ⟨0x4, 0, 0, 3, 3⟩
/-- SCB_STATUS.UNREPAIRED (R309). -/
def scbStatusUnrepaired : Fld := ⟨0x4, 0, 0, 2, 2⟩
/-- SCB_STATUS.CORRECTED (R309). -/
def scbStatusCorrected : Fld := ⟨0x4, 0, 0, 1, 1⟩
/-- SCB_STATUS.LAP_DONE (R309). -/
def scbStatusLapDone : Fld := ⟨0x4, 0, 0, 0, 0⟩
/-- SCB_LAP_TIME.LAP_US (R309). -/
def scbLapTimeLapUs : Fld := ⟨0x8, 0, 0, 31, 0⟩
/-- SCB_LAPS.COUNT (R309). -/
def scbLapsCount : Fld := ⟨0xc, 0, 0, 31, 0⟩
/-- SCB_CORR_CNT.COUNT (R309). -/
def scbCorrCntCount : Fld := ⟨0x10, 0, 0, 31, 0⟩
/-- SCB_UNREP_CNT.COUNT (R309). -/
def scbUnrepCntCount : Fld := ⟨0x14, 0, 0, 31, 0⟩
/-- SCB_TABLE_CNT.COUNT (R309). -/
def scbTableCntCount : Fld := ⟨0x18, 0, 0, 31, 0⟩
/-- SCB_TMR_CNT.COUNT (R309). -/
def scbTmrCntCount : Fld := ⟨0x1c, 0, 0, 31, 0⟩
/-- SCB_FALSE_CNT.COUNT (R309). -/
def scbFalseCntCount : Fld := ⟨0x20, 0, 0, 31, 0⟩
/-- SCB_UNANCH_CNT.COUNT (R309). -/
def scbUnanchCntCount : Fld := ⟨0x24, 0, 0, 31, 0⟩
/-- SCB_ERR_FAR.FAR (R309). -/
def scbErrFarFar : Fld := ⟨0x28, 0, 0, 31, 0⟩
/-- SCB_ERR_INFO.VALID (R309). -/
def scbErrInfoValid : Fld := ⟨0x2c, 0, 0, 31, 31⟩
/-- SCB_REGION_EN.REGIONS (R309). -/
def scbRegionEnRegions : Fld := ⟨0x30, 4, 0, 31, 0⟩
/-- SCB_REPAIR_LO.BASE (R309). -/
def scbRepairLoBase : Fld := ⟨0x40, 16, 0, 31, 0⟩
/-- SCB_REPAIR_HI.BASE (R309). -/
def scbRepairHiBase : Fld := ⟨0x44, 16, 0, 23, 0⟩
/-- SCB_REPAIR_SIZE.UNITS (R309). -/
def scbRepairSizeUnits : Fld := ⟨0x48, 16, 0, 31, 0⟩
/-- CNS_CTRL.PERIOD (R310). -/
def cnsCtrlPeriod : Fld := ⟨0x0, 0, 0, 31, 16⟩
/-- CNS_CTRL.AUTO (R310). -/
def cnsCtrlAuto : Fld := ⟨0x0, 0, 0, 3, 3⟩
/-- CNS_CTRL.REF_SRC (R310). -/
def cnsCtrlRefSrc : Fld := ⟨0x0, 0, 0, 2, 2⟩
/-- CNS_CTRL.ROOT (R310). -/
def cnsCtrlRoot : Fld := ⟨0x0, 0, 0, 1, 1⟩
/-- CNS_CTRL.EN (R310). -/
def cnsCtrlEn : Fld := ⟨0x0, 0, 0, 0, 0⟩
/-- CNS_CMD.DIGEST_NOW (R310). -/
def cnsCmdDigestNow : Fld := ⟨0x4, 0, 0, 1, 1⟩
/-- CNS_SYSID.SYSID (R310). -/
def cnsSysidSysid : Fld := ⟨0x8, 0, 0, 15, 0⟩
/-- CNS_WAIT.US (R310). -/
def cnsWaitUs : Fld := ⟨0xc, 0, 0, 31, 0⟩
/-- CNS_SCOPE.REGIONS (R310). -/
def cnsScopeRegions : Fld := ⟨0x10, 4, 0, 31, 0⟩
/-- CNS_STATUS.PHASE (R310). -/
def cnsStatusPhase : Fld := ⟨0x20, 0, 0, 31, 30⟩
/-- CNS_STATUS.INVALID (R310). -/
def cnsStatusInvalid : Fld := ⟨0x20, 0, 0, 4, 4⟩
/-- CNS_STATUS.SHORT (R310). -/
def cnsStatusShort : Fld := ⟨0x20, 0, 0, 3, 3⟩
/-- CNS_STATUS.DISSENT (R310). -/
def cnsStatusDissent : Fld := ⟨0x20, 0, 0, 2, 2⟩
/-- CNS_STATUS.ROUND_DONE (R310). -/
def cnsStatusRoundDone : Fld := ⟨0x20, 0, 0, 1, 1⟩
/-- CNS_STATUS.CURRENT (R310). -/
def cnsStatusCurrent : Fld := ⟨0x20, 0, 0, 0, 0⟩
/-- CNS_ROUND.ROUND (R310). -/
def cnsRoundRound : Fld := ⟨0x24, 0, 0, 15, 0⟩
/-- CNS_COUNT.COUNT (R310). -/
def cnsCountCount : Fld := ⟨0x28, 0, 0, 31, 0⟩
/-- CNS_DISSENTS.COUNT (R310). -/
def cnsDissentsCount : Fld := ⟨0x2c, 0, 0, 31, 0⟩
/-- CNS_EXPECT.DEVICES (R310). -/
def cnsExpectDevices : Fld := ⟨0x30, 0, 0, 31, 0⟩
/-- CNS_MISSING.PORTS (R310). -/
def cnsMissingPorts : Fld := ⟨0x34, 0, 0, 15, 0⟩
/-- CNS_DROP_CNT.COUNT (R310). -/
def cnsDropCntCount : Fld := ⟨0x38, 0, 0, 31, 0⟩
/-- CNS_DLOG_NUM.NUM (R310). -/
def cnsDlogNumNum : Fld := ⟨0x3c, 0, 0, 4, 0⟩
/-- CNS_DIGEST.DIGEST (R310). -/
def cnsDigestDigest : Fld := ⟨0x40, 4, 0, 31, 0⟩
/-- CNS_REF.REF (R310). -/
def cnsRefRef : Fld := ⟨0x80, 4, 0, 31, 0⟩
/-- CNS_DLOG.SYSID (R310). -/
def cnsDlogSysid : Fld := ⟨0xc0, 4, 0, 31, 0⟩
/-- DDR_CTRL.WB_CE (R366). -/
def ddrCtrlWbCe : Fld := ⟨0x0, 0, 0, 3, 3⟩
/-- DDR_CTRL.LB_EN (R366). -/
def ddrCtrlLbEn : Fld := ⟨0x0, 0, 0, 2, 2⟩
/-- DDR_CTRL.PAR_EN (R366). -/
def ddrCtrlParEn : Fld := ⟨0x0, 0, 0, 1, 1⟩
/-- DDR_CTRL.RD_EN (R366). -/
def ddrCtrlRdEn : Fld := ⟨0x0, 0, 0, 0, 0⟩
/-- DDR_STATUS.STATE (R366). -/
def ddrStatusState : Fld := ⟨0x4, 0, 0, 31, 30⟩
/-- DDR_STATUS.CONTENT_LOST (R366). -/
def ddrStatusContentLost : Fld := ⟨0x4, 0, 0, 7, 7⟩
/-- DDR_STATUS.THROTTLING (R366). -/
def ddrStatusThrottling : Fld := ⟨0x4, 0, 0, 6, 6⟩
/-- DDR_STATUS.FORCED_REF (R366). -/
def ddrStatusForcedRef : Fld := ⟨0x4, 0, 0, 5, 5⟩
/-- DDR_STATUS.EXHAUSTED (R366). -/
def ddrStatusExhausted : Fld := ⟨0x4, 0, 0, 4, 4⟩
/-- DDR_STATUS.ALERT (R366). -/
def ddrStatusAlert : Fld := ⟨0x4, 0, 0, 3, 3⟩
/-- DDR_STATUS.UE (R366). -/
def ddrStatusUe : Fld := ⟨0x4, 0, 0, 2, 2⟩
/-- DDR_STATUS.CE (R366). -/
def ddrStatusCe : Fld := ⟨0x4, 0, 0, 1, 1⟩
/-- DDR_STATUS.TRAIN_FAIL (R366). -/
def ddrStatusTrainFail : Fld := ⟨0x4, 0, 0, 0, 0⟩
/-- DDR_CAP.RATE (R366). -/
def ddrCapRate : Fld := ⟨0x8, 0, 0, 31, 24⟩
/-- DDR_CAP.DEVW (R366). -/
def ddrCapDevw : Fld := ⟨0x8, 0, 0, 19, 18⟩
/-- DDR_MAP.ROWW (R366). -/
def ddrMapRoww : Fld := ⟨0xc, 0, 0, 15, 11⟩
/-- DDR_MAP.RKW (R366). -/
def ddrMapRkw : Fld := ⟨0xc, 0, 0, 10, 9⟩
/-- DDR_MAP.BAW (R366). -/
def ddrMapBaw : Fld := ⟨0xc, 0, 0, 8, 7⟩
/-- DDR_MAP.BGW (R366). -/
def ddrMapBgw : Fld := ⟨0xc, 0, 0, 6, 4⟩
/-- DDR_MAP.COLW (R366). -/
def ddrMapColw : Fld := ⟨0xc, 0, 0, 3, 0⟩
/-- DDR_SCHED.HWM (R366). -/
def ddrSchedHwm : Fld := ⟨0x10, 0, 0, 22, 16⟩
/-- DDR_SCHED.LWM (R366). -/
def ddrSchedLwm : Fld := ⟨0x10, 0, 0, 6, 0⟩
/-- DDR_AGE.WR_AGE (R366). -/
def ddrAgeWrAge : Fld := ⟨0x14, 0, 0, 15, 0⟩
/-- DDR_REF.SB (R366). -/
def ddrRefSb : Fld := ⟨0x18, 0, 0, 3, 3⟩
/-- DDR_REF.MAX_DEBT (R366). -/
def ddrRefMaxDebt : Fld := ⟨0x18, 0, 0, 2, 0⟩
/-- DDR_RD_TH.ACTS (R366). -/
def ddrRdThActs : Fld := ⟨0x1c, 0, 0, 15, 0⟩
/-- DDR_RD_THR.GAP (R366). -/
def ddrRdThrGap : Fld := ⟨0x20, 0, 0, 31, 16⟩
/-- DDR_RD_THR.DURATION (R366). -/
def ddrRdThrDuration : Fld := ⟨0x20, 0, 0, 15, 0⟩
/-- DDR_RETRAIN.INTERVAL (R366). -/
def ddrRetrainInterval : Fld := ⟨0x24, 0, 0, 31, 20⟩
/-- DDR_RETRAIN.WIN_US (R366). -/
def ddrRetrainWinUs : Fld := ⟨0x24, 0, 0, 19, 12⟩
/-- DDR_RETRAIN.DRIFT_TH (R366). -/
def ddrRetrainDriftTh : Fld := ⟨0x24, 0, 0, 11, 6⟩
/-- DDR_RETRAIN.FORCE_TH (R366). -/
def ddrRetrainForceTh : Fld := ⟨0x24, 0, 0, 5, 0⟩
/-- DDR_REPLAY.REPLAY_MAX (R366). -/
def ddrReplayReplayMax : Fld := ⟨0x28, 0, 0, 3, 0⟩
/-- DDR_CMD.OP (R366). -/
def ddrCmdOp : Fld := ⟨0x2c, 0, 0, 1, 0⟩
/-- DDR_TRD.CYCLES (R366). -/
def ddrTrdCycles : Fld := ⟨0x30, 0, 0, 15, 0⟩
/-- DDR_ERR_ADDR_LO.ADDR (R366). -/
def ddrErrAddrLoAddr : Fld := ⟨0x34, 0, 0, 31, 0⟩
/-- DDR_ERR_ADDR_HI.VALID (R366). -/
def ddrErrAddrHiValid : Fld := ⟨0x38, 0, 0, 31, 31⟩
/-- DDR_ERR_ADDR_HI.ADDR (R366). -/
def ddrErrAddrHiAddr : Fld := ⟨0x38, 0, 0, 15, 0⟩
/-- DDR_CE_CNT.COUNT (R366). -/
def ddrCeCntCount : Fld := ⟨0x40, 0, 0, 31, 0⟩
/-- DDR_UE_CNT.COUNT (R366). -/
def ddrUeCntCount : Fld := ⟨0x44, 0, 0, 31, 0⟩
/-- DDR_ALERT_CNT.COUNT (R366). -/
def ddrAlertCntCount : Fld := ⟨0x48, 0, 0, 31, 0⟩
/-- DDR_REPLAY_CNT.COUNT (R366). -/
def ddrReplayCntCount : Fld := ⟨0x4c, 0, 0, 31, 0⟩
/-- DDR_EXH_CNT.COUNT (R366). -/
def ddrExhCntCount : Fld := ⟨0x50, 0, 0, 31, 0⟩
/-- DDR_FREF_CNT.COUNT (R366). -/
def ddrFrefCntCount : Fld := ⟨0x54, 0, 0, 31, 0⟩
/-- DDR_RD_CNT.COUNT (R366). -/
def ddrRdCntCount : Fld := ⟨0x58, 0, 0, 31, 0⟩
/-- DDR_FWIN_CNT.COUNT (R366). -/
def ddrFwinCntCount : Fld := ⟨0x5c, 0, 0, 31, 0⟩
/-- DDR_THR.VALID (R366). -/
def ddrThrValid : Fld := ⟨0x80, 4, 0, 31, 31⟩
/-- DDR_THR.SRC (R366). -/
def ddrThrSrc : Fld := ⟨0x80, 4, 0, 26, 16⟩
/-- DDR_THR.LEFT (R366). -/
def ddrThrLeft : Fld := ⟨0x80, 4, 0, 15, 0⟩
/-- DDR_TP.CK (R366). -/
def ddrTpCk : Fld := ⟨0x100, 4, 0, 15, 0⟩
/-- IPE_CTRL.SPEC_EN (R342). -/
def ipeCtrlSpecEn : Fld := ⟨0x0, 0, 0, 0, 0⟩
/-- IPE_STATUS.QOVF (R342). -/
def ipeStatusQovf : Fld := ⟨0x4, 0, 0, 5, 5⟩
/-- IPE_STATUS.QUAR (R342). -/
def ipeStatusQuar : Fld := ⟨0x4, 0, 0, 4, 4⟩
/-- IPE_STATUS.POISONED (R342). -/
def ipeStatusPoisoned : Fld := ⟨0x4, 0, 0, 3, 3⟩
/-- IPE_STATUS.TRANSIENT (R342). -/
def ipeStatusTransient : Fld := ⟨0x4, 0, 0, 2, 2⟩
/-- IPE_STATUS.ALARM (R342). -/
def ipeStatusAlarm : Fld := ⟨0x4, 0, 0, 1, 1⟩
/-- IPE_STATUS.DENY (R342). -/
def ipeStatusDeny : Fld := ⟨0x4, 0, 0, 0, 0⟩
/-- IPE_ALARM_CNT.COUNT (R342). -/
def ipeAlarmCntCount : Fld := ⟨0x10, 0, 0, 31, 0⟩
/-- IPE_TRANS_CNT.COUNT (R342). -/
def ipeTransCntCount : Fld := ⟨0x14, 0, 0, 31, 0⟩
/-- IPE_POISON_CNT.COUNT (R342). -/
def ipePoisonCntCount : Fld := ⟨0x18, 0, 0, 31, 0⟩
/-- IPE_DENY_CNT.COUNT (R342). -/
def ipeDenyCntCount : Fld := ⟨0x1c, 0, 0, 31, 0⟩
/-- IPE_CC_ERR_CNT.COUNT (R342). -/
def ipeCcErrCntCount : Fld := ⟨0x20, 0, 0, 31, 0⟩
/-- IPE_REENC_CNT.COUNT (R342). -/
def ipeReencCntCount : Fld := ⟨0x24, 0, 0, 31, 0⟩
/-- IPE_ALARM0.ADDR (R342). -/
def ipeAlarm0Addr : Fld := ⟨0x44, 0, 0, 31, 0⟩
/-- IPE_ALARM1.ADDR (R342). -/
def ipeAlarm1Addr : Fld := ⟨0x48, 0, 0, 23, 0⟩
/-- IPE_ALARM2.ICLS (R342). -/
def ipeAlarm2Icls : Fld := ⟨0x4c, 0, 0, 31, 29⟩
/-- IPE_ALARM3.SRC (R342). -/
def ipeAlarm3Src : Fld := ⟨0x50, 0, 0, 10, 0⟩
/-- IPE_ALARM_POP.POP (R342). -/
def ipeAlarmPopPop : Fld := ⟨0x54, 0, 0, 0, 0⟩
/-- IPE_QUAR_NUM.NUM (R342). -/
def ipeQuarNumNum : Fld := ⟨0x60, 0, 0, 6, 0⟩
/-- IPE_QUAR_SEL.ENTRY (R342). -/
def ipeQuarSelEntry : Fld := ⟨0x64, 0, 0, 5, 0⟩
/-- IPE_META_USED.KIB (R342). -/
def ipeMetaUsedKib : Fld := ⟨0x70, 0, 0, 31, 0⟩
/-- IPE_META_BASE.GIB (R343). -/
def ipeMetaBaseGib : Fld := ⟨0x100, 0, 0, 11, 0⟩
/-- IPE_META_SIZE.GIB (R343). -/
def ipeMetaSizeGib : Fld := ⟨0x104, 0, 0, 12, 0⟩
/-- IPE_KID_CMD.OP (R343). -/
def ipeKidCmdOp : Fld := ⟨0x140, 0, 0, 31, 28⟩
/-- IPE_CMD_STAT.BUSY (R343). -/
def ipeCmdStatBusy : Fld := ⟨0x144, 0, 0, 31, 31⟩
/-- IPE_CMD_STAT.REFUSED (R343). -/
def ipeCmdStatRefused : Fld := ⟨0x144, 0, 0, 30, 30⟩
/-- IPE_CMD_STAT.REASON (R343). -/
def ipeCmdStatReason : Fld := ⟨0x144, 0, 0, 29, 27⟩
/-- IPE_CMD_STAT.KID (R343). -/
def ipeCmdStatKid : Fld := ⟨0x144, 0, 0, 7, 0⟩
/-- IPE_WRAP.DATA (R343). -/
def ipeWrapData : Fld := ⟨0x150, 4, 0, 31, 0⟩
/-- IPE_KID_CFG.STATE (R344). -/
def ipeKidCfgState : Fld := ⟨0x1000, 16, 0, 31, 29⟩
/-- IPE_KID_CFG.ICLS_OK (R344). -/
def ipeKidCfgIclsOk : Fld := ⟨0x1000, 16, 0, 23, 16⟩
/-- IPE_KID_CFG.VONLY (R344). -/
def ipeKidCfgVonly : Fld := ⟨0x1000, 16, 0, 0, 0⟩
/-- IPE_KID_BASE.GIB (R344). -/
def ipeKidBaseGib : Fld := ⟨0x1004, 16, 0, 11, 0⟩
/-- IPE_KID_SIZE.GIB (R344). -/
def ipeKidSizeGib : Fld := ⟨0x1008, 16, 0, 12, 0⟩
/-- IPE_VONLY.SRC (R345). -/
def ipeVonlySrc : Fld := ⟨0x2000, 4, 0, 31, 0⟩
/-- DSP_CTRL.EN (R243). -/
def dspCtrlEn : Fld := ⟨0x0, 0, 0, 0, 0⟩
/-- DSP_STATUS.LOST (R243). -/
def dspStatusLost : Fld := ⟨0x4, 0, 0, 4, 4⟩
/-- DSP_STATUS.DESCERR (R243). -/
def dspStatusDescerr : Fld := ⟨0x4, 0, 0, 3, 3⟩
/-- DSP_STATUS.DUP (R243). -/
def dspStatusDup : Fld := ⟨0x4, 0, 0, 2, 2⟩
/-- DSP_STATUS.MISDIR (R243). -/
def dspStatusMisdir : Fld := ⟨0x4, 0, 0, 1, 1⟩
/-- DSP_STATUS.OVF (R243). -/
def dspStatusOvf : Fld := ⟨0x4, 0, 0, 0, 0⟩
/-- DSP_HOLD.CYCLES (R243). -/
def dspHoldCycles : Fld := ⟨0x8, 0, 0, 31, 0⟩
/-- DSP_FREE.GENERAL (R243). -/
def dspFreeGeneral : Fld := ⟨0xc, 0, 0, 17, 0⟩
/-- DSP_RSV_FREE.RESERVE (R243). -/
def dspRsvFreeReserve : Fld := ⟨0x10, 0, 0, 14, 0⟩
/-- DSP_TICK_DIV.DIV (R243). -/
def dspTickDivDiv : Fld := ⟨0x14, 0, 0, 23, 0⟩
/-- DSP_NOW_LO.NOW (R243). -/
def dspNowLoNow : Fld := ⟨0x18, 0, 0, 31, 0⟩
/-- DSP_NOW_HI.NOW (R243). -/
def dspNowHiNow : Fld := ⟨0x1c, 0, 0, 15, 0⟩
/-- DSP_TOKENS.COUNT (R243). -/
def dspTokensCount : Fld := ⟨0x20, 0, 0, 31, 0⟩
/-- DSP_FIRINGS.COUNT (R243). -/
def dspFiringsCount : Fld := ⟨0x24, 0, 0, 31, 0⟩
/-- DSP_TAKES.COUNT (R243). -/
def dspTakesCount : Fld := ⟨0x28, 0, 0, 31, 0⟩
/-- DSP_BUSY_CNT.COUNT (R243). -/
def dspBusyCntCount : Fld := ⟨0x2c, 0, 0, 31, 0⟩
/-- DSP_DUP_CNT.COUNT (R243). -/
def dspDupCntCount : Fld := ⟨0x30, 0, 0, 31, 0⟩
/-- DSP_MISDIR_CNT.COUNT (R243). -/
def dspMisdirCntCount : Fld := ⟨0x34, 0, 0, 31, 0⟩
/-- DSP_LATE_CNT.COUNT (R243). -/
def dspLateCntCount : Fld := ⟨0x38, 0, 0, 31, 0⟩
/-- DSP_LOSTKEY_LO.C (R243). -/
def dspLostkeyLoC : Fld := ⟨0x40, 0, 0, 31, 8⟩
/-- DSP_LOSTKEY_LO.G (R243). -/
def dspLostkeyLoG : Fld := ⟨0x40, 0, 0, 7, 0⟩
/-- DSP_LOSTKEY_HI.N (R243). -/
def dspLostkeyHiN : Fld := ⟨0x44, 0, 0, 15, 0⟩
/-- DSP_G_BASE_LO.BASE (R244). -/
def dspGBaseLoBase : Fld := ⟨0x1000, 16, 0, 31, 4⟩
/-- DSP_G_BASE_HI.BASE (R244). -/
def dspGBaseHiBase : Fld := ⟨0x1004, 16, 0, 23, 0⟩
/-- DSP_G_CTRL.EN (R244). -/
def dspGCtrlEn : Fld := ⟨0x1008, 16, 0, 31, 31⟩
/-- DSP_G_CTRL.BUSY (R244). -/
def dspGCtrlBusy : Fld := ⟨0x1008, 16, 0, 28, 28⟩
/-- DSP_G_CTRL.ICLS_OK (R244). -/
def dspGCtrlIclsOk : Fld := ⟨0x1008, 16, 0, 27, 20⟩
/-- DSP_G_CTRL.NODES (R244). -/
def dspGCtrlNodes : Fld := ⟨0x1008, 16, 0, 16, 0⟩
/-- DSP_TP_MASK.MASK (R245). -/
def dspTpMaskMask : Fld := ⟨0x2000, 8, 0, 31, 0⟩
/-- DSP_TP_WAIT.WAIT (R245). -/
def dspTpWaitWait : Fld := ⟨0x2004, 8, 0, 31, 0⟩
/-- DSP_XP_MASK.MASK (R245). -/
def dspXpMaskMask : Fld := ⟨0x3000, 128, 16, 31, 0⟩
/-- DSP_XP_WAIT.WAIT (R245). -/
def dspXpWaitWait : Fld := ⟨0x3004, 128, 16, 31, 0⟩
/-- DSP_XP_SLICE.SLICE (R245). -/
def dspXpSliceSlice : Fld := ⟨0x3008, 128, 16, 2, 0⟩
/-- EVT_PRIO.PRIO (R531). -/
def evtPrioPrio : Fld := ⟨0x0, 4, 0, 2, 0⟩
/-- EVT_PEND.PEND (R531). -/
def evtPendPend : Fld := ⟨0x4000, 4, 0, 31, 0⟩
/-- EVT_ACTIVE.ACTIVE (R531). -/
def evtActiveActive : Fld := ⟨0x4200, 4, 0, 31, 0⟩
/-- EVT_EN.EN (R531). -/
def evtEnEn : Fld := ⟨0x10000, 512, 4, 31, 0⟩
/-- EVT_THRESH.THRESH (R531). -/
def evtThreshThresh : Fld := ⟨0x20000, 256, 0, 2, 0⟩
/-- EVT_WD_CTRL.EN (R531). -/
def evtWdCtrlEn : Fld := ⟨0x30000, 32, 0, 31, 31⟩
/-- EVT_WD_CTRL.HALT_FREEZE (R531). -/
def evtWdCtrlHaltFreeze : Fld := ⟨0x30000, 32, 0, 0, 0⟩
/-- EVT_WD_RELOAD.US (R531). -/
def evtWdReloadUs : Fld := ⟨0x30004, 32, 0, 31, 0⟩
/-- EVT_WD_COUNT.COUNT (R531). -/
def evtWdCountCount : Fld := ⟨0x3000c, 32, 0, 31, 0⟩
/-- DBG_CTRL.PEEK (R532). -/
def dbgCtrlPeek : Fld := ⟨0x0, 0, 0, 0, 0⟩
/-- DBG_LEVEL.FABRIC (R532). -/
def dbgLevelFabric : Fld := ⟨0x4, 0, 0, 3, 2⟩
/-- DBG_LEVEL.CORE (R532). -/
def dbgLevelCore : Fld := ⟨0x4, 0, 0, 1, 0⟩
/-- DBG_STATUS.SESSION (R532). -/
def dbgStatusSession : Fld := ⟨0x8, 0, 0, 2, 2⟩
/-- DBG_STATUS.STYLUS (R532). -/
def dbgStatusStylus : Fld := ⟨0x8, 0, 0, 1, 1⟩
/-- DBG_STATUS.KX_FAIL (R532). -/
def dbgStatusKxFail : Fld := ⟨0x8, 0, 0, 0, 0⟩
/-- DBG_KX_BUF.DATA (R532). -/
def dbgKxBufData : Fld := ⟨0x100, 4, 0, 31, 0⟩
/-- DBG_HCTL.EBREAK_EN (R532). -/
def dbgHctlEbreakEn : Fld := ⟨0x1000, 512, 0, 3, 3⟩
/-- DBG_HSTAT.CAUSE (R532). -/
def dbgHstatCause : Fld := ⟨0x1004, 512, 0, 31, 28⟩
/-- DBG_HSTAT.HALTED (R532). -/
def dbgHstatHalted : Fld := ⟨0x1004, 512, 0, 0, 0⟩
/-- DBG_REGDATA_LO.DATA (R532). -/
def dbgRegdataLoData : Fld := ⟨0x100c, 512, 0, 31, 0⟩
/-- DBG_REGDATA_HI.DATA (R532). -/
def dbgRegdataHiData : Fld := ⟨0x1010, 512, 0, 31, 0⟩
/-- DBG_WVAL_LO.VALUE (R532). -/
def dbgWvalLoValue : Fld := ⟨0x1080, 512, 16, 31, 0⟩
/-- DBG_WVAL_HI.VALUE (R532). -/
def dbgWvalHiValue : Fld := ⟨0x1084, 512, 16, 31, 0⟩
/-- DBG_WCFG.EN (R532). -/
def dbgWcfgEn : Fld := ⟨0x1088, 512, 16, 31, 31⟩
/-- DBG_WCFG.SIZE (R532). -/
def dbgWcfgSize : Fld := ⟨0x1088, 512, 16, 30, 29⟩
/-- DBG_WCFG.CMP (R532). -/
def dbgWcfgCmp : Fld := ⟨0x1088, 512, 16, 28, 26⟩
/-- DBG_WCFG.CMPEN (R532). -/
def dbgWcfgCmpen : Fld := ⟨0x1088, 512, 16, 25, 25⟩
/-- DBG_WCFG.ACTION (R532). -/
def dbgWcfgAction : Fld := ⟨0x1088, 512, 16, 24, 23⟩
/-- DBG_WCFG.BYTEMASK (R532). -/
def dbgWcfgBytemask : Fld := ⟨0x1088, 512, 16, 7, 0⟩
/-- DBG_BLO_LO.LO (R532). -/
def dbgBloLoLo : Fld := ⟨0x1100, 512, 32, 31, 0⟩
/-- DBG_BLO_HI.LO (R532). -/
def dbgBloHiLo : Fld := ⟨0x1104, 512, 32, 31, 0⟩
/-- DBG_BHI_LO.HI (R532). -/
def dbgBhiLoHi : Fld := ⟨0x1108, 512, 32, 31, 0⟩
/-- DBG_BHI_HI.HI (R532). -/
def dbgBhiHiHi : Fld := ⟨0x110c, 512, 32, 31, 0⟩
/-- DBG_BCFG.EN (R532). -/
def dbgBcfgEn : Fld := ⟨0x1110, 512, 32, 31, 31⟩
/-- DBG_BCFG.LINK (R532). -/
def dbgBcfgLink : Fld := ⟨0x1110, 512, 32, 30, 30⟩
/-- DBG_BCFG.ACTION (R532). -/
def dbgBcfgAction : Fld := ⟨0x1110, 512, 32, 29, 28⟩
/-- DBG_BCFG.OUT (R532). -/
def dbgBcfgOut : Fld := ⟨0x1110, 512, 32, 27, 27⟩
/-- DBG_BCFG.X (R532). -/
def dbgBcfgX : Fld := ⟨0x1110, 512, 32, 26, 26⟩
/-- DBG_BCFG.R (R532). -/
def dbgBcfgR : Fld := ⟨0x1110, 512, 32, 25, 25⟩
/-- DBG_BCFG.W (R532). -/
def dbgBcfgW : Fld := ⟨0x1110, 512, 32, 24, 24⟩
/-- DBG_BCFG.CTXEN (R532). -/
def dbgBcfgCtxen : Fld := ⟨0x1110, 512, 32, 23, 23⟩
/-- DBG_BCTX.MASK (R532). -/
def dbgBctxMask : Fld := ⟨0x1114, 512, 32, 31, 16⟩
/-- DBG_BCTX.CTXID (R532). -/
def dbgBctxCtxid : Fld := ⟨0x1114, 512, 32, 15, 0⟩
/-- PRB_PIN.EN (R533). -/
def prbPinEn : Fld := ⟨0x0, 4, 0, 31, 31⟩
/-- PRB_PIN.REGION (R533). -/
def prbPinRegion : Fld := ⟨0x0, 4, 0, 10, 4⟩
/-- PRB_PIN.OUT (R533). -/
def prbPinOut : Fld := ⟨0x0, 4, 0, 3, 0⟩
/-- PRB_CTRL.DIV (R533). -/
def prbCtrlDiv : Fld := ⟨0x800, 0, 0, 3, 0⟩
/-- PRB_CAP_BASE_LO.BASE (R533). -/
def prbCapBaseLoBase : Fld := ⟨0x808, 0, 0, 31, 0⟩
/-- PRB_CAP_BASE_HI.BASE (R533). -/
def prbCapBaseHiBase : Fld := ⟨0x80c, 0, 0, 31, 0⟩
/-- PRB_CAP_SIZE.PAGES (R533). -/
def prbCapSizePages : Fld := ⟨0x810, 0, 0, 31, 0⟩
/-- PRB_CAP_VAL_LO.VAL (R533). -/
def prbCapValLoVal : Fld := ⟨0x814, 0, 0, 31, 0⟩
/-- PRB_CAP_VAL_HI.VAL (R533). -/
def prbCapValHiVal : Fld := ⟨0x818, 0, 0, 31, 0⟩
/-- PRB_CAP_MASK_LO.MASK (R533). -/
def prbCapMaskLoMask : Fld := ⟨0x81c, 0, 0, 31, 0⟩
/-- PRB_CAP_MASK_HI.MASK (R533). -/
def prbCapMaskHiMask : Fld := ⟨0x820, 0, 0, 31, 0⟩
/-- PRB_CAP_POST.FLITS (R533). -/
def prbCapPostFlits : Fld := ⟨0x824, 0, 0, 31, 0⟩
/-- PRB_CAP_STAT.RUNNING (R533). -/
def prbCapStatRunning : Fld := ⟨0x828, 0, 0, 31, 31⟩
/-- PRB_CAP_STAT.TRIGGERED (R533). -/
def prbCapStatTriggered : Fld := ⟨0x828, 0, 0, 30, 30⟩
/-- PRB_CAP_STAT.DONE (R533). -/
def prbCapStatDone : Fld := ⟨0x828, 0, 0, 29, 29⟩
/-- PRB_CAP_PTR.OFFSET (R533). -/
def prbCapPtrOffset : Fld := ⟨0x82c, 0, 0, 31, 0⟩
/-- PRB_CAP_LOST.COUNT (R533). -/
def prbCapLostCount : Fld := ⟨0x830, 0, 0, 31, 0⟩
/-- PRB_SEL.X (R533). -/
def prbSelX : Fld := ⟨0x1000, 64, 4, 23, 16⟩
/-- PRB_SEL.Y (R533). -/
def prbSelY : Fld := ⟨0x1000, 64, 4, 14, 8⟩
/-- PRB_SEL.CELL (R533). -/
def prbSelCell : Fld := ⟨0x1000, 64, 4, 7, 4⟩
/-- PRB_SEL.Q (R533). -/
def prbSelQ : Fld := ⟨0x1000, 64, 4, 0, 0⟩
/-- PCI_CTRL.EN (R396). -/
def pciCtrlEn : Fld := ⟨0x0, 0, 0, 31, 31⟩
/-- PCI_CTRL.IN_PRI (R396). -/
def pciCtrlInPri : Fld := ⟨0x0, 0, 0, 25, 24⟩
/-- PCI_CTRL.BIFUR (R396). -/
def pciCtrlBifur : Fld := ⟨0x0, 0, 0, 16, 16⟩
/-- PCI_CTRL.MODE_B (R396). -/
def pciCtrlModeB : Fld := ⟨0x0, 0, 0, 9, 8⟩
/-- PCI_CTRL.MODE_A (R396). -/
def pciCtrlModeA : Fld := ⟨0x0, 0, 0, 1, 0⟩
/-- PCI_STATUS.UP_B (R396). -/
def pciStatusUpB : Fld := ⟨0x4, 0, 0, 31, 31⟩
/-- PCI_STATUS.SPEED_B (R396). -/
def pciStatusSpeedB : Fld := ⟨0x4, 0, 0, 30, 28⟩
/-- PCI_STATUS.WIDTH_B (R396). -/
def pciStatusWidthB : Fld := ⟨0x4, 0, 0, 27, 23⟩
/-- PCI_STATUS.UP_A (R396). -/
def pciStatusUpA : Fld := ⟨0x4, 0, 0, 15, 15⟩
/-- PCI_STATUS.SPEED_A (R396). -/
def pciStatusSpeedA : Fld := ⟨0x4, 0, 0, 14, 12⟩
/-- PCI_STATUS.WIDTH_A (R396). -/
def pciStatusWidthA : Fld := ⟨0x4, 0, 0, 11, 7⟩
/-- PCI_STATUS.LINK_DROP (R396). -/
def pciStatusLinkDrop : Fld := ⟨0x4, 0, 0, 1, 1⟩
/-- PCI_STATUS.CPL_TMO (R396). -/
def pciStatusCplTmo : Fld := ⟨0x4, 0, 0, 0, 0⟩
/-- PCI_IN_ERR_CNT.COUNT (R396). -/
def pciInErrCntCount : Fld := ⟨0x10, 0, 0, 31, 0⟩
/-- PCI_OB_ERR_CNT.COUNT (R396). -/
def pciObErrCntCount : Fld := ⟨0x14, 0, 0, 31, 0⟩
/-- PCI_CPL_TMO_CNT.COUNT (R396). -/
def pciCplTmoCntCount : Fld := ⟨0x18, 0, 0, 31, 0⟩
/-- PCI_DB_DROP_CNT.COUNT (R396). -/
def pciDbDropCntCount : Fld := ⟨0x1c, 0, 0, 31, 0⟩
/-- PCI_PF.TOTAL_VF (R396). -/
def pciPfTotalVf : Fld := ⟨0x10000, 32, 0, 25, 16⟩
/-- PCI_PF.VF_LOG2 (R396). -/
def pciPfVfLog2 : Fld := ⟨0x10000, 32, 0, 12, 8⟩
/-- PCI_PF.BAR0_LOG2 (R396). -/
def pciPfBar0Log2 : Fld := ⟨0x10000, 32, 0, 5, 0⟩
/-- PCI_PF_XLAT_LO.BASE (R396). -/
def pciPfXlatLoBase : Fld := ⟨0x10004, 32, 0, 31, 0⟩
/-- PCI_PF_XLAT_HI.BASE (R396). -/
def pciPfXlatHiBase : Fld := ⟨0x10008, 32, 0, 23, 0⟩
/-- PCI_PF_VFXLAT_LO.BASE (R396). -/
def pciPfVfxlatLoBase : Fld := ⟨0x1000c, 32, 0, 31, 0⟩
/-- PCI_PF_VFXLAT_HI.BASE (R396). -/
def pciPfVfxlatHiBase : Fld := ⟨0x10010, 32, 0, 23, 0⟩
/-- PCI_OB.TYPE (R396). -/
def pciObType : Fld := ⟨0x20000, 16, 0, 31, 30⟩
/-- PCI_OB.PORT (R396). -/
def pciObPort : Fld := ⟨0x20000, 16, 0, 29, 29⟩
/-- PCI_OB.FUNC (R396). -/
def pciObFunc : Fld := ⟨0x20000, 16, 0, 2, 0⟩
/-- PCI_OB_HOST_LO.HOST (R396). -/
def pciObHostLoHost : Fld := ⟨0x20004, 16, 0, 31, 0⟩
/-- PCI_OB_HOST_HI.HOST (R396). -/
def pciObHostHiHost : Fld := ⟨0x20008, 16, 0, 31, 0⟩
/-- PCI_DMA_CTRL.EN (R396). -/
def pciDmaCtrlEn : Fld := ⟨0x100000, 64, 0, 31, 31⟩
/-- PCI_DMA_CTRL.RING_HOST (R396). -/
def pciDmaCtrlRingHost : Fld := ⟨0x100000, 64, 0, 30, 30⟩
/-- PCI_DMA_CTRL.SIZE (R396). -/
def pciDmaCtrlSize : Fld := ⟨0x100000, 64, 0, 27, 24⟩
/-- PCI_DMA_CTRL.VF (R396). -/
def pciDmaCtrlVf : Fld := ⟨0x100000, 64, 0, 15, 15⟩
/-- PCI_DMA_CTRL.FUNC (R396). -/
def pciDmaCtrlFunc : Fld := ⟨0x100000, 64, 0, 8, 0⟩
/-- PCI_DMA_RING_LO.ADDR (R396). -/
def pciDmaRingLoAddr : Fld := ⟨0x100004, 64, 0, 31, 0⟩
/-- PCI_DMA_RING_HI.ADDR (R396). -/
def pciDmaRingHiAddr : Fld := ⟨0x100008, 64, 0, 31, 0⟩
/-- PCI_DMA_PI.PI (R396). -/
def pciDmaPiPi : Fld := ⟨0x10000c, 64, 0, 15, 0⟩
/-- PCI_DMA_CI.CI (R396). -/
def pciDmaCiCi : Fld := ⟨0x100010, 64, 0, 15, 0⟩
/-- PCI_DMA_STAT.HALTED (R396). -/
def pciDmaStatHalted : Fld := ⟨0x100014, 64, 0, 31, 31⟩
/-- PCI_DMA_STAT.PI_ERR (R396). -/
def pciDmaStatPiErr : Fld := ⟨0x100014, 64, 0, 30, 30⟩
/-- PCI_DMA_STAT.LAST (R396). -/
def pciDmaStatLast : Fld := ⟨0x100014, 64, 0, 7, 0⟩
/-- PCI_DMA_VEC.VEC (R396). -/
def pciDmaVecVec : Fld := ⟨0x100018, 64, 0, 10, 0⟩
/-- PCI_DMA_BYTES.COUNT (R396). -/
def pciDmaBytesCount : Fld := ⟨0x10001c, 64, 0, 31, 0⟩
/-- LNK_CTRL.RETRY_MAX (R217). -/
def lnkCtrlRetryMax : Fld := ⟨0x0, 0, 0, 31, 28⟩
/-- LNK_CTRL.ROLE (R217). -/
def lnkCtrlRole : Fld := ⟨0x0, 0, 0, 21, 20⟩
/-- LNK_CTRL.MARK_TRUST (R217). -/
def lnkCtrlMarkTrust : Fld := ⟨0x0, 0, 0, 4, 4⟩
/-- LNK_CTRL.MARK_EN (R217). -/
def lnkCtrlMarkEn : Fld := ⟨0x0, 0, 0, 3, 3⟩
/-- LNK_CTRL.WIDTH (R217). -/
def lnkCtrlWidth : Fld := ⟨0x0, 0, 0, 2, 1⟩
/-- LNK_CTRL.EN (R217). -/
def lnkCtrlEn : Fld := ⟨0x0, 0, 0, 0, 0⟩
/-- LNK_STATUS.HOPLIM (R217). -/
def lnkStatusHoplim : Fld := ⟨0x4, 0, 0, 7, 7⟩
/-- LNK_STATUS.NOLABEL (R217). -/
def lnkStatusNolabel : Fld := ⟨0x4, 0, 0, 6, 6⟩
/-- LNK_STATUS.RSPDROP (R217). -/
def lnkStatusRspdrop : Fld := ⟨0x4, 0, 0, 5, 5⟩
/-- LNK_STATUS.REPLAY (R217). -/
def lnkStatusReplay : Fld := ⟨0x4, 0, 0, 4, 4⟩
/-- LNK_STATUS.EXHAUSTED (R217). -/
def lnkStatusExhausted : Fld := ⟨0x4, 0, 0, 3, 3⟩
/-- LNK_STATUS.STATE (R217). -/
def lnkStatusState : Fld := ⟨0x4, 0, 0, 1, 0⟩
/-- LNK_ACK_TMO.FRAMES (R217). -/
def lnkAckTmoFrames : Fld := ⟨0x8, 0, 0, 15, 0⟩
/-- LNK_MARK_DIV.CYCLES (R217). -/
def lnkMarkDivCycles : Fld := ⟨0xc, 0, 0, 31, 0⟩
/-- LNK_PEER.SYSID (R217). -/
def lnkPeerSysid : Fld := ⟨0x10, 0, 0, 31, 16⟩
/-- LNK_PEER.PORT (R217). -/
def lnkPeerPort : Fld := ⟨0x10, 0, 0, 15, 12⟩
/-- LNK_PEER.DEPTH (R217). -/
def lnkPeerDepth : Fld := ⟨0x10, 0, 0, 11, 8⟩
/-- LNK_PEER.VALID (R217). -/
def lnkPeerValid : Fld := ⟨0x10, 0, 0, 7, 7⟩
/-- LNK_PEER.QUAL (R217). -/
def lnkPeerQual : Fld := ⟨0x10, 0, 0, 1, 0⟩
/-- LNK_CRC_CNT.COUNT (R217). -/
def lnkCrcCntCount : Fld := ⟨0x14, 0, 0, 31, 0⟩
/-- LNK_REPLAY_CNT.COUNT (R217). -/
def lnkReplayCntCount : Fld := ⟨0x18, 0, 0, 31, 0⟩
/-- LNK_HOPLIM_CNT.COUNT (R217). -/
def lnkHoplimCntCount : Fld := ⟨0x1c, 0, 0, 31, 0⟩
/-- LNK_NOLABEL_CNT.COUNT (R217). -/
def lnkNolabelCntCount : Fld := ⟨0x20, 0, 0, 31, 0⟩
/-- LNK_DROP_CNT.COUNT (R217). -/
def lnkDropCntCount : Fld := ⟨0x24, 0, 0, 31, 0⟩
/-- LNK_EXH_CNT.COUNT (R217). -/
def lnkExhCntCount : Fld := ⟨0x28, 0, 0, 31, 0⟩
/-- LNK_RETRAIN.GO (R217). -/
def lnkRetrainGo : Fld := ⟨0x2c, 0, 0, 0, 0⟩
/-- LNK_LABEL.ENTRY (R218). -/
def lnkLabelEntry : Fld := ⟨0x100000, 4, 0, 31, 0⟩
/-- LANE_CTRL.STUFF_MAX (R385). -/
def laneCtrlStuffMax : Fld := ⟨0x1000, 256, 0, 31, 24⟩
/-- LANE_CTRL.RX_SLEEP (R385). -/
def laneCtrlRxSleep : Fld := ⟨0x1000, 256, 0, 5, 5⟩
/-- LANE_CTRL.TX_SLEEP (R385). -/
def laneCtrlTxSleep : Fld := ⟨0x1000, 256, 0, 4, 4⟩
/-- LANE_CTRL.MODE (R385). -/
def laneCtrlMode : Fld := ⟨0x1000, 256, 0, 1, 0⟩
/-- LANE_RATE.MOD (R385). -/
def laneRateMod : Fld := ⟨0x1004, 256, 0, 16, 16⟩
/-- LANE_RATE.MBD (R385). -/
def laneRateMbd : Fld := ⟨0x1004, 256, 0, 15, 0⟩
/-- LANE_SEED.SEED (R385). -/
def laneSeedSeed : Fld := ⟨0x1008, 256, 0, 30, 0⟩
/-- LANE_STATUS.SIGNAL (R385). -/
def laneStatusSignal : Fld := ⟨0x100c, 256, 0, 12, 12⟩
/-- LANE_STATUS.CAPS_ERR (R385). -/
def laneStatusCapsErr : Fld := ⟨0x100c, 256, 0, 11, 11⟩
/-- LANE_STATUS.TRAIN_FAIL (R385). -/
def laneStatusTrainFail : Fld := ⟨0x100c, 256, 0, 10, 10⟩
/-- LANE_STATUS.DOWN (R385). -/
def laneStatusDown : Fld := ⟨0x100c, 256, 0, 9, 9⟩
/-- LANE_STATUS.PEER_ALIGNED (R385). -/
def laneStatusPeerAligned : Fld := ⟨0x100c, 256, 0, 8, 8⟩
/-- LANE_STATUS.ALIGNED (R385). -/
def laneStatusAligned : Fld := ⟨0x100c, 256, 0, 7, 7⟩
/-- LANE_STATUS.RX_ASLEEP (R385). -/
def laneStatusRxAsleep : Fld := ⟨0x100c, 256, 0, 6, 6⟩
/-- LANE_STATUS.TX_ASLEEP (R385). -/
def laneStatusTxAsleep : Fld := ⟨0x100c, 256, 0, 5, 5⟩
/-- LANE_STATUS.STATE (R385). -/
def laneStatusState : Fld := ⟨0x100c, 256, 0, 2, 0⟩
/-- LANE_SLIP.BITS (R385). -/
def laneSlipBits : Fld := ⟨0x1010, 256, 0, 9, 0⟩
/-- LANE_ALIGN.FSEQ (R385). -/
def laneAlignFseq : Fld := ⟨0x1014, 256, 0, 31, 16⟩
/-- LANE_ALIGN.CONSEC (R385). -/
def laneAlignConsec : Fld := ⟨0x1014, 256, 0, 7, 0⟩
/-- LANE_PEER.SYSID (R385). -/
def lanePeerSysid : Fld := ⟨0x1018, 256, 0, 31, 16⟩
/-- LANE_PEER.PORT (R385). -/
def lanePeerPort : Fld := ⟨0x1018, 256, 0, 15, 12⟩
/-- LANE_PEER.LANE (R385). -/
def lanePeerLane : Fld := ⟨0x1018, 256, 0, 10, 8⟩
/-- LANE_PEER.WIDTH (R385). -/
def lanePeerWidth : Fld := ⟨0x1018, 256, 0, 7, 6⟩
/-- LANE_EYE_CTRL.START (R385). -/
def laneEyeCtrlStart : Fld := ⟨0x1020, 256, 0, 31, 31⟩
/-- LANE_EYE_CTRL.N (R385). -/
def laneEyeCtrlN : Fld := ⟨0x1020, 256, 0, 30, 24⟩
/-- LANE_EYE_STAT.BUSY (R385). -/
def laneEyeStatBusy : Fld := ⟨0x1024, 256, 0, 31, 31⟩
/-- LANE_EYE_STAT.RESULT (R385). -/
def laneEyeStatResult : Fld := ⟨0x1024, 256, 0, 2, 0⟩
/-- LANE_EYE_ERR.COUNT (R385). -/
def laneEyeErrCount : Fld := ⟨0x1028, 256, 0, 31, 0⟩
/-- LANE_TUNE.TUNE_MS (R385). -/
def laneTuneTuneMs : Fld := ⟨0x102c, 256, 0, 15, 8⟩
/-- LANE_TUNE.HYST (R385). -/
def laneTuneHyst : Fld := ⟨0x102c, 256, 0, 7, 0⟩
/-- LANE_DOWN_CNT.COUNT (R385). -/
def laneDownCntCount : Fld := ⟨0x1030, 256, 0, 31, 0⟩
/-- LANE_STUFF_CNT.COUNT (R385). -/
def laneStuffCntCount : Fld := ⟨0x1034, 256, 0, 31, 0⟩
/-- LANE_PRBS_ERR.COUNT (R385). -/
def lanePrbsErrCount : Fld := ⟨0x1038, 256, 0, 31, 0⟩
/-- LANE_TRAINFAIL_CNT.COUNT (R385). -/
def laneTrainfailCntCount : Fld := ⟨0x103c, 256, 0, 31, 0⟩
/-- LANE_ACTIVE0.ACTIVE (R384). -/
def laneActive0Active : Fld := ⟨0x0, 0, 0, 31, 0⟩
/-- PIN_CFG.FUNC (R551). -/
def pinCfgFunc : Fld := ⟨0x0, 4, 0, 31, 28⟩
/-- PIN_CFG.CHAN (R551). -/
def pinCfgChan : Fld := ⟨0x0, 4, 0, 27, 24⟩
/-- PIN_CFG.OWNER (R551). -/
def pinCfgOwner : Fld := ⟨0x0, 4, 0, 23, 21⟩
/-- PIN_CFG.SLEEP (R551). -/
def pinCfgSleep : Fld := ⟨0x0, 4, 0, 20, 18⟩
/-- PIN_CFG.PULL (R551). -/
def pinCfgPull : Fld := ⟨0x0, 4, 0, 17, 16⟩
/-- PIN_CFG.OD (R551). -/
def pinCfgOd : Fld := ⟨0x0, 4, 0, 13, 13⟩
/-- PIN_DOUT.DOUT (R552). -/
def pinDoutDout : Fld := ⟨0x1000, 256, 0, 31, 0⟩
/-- PIN_OE.OE (R552). -/
def pinOeOe : Fld := ⟨0x1004, 256, 0, 31, 0⟩
/-- PIN_DIN.DIN (R552). -/
def pinDinDin : Fld := ⟨0x1008, 256, 0, 31, 0⟩
/-- PIN_SB_PORT.EN (R552). -/
def pinSbPortEn : Fld := ⟨0x100c, 256, 0, 31, 31⟩
/-- PIN_SB_PORT.PORT (R552). -/
def pinSbPortPort : Fld := ⟨0x100c, 256, 0, 6, 0⟩
/-- PIN_PM_STAT.FIRED (R552). -/
def pinPmStatFired : Fld := ⟨0x1010, 256, 0, 7, 0⟩
/-- PIN_PM_MASK.MASK (R552). -/
def pinPmMaskMask : Fld := ⟨0x1040, 256, 16, 31, 0⟩
/-- PIN_PM_VAL.VAL (R552). -/
def pinPmValVal : Fld := ⟨0x1044, 256, 16, 31, 0⟩
/-- PIN_PM_CTRL.EN (R552). -/
def pinPmCtrlEn : Fld := ⟨0x1048, 256, 16, 31, 31⟩
/-- PIN_PM_CTRL.SWEN (R552). -/
def pinPmCtrlSwen : Fld := ⟨0x1048, 256, 16, 30, 30⟩
/-- PIN_PM_CTRL.MODE (R552). -/
def pinPmCtrlMode : Fld := ⟨0x1048, 256, 16, 29, 28⟩
/-- PIN_PM_CTRL.SWNUM (R552). -/
def pinPmCtrlSwnum : Fld := ⟨0x1048, 256, 16, 13, 8⟩
/-- PIN_CONFLICT.VALID (R552). -/
def pinConflictValid : Fld := ⟨0x2000, 0, 0, 31, 31⟩
/-- PIN_CONFLICT.SIG (R552). -/
def pinConflictSig : Fld := ⟨0x2000, 0, 0, 23, 16⟩
/-- PIN_CONFLICT.PIN_A (R552). -/
def pinConflictPinA : Fld := ⟨0x2000, 0, 0, 15, 8⟩
/-- PIN_CONFLICT.PIN_B (R552). -/
def pinConflictPinB : Fld := ⟨0x2000, 0, 0, 7, 0⟩
/-- PIN_DENY_CNT.COUNT (R552). -/
def pinDenyCntCount : Fld := ⟨0x2004, 0, 0, 31, 0⟩
/-- PIN_CONFLICT_CNT.COUNT (R552). -/
def pinConflictCntCount : Fld := ⟨0x2008, 0, 0, 31, 0⟩
/-- PIN_ADC_RES.VALID (R552). -/
def pinAdcResValid : Fld := ⟨0x3000, 4, 0, 31, 31⟩
/-- PIN_ADC_RES.CODE (R552). -/
def pinAdcResCode : Fld := ⟨0x3000, 4, 0, 11, 0⟩
/-- PIN_AO_DOUT.DOUT (R553). -/
def pinAoDoutDout : Fld := ⟨0x100, 0, 0, 31, 0⟩
/-- PIN_AO_OE.OE (R553). -/
def pinAoOeOe : Fld := ⟨0x104, 0, 0, 31, 0⟩
/-- PIN_AO_DIN.DIN (R553). -/
def pinAoDinDin : Fld := ⟨0x108, 0, 0, 31, 0⟩
/-- PIN_AO_EN.PMB_ALT (R553). -/
def pinAoEnPmbAlt : Fld := ⟨0x10c, 0, 0, 1, 1⟩
/-- PIN_AO_EN.PMB_EN (R553). -/
def pinAoEnPmbEn : Fld := ⟨0x10c, 0, 0, 0, 0⟩
/-- PIN_AO_CFG.AN (R553). -/
def pinAoCfgAn : Fld := ⟨0x0, 4, 0, 31, 31⟩
/-- MGT_CAN_CTRL.EN (R477). -/
def mgtCanCtrlEn : Fld := ⟨0x0, 64, 0, 31, 31⟩
/-- MGT_CAN_STAT.STATE (R477). -/
def mgtCanStatState : Fld := ⟨0x4, 64, 0, 31, 30⟩
/-- MGT_CAN_STAT.REC (R477). -/
def mgtCanStatRec : Fld := ⟨0x4, 64, 0, 15, 8⟩
/-- MGT_CAN_STAT.TEC (R477). -/
def mgtCanStatTec : Fld := ⟨0x4, 64, 0, 7, 0⟩
/-- MGT_CAN_RX_CNT.COUNT (R477). -/
def mgtCanRxCntCount : Fld := ⟨0x8, 64, 0, 31, 0⟩
/-- MGT_CAN_TX_CNT.COUNT (R477). -/
def mgtCanTxCntCount : Fld := ⟨0xc, 64, 0, 31, 0⟩
/-- MGT_CAN_BUSOFF_CNT.COUNT (R477). -/
def mgtCanBusoffCntCount : Fld := ⟨0x10, 64, 0, 31, 0⟩
/-- SPN_CTRL.MIN_EYE (R91). -/
def spnCtrlMinEye : Fld := ⟨0x200000, 0, 0, 23, 16⟩
/-- SPN_CTRL.CAL_PAR (R91). -/
def spnCtrlCalPar : Fld := ⟨0x200000, 0, 0, 15, 8⟩
/-- SPN_CTRL.REPAIR_EN (R91). -/
def spnCtrlRepairEn : Fld := ⟨0x200000, 0, 0, 1, 1⟩
/-- SPN_CTRL.CAL_EN (R91). -/
def spnCtrlCalEn : Fld := ⟨0x200000, 0, 0, 0, 0⟩
/-- SPN_STATUS.FAULT (R92). -/
def spnStatusFault : Fld := ⟨0x200004, 0, 0, 1, 1⟩
/-- SPN_STATUS.LAP_DONE (R92). -/
def spnStatusLapDone : Fld := ⟨0x200004, 0, 0, 0, 0⟩
/-- SPN_LAP_TIME.LAP_US (R92). -/
def spnLapTimeLapUs : Fld := ⟨0x200008, 0, 0, 31, 0⟩
/-- SPN_ROT_COUNT.ROTATIONS (R92). -/
def spnRotCountRotations : Fld := ⟨0x20000c, 0, 0, 31, 0⟩
/-- SPN_REPAIRS.DEGRADED_SITES (R92). -/
def spnRepairsDegradedSites : Fld := ⟨0x200010, 0, 0, 31, 16⟩
/-- SPN_REPAIRS.REPAIRED_SITES (R92). -/
def spnRepairsRepairedSites : Fld := ⟨0x200010, 0, 0, 15, 0⟩
/-- SPN_FENCE_NUM.COUNT (R92). -/
def spnFenceNumCount : Fld := ⟨0x200018, 0, 0, 14, 0⟩
/-- SPN_FENCE_CLR.ALL (R92). -/
def spnFenceClrAll : Fld := ⟨0x20001c, 0, 0, 31, 31⟩
/-- SPN_SITE_SEL.WIRE (R93). -/
def spnSiteSelWire : Fld := ⟨0x200020, 0, 0, 21, 16⟩
/-- SPN_SITE_SEL.SITE (R93). -/
def spnSiteSelSite : Fld := ⟨0x200020, 0, 0, 14, 0⟩
/-- SPN_SITE_DATA.SITE_STATE (R93). -/
def spnSiteDataSiteState : Fld := ⟨0x200024, 0, 0, 25, 24⟩
/-- SPN_SITE_CMD.FORCE_REPAIR (R93). -/
def spnSiteCmdForceRepair : Fld := ⟨0x200028, 0, 0, 1, 1⟩
/-- BM_ERR_STATUS.VALID (R126). -/
def bmErrStatusValid : Fld := ⟨0x100000, 0, 0, 31, 31⟩
/-- BM_ERR_STATUS.MEM (R126). -/
def bmErrStatusMem : Fld := ⟨0x100000, 0, 0, 26, 16⟩
/-- BM_ERR_STATUS.SRC (R126). -/
def bmErrStatusSrc : Fld := ⟨0x100000, 0, 0, 12, 11⟩
/-- BM_ERR_STATUS.LINE (R126). -/
def bmErrStatusLine : Fld := ⟨0x100000, 0, 0, 9, 0⟩
/-- BM_COUNTS.STORED (R126). -/
def bmCountsStored : Fld := ⟨0x100004, 0, 0, 31, 16⟩
/-- BM_COUNTS.TRANSIENT (R126). -/
def bmCountsTransient : Fld := ⟨0x100004, 0, 0, 15, 0⟩
/-- BM_FLIP_CTRL.ARM (R126). -/
def bmFlipCtrlArm : Fld := ⟨0x100008, 0, 0, 31, 31⟩
/-- BM_FLIP_CTRL.MEM (R126). -/
def bmFlipCtrlMem : Fld := ⟨0x100008, 0, 0, 10, 0⟩
/-- BM_FLIP_LO.MASK (R126). -/
def bmFlipLoMask : Fld := ⟨0x10000c, 0, 0, 31, 0⟩
/-- BM_FLIP_HI.MASK (R126). -/
def bmFlipHiMask : Fld := ⟨0x100010, 0, 0, 31, 0⟩
/-- BM_FLIP_CHK.MASK (R126). -/
def bmFlipChkMask : Fld := ⟨0x100014, 0, 0, 7, 0⟩
/-- BM_LINE_CMD.OP (R126). -/
def bmLineCmdOp : Fld := ⟨0x100018, 0, 0, 31, 30⟩
/-- BM_LINE_STAT.BUSY (R126). -/
def bmLineStatBusy : Fld := ⟨0x10001c, 0, 0, 31, 31⟩
/-- BM_LINE_STAT.RESULT (R126). -/
def bmLineStatResult : Fld := ⟨0x10001c, 0, 0, 1, 0⟩
/-- BM_MEM_STAT.LAYOUT (R127). -/
def bmMemStatLayout : Fld := ⟨0x101000, 4, 0, 31, 29⟩
/-- BM_MEM_STAT.INITMODE (R127). -/
def bmMemStatInitmode : Fld := ⟨0x101000, 4, 0, 28, 27⟩
/-- BM_MEM_STAT.CFG_BAD (R127). -/
def bmMemStatCfgBad : Fld := ⟨0x101000, 4, 0, 26, 26⟩
/-- BM_MEM_STAT.STORED (R127). -/
def bmMemStatStored : Fld := ⟨0x101000, 4, 0, 25, 25⟩
/-- BM_MEM_STAT.TRANSIENT (R127). -/
def bmMemStatTransient : Fld := ⟨0x101000, 4, 0, 24, 24⟩
/-- BM_MEM_STAT.COLLISIONS (R127). -/
def bmMemStatCollisions : Fld := ⟨0x101000, 4, 0, 15, 0⟩
/-- QC_CFG.PRESENT (R128). -/
def qcCfgPresent : Fld := ⟨0x400000, 32, 0, 31, 31⟩
/-- QC_CFG.QW (R128). -/
def qcCfgQw : Fld := ⟨0x400000, 32, 0, 30, 29⟩
/-- QC_CFG.PUSH_NET (R128). -/
def qcCfgPushNet : Fld := ⟨0x400000, 32, 0, 28, 28⟩
/-- QC_CFG.POP_NET (R128). -/
def qcCfgPopNet : Fld := ⟨0x400000, 32, 0, 27, 27⟩
/-- QC_CFG.NB (R128). -/
def qcCfgNb : Fld := ⟨0x400000, 32, 0, 26, 26⟩
/-- QC_CFG.BASE (R128). -/
def qcCfgBase : Fld := ⟨0x400000, 32, 0, 21, 12⟩
/-- QC_CFG.LINES (R128). -/
def qcCfgLines : Fld := ⟨0x400000, 32, 0, 10, 0⟩
/-- QC_LIMIT.CAP (R128). -/
def qcLimitCap : Fld := ⟨0x400004, 32, 0, 29, 16⟩
/-- QC_LIMIT.LIMIT (R128). -/
def qcLimitLimit : Fld := ⟨0x400004, 32, 0, 13, 0⟩
/-- QC_TH.AFULL_TH (R128). -/
def qcThAfullTh : Fld := ⟨0x400008, 32, 0, 29, 16⟩
/-- QC_TH.AEMPTY_TH (R128). -/
def qcThAemptyTh : Fld := ⟨0x400008, 32, 0, 13, 0⟩
/-- QC_COUNT.COUNT (R128). -/
def qcCountCount : Fld := ⟨0x40000c, 32, 0, 13, 0⟩
/-- QC_STATUS.HELD (R128). -/
def qcStatusHeld : Fld := ⟨0x400010, 32, 0, 7, 7⟩
/-- QC_STATUS.CERR (R128). -/
def qcStatusCerr : Fld := ⟨0x400010, 32, 0, 6, 6⟩
/-- QC_STATUS.REFUSED (R128). -/
def qcStatusRefused : Fld := ⟨0x400010, 32, 0, 5, 5⟩
/-- QC_STATUS.TOO_LONG (R128). -/
def qcStatusTooLong : Fld := ⟨0x400010, 32, 0, 4, 4⟩
/-- QC_REFUSED.COUNT (R128). -/
def qcRefusedCount : Fld := ⟨0x400014, 32, 0, 31, 0⟩
/-- QC_CTRL.FLUSH (R128). -/
def qcCtrlFlush : Fld := ⟨0x400018, 32, 0, 0, 0⟩
/-- QC_HOLD.CYCLES (R129). -/
def qcHoldCycles : Fld := ⟨0x440000, 0, 0, 31, 0⟩
/-- QC_BUSY_COUNT.COUNT (R129). -/
def qcBusyCountCount : Fld := ⟨0x440004, 0, 0, 31, 0⟩
/-- TAP_CMD.CLEAR (R161). -/
def tapCmdClear : Fld := ⟨0x800000, 4096, 0, 2, 2⟩
/-- TAP_STATUS.PC (R161). -/
def tapStatusPc : Fld := ⟨0x800004, 4096, 0, 31, 24⟩
/-- TAP_STATUS.CAUSE (R161). -/
def tapStatusCause : Fld := ⟨0x800004, 4096, 0, 23, 20⟩
/-- TAP_STATUS.DBOVF (R161). -/
def tapStatusDbovf : Fld := ⟨0x800004, 4096, 0, 9, 9⟩
/-- TAP_STATUS.IN_LOST (R161). -/
def tapStatusInLost : Fld := ⟨0x800004, 4096, 0, 8, 8⟩
/-- TAP_STATUS.SAT (R161). -/
def tapStatusSat : Fld := ⟨0x800004, 4096, 0, 7, 7⟩
/-- TAP_STATUS.OVF (R161). -/
def tapStatusOvf : Fld := ⟨0x800004, 4096, 0, 6, 6⟩
/-- TAP_STATUS.DONE (R161). -/
def tapStatusDone : Fld := ⟨0x800004, 4096, 0, 5, 5⟩
/-- TAP_STATUS.WAIT (R161). -/
def tapStatusWait : Fld := ⟨0x800004, 4096, 0, 2, 2⟩
/-- TAP_STATUS.STATE (R161). -/
def tapStatusState : Fld := ⟨0x800004, 4096, 0, 1, 0⟩
/-- TAP_CFG.FAB_EN (R161). -/
def tapCfgFabEn : Fld := ⟨0x800008, 4096, 0, 31, 31⟩
/-- TAP_CFG.AUTOSTART (R161). -/
def tapCfgAutostart : Fld := ⟨0x800008, 4096, 0, 30, 30⟩
/-- TAP_CFG.ISRC (R161). -/
def tapCfgIsrc : Fld := ⟨0x800008, 4096, 0, 29, 29⟩
/-- TAP_CFG.FRCLK (R161). -/
def tapCfgFrclk : Fld := ⟨0x800008, 4096, 0, 28, 26⟩
/-- TAP_CFG.MODE (R161). -/
def tapCfgMode : Fld := ⟨0x800008, 4096, 0, 24, 24⟩
/-- TAP_CFG.ENTRY (R161). -/
def tapCfgEntry : Fld := ⟨0x800008, 4096, 0, 15, 8⟩
/-- TAP_LCR.COUNT (R161). -/
def tapLcrCount : Fld := ⟨0x800010, 4096, 4, 15, 0⟩
/-- TAP_AG_A.IDX (R161). -/
def tapAgAIdx : Fld := ⟨0x800020, 4096, 16, 28, 16⟩
/-- TAP_AG_A.BASE (R161). -/
def tapAgABase : Fld := ⟨0x800020, 4096, 16, 12, 0⟩
/-- TAP_AG_B.MODE (R161). -/
def tapAgBMode : Fld := ⟨0x800024, 4096, 16, 31, 30⟩
/-- TAP_AG_B.STEP (R161). -/
def tapAgBStep : Fld := ⟨0x800024, 4096, 16, 28, 16⟩
/-- TAP_AG_B.LEN (R161). -/
def tapAgBLen : Fld := ⟨0x800024, 4096, 16, 13, 0⟩
/-- TAP_PAIR.WORDS (R161). -/
def tapPairWords : Fld := ⟨0x800038, 4096, 0, 10, 0⟩
/-- TAP_BX.BH (R161). -/
def tapBxBh : Fld := ⟨0x80003c, 4096, 0, 20, 16⟩
/-- TAP_BX.SCL (R161). -/
def tapBxScl : Fld := ⟨0x80003c, 4096, 0, 9, 8⟩
/-- TAP_BX.EXPT (R161). -/
def tapBxExpt : Fld := ⟨0x80003c, 4096, 0, 7, 0⟩
/-- TAP_DOORBELL.COUNT (R161). -/
def tapDoorbellCount : Fld := ⟨0x800040, 4096, 0, 15, 0⟩
/-- TAP_DB_ADD.ADD (R161). -/
def tapDbAddAdd : Fld := ⟨0x800044, 4096, 0, 15, 0⟩
/-- TAP_CYCLES.COUNT (R161). -/
def tapCyclesCount : Fld := ⟨0x800048, 4096, 0, 31, 0⟩
/-- TAP_STALLS.COUNT (R161). -/
def tapStallsCount : Fld := ⟨0x80004c, 4096, 0, 31, 0⟩
/-- TAP_DONE_PEND.PEND (R162). -/
def tapDonePendPend : Fld := ⟨0xc00000, 4, 0, 31, 0⟩
/-- TAP_FAULT_PEND.PEND (R162). -/
def tapFaultPendPend : Fld := ⟨0xc00080, 4, 0, 31, 0⟩
/-- TAP_IMEM.WORD (R161). -/
def tapImemWord : Fld := ⟨0x800800, 4096, 4, 31, 0⟩
/-- NOC_RT_CTRL.FLOOR1 (R190). -/
def nocRtCtrlFloor1 : Fld := ⟨0x0, 0, 0, 15, 12⟩
/-- NOC_RT_CTRL.FLOOR0 (R190). -/
def nocRtCtrlFloor0 : Fld := ⟨0x0, 0, 0, 11, 8⟩
/-- NOC_RT_CTRL.WAKE_EN (R190). -/
def nocRtCtrlWakeEn : Fld := ⟨0x0, 0, 0, 0, 0⟩
/-- NOC_RT_STATUS.WAKEFAIL (R190). -/
def nocRtStatusWakefail : Fld := ⟨0x4, 0, 0, 2, 2⟩
/-- NOC_RT_STATUS.NOROUTE (R190). -/
def nocRtStatusNoroute : Fld := ⟨0x4, 0, 0, 1, 1⟩
/-- NOC_RT_STATUS.MALF (R190). -/
def nocRtStatusMalf : Fld := ⟨0x4, 0, 0, 0, 0⟩
/-- NOC_NOROUTE_CNT.COUNT (R190). -/
def nocNorouteCntCount : Fld := ⟨0x8, 0, 0, 31, 0⟩
/-- NOC_MALF_CNT.COUNT (R190). -/
def nocMalfCntCount : Fld := ⟨0xc, 0, 0, 31, 0⟩
/-- NOC_WAKE_CNT.COUNT (R190). -/
def nocWakeCntCount : Fld := ⟨0x10, 0, 0, 31, 0⟩
/-- NOC_WAKEFAIL_CNT.COUNT (R190). -/
def nocWakefailCntCount : Fld := ⟨0x14, 0, 0, 31, 0⟩
/-- NOC_LINK_FLITS.COUNT (R190). -/
def nocLinkFlitsCount : Fld := ⟨0x20, 4, 0, 31, 0⟩
/-- NOC_TMO.CYCLES (R191). -/
def nocTmoCycles : Fld := ⟨0x1000, 256, 0, 31, 0⟩
/-- NOC_PORT_CTRL.MAXOUT (R191). -/
def nocPortCtrlMaxout : Fld := ⟨0x1004, 256, 0, 8, 0⟩
/-- NOC_OUTST.COUNT (R191). -/
def nocOutstCount : Fld := ⟨0x1008, 256, 0, 8, 0⟩
/-- NOC_TMO_CNT.COUNT (R191). -/
def nocTmoCntCount : Fld := ⟨0x100c, 256, 0, 31, 0⟩
/-- NOC_LATE_CNT.COUNT (R191). -/
def nocLateCntCount : Fld := ⟨0x1010, 256, 0, 31, 0⟩
/-- NOC_PORT_STATUS.STRAY (R191). -/
def nocPortStatusStray : Fld := ⟨0x1014, 256, 0, 3, 3⟩
/-- NOC_PORT_STATUS.LATE (R191). -/
def nocPortStatusLate : Fld := ⟨0x1014, 256, 0, 2, 2⟩
/-- NOC_PORT_STATUS.TIMEOUT (R191). -/
def nocPortStatusTimeout : Fld := ⟨0x1014, 256, 0, 1, 1⟩
/-- NOC_PORT_STATUS.MALF (R191). -/
def nocPortStatusMalf : Fld := ⟨0x1014, 256, 0, 0, 0⟩

end F

end Sys2Proof.Machine
end

