-- ==== Sys2Proof/Machine/State.lean ====
section
/-! DEFINITION. The machine's state as plain data, its state after reset, and the reasons a command can stop. -/

namespace Sys2Proof.Machine

open Sys2Proof

/-- The reasons a command stops with a fault. No command of the spec stops the block: every path answers a next state, so no
constructor is raised by a meaning. -/
inductive Fault where
  /-- Never raised: the spec names no condition that stops the block (safe). -/
  | halted
deriving DecidableEq, Repr

/-- The reasons a command is refused. -/
inductive Refusal where
  /-- Raised by the dispatch of a command that has no meaning yet (safe). -/
  | notModelled (mnemonic : String)
deriving DecidableEq, Repr

/-- One unreported error of a unit: at most one for each (unit, class), with the count it stands for (R39). -/
structure Report where
  unit : Nat
  cls : Nat
  count : Nat
  detail : Nat
deriving DecidableEq, Repr

/-- A completion answered to the sender of a command: a status of R181 and the data it carries. -/
structure Completion where
  stat : Stat
  data : List Byte
deriving DecidableEq, Repr

/-- A meter of one budget instance (R424, R427). -/
structure BudInst where
  u : Nat := 0
  used : Nat := 0
  debt : Nat := 0
  waiting : Bool := false
  admitted : Bool := false
  held : Bool := false
  starveRun : Nat := 0
  heldCnt : Nat := 0
deriving DecidableEq, Repr

/-- The budget controller beyond its registers: the fret accumulator in ns, the FRET_NS, CAP and FLOOR in force, the meters (R422-R427). -/
structure BudState where
  acc : Nat := 0
  fretNs : Nat := 4096
  caps : SMap Nat := []
  floors : SMap Nat := []
  inst : SMap BudInst := []
deriving DecidableEq, Repr

/-- The event distributor beyond its registers (R508-R514): source levels, the target each source is assigned to,
the target that last claimed it, the claimer of an ACTIVE source, edges latched while domain 155 is gated. -/
structure EvtState where
  level : NSet := []
  assigned : SMap Nat := []
  lastClaim : SMap Nat := []
  claimer : SMap Nat := []
  latched : NSet := []
deriving DecidableEq, Repr

/-- Plate SRAM (R34-R36): the general plate memory's bytes by window offset, and the ECC condition of its 64-bit words
(1 a single-bit error, 2 a double-bit error) by word number. -/
structure SramState where
  mem : SMap Byte := []
  ecc : SMap Nat := []
  /-- Single-bit errors corrected, counted in the status of the owning unit (R36). -/
  corrected : SMap Nat := []
deriving DecidableEq, Repr

/-- The fabric's configuration and flip-flops (R41-R65): frames by ((plane × 128 + region) × 22,528 + ordinal), flip-flop Q by
device cell, and the active edges since RESETS of each track still in hold, by region × 8 + track (R271). -/
structure FabricState where
  frames : SMap Frame := []
  q : SMap Bool := []
  trackEdges : SMap Nat := []
  /-- Control sets whose asynchronous set/reset was released within t_REC of the edge that comes next (R47). -/
  recov : NSet := []
  /-- Cells with an asynchronous set/reset whose data input was 1 at the latest edge (R47). -/
  lastD : NSet := []
deriving DecidableEq, Repr

/-- The record of one wire of a bridge site (R66, R83, R87, R93). -/
structure WireRec where
  dly : Nat := 0
  drv : Nat := 0
  eye : Nat := 0
  state : Nat := 0
  margRun : Nat := 0
  carrier : Nat := 0
deriving DecidableEq, Repr

/-- A rotation under way at a site (R83): the logical wire, the phase (0 the first compare window, 1 the sweep, 2 the second
compare window), and the SPN_CTRL settings it started with (R93). -/
structure Rotation where
  wire : Nat
  phase : Nat
  minEye : Nat
  repairEn : Bool
deriving DecidableEq, Repr

/-- The span logic of the plate (R66-R93). -/
structure SpanState where
  /-- The values captured at the last five span edges, the latest in bit 0, by channel. -/
  hist : SMap (BitVec 5) := []
  /-- Regions flipped since the last span edge: their drivers are off at the next edge (R79). -/
  breaking : NSet := []
  /-- The plane that was ACTIVE before such a flip, by region: the inbound taps keep its records until the edge (R79). -/
  oldTap : SMap Nat := []
  fenced : NSet := []
  /-- Fence clears that take effect at the next span edge (R78). -/
  clearing : NSet := []
  /-- Site state by die × 24,576 + site: 0 NORMAL, 1 REPAIRED, 2 DEGRADED, 3 LOST. -/
  site : SMap Nat := []
  /-- Wire records by (die × 24,576 + site) × 34 + wire. -/
  wire : SMap WireRec := []
  rot : SMap Rotation := []
  /-- Sites placed first in the rotation order, by die × 24,576 + site, in order. -/
  first : List Nat := []
  /-- Sites of woken regions, placed first in the next lap (R85). -/
  nextLap : List Nat := []
  /-- Logical wires visited in the running lap, by (die × 24,576 + site) × 34 + wire. -/
  visited : NSet := []
  /-- Sites whose spare S0 failed and must be recalibrated before the next attempt (R87). -/
  s0Bad : NSet := []
  /-- Wires calibrated at start-up so far, by (die × 24,576 + site) × 34 + wire, and whether every wire of every site is (R86). -/
  started : NSet := []
  calibrated : Bool := false
  /-- Channels with more than one active drive enable at the last span edge and no fence (R77). -/
  contended : NSet := []
deriving DecidableEq, Repr

/-- A request outstanding at an ingress port under its wire tag: as the initiator gave it, as the port stamped it, the NOC_TMO in force at
its acceptance, and whether it is a take of the region's execution port (R171, R182, R183, R204, R240). -/
structure Outst where
  wireTag : Nat
  req : Packet
  sent : Packet
  tmo : Nat
  xt : Bool := false
deriving DecidableEq, Repr

/-- A request that waits at its ingress port beyond MAXOUT (R182), and whether it is a take of the execution port (R240). -/
structure WaitReq where
  req : Packet
  xt : Bool := false
deriving DecidableEq, Repr

/-- An ingress port (R171, R182-R184): requests outstanding, retired wire tags, requests that wait beyond MAXOUT, and packets
delivered to the attachment. -/
structure NetPort where
  outst : List Outst := []
  retired : NSet := []
  waiting : List WaitReq := []
  delivered : List Packet := []
deriving DecidableEq, Repr

/-- A packet a destination router holds for a domain that is not running (R185). -/
structure HeldPkt where
  dom : Nat
  pkt : Packet
deriving DecidableEq, Repr

/-- A flit in a lane of a router input: its packet, its number in the packet, and the plate cycle from which it can leave the router
(R167, R168). -/
structure MeshFlit where
  pkt : Packet
  idx : Nat
  ready : Nat
deriving DecidableEq, Repr

/-- A packet whose last flit has left its destination router: the plate cycle in which it reaches the attachment, and its lane (R167). -/
structure Landing where
  due : Nat
  rsp : Bool
  pkt : Packet
deriving DecidableEq, Repr

/-- The mesh (R164-R167, R177, R178). Inputs and outputs of a router are its ports 0-15 and its links N, E, S, W as 16-19; a lane of one is
numbered ((router × 20 + input or output) × 4 + PRI) × 2, and 1 more for the response lane. -/
structure MeshState where
  /-- The plate cycle, counted while a flit is under way. -/
  cycle : Nat := 0
  /-- The flits in the buffers of the router inputs, by lane, the oldest first. -/
  lane : SMap (List MeshFlit) := []
  /-- The input whose packet has started on an output lane, plus 1 (R178). -/
  lock : SMap Nat := []
  /-- The input whose turn it is on an output lane (R178). -/
  turn : SMap Nat := []
  /-- The levels of an output's last flit cycles, up to 16, the latest first, by router × 20 + output (R178). -/
  hist : SMap (List Nat) := []
  landing : List Landing := []
deriving DecidableEq, Repr

/-- The Rovis network (R164-R191). -/
structure NetState where
  /-- Ingress ports by node × 16 + port. -/
  port : SMap NetPort := []
  mesh : MeshState := {}
  /-- Requests and messages that have reached their attachment, and responses that have, in order of arrival. -/
  reqs : List Packet := []
  rsps : List Packet := []
  held : List HeldPkt := []
  /-- TQ requests delivered to a design and not yet answered, by fabric port (R189). -/
  tq : SMap (List Packet) := []
deriving DecidableEq, Repr

/-- A fabric port beyond its ingress port (R186-R190, R240): the flits that transferred on IQ and TS and the profiles of the take
handshakes, at the edges of FPCLK, not yet acted on; the flits of an IQ and of a TS packet still without its last flit (the latest last);
the flits that wait to appear on IS and TQ, and the flits shown there. -/
structure FpPort where
  iqIn : List Flit := []
  tsIn : List Flit := []
  takeIn : List (BitVec 3) := []
  iq : List Line := []
  ts : List Line := []
  isWait : List Flit := []
  tqWait : List Flit := []
  isOut : Option Flit := none
  tqOut : Option Flit := none
deriving DecidableEq, Repr

/-- The outputs of a block-memory port (R95, R98, R100, R112): DOUT and CERR as shown, the read that OREG shows after the next
edge, and the VALID and REFUSED lines of queue mode. -/
structure BmPort where
  dout : Word64 := 0
  cerr : Bool := false
  next : Option (Word64 × Bool) := none
  nextValid : Bool := false
  valid : Bool := false
  refused : Bool := false
  /-- EN was 1, or a queue access was made, at the latest active edge (R104, R107). -/
  busy : Bool := false
deriving DecidableEq, Repr

/-- A refetch the memory still owes (R104): memory, side (0 port A, 1 port B, 2 the network side) and line. -/
structure Refetch where
  mem : Nat
  side : Nat
  line : Nat
deriving DecidableEq, Repr

/-- A line command that is pending on a die (R107): OP 1 REFETCH, 2 RECOMPUTE. -/
structure LineCmd where
  op : Nat
  mem : Nat
  line : Nat
deriving DecidableEq, Repr

/-- A hardware queue (R109-R115): the read pointer and the count in elements, the counts that the pop and the push side see,
the edges each side has left until it sees the count, whether a flush still empties each side at its next edge, and the elements that
the pop side then drops. -/
structure Queue where
  rd : Nat := 0
  count : Nat := 0
  popView : Nat := 0
  pushView : Nat := 0
  popLag : Nat := 0
  pushLag : Nat := 0
  flushPush : Bool := false
  flushPop : Bool := false
  drop : Nat := 0
deriving DecidableEq, Repr

/-- A network request held at a fabric port (R118). -/
structure HeldReq where
  qn : Nat
  push : Bool
  pkt : Packet
deriving DecidableEq, Repr

/-- A network request whose lines are moving (R119); aborted by a flush or a flip. -/
structure Transfer where
  qn : Nat
  push : Bool
  pkt : Packet
  aborted : Bool
deriving DecidableEq, Repr

/-- Block memories and queue controllers (R94-R129). -/
structure BmState where
  /-- Lines by memory × 1,024 + line: the check in bits [71:64] over the data in bits [63:0]. -/
  lines : SMap Word72 := []
  /-- Ports by memory × 2 + port (0 A, 1 B). -/
  port : SMap BmPort := []
  refetch : List Refetch := []
  lineCmd : SMap LineCmd := []
  q : SMap Queue := []
  held : List HeldReq := []
  moving : List Transfer := []
  /-- The clearing of every memory after power-on reset is still to complete (R122). -/
  clearing : Bool := true
  /-- Memories and engines a load has written since reset, which the clearing leaves alone (R122). -/
  loadedMem : NSet := []
  loadedEng : NSet := []
deriving DecidableEq, Repr

/-- An open loop of an engine (R148): the first and the last address of its body and the passes left. -/
structure LoopRec where
  start : Nat
  last : Nat
  left : Nat
deriving DecidableEq, Repr

/-- A tap engine beyond its registers (R132-R160). -/
structure Engine where
  om : SMap Word72 := []
  /-- IMEM entries whose parity bit disagrees (R158). -/
  badParity : NSet := []
  acc : SMap Nat := []
  dl : SMap Nat := []
  coef : SMap Nat := []
  loops : List LoopRec := []
  fifoIn : List Nat := []
  fifoOut : List Nat := []
  /-- START as last sampled, and the EVT output. -/
  startPin : Bool := false
  evt : Bool := false
  /-- Engine cycles since the last instruction that wrote an accumulator, up to 3 (R152). -/
  sinceAcc : Nat := 3
  /-- The OM slots the latest instruction that writes OM uses, 1 for P and 2 for Q, and the engine cycles since it issued, up to 3 (R141). -/
  writeSlots : Nat := 0
  sinceWrite : Nat := 3
  /-- Elements an OUTA that waits has pushed (R147). -/
  pushed : Nat := 0
  /-- A STOP has been accepted and completes after the instruction in hand, and the CLEAR (bit 1) and START (bit 0) of the same
  write that follow it (R157). -/
  stopping : Bool := false
  after : Nat := 0
deriving DecidableEq, Repr

/-- A FLIT frame that an ACK does not yet cover (R199). -/
structure TxFrame where
  seq : Nat
  rsp : Bool
  flit : Flit
deriving DecidableEq, Repr

/-- A frame that waits for its slot (R196, R197): FTYPE, the FCW below it, its payload and NAK. ACK and CRW are filled in as it is sent. -/
structure FrameReq where
  ftype : Nat
  fcw : Nat
  payload : Nat
  nak : Bool := false
deriving DecidableEq, Repr

/-- A link port beyond its registers (R196-R204, R213, R215). Lanes are numbered 2 × PRI + LANE. -/
structure Link where
  /-- WIDTH in force since the last bring-up. -/
  width : Nat := 3
  txSeq : Nat := 0
  /-- Frames an ACK does not cover, oldest first. -/
  replay : List TxFrame := []
  /-- Packets accepted and not yet sent, in order. -/
  waiting : List Packet := []
  /-- Flits sent on each lane, and the latest CTOTAL received for it. -/
  sent : SMap Nat := []
  ctotal : SMap Nat := []
  /-- Receiver: the SEQ expected, whether a NAK is open, the flits of unfinished packets by lane, the packets that wait to be handled by
  lane, the flits freed by lane, and the lane whose CTOTAL the next frame carries. -/
  rxSeq : Nat := 0
  /-- A FLIT has been accepted since the link came up, so that ACK is valid (R197). -/
  rxAny : Bool := false
  nakOpen : Bool := false
  rx : SMap (List Line) := []
  arrived : SMap (List Packet) := []
  freed : SMap Nat := []
  /-- Packets in `arrived` that came before the link last came up; their flits are not freed (R198, R201). -/
  stale : SMap Nat := []
  crwLane : Nat := 0
  /-- Resends in a row, and the oldest frame they started from (R200). -/
  resends : Nat := 0
  resendSeq : Nat := 0
  /-- Marks sent (R213). -/
  mseq : Nat := 0
  /-- Frames that wait for their slots, in order (R199, R213). -/
  wire : List FrameReq := []
  /-- FSEQ of the next CAPS frames (R375). -/
  fseq : Nat := 0
  /-- DEPTH of the last MARK received that R214 admits (R405). -/
  markDepth : Nat := 0
  /-- MSEQ of that MARK, and the marks between it and the one before, until a measurement takes the interval (R404). -/
  markSeq : Option Nat := none
  markGap : Nat := 0
deriving DecidableEq, Repr

/-- A general lane beyond its registers (R371-R381): the rate in force since DETECT; the scrambler and the run of identical symbols of each
half; the symbols the transmitter sent in its latest slot; received bits that belong to the next window, and the bits by which a slip has
moved the boundary since the last one; the age in received symbols of each stuff error of the last 2^20; whether the receiver is in step with a
training pattern received in PRBS; whether the last CAPS frame disagreed with the lane's own settings, its FSEQ and the bit time of
its arrival; NEXT as sent and received; and of an eye scan its N, its slices so far, and whether it holds the offset sampler. -/
structure LaneX where
  mbd : Nat := 0xDAC0
  pam4 : Bool := true
  txS : Nat := 0
  txSym : Nat := 0
  txLen : Nat := 0
  sentSyms : List (BitVec 2) := []
  rxS : Nat := 0
  runSym : Nat := 0
  runLen : Nat := 0
  rest : List Bool := []
  boundary : Nat := 0
  capsAt : Option (Nat × Nat) := none
  mismatch : Bool := false
  sentNext : Bool := false
  gotNext : Bool := false
  stuffAge : List Nat := []
  synced : Bool := false
  scanN : Nat := 0
  slices : Nat := 0
  scanHolds : Bool := false
  /-- CTLE peaking setting, which tuning steps move (R380). -/
  ctle : Nat := 0
deriving DecidableEq, Repr

/-- A node descriptor as kept for a key (R223, R224). -/
structure Desc where
  arity : Nat
  list : Nat
  act : Word64
deriving DecidableEq, Repr

/-- A token at a slice: its key and fields (R221, R225), and the request it came in. -/
structure Token where
  g : Nat
  n : Nat
  c : Nat
  op : Nat
  value : Word64
  delay : Nat
  nb : Bool
  req : Packet
deriving DecidableEq, Repr

/-- A partial match: its key, kept descriptor, operands held, and the slots it takes of the general pool and the reserve (R228, R229). -/
structure Match where
  g : Nat
  n : Nat
  c : Nat
  desc : Desc
  ops : SMap Word64
  gen : Nat
  rsv : Nat
deriving DecidableEq, Repr

/-- A firing (R228, R236). -/
structure Firing where
  key : Match
  tick : Nat
deriving DecidableEq, Repr

/-- A token on the delay list, in its general-pool slot (R232). -/
structure Delayed where
  tok : Token
  desc : Desc
  due : Nat
deriving DecidableEq, Repr

/-- A token held for want of a slot (R230). -/
structure HeldTok where
  tok : Token
  desc : Desc
deriving DecidableEq, Repr

/-- A descriptor read under way, and the tokens that wait for it (R224). -/
structure Fetch where
  tag : Nat
  g : Nat
  n : Nat
  toks : List Token
  /-- An INVAL of the graph came after the read, so the copy is not cached (R224). -/
  stale : Bool := false
deriving DecidableEq, Repr

/-- A take that waits: its mask and its request, a DTAKE or a READ of a take window (R234). -/
structure Take where
  mask : BitVec 32
  req : Packet
deriving DecidableEq, Repr

/-- A dispatcher slice beyond its registers (R221-R245). -/
structure Slice where
  matching : List Match := []
  delay : List Delayed := []
  hold : List HeldTok := []
  /-- Firings by local list. -/
  lists : SMap (List Firing) := []
  /-- Firings on the private ring on their way here. -/
  ring : List Firing := []
  waits : List Take := []
  /-- Cached descriptors by graph × 65,536 + node, the latest first. -/
  cache : List (Nat × Desc) := []
  fetch : List Fetch := []
  /-- Tokens that arrived behind one whose descriptor is being read, in arrival order (R226). -/
  line : List Token := []
  nextTag : Nat := 0
  /-- Tokens of a graph under purge, in arrival order (R241). -/
  purgeWait : List Token := []
deriving DecidableEq, Repr

/-- The dispatcher: its slices, and the graphs whose purge or invalidation is in progress. -/
structure DspState where
  slice : SMap Slice := []
  purging : NSet := []
  invaling : NSet := []
deriving DecidableEq, Repr

/-- Fuses: the anti-rollback counter, the signer key slots with the hash provisioned in each and those revoked (R259, R274, R487), the
expert key, the debug authority public key, the seal counter (R482, R487, R521), and the steps of return preparation (R573). -/
structure FuseState where
  svn : Nat := 0
  slots : SMap (BitVec 384) := []
  revoked : NSet := []
  expert : Option (BitVec 384) := none
  debugKey : Option (List Byte) := none
  sealEvents : Nat := 0
  returnStarted : Bool := false
  /-- The device key-encryption key has been burned to all ones (R573). -/
  kekBurned : Bool := false
  returned : Bool := false
deriving DecidableEq, Repr

/-- An initialisation entry of a manifest (R257): TARGET, device region, INDEX and LEN. -/
structure InitEntry where
  target : Nat
  region : Nat
  index : Nat
  len : Nat
deriving DecidableEq, Repr

/-- A run entry of a manifest (R256): its device region, first ordinal, count and ZFILL. -/
structure RunEntry where
  region : Nat
  first : Nat
  count : Nat
  zfill : Bool
deriving DecidableEq, Repr

/-- The load in progress (R249, R261-R265): its source (0 xSPI, 1 STREAM, 2 self-load), the class recorded at OPEN, whether the boot ROM
opened it, its sequence number, the image bytes received, and, once the manifest is read, its runs, entries, declared regions, frames
and entries done, the bus fence, the plane CRC list by region × 22,528 + ordinal, whether it is staged and whether its CRC lists are. -/
structure Load where
  source : Nat
  icls : Nat
  boot : Bool
  seq : Nat
  bytes : List Byte := []
  phase : Nat := 1
  runs : List RunEntry := []
  entries : List InitEntry := []
  regions : NSet := []
  frame : Nat := 0
  entry : Nat := 0
  fence : NSet := []
  crc : SMap Word32 := []
  written : NSet := []
  staged : Bool := false
  listed : Bool := false
  /-- The span count and the record checks are done (R265). -/
  checked : Bool := false
  /-- Items of the step in hand that the budget has admitted, by die (R424). -/
  paid : SMap Nat := []
deriving DecidableEq, Repr

/-- What a plane records of the load that wrote it (R265). -/
structure PlaneRec where
  svn : Nat
  version : Nat
  seq : Nat
deriving DecidableEq, Repr

/-- What a staging bank holds (R264, R578): the load, its entries and declared regions, and INIT_LEN. -/
structure BankRec where
  seq : Nat
  entries : List InitEntry
  regions : NSet
  initLen : Nat
deriving DecidableEq, Repr

/-- A flip of a set of regions (R269, R270): phase 0 waits for wakes, 1 from F, 2 initialisation complete, 3 OUTPUTS, 4 ENABLES; the
regions that had no ACTIVE plane before F; whether staged data could not be read (R273). -/
structure Flip where
  regions : NSet
  phase : Nat := 0
  blank : NSet := []
  fault : Bool := false
deriving DecidableEq, Repr

/-- The burin beyond its registers (R247-R290). -/
structure BurinState where
  load : Option Load := none
  /-- The window whose next write is answered FENCED: 1 stream, 2 self-load (R284). -/
  fenced : Option Nat := none
  /-- By region × 2 + plane. -/
  plane : SMap PlaneRec := []
  bank : SMap BankRec := []
  /-- The plane last left by a flip, by region (R247). -/
  left : SMap Nat := []
  slSet : NSet := []
  /-- The last load was opened through the self-load port (R311). -/
  lastSelf : Bool := false
  flips : List Flip := []
  version : Word64 := 0
  buildId : List Byte := []
  /-- The region set of the boot ROM's load, once it has verified (R449). -/
  bootSet : NSet := []
deriving DecidableEq, Repr

/-- A frame that fails its check (R295): its region, the plane it was read from, its ordinal and entry, the next source to try, the
candidate found, whether the census handed it over or its region was placed first, and whether the region has flipped since the read. -/
structure Search where
  region : Nat
  plane : Nat
  ordinal : Nat
  entry : Word32
  source : Nat
  cand : Option Frame
  census : Bool
  first : Bool := false
  flipped : Bool := false
deriving DecidableEq, Repr

/-- A scrub engine (R291): its place in the lap as region of the die × 22,528 + ordinal, regions placed first, the place in the one
of them being read, the search in hand, whether its lap is complete and the lap's µs. -/
structure ScrubEngine where
  pos : Nat := 0
  first : List Nat := []
  fregion : Option Nat := none
  fpos : Nat := 0
  hand : Option Search := none
  lapDone : Bool := false
  lapUs : Nat := 0
deriving DecidableEq, Repr

/-- The scrubber beyond its registers (R291-R300): the frame-check table by region × 22,528 + ordinal, the block CRCs, the engines by die,
and the frames the census has handed over. -/
structure ScbState where
  table : SMap Word32 := []
  block : SMap Word32 := []
  eng : SMap ScrubEngine := []
  handed : NSet := []
deriving DecidableEq, Repr

/-- A computation of the device digest (R301, R302): CNS_SCOPE0-3 as it began, each die's place, the frames read by region × 22,528 +
ordinal, and those of them that could not be repaired. -/
structure DigestRun where
  scope : List Nat := []
  pos : SMap Nat := []
  seen : SMap Frame := []
  bad : NSet := []
deriving DecidableEq, Repr

/-- A census round at a device (R305-R307): the reference, the DOWN ports UP at adoption and those that gave a SUMMARY, the sums, 
whether the own comparison is complete, dissented, and the SUMMARY sent, and, at the root, the first 16 SUBJECTs. -/
structure Round where
  ref : BitVec 384
  down : NSet := []
  got : NSet := []
  count : Nat := 0
  dissents : Nat := 0
  compared : Bool := false
  own : Bool := false
  done : Bool := false
  subjects : List Nat := []
deriving DecidableEq, Repr

/-- The census beyond its registers (R301-R308). -/
structure CnsState where
  run : Option DigestRun := none
  round : Option Round := none
  /-- Frames that the computation handed over and the scrubber could not repair, by region × 22,528 + ordinal. -/
  unrepaired : NSet := []
  /-- A round whose reference waits for the root's own digest (R304). -/
  starting : Bool := false
deriving DecidableEq, Repr

/-- What an engine decides of an access (R318). -/
inductive Verdict where
  | prot | busy | poison | clear | light | full
deriving DecidableEq, Repr

/-- A counter block or tree node (R323, R324): bits [447:0], and the MAC at [511:448]. -/
structure TreeNode where
  body : BitVec 448
  mac : Word64
deriving DecidableEq, Repr

/-- A counter-cache entry (R324, R334): the node, its CRC-32C, and whether it holds updates that DRAM does not. -/
structure CacheEnt where
  node : TreeNode
  crc : Word32
  dirty : Bool
deriving DecidableEq, Repr

/-- A quarantined subtree (R336). -/
structure Quar where
  kid : Nat
  level : Nat
  addr : Nat
deriving DecidableEq, Repr

/-- An entry of IPE_ALARM_LOG (R328): cause 0 TAG, 1 TREE, 2 PWRITE, 3 VTIME. -/
structure AlarmRec where
  addr : Nat
  icls : Nat
  cause : Nat
  tag : Nat
  src : Nat
deriving DecidableEq, Repr

/-- A verification under way (R327-R333): the request, the status and data it was or will be answered with, whether the answer is out
(a speculative read), whether it is a partial write or ATOMIC, the lines whose check fails, a failing tree node's level, whether the
failure has been found, the refetches made, and whether the late alarm is out. -/
structure Verif where
  req : Packet
  stat : Stat
  data : List Line
  spec : Bool
  pwrite : Bool
  bad : List Nat
  node : Option Nat
  failed : Bool
  attempts : Nat
  alarmed : Bool := false
deriving DecidableEq, Repr

/-- The protection engines beyond their registers (R315-R341). -/
structure IpeState where
  /-- Keys by KID. -/
  key : SMap (BitVec 256) := []
  /-- Stored tags by ADDR[47:6]. -/
  tag : SMap Word64 := []
  /-- Counter blocks and tree nodes in DRAM, by engine × 2^40 + level × 2^32 + index; an unlisted one is as INIT wrote it (R323, R324, R339). -/
  node : SMap TreeNode := []
  /-- The counter cache, by the same key (R324). -/
  cache : SMap CacheEnt := []
  /-- The allocated roots by engine × 2^32 + index of the level-4 node (R324). -/
  root : SMap (BitVec 56) := []
  /-- Tree keys drawn since power-on, by engine; one not drawn since is that of the power-on State.reset stands for (R324). -/
  treeKey : SMap (BitVec 256) := []
  quar : SMap (List Quar) := []
  log : SMap (List AlarmRec) := []
  verif : List Verif := []
  /-- Lines an INIT has still to write, by engine (R339). -/
  initLeft : SMap Nat := []
  /-- KIDs whose range is bound: from the acceptance of INIT or ENABLE until RETIRE makes the KID FREE (R316). -/
  bound : NSet := []
  /-- The KID whose RETIRE runs (R340). -/
  retiring : Option Nat := none
  /-- Alarms signalled to the burin and the core clusters and not yet handled (R328). -/
  signal : List AlarmRec := []
deriving DecidableEq, Repr

/-- What an unlisted DRAM line of one GiB of one channel holds: zeros, the unknown contents left by a loss (R362, R453), or zeros scrambled
under a LIGHT key by INIT (R339). -/
inductive Fill where
  | zero
  | lost (gen : Nat)
  | scrambled (kid : Nat) (key : BitVec 256)
deriving DecidableEq, Repr

/-- A write in a write queue (R355): its line in stored form, its PRI and its source. -/
structure QWrite where
  line : Nat
  data : Line
  pri : Nat
  src : Nat
deriving DecidableEq, Repr

/-- An entry of an activation tracker (R360): a row, and its activations by source. -/
structure ActRow where
  row : Nat
  count : Nat
  srcs : SMap Nat
deriving DecidableEq, Repr

/-- A request in the hands of a protection engine and its controller (R320, R355): accepted under the verdict and the verified-only setting in
force as it arrived, with the lines whose read command has been issued. -/
structure Job where
  req : Packet
  verdict : Verdict
  vonly : Bool
  got : List Nat := []
deriving DecidableEq, Repr

/-- A command of the retry buffer (R348, R361): a row opened, a line read or written, a refresh, an RFM of a bank or of a rank. -/
inductive DramCmd where
  | act (bank row : Nat)
  | read (line : Nat)
  | write (line : Nat) (data : Line)
  | refresh (rank bank : Nat)
  | rfm (bank : Nat)
  | rfmAll (rank : Nat)
deriving DecidableEq, Repr

/-- A DRAM controller beyond its registers (R352-R365). Banks are numbered rank × 1,024 + subchannel × 512 + bank group × 16 + bank. -/
structure DdrChan where
  /-- The write queue, oldest first. -/
  wq : List QWrite := []
  /-- Drain mode, and whether it was entered only because the read queue was empty (R356). -/
  drain : Bool := false
  drainEmpty : Bool := false
  /-- The line-buffer slice in stored form, the latest first, at most 16 lines of a set (R354). -/
  lb : List (Nat × Line) := []
  openRow : SMap Nat := []
  tracker : SMap (List ActRow) := []
  rfm : NSet := []
  /-- The bank of each throttle entry (R360). -/
  thrBank : SMap Nat := []
  /-- Refresh debt by rank (R359). -/
  debt : SMap Nat := []
  /-- The retry buffer, oldest first; the commands a replay has still to issue (R361). -/
  retry : List DramCmd := []
  replay : List DramCmd := []
  alert : Bool := false
  replaying : Bool := false
  attempts : Nat := 0
  /-- Requests accepted and not yet performed, in arrival order; the reads among their lines whose command is still to be issued are the read
  queue (R355). -/
  jobs : List Job := []
  /-- Corrected lines to be written back once the write queue has room (R353). -/
  backs : List (Nat × Line) := []
  /-- Command parity is in use: an RDIMM, or a UDIMM whose devices all support it (R348). -/
  parity : Bool := false
  /-- ns of the running µs in which the throttles count down (R360). -/
  thrNs : Nat := 0
  /-- Ranks with a retraining window requested, and open (R364). -/
  winReq : NSet := []
  winOpen : NSet := []
  /-- Timing parameters of the SPD and as written (R366). -/
  tpSpd : List Nat := []
  tpWant : SMap Nat := []
deriving DecidableEq, Repr

/-- The DRAM and its controllers (R348-R366). `mem` holds each line, by ADDR[47:6], as its difference from what its GiB and channel is
filled with; an unlisted line is equal to that filling. -/
structure DdrState where
  /-- The installed capacity in bytes (R349). -/
  installed : Nat := 0
  /-- Start-up training has completed since the last power-on, pin or system reset. -/
  trained : Bool := false
  mem : SMap Line := []
  /-- Bits upset in the stored bursts: of a line, of a tag line at 2^42 + line / 8, of a tree node at 2^43 + its key (R352). -/
  err : SMap (BitVec 640) := []
  /-- By GiB × 8 + channel. -/
  fill : SMap Fill := []
  /-- Losses of contents so far, by channel. -/
  losses : SMap Nat := []
  chan : SMap DdrChan := []
deriving DecidableEq, Repr

/-- One Rovis request of an inbound PCIe request: its TAG, its status once answered, its data. -/
structure PciPart where
  tag : Nat
  stat : Option Stat
  data : List Byte
deriving DecidableEq, Repr

/-- An inbound request in hand (R389, R390): none of its Rovis requests issued yet, or each with its answer. -/
structure PciIn where
  req : PciReq
  issued : Bool
  parts : List PciPart
deriving DecidableEq, Repr

/-- What a port sends to its host: a memory or configuration request, a completion, an MSI-X
message with the four words of its table entry, or an error reported under AER (R388, R389, R391, R394). `port` true is
port B; `func` is the requester or completer, VFs from 8 on. -/
inductive Tlp where
  | read (port : Bool) (func : Nat) (addr : Nat) (bytes : Nat)
  | write (port : Bool) (func : Nat) (addr : Nat) (data : List Byte)
  | cfg (port : Bool) (bus dev fn reg : Nat) (data : Option (List Byte))
  | completion (port : Bool) (func tag : Nat) (status : Nat) (poisoned : Bool) (data : List Byte)
  | msix (func vec : Nat) (entry : List Nat)
  | aer (port : Bool) (func : Nat) (abort : Bool)
deriving DecidableEq, Repr

/-- A non-posted request outstanding at the host (R391): the Rovis READ or configuration WRITE it serves, or the DMA channel; its bytes, those
that its completions have brought, and its outcome once the last has come. -/
structure PciOb where
  req : Option Packet
  chan : Nat
  bytes : Nat
  data : List Byte
  stat : Option Stat := none
deriving DecidableEq, Repr

/-- What a descriptor in flight waits for (R393, R394): its own bytes from device memory, the descriptors before its FENCE, room for its
read among the requests outstanding at the host, or nothing but its transfer. -/
inductive DmaStage where
  | fetch | fence | room | run
deriving DecidableEq, Repr

/-- A descriptor in flight (R392, R393): its fields, the bytes moved, the TAG of the device request it waits for, the bytes of the chunk
being written, its status once it has ended, the bytes of a chunk that are read so far, and what it waits for. -/
structure DmaDesc where
  src : Nat
  dst : Nat
  len : Nat
  flags : Nat
  moved : Nat
  tag : Option Nat
  chunk : Nat
  status : Nat
  held : List Byte := []
  stage : DmaStage := .run
deriving DecidableEq, Repr

/-- A PCIe controller beyond its registers (R386-R395): BIFUR, the modes and TOTAL_VF in force since the last rising edge of EN, requests
in hand, TLPs sent, descriptors in flight by channel, and the words of the MSI-X tables by function (R388). -/
structure PciCtl where
  bifur : Bool := false
  modeA : Nat := 0
  modeB : Nat := 0
  totalVf : SMap Nat := []
  inq : List PciIn := []
  ob : List PciOb := []
  sent : List Tlp := []
  dma : SMap (List DmaDesc) := []
  nextTag : Nat := 0
  msix : SMap Nat := []
deriving DecidableEq, Repr

/-- A voltage-frequency sequence of a group (R416): its point, whether it raises, whether the one retry of its voltage step is used, and
whether the voltage step has ended, well or not. -/
structure VfSeq where
  target : Nat
  raise : Bool
  retried : Bool := false
  settled : Bool := false
  failed : Bool := false
deriving DecidableEq, Repr

/-- Clocks and power beyond their registers (R398-R416). -/
structure ClkState where
  /-- The HF oscillator is starting; it does not count as a fallback until it passes 1 ms of checks (R400, R403). -/
  hfStart : Bool := false
  hfBarred : Bool := false
  /-- A trip waits for the HF oscillator: every domain and SREF are stopped (R402). -/
  fallback : Bool := false
  /-- Consecutive measurements within 10 ppm (R405). -/
  goodRun : Nat := 0
  /-- What each STOPPED domain was, by domain; mesh and span clock are stopped too (R402, R453). -/
  stopped : SMap Nat := []
  halted : Bool := false
  /-- The span clock, domain 156, is closed in DROWSE with every region (R450). -/
  spanOff : Bool := false
  /-- Closes under way to OFF; domains a wake waits for the end of whose close (R411, R412). -/
  offs : NSet := []
  wakes : NSet := []
  /-- Power-gated domains that are waking (R85, R291). -/
  fromOff : NSet := []
  vf : SMap VfSeq := []
deriving DecidableEq, Repr

/-- The modes entered by command and not left (R433). -/
inductive Overlay where
  | none | drowse | contain | service
deriving DecidableEq, Repr

/-- Mode control, supplies, resets and the boot ROM beyond their registers (R432-R458). -/
structure ModeState where
  /-- The management core is off: DORMANT (R433); so after a power-on, pin or system reset until group B is good (R434). -/
  dormant : Bool := true
  overlay : Overlay := .none
  /-- The overlay held before CONTAIN (R436, R454). -/
  under : Overlay := .none
  /-- The straps are being sampled (R439). -/
  strapWindow : Bool := true
  /-- PWR_REQ (R438). -/
  pwrReq : Bool := false
  /-- Domains DROWSE closed that ran at entry, and the points the groups held then (R450). -/
  slept : NSet := []
  points : List Nat := []
  /-- What a transition into or out of DROWSE still moves: domains, and 160 + group; whether it is an exit (R436, R450). -/
  moving : NSet := []
  exiting : Bool := false
  /-- Group B rails lost while PWR_REQ was high (R452). -/
  lost : NSet := []
  /-- CONTAIN is never resumable: after a self-test failure, or the loss of another rail than VCCL or VDDQ (R452). -/
  never : Bool := false
  /-- The reset MGT_RESET has scheduled: 1 management, 2 system (R457). -/
  reset : Nat := 0
  /-- Management resets since the last other reset (R442). -/
  mgmtResets : Nat := 0
  /-- The firmware container the boot window has received (R445). -/
  container : List Byte := []
  /-- The management core's private memory, as far as the boot ROM has loaded it (R444). -/
  code : List Byte := []
  /-- Measurement slots; an unlisted slot holds zeros (R447). -/
  meas : SMap (BitVec 384) := []
  /-- DRAM channels in self-refresh since CONTAIN or DORMANT (R453). -/
  selfRefresh : NSet := []
deriving DecidableEq, Repr

/-- How a request record came and how its answer goes (R476, R478, R479): a CAN FD controller; a PCIe mailbox; a link with the response's
port, HOPLIM, label and PRI. -/
inductive DictVia where
  | can (c : Nat)
  | mailbox (c : Nat)
  | link (rport rhops rlabel origin pri : Nat)
deriving DecidableEq, Repr

/-- A request record that waits for the firmware (R468): its session, sequence number, way and bytes. -/
structure DictReq where
  session : Nat
  seq : Nat
  via : DictVia
  record : List Byte
deriving DecidableEq, Repr

/-- An open segmented transfer (R472): a write or a read, its object, total length, the last segment and the bytes so far or to come. -/
structure Xfer where
  write : Bool
  index : Nat
  sub : Nat
  total : Nat
  /-- The bytes of a full segment: RMAX - 8 of the request that opened the transfer. -/
  room : Nat := 56
  last : Nat := 0
  data : List Byte := []
  /-- The segment answered last, for its repeat (R473). -/
  rsp : List Byte := []
deriving DecidableEq, Repr

/-- The relay of a session (R480): its timeout in ms, its state (0 idle, 1 pending, 2 done, 3 timed out), its sequence number and the
response. -/
structure RelayState where
  timeoutMs : Nat := 1000
  state : Nat := 0
  seq : Nat := 0
  response : List Byte := []
deriving DecidableEq, Repr

/-- A session (R466). -/
structure Session where
  /-- Selectors by index × 256 + subindex. -/
  sel : SMap Nat := []
  unlocked : Bool := false
  xfer : Option Xfer := none
  /-- A transfer was closed for silence (R473). -/
  silent : Bool := false
  last : Option (Nat × List Byte) := none
  nonce : Option (BitVec 256) := none
  wrapped : List Byte := []
  challenge : Option (BitVec 384) := none
  relay : RelayState := {}
  /-- The ORIGIN of a link session, and when it was last used, by the count of requests (R467). -/
  origin : Option Nat := none
  used : Nat := 0
deriving DecidableEq, Repr

/-- A PCIe mailbox (R478). -/
structure Mailbox where
  busy : Bool := false
  ready : Bool := false
  overrun : Bool := false
  seq : Nat := 0
  irqEn : Bool := false
  irqVec : Nat := 0
  request : List Byte := []
  response : List Byte := []
deriving DecidableEq, Repr

/-- A frame a CAN FD controller has sent: identifier and data (R476). -/
structure CanFrame where
  ctl : Nat
  id : Nat
  data : List Byte
deriving DecidableEq, Repr

/-- The object dictionary (R460-R492, R499, R500). -/
structure DictState where
  queue : List DictReq := []
  session : SMap Session := []
  requests : Nat := 0
  mailbox : SMap Mailbox := []
  canSent : List CanFrame := []
  /-- Bit rates in force by CAN FD controller, 16 × DBR + NBR: those held when EN last rose (R477). -/
  canRate : SMap Nat := []
  relaySeq : Nat := 0
  /-- A wrong answer was given less than 1 s ago (R485). -/
  wrong : Bool := false
  /-- Attestation objects built since power-on reset (R491). -/
  attested : Nat := 0
  /-- PERIOD of the telemetry (R500). -/
  period : Nat := 100
deriving DecidableEq, Repr

/-- An entry of the error collector (R493): its key, count, times in LF cycles, detail, the origin of the latest remote report, whether its
window is open, whether reports came in it, and the count at its last delivery. -/
structure ErrEntry where
  unit : Nat
  cls : Nat
  remote : Bool
  count : Nat
  first : Nat
  last : Nat
  detail : Nat
  sysid : Nat
  isOpen : Bool := true
  dirty : Bool := false
  delivered : Nat := 0
deriving DecidableEq, Repr

/-- The error collector (R493-R497): entries by number, 512 the overflow entry; deliveries that wait for queue space, oldest first, as entry
and FLAGS; the queued records. -/
structure ErrState where
  /-- Reports that arrived over links (R40, R495): each its port's unit, class, count and detail, with its origin. -/
  remote : List (Report × Nat) := []
  entry : SMap ErrEntry := []
  waiting : List (Nat × Nat) := []
  queue : List (List Byte) := []
deriving DecidableEq, Repr

/-- A cacheable line in a cluster's caches, L1 and L2 together, which are coherent (R502): its data, whether it is dirty, and the core that
last used it. -/
structure CacheLine where
  data : Line
  dirty : Bool
  core : Nat
deriving DecidableEq, Repr

/-- A worker-core access (R502, R503). -/
structure CoreAcc where
  core : Nat
  op : CoreOp
  va : Word64
  addr : Nat
  size : Nat
  data : Word64
  /-- The TAG of its request at the cluster port. -/
  tag : Nat := 0
  /-- A take load of the dispatcher (R239). -/
  take : Bool := false
deriving DecidableEq, Repr

/-- A worker core (R501-R505, R524): its registers by the number of DBG_REGSEL, its reservation, its take buffer with the profile window it
was last filled from, and the outcome of its latest access: a value, or the number of an access fault. -/
structure CoreX where
  regs : SMap Word64 := []
  /-- The 64-byte line an LR has reserved (R503). -/
  reserved : Option Nat := none
  takeBuf : List Byte := []
  takeWin : Option Nat := none
  value : Word64 := 0
  fault : Option Nat := none
deriving DecidableEq, Repr

/-- A core cluster's port: its caches by line, the core whose access filled a line last, the accesses that wait for an answer, the next
TAG. -/
structure ClusterX where
  cache : SMap CacheLine := []
  fills : SMap Nat := []
  waiting : List CoreAcc := []
  nextTag : Nat := 0
deriving DecidableEq, Repr

/-- The worker cores by number, and the clusters. -/
structure CoreState where
  core : SMap CoreX := []
  cluster : SMap ClusterX := []
deriving DecidableEq, Repr

/-- The debug unit, the stylus wire and probe capture (R517-R529). -/
structure DebugState where
  /-- The request that waits for its budget (R522); the one whose answer has not come, whether a read, with its TAG; the response bits
  still to be read (R519). -/
  held : Option Packet := none
  waiting : Option (Bool × Nat) := none
  response : List Bool := []
  nextTag : Nat := 0
  /-- The ephemeral private key and challenge of a key exchange (R521), and whether a wrong answer was given less than 1 s ago. -/
  kxKey : Option Nat := none
  kxChallenge : List Byte := []
  kxWrong : Bool := false
  /-- The management core halted by debug, and its registers by number (R521). -/
  mgmtRegs : SMap Word64 := []
  /-- Span cycles since the last sample; the proof pins' samples still on their way, the oldest first; the samples of the flit in the
  making; the flits that wait; flits to write after the trigger (R528, R529). -/
  phase : Nat := 0
  line : List Word64 := []
  pinOut : Word64 := 0
  samples : List Word64 := []
  flits : List Line := []
  post : Nat := 0
deriving DecidableEq, Repr

/-- Pins beyond their registers (R535-R550). User pins are numbered bank × 48 + pin; service pins 0-159 and always-on pins 160-191. -/
structure PinState where
  /-- User pads that are high, and the input capture flip-flops that hold 1 (R537). -/
  upad : NSet := []
  ucap : NSet := []
  /-- User outputs held from F to OUTPUTS, or while their region is gated: 4 × pull + 2 × enable + level (R272, R456). -/
  uhold : SMap Nat := []
  /-- The synchronised pads of service and always-on pins that are high (R540). -/
  pads : NSet := []
  /-- The function in force at a pin whose registers ask for another until the switch (R545). -/
  func : SMap Nat := []
  /-- Pads held after a switch of function: 2 × enable + level (R545). -/
  hold : SMap Nat := []
  /-- Pads held by sleep code 5: 2 × enable + level (R550). -/
  slept : SMap Nat := []
  /-- Input signals selected by two or more pins (R546). -/
  conflict : NSet := []
  /-- Pattern-match units whose settled condition holds, by bank × 8 + unit (R549). -/
  cond : NSet := []
  /-- The ADC channel that is converted next (R544). -/
  adcNext : Nat := 0
  /-- The bank clock that follows an increment of DSP_NOW (R541). -/
  tick : Bool := false
deriving DecidableEq, Repr

/-- Boundary scan (R569-R571): the instruction in the register, whether a pin-control instruction is in effect, whether HIGHZ is it, the
boundary register as updated, and what the selected register shifts out. -/
structure ScanState where
  ir : Nat := 1
  control : Bool := false
  highz : Bool := false
  boundary : List Bool := []
  shift : List Bool := []
deriving DecidableEq, Repr

/-- The machine. `csr` holds every register-held value of the spec's register tables, keyed by unit × 2^24 + offset; an unlisted
register holds its reset value. `pending` is the queue of commands that wait, first in, first out. -/
structure State where
  csr : SMap Word32 := []
  /-- Unsent error reports, oldest first (R39), and those on the error path. -/
  reports : List Report := []
  path : List Report := []
  /-- The completion of the latest access that answers its sender directly. -/
  cpl : Completion := ⟨.ok, []⟩
  bud : BudState := {}
  evt : EvtState := {}
  sram : SramState := {}
  fab : FabricState := {}
  span : SpanState := {}
  net : NetState := {}
  bm : BmState := {}
  /-- Tap engines by device engine number. -/
  eng : SMap Engine := []
  /-- Fabric ports by number. -/
  fp : SMap FpPort := []
  /-- Link ports by number. -/
  link : SMap Link := []
  /-- General lanes by lane die × 32 + lane. -/
  lane : SMap LaneX := []
  dsp : DspState := {}
  ddr : DdrState := {}
  ipe : IpeState := {}
  /-- PCIe controllers by number. -/
  pci : SMap PciCtl := []
  fuse : FuseState := {}
  cfg : BurinState := {}
  scb : ScbState := {}
  cns : CnsState := {}
  pin : PinState := {}
  scan : ScanState := {}
  clk : ClkState := {}
  mode : ModeState := {}
  dict : DictState := {}
  err : ErrState := {}
  cores : CoreState := {}
  dbg : DebugState := {}
  /-- The model's own: how many free values have been drawn (log entry 3). -/
  free : Nat := 0
  pending : List Instr := []
deriving DecidableEq, Repr

/-- The machine right after power-on reset (R10, R440): every register at its reset value, memory with nothing listed,
no command waiting. -/
def State.reset : State := {}

end Sys2Proof.Machine
end

