-- ==== Sys2Proof/Machine/Ops.lean ====
section
/-! DEFINITION. The named operations every meaning is written with: CSR fields, error reports, free values, clock domains and wakes,
events, budgets. -/

namespace Sys2Proof.Machine

open Sys2Proof

/-- What a meaning answers. -/
abbrev Out := Host.Outcome State Fault Refusal

/-! ### CSRs (R6, R10-R13) -/

/-- The key of a register in the CSR file. -/
def csrKey (u off : Nat) : Nat := u * 0x1000000 + off

/-- Registers that all units of a kind share keep their one home in the first unit (R243, R343, R344). -/
def csrHome (u off : Nat) : Nat :=
  if (unitKind u == .dsp && decide (0x1000 ≤ off) && decide (off < 0x2000)) then csrKey 0x18 off
  else if (unitKind u == .ipe && decide (0x100 ≤ off)) then csrKey 0x10 off
  else csrKey u off

/-- Whether a register of the table lies at an offset. -/
def RegD.covers (r : RegD) (off : Nat) : Bool :=
  decide (r.off ≤ off) &&
    (let d := off - r.off
     let i := d / r.s1
     let e := d % r.s1
     if r.n1 = 1 then
       decide (d / r.s2 < r.n2) && d % r.s2 == 0
     else decide (i < r.n1) && decide (e / r.s2 < r.n2) && e % r.s2 == 0)

/-- The description of the register at an offset of a kind of unit. -/
def regAt (k : UnitKind) (off : Nat) : Option RegD := (unitRegs k).find? (fun r => r.covers off)

/-- A field's mask in its word. -/
def fieldMask (hi lo : Nat) : Nat := (2 ^ (hi + 1 - lo) - 1) * 2 ^ lo

/-- The reset word of a register description. -/
def RegD.resetWord (r : RegD) : Nat := (r.fields.map (fun f => f.rst * 2 ^ f.lo)).sum

/-- CAP at reset, by budget channel (R423). -/
def budCapReset (c : Nat) : Nat :=
  [1024, 256, 480, 262144, 16384, 40960, 410, 512, 2048, 1024].getD c 0

/-- FLOOR at reset, by budget channel (R423). -/
def budFloorReset (c : Nat) : Nat := [256, 64, 128, 16384, 4096, 0, 0, 64, 0, 0].getD c 0

/-- The value an unlisted register reads as: its reset value (R10), with the values the tables give by index
(R417-R420, R423, R457). -/
def csrReset (key : Nat) : Word32 :=
  let u := key / 0x1000000
  let off := key % 0x1000000
  if u = 3 ∧ 0x100 ≤ off ∧ off < 0x240 ∧ off % 0x20 = 0 then BitVec.ofNat 32 (budCapReset ((off - 0x100) / 0x20))
  else if u = 3 ∧ 0x100 ≤ off ∧ off < 0x240 ∧ off % 0x20 = 4 then BitVec.ofNat 32 (budFloorReset ((off - 0x100) / 0x20))
  else if u = 1 ∧ 0x40 ≤ off ∧ off < 0x70 ∧ off % 0x10 = 0 then BitVec.ofNat 32 ((0x40 + (off - 0x40) / 0x10) * 0x10000 + 0x3200)
  else if u = 1 ∧ (off = 0xA70 ∨ off = 0xA74) then 0x10001#32
  else if u = 0 ∧ off = 0x10050 then 0x30000000#32
  else
    match regAt (unitKind u) off with
    | some r => BitVec.ofNat 32 r.resetWord
    | none => 0

/-- The stored word of a register. -/
def State.reg (s : State) (u off : Nat) : Word32 := (SMap.find s.csr (csrHome u off)).getD (csrReset (csrHome u off))

/-- A word stored in a register, whatever its access codes: the hardware's own write. -/
def State.setReg (s : State) (u off : Nat) (w : Word32) : State :=
  { s with csr := if w = csrReset (csrHome u off) then SMap.erase s.csr (csrHome u off) else SMap.put s.csr (csrHome u off) w }

/-- Where a field of a repeated register lies. -/
def Fld.at (f : Fld) (i j : Nat) : Nat := f.off + f.s1 * i + f.s2 * j

/-- The value of a field of a word. -/
def getBits (w : Word32) (hi lo : Nat) : Nat := w.toNat / 2 ^ lo % 2 ^ (hi + 1 - lo)

/-- A word with one field replaced. -/
def putBits (w : Word32) (hi lo v : Nat) : Word32 :=
  (w &&& ~~~(BitVec.ofNat 32 (fieldMask hi lo))) ||| BitVec.ofNat 32 (v % 2 ^ (hi + 1 - lo) * 2 ^ lo)

/-- The value of a field. -/
def State.fld (s : State) (u : Nat) (f : Fld) (i : Nat := 0) (j : Nat := 0) : Nat :=
  getBits (s.reg u (f.at i j)) f.hi f.lo

/-- A field set by the hardware. -/
def State.setFld (s : State) (u : Nat) (f : Fld) (v : Nat) (i : Nat := 0) (j : Nat := 0) : State :=
  s.setReg u (f.at i j) (putBits (s.reg u (f.at i j)) f.hi f.lo v)

/-- A one-bit field. -/
def State.flag (s : State) (u : Nat) (f : Fld) (i : Nat := 0) (j : Nat := 0) : Bool := s.fld u f i j != 0

/-- A saturating counter advanced. -/
def State.countSat (s : State) (u : Nat) (f : Fld) (n : Nat := 1) (i : Nat := 0) (j : Nat := 0) : State :=
  s.setFld u f (addSat (f.hi + 1 - f.lo) (s.fld u f i j) n) i j

/-- A wrapping counter advanced. -/
def State.countWrap (s : State) (u : Nat) (f : Fld) (n : Nat := 1) (i : Nat := 0) (j : Nat := 0) : State :=
  s.setFld u f (s.fld u f i j + n) i j

/-! ### Free values -/

/-- A free value: a number nothing constrains (log entry 3). -/
def State.fresh (s : State) : Nat := (Config.freeWord s.free).toNat

/-- The free value `i` places on, where one command needs several (log entry 3). -/
def State.freshAt (s : State) (i : Nat) : Nat := (Config.freeWord (s.free + i)).toNat

/-- The draw of a free value counted. -/
def State.draw (s : State) : State := { s with free := s.free + 1 }

/-! ### Error reports (R25, R39) -/

/-- A report added to a unit's unsent reports: one for each class, counted, keeping its first detail (R39). -/
def addReport (u cls detail : Nat) : List Report → List Report
  | [] => [⟨u, cls, 1, detail⟩]
  | r :: rs => if r.unit = u ∧ r.cls = cls then { r with count := r.count + 1 } :: rs else r :: addReport u cls detail rs

/-- An error of a class raised against a unit (R25, R39). -/
def State.raise (s : State) (u cls : Nat) (detail : Nat := 0) : State :=
  { s with reports := addReport u cls detail s.reports }

/-- The completion answered to the sender of a command. -/
def State.answer (s : State) (st : Stat) (data : List Byte := []) : State := { s with cpl := ⟨st, data⟩ }

/-! ### Clock domains (R410-R412) -/

/-- States of a clock domain (R420). -/
def domRun : Nat := 0
/-- CLOSING. -/
def domClosing : Nat := 1
/-- GATED. -/
def domGated : Nat := 2
/-- OFF. -/
def domOff : Nat := 3
/-- WAKING. -/
def domWaking : Nat := 4
/-- STOPPED. -/
def domStopped : Nat := 5

/-- The state of a clock domain; domains 156 and 157 always run (R420). -/
def State.dom (s : State) (i : Nat) : Nat := s.fld uClk F.clkDomState i

/-- Whether a domain's clock runs, so that its units act: RUN, or CLOSING until it closes (R410, R411). -/
def State.clocked (s : State) (i : Nat) : Bool := s.dom i == domRun || s.dom i == domClosing

/-- The state of a clock domain set. -/
def State.setDom (s : State) (i v : Nat) : State := if i = 156 ∨ i = 157 then s else s.setFld uClk F.clkDomState v i

/-- A wake of a domain begun: REQ becomes RUN; a gated or power-gated domain is waking, one that is closing is woken once it has closed
(R412). -/
def State.wakeDom (s : State) (i : Nat) : State :=
  if s.dom i = domGated then (s.setDom i domWaking).setFld uClk F.clkDomReq 0 i
  else if s.dom i = domOff then
    ({ s with clk := { s.clk with fromOff := NSet.add s.clk.fromOff i } }.setDom i domWaking).setFld uClk F.clkDomReq 0 i
  else if s.dom i = domClosing then { s with clk := { s.clk with wakes := NSet.add s.clk.wakes i } }.setFld uClk F.clkDomReq 0 i
  else s

/-! ### Events (R509-R513) -/

/-- Targets of the distributor (R506). -/
def nTargets : Nat := 65

/-- Whether the core of a target is halted by debug (R510, R516). -/
def State.targetHalted (s : State) (t : Nat) : Bool :=
  decide (t < 64) && s.flag uDbg F.dbgHstatHalted (t / 2)

/-- The PEND bit of a source. -/
def State.evtPend (s : State) (n : Nat) : Bool := bitOf (s.fld uEvt F.evtPendPend (n / 32)) (n % 32)

/-- The ACTIVE bit of a source. -/
def State.evtActive (s : State) (n : Nat) : Bool := bitOf (s.fld uEvt F.evtActiveActive (n / 32)) (n % 32)

/-- A bit of a number set or cleared. -/
def withBit (v n : Nat) (b : Bool) : Nat :=
  if b then (if bitOf v n then v else v + 2 ^ n) else (if bitOf v n then v - 2 ^ n else v)

/-- The PEND bit of a source set or cleared. -/
def State.setPend (s : State) (n : Nat) (b : Bool) : State :=
  s.setFld uEvt F.evtPendPend (withBit (s.fld uEvt F.evtPendPend (n / 32)) (n % 32) b) (n / 32)

/-- The ACTIVE bit of a source set or cleared. -/
def State.setActive (s : State) (n : Nat) (b : Bool) : State :=
  s.setFld uEvt F.evtActiveActive (withBit (s.fld uEvt F.evtActiveActive (n / 32)) (n % 32) b) (n / 32)

/-- Whether a target is eligible for a source (R510). -/
def State.eligible (s : State) (n t : Nat) : Bool :=
  bitOf (s.fld uEvt F.evtEnEn t (n / 32)) (n % 32) &&
    decide (s.fld uEvt F.evtThreshThresh t < s.fld uEvt F.evtPrioPrio n) && !s.targetHalted t

/-- The first eligible target in cyclic order after the target that last claimed the source (R510). -/
def State.firstEligible (s : State) (n : Nat) : Option Nat :=
  let start := match SMap.find s.evt.lastClaim n with
    | some t => t + 1
    | none => 0
  ((List.range nTargets).map (fun i => (start + i) % nTargets)).find? (fun t => s.eligible n t)

/-- A PEND, not ACTIVE source is assigned; one that is ACTIVE, not PEND or without an eligible target is not (R510, R513). -/
def State.assignEvt (s : State) (n : Nat) : State :=
  if s.evtPend n && !s.evtActive n then
    match SMap.find s.evt.assigned n with
    | some t => if s.eligible n t then s else
        { s with evt := { s.evt with assigned := match s.firstEligible n with
            | some t' => SMap.put s.evt.assigned n t'
            | none => SMap.erase s.evt.assigned n } }
    | none =>
        match s.firstEligible n with
        | some t' => { s with evt := { s.evt with assigned := SMap.put s.evt.assigned n t' } }
        | none => s
  else { s with evt := { s.evt with assigned := SMap.erase s.evt.assigned n } }

/-- The listed sources of R507; the others never become pending. -/
def sourceListed (n : Nat) : Bool :=
  (decide (1 ≤ n) && decide (n ≤ 13)) || (decide (16 ≤ n) && decide (n ≤ 80)) ||
  (decide (256 ≤ n) && decide (n ≤ 511)) || (decide (512 ≤ n) && decide (n ≤ 1087)) ||
  (decide (2048 ≤ n) && decide (n < 4096))

/-- A rising edge of a source (R509, R513): PEND is set, or, while domain 155 is gated, the edge is latched and wakes it. -/
def State.edge (s : State) (n : Nat) : State :=
  if !sourceListed n then s
  else if s.dom 155 = domRun then (s.setPend n true).assignEvt n
  else { s with evt := { s.evt with latched := NSet.add s.evt.latched n } }.wakeDom 155

/-- The level of a source driven: a rise is an edge (R509). -/
def State.level (s : State) (n : Nat) (v : Bool) : State :=
  let was := s.evt.level.contains n
  let s1 := { s with evt := { s.evt with level := if v then NSet.add s.evt.level n else NSet.del s.evt.level n } }
  if v && !was then s1.edge n else s1

/-- The edges latched while domain 155 was gated take effect (R509). -/
def State.unlatch (s : State) : State :=
  s.evt.latched.foldl (fun t n => (t.setPend n true).assignEvt n) { s with evt := { s.evt with latched := [] } }

/-! ### Budgets (R422-R427) -/

/-- The key of a meter: channel × 8 + instance. -/
def budKey (c i : Nat) : Nat := c * 8 + i

/-- A meter. -/
def State.meter (s : State) (c i : Nat) : BudInst := SMap.get {} s.bud.inst (budKey c i)

/-- A meter replaced. -/
def State.setMeter (s : State) (c i : Nat) (m : BudInst) : State :=
  { s with bud := { s.bud with inst := SMap.store {} s.bud.inst (budKey c i) m } }

/-- CAP in force (R426). -/
def State.capOf (s : State) (c : Nat) : Nat := SMap.get (budCapReset c) s.bud.caps c

/-- FLOOR in force (R426). -/
def State.floorOf (s : State) (c : Nat) : Nat := SMap.get (budFloorReset c) s.bud.floors c

/-- Whether an item is admitted: U < CAP (R424). -/
def State.admits (s : State) (c i : Nat) : Bool := decide ((s.meter c i).u < s.capOf c)

/-- An item admitted: its whole cost is added to U (R424). -/
def State.charge (s : State) (c i cost : Nat) : State :=
  let m := s.meter c i
  s.setMeter c i { m with u := m.u + cost, admitted := true }

/-- An item held: it waits in its unit, and the meter records work waiting, and whether at its cap (R427). -/
def State.hold (s : State) (c i : Nat) : State :=
  let m := s.meter c i
  s.setMeter c i { m with waiting := true, held := m.held || !s.admits c i }

/-- An item waiting that is admitted runs, one that is not is held (R424, R427). -/
def State.budgeted (s : State) (c i cost : Nat) (f : State → State) : State :=
  if s.admits c i then f (s.charge c i cost) else s.hold c i

end Sys2Proof.Machine
end

