-- ==== Sys2Proof/Machine/Fabric.lean ====
section
/-! DEFINITION. Cells, clusters and cluster-level wires, evaluated from the frames of the ACTIVE plane; the regional clock edge and the
asynchronous set/reset (R41-R65, R96-R98, R135-R137, R187). -/

namespace Sys2Proof.Machine

open Sys2Proof

/-! ### Planes and frames (R247, R250) -/

/-- The ordinal of a cluster frame in its region (R62, R250). -/
def ordCluster (col minor : Nat) : Nat := col * 112 + minor
/-- The ordinal of a span frame (R81, R250). -/
def ordSpan (col minor : Nat) : Nat := 21504 + col * 4 + minor
/-- The ordinal of a record frame (R123, R160, R250). -/
def ordRecord (col minor : Nat) : Nat := 21888 + col * 2 + minor
/-- The ordinal of a REGION frame (R250, R252). -/
def ordRegion (minor : Nat) : Nat := 21906 + minor

/-- The key of a frame: plane, device region, ordinal. -/
def frameKey (p n o : Nat) : Nat := (p * 128 + n) * 22528 + o

/-- A frame of a plane; a frame never written is all zeros (R247). -/
def State.frame (s : State) (p n o : Nat) : Frame := SMap.get 0 s.fab.frames (frameKey p n o)

/-- A frame written. -/
def State.setFrame (s : State) (p n o : Nat) (f : Frame) : State :=
  { s with fab := { s.fab with frames := SMap.store 0 s.fab.frames (frameKey p n o) f } }

/-- The ACTIVE plane of a region (CFG_REGION.ACT, R278). -/
def State.active (s : State) (n : Nat) : Option Nat :=
  let a := s.fld uCfg F.cfgRegionAct n
  if a < 2 then some a else none

/-- The stage of release of a region: 0 HELD, 1 OUTPUTS, 2 ENABLES, 3 released (R278). -/
def State.stage (s : State) (n : Nat) : Nat := s.fld uCfg F.cfgRegionStage n

/-- Whether a region drives its outputs: an ACTIVE plane that has reached OUTPUTS, and the region not powered off (R58, R413). -/
def State.outputsOn (s : State) (n : Nat) : Bool := (s.active n).isSome && decide (1 ≤ s.stage n) && s.dom n != domOff

/-- Bits of a frame as a number. -/
def frameBits (f : Frame) (lo w : Nat) : Nat := f.toNat / 2 ^ lo % 2 ^ w

/-- Cluster bit `b` of a cluster (R62). -/
def clusterBit (s : State) (p n col row b : Nat) : Bool :=
  (s.frame p n (ordCluster col (b / 16))).getLsbD (16 * row + b % 16)

/-- A cluster field, least significant bit at the lowest `b` (R63). -/
def clusterField (s : State) (p n col row b : Nat) : Nat → Nat
  | 0 => 0
  | w + 1 => clusterField s p n col row b w + boolNat (clusterBit s p n col row (b + w)) * 2 ^ w

/-- Region control bits (R252). -/
def State.regionBits (s : State) (p n lo w : Nat) : Nat := frameBits (s.frame p n (ordRegion 0)) lo w

/-! ### Flip-flops (R43-R49) -/

/-- The key of a cell: device region, region row, region-local column, cell. -/
def cellKey (n row col c : Nat) : Nat := ((n * 128 + row) * 192 + col) * 16 + c

/-- A cell's field of R64 in the ACTIVE plane; 0 with no ACTIVE plane. -/
def cellField (s : State) (n col row c lo w : Nat) : Nat :=
  match s.active n with
  | some p => clusterField s p n col row (24 * c + lo) w
  | none => 0

/-- Whether row 1 of R46 holds the flip-flops of a track: no ACTIVE plane, RESETS not reached, or fewer than two active
edges of the track since (R271). -/
def State.ffHeld (s : State) (n track : Nat) : Bool :=
  (s.active n).isNone || decide (s.stage n < 3) || decide (SMap.get 0 s.fab.trackEdges (n * 8 + track) < 2)

/-- The control set bits of R44. -/
def controlSet (s : State) (n col row cs : Nat) : Nat :=
  match s.active n with
  | some p => clusterField s p n col row (1552 + 7 * cs) 7
  | none => 0

/-- The control set a cell selects (R43). -/
def cellSet (s : State) (n col row c : Nat) : Nat := controlSet s n col row (cellField s n col row c 19 1)

/-- SRVAL of a cell (R45). -/
def srval (s : State) (n col row c : Nat) : Bool := cellField s n col row c 21 1 != 0

/-- Whether control set bits give an asynchronous set/reset (R44). -/
def setAsync (cs : Nat) : Bool := bitOf cs 5 && bitOf cs 6

/-- Whether an asynchronous set/reset can act on a cell: its set gives one, its flip-flop is on and not held, and its region is not gated
(R37, R43, R46, R271). -/
def asyncActs (s : State) (n col row c : Nat) : Bool :=
  let cs := cellSet s n col row c
  setAsync cs && cellField s n col row c 17 2 != 3 && !s.ffHeld n (bitsOf cs 2 0) &&
    (s.dom n == domRun || s.dom n == domClosing)

/-- Q of a cell whose set/reset pin is `sr` where it acts asynchronously (R43, R46, R48, R49). -/
def qUnder (s : State) (n col row c : Nat) (sr : Bool) : Bool :=
  match s.active n with
  | none => false
  | some _ =>
    let init := cellField s n col row c 20 1 != 0
    if s.ffHeld n (bitsOf (cellSet s n col row c) 2 0) then init
    else if cellField s n col row c 17 2 = 3 then init
    else if sr then srval s n col row c
    else SMap.get false s.fab.q (cellKey n row col c)

/-! ### Attachments that replace cluster inputs (R96-R98, R135-R137, R187) -/

/-- The 256-bit record of a memory in a plane (R123). -/
def State.memRecord (s : State) (p n k : Nat) : Nat :=
  frameBits (s.frame p n (ordRecord (k / 16) (k % 16 / 8))) (256 * (k % 8)) 256

/-- A port field of a memory record (R124): port 0 is A, 1 is B. -/
def memPortField (r port hi lo : Nat) : Nat := bitsOf r (8 + 16 * port + hi) (8 + 16 * port + lo)

/-- LAYOUT as it takes effect: 7 is RAM mode with both ports disabled (R110). -/
def memLayout (r : Nat) : Nat := bitsOf r 2 0

/-- Whether a port is enabled (R110, R124). -/
def memPortEn (r port : Nat) : Bool := memPortField r port 11 11 = 1 && memLayout r != 7

/-- A memory of the device: region × 128 + k. -/
def State.bmPort (s : State) (m port : Nat) : BmPort := SMap.get {} s.bm.port (m * 2 + port)

/-- A queue of the device by QN. -/
def State.queue (s : State) (qn : Nat) : Queue := SMap.get {} s.bm.q qn

/-- The die and the die-local queue index of a QN (R109). -/
def qnDie (qn : Nat) : Nat := qn / 8192
/-- The index of a queue's registers within its die (R109, R128). -/
def qnIdx (qn : Nat) : Nat := qn % 8192

/-- FULL as the push side sees it (R113). -/
def queueFull (s : State) (qn : Nat) : Bool :=
  decide (s.fld (uDie (qnDie qn)) F.qcLimitLimit (qnIdx qn) ≤ (s.queue qn).pushView)
/-- AFULL as the push side sees it (R113). -/
def queueAfull (s : State) (qn : Nat) : Bool :=
  let t := s.fld (uDie (qnDie qn)) F.qcThAfullTh (qnIdx qn)
  t != 0 && decide (t ≤ (s.queue qn).pushView)
/-- EMPTY as the pop side sees it (R113). -/
def queueEmpty (s : State) (qn : Nat) : Bool := (s.queue qn).popView == 0
/-- AEMPTY as the pop side sees it (R113). -/
def queueAempty (s : State) (qn : Nat) : Bool :=
  decide ((s.queue qn).popView ≤ s.fld (uDie (qnDie qn)) F.qcThAemptyTh (qnIdx qn))

/-- The QN of queue `q` of memory `k` of a device region (R109). -/
def qnOf (n k q : Nat) : Nat := n / 16 * 8192 + (n % 16 * 128 + k) * 4 + q

/-- What a memory port puts on cluster input CI`k` of its attached row, where it replaces the R56 source (R98). -/
def bmCi (s : State) (n mk port rho k : Nat) : Option Bool :=
  match s.active n with
  | none => none
  | some p =>
    let r := s.memRecord p n mk
    let en := memPortEn r port
    let qmode := memLayout r != 0 && memLayout r != 7
    let st := s.bmPort (n * 128 + mk) port
    if 56 ≤ k then
      if en && memPortField r port 10 10 = 1 && (!qmode || port == 1) then some (st.dout.getLsbD (8 * rho + (k - 56)))
      else none
    else if k < 48 then none
    else if qmode then
      if rho = 0 then
        if port = 0 then
          some (if k < 52 then queueFull s (qnOf n mk (k - 48)) else queueAfull s (qnOf n mk (k - 52)))
        else some (if k < 52 then queueEmpty s (qnOf n mk (k - 48)) else queueAempty s (qnOf n mk (k - 52)))
      else if rho = 1 then
        if port = 0 then (if k = 48 then some st.refused else none)
        else if k = 48 then some st.valid else if k = 49 then some st.cerr else none
      else none
    else if rho = 0 && k = 48 && en then some st.cerr
    else none

/-- An engine of the device. -/
def State.engine (s : State) (i : Nat) : Engine := SMap.get {} s.eng i

/-- An engine replaced. -/
def State.setEngine (s : State) (i : Nat) (e : Engine) : State := { s with eng := SMap.store {} s.eng i e }

/-- What an engine puts on cluster input CI`k` of its output-side row while FAB_EN = 1 (R137). -/
def engCi (s : State) (n e rho k : Nat) : Option Bool :=
  let i := n * 64 + e
  let d := n / 16
  if !(s.flag (uDie d) F.tapCfgFabEn (i % 1024)) then none
  else
    let g := s.engine i
    if rho < 4 then
      if 48 ≤ k && k ≤ 56 then some (bitOf (g.fifoOut.headD 0) (9 * rho + (k - 48))) else none
    else if rho = 4 then
      if k = 48 then some (!g.fifoOut.isEmpty)
      else if k = 49 then some (decide (g.fifoIn.length ≤ 5))
      else if k = 50 then some g.evt
      else if k = 51 then some (s.fld (uDie d) F.tapStatusState (i % 1024) == 1)
      else none
    else none

/-- A fabric port's records. -/
def State.fpPort (s : State) (n : Nat) : FpPort := SMap.get {} s.fp n

/-- A fabric port's records replaced. -/
def State.setFp (s : State) (n : Nat) (f : FpPort) : State := { s with fp := SMap.store {} s.fp n f }

/-- An ingress port, by node × 16 + port. -/
def State.netPort (s : State) (k : Nat) : NetPort := SMap.get {} s.net.port k

/-- An ingress port replaced. -/
def State.setNetPort (s : State) (k : Nat) (p : NetPort) : State :=
  { s with net := { s.net with port := SMap.store {} s.net.port k p } }

/-- Bit `i` of the flit on a channel; 0 where none is shown. -/
def flitBit (f : Option Flit) (i : Nat) : Bool :=
  match f with
  | some x => x.data.getLsbD i
  | none => false

/-- Whether a fabric port acts: FP_EN = 1 in an ACTIVE plane that has reached ENABLES (R187, R270). -/
def fpActs (s : State) (n : Nat) : Bool :=
  match s.active n with
  | some p => s.regionBits p n 144 1 == 1 && decide (2 ≤ s.stage n)
  | none => false

/-- The function in force at a service pin: the one before a switch until it takes effect (R541, R545). -/
def State.pinFunc (s : State) (i : Nat) : Nat := (SMap.find s.pin.func i).getD (s.fld uPin F.pinCfgFunc i)

/-- The service pins of a bank that select a line of SV_IN (R541); a pin whose function is switching selects none (R545). -/
def lineSelectors (s : State) (b j : Nat) : List Nat :=
  ((List.range 32).map (fun t => b * 32 + t)).filter (fun i =>
    (SMap.find s.pin.hold i).isNone && ((s.pinFunc i == 3 && i % 32 == j) || (s.pinFunc i == 4 && (i % 32 + 16) % 32 == j)))

/-- A line of SV_IN of a bank: the pad of the one pin that selects it; 0 with none or with two or more (R542, R546). -/
def svLine (s : State) (b j : Nat) : Bool :=
  match lineSelectors s b j with
  | [i] => s.pin.pads.contains i
  | _ => false

/-- A line of SV_IN of a fabric port: that of the lowest bank that names the port (R542). -/
def svIn (s : State) (n j : Nat) : Bool :=
  match (List.range 5).find? (fun b => s.flag uPin F.pinSbPortEn b && s.fld uPin F.pinSbPortPort b == n) with
  | some b => svLine s b j
  | none => false

/-- The execution-port takes of a fabric port that are outstanding (R240). -/
def takesOut (s : State) (n : Nat) : Nat :=
  let np := s.netPort (n * 16)
  (s.fpPort n).takeIn.length + (np.outst.filter (·.xt)).length + (np.waiting.filter (·.xt)).length

/-- Output `sig` of a fabric port (R187, R240). IQ_READY is low while requests wait at the port (R182). -/
def fpSignal (s : State) (n sig : Nat) : Bool :=
  let f := s.fpPort n
  if sig < 512 then flitBit f.isOut sig
  else if sig = 512 then f.isOut.isSome
  else if sig = 513 then (f.isOut.map (·.eop)).getD false
  else if sig < 1026 then flitBit f.tqOut (sig - 514)
  else if sig = 1026 then f.tqOut.isSome
  else if sig = 1027 then (f.tqOut.map (·.eop)).getD false
  else if sig < 1030 then bitOf ((f.tqOut.map (·.pri.toNat)).getD 0) (sig - 1028)
  else if sig < 1034 then fpActs s n && (s.netPort (n * 16)).waiting.isEmpty
  else if sig = 1034 then fpActs s n
  else if sig = 1040 then fpActs s n && decide (takesOut s n < 4)
  else decide (1060 ≤ sig) && decide (sig ≤ 1091) && svIn s n (sig - 1060)

/-- What a fabric port puts on cluster input CI`k` of column 191 while FP_EN = 1 (R187, R240). -/
def fpCi (s : State) (n row k : Nat) : Option Bool :=
  match s.active n with
  | none => none
  | some p =>
    let sig := row * 16 + (k - 48)
    if 48 ≤ k && (decide (sig ≤ 1034) || sig == 1040 || (decide (1060 ≤ sig) && decide (sig ≤ 1091))) && s.regionBits p n 144 1 = 1 then some (fpSignal s n sig) else none

/-- The user I/O bank a region hosts (R535). -/
def hostBank (n : Nat) : Option Nat :=
  if n % 16 = 4 ∨ n % 16 = 8 ∨ n % 16 = 12 then some (n / 16 * 3 + n % 16 / 4 - 1) else none

/-- The region that hosts a bank of user pins (R535). -/
def hostOf (b : Nat) : Nat := b / 3 * 16 + b % 3 * 4 + 4

/-- The record of a user pin in a plane (R538, R539). -/
def State.pinRecord (s : State) (p n pin : Nat) : Nat := frameBits (s.frame p n (ordRegion (2 + pin / 32))) (64 * (pin % 32)) 64

/-- The standard of a user pin as it takes effect: STD 0 where it is reserved, disagrees with BANKV, or is LVDS on an odd pin (R536). -/
def State.pinStd (s : State) (p n pin : Nat) : Nat :=
  let v := frameBits (s.frame p n (ordRegion 1)) 0 2
  let std := bitsOf (s.pinRecord p n pin) 3 0
  if (std = 1 ∧ v = 1) ∨ (std = 2 ∧ v = 2) ∨ (std = 3 ∧ v = 3) ∨ (std = 4 ∧ v = 3 ∧ pin % 2 = 0) then std else 0

/-- What a user pin puts on CI63 of its cluster while its STD is not 0 (R537). -/
def userCi (s : State) (n row : Nat) : Option Bool :=
  match s.active n, hostBank n with
  | some p, some b =>
    if row < 48 ∧ s.pinStd p n row ≠ 0 then
      some (if bitOf (s.pinRecord p n row) 12 then s.pin.ucap.contains (b * 48 + row) else s.pin.upad.contains (b * 48 + row))
    else none
  | _, _ => none

/-- The attachment's value at a cluster input, where one replaces the R56 source. -/
def attachedCi (s : State) (n col row k : Nat) : Option Bool :=
  if col % 24 = 11 then bmCi s n (col / 24 * 16 + row / 8) 0 (row % 8) k
  else if col % 24 = 12 then bmCi s n (col / 24 * 16 + row / 8) 1 (row % 8) k
  else if col % 48 = 24 then engCi s n (col / 48 * 16 + row / 8) (row % 8) k
  else if col = 191 then fpCi s n row k
  else if col = 0 ∧ k = 63 then userCi s n row
  else none

/-! ### Evaluation (R42, R50-R57) -/

/-- A signal of the fabric, at die-local cluster coordinates. -/
inductive Sig where
  /-- O of a cell. -/
  | o (x y c : Nat)
  /-- COUT of a cell. -/
  | co (x y c : Nat)
  /-- Q of a cell. -/
  | q (x y c : Nat)
  /-- A crossbar pin. -/
  | pin (x y p : Nat)
  /-- A cluster input. -/
  | ci (x y k : Nat)
  /-- The wire of index `i` that ends at a cluster, travelling `dir`. -/
  | wire (x y dir i : Nat)
deriving DecidableEq, Repr

/-- The length of a wire index (R53). -/
def wireLen (i : Nat) : Nat := if i < 8 then 1 else if i < 12 then 4 else 16

/-- The start cluster of a wire that ends at (x, y) travelling N, E, S or W; none past the edge of the die (R54). -/
def wireStart (x y dir i : Nat) : Option (Nat × Nat) :=
  let l := wireLen i
  if dir = 0 then (if l ≤ y then some (x, y - l) else none)
  else if dir = 1 then (if l ≤ x then some (x - l, y) else none)
  else if dir = 2 then (if y + l < 512 then some (x, y + l) else none)
  else (if x + l < 768 then some (x + l, y) else none)

/-- The tap record of a cluster's tap in a plane (R68, R81). -/
def State.tapRecord (s : State) (p n x y : Nat) : Nat :=
  let i' := (y - regionY0 n) / 8
  let j' := (x - regionX0 n) / 2
  frameBits (s.frame p n (ordSpan j' (i' / 4))) (512 * (i' % 4) + 32 * tapOf x y) 32

/-- Whether the carrier of a logical wire of a site has failed for good: a LOST wire delivers 0 (R88). -/
def State.wireLost (s : State) (d site w : Nat) : Bool :=
  (SMap.get {} s.span.wire ((d * 24576 + site) * 34 + w)).state == 3

/-- The plane whose tap records a region's inbound taps take: the ACTIVE plane, or the plane before it from a flip to the next span edge
(R79). -/
def State.tapPlane (s : State) (n : Nat) : Option Nat :=
  if s.span.breaking.contains n then SMap.find s.span.oldTap n else s.active n

/-- The value at a cluster's inbound span tap: the value its channel captured two edges ago on the channel's home die, four
edges ago on another (R70, R71, R79, R88). -/
def inboundTap (s : State) (d x y : Nat) : Bool :=
  let n := devRegion d (regionOf x y)
  match s.tapPlane n with
  | none => false
  | some p =>
    let r := s.tapRecord p n x y
    if bitOf r 20 && !s.wireLost d (siteOf x y) (16 + tapOf x y) then
      let c := bitsOf r 19 3
      (SMap.get 0 s.span.hist c).getLsbD (if channelDie c = d then 2 else 4)
    else false

/-- The value of a signal in a die. A combinational loop, whose level the spec does not state, is a free value (log entry 4):
the depth bound is beyond the longest loop-free path, which passes each signal of the die at most once. -/
def evalSig (s : State) (d : Nat) : Nat → Sig → Bool
  | 0, _ => bitOf s.fresh 0
  | fuel + 1, .o x y c =>
    let n := devRegion d (regionOf x y)
    let col := x - regionX0 n
    let row := y - regionY0 n
    match s.active n with
    | none => false
    | some p =>
      let tt := clusterField s p n col row (24 * c) 16
      let a := boolNat (evalSig s d fuel (.pin x y (5 * c)))
      let b := boolNat (evalSig s d fuel (.pin x y (5 * c + 1)))
      let cc := boolNat (evalSig s d fuel (.pin x y (5 * c + 2)))
      if clusterBit s p n col row (24 * c + 16) then
        let pr := bitOf tt (4 * cc + 2 * b + a)
        let cin :=
          if c = 0 then
            match clusterField s p n col row 22 2 with
            | 0 => if y % 128 = 0 then false else evalSig s d fuel (.co x (y - 1) 15)
            | 1 => false
            | 2 => true
            | _ => evalSig s d fuel (.pin x y 4)
          else evalSig s d fuel (.co x y (c - 1))
        pr != cin
      else
        let dd := boolNat (evalSig s d fuel (.pin x y (5 * c + 3)))
        bitOf tt (8 * dd + 4 * cc + 2 * b + a)
  | fuel + 1, .co x y c =>
    let n := devRegion d (regionOf x y)
    let col := x - regionX0 n
    let row := y - regionY0 n
    match s.active n with
    | none => false
    | some p =>
      let cin :=
        if c = 0 then
          match clusterField s p n col row 22 2 with
          | 0 => if y % 128 = 0 then false else evalSig s d fuel (.co x (y - 1) 15)
          | 1 => false
          | 2 => true
          | _ => evalSig s d fuel (.pin x y 4)
        else evalSig s d fuel (.co x y (c - 1))
      if clusterBit s p n col row (24 * c + 16) then
        let tt := clusterField s p n col row (24 * c) 16
        let a := boolNat (evalSig s d fuel (.pin x y (5 * c)))
        let b := boolNat (evalSig s d fuel (.pin x y (5 * c + 1)))
        let cc := boolNat (evalSig s d fuel (.pin x y (5 * c + 2)))
        if bitOf tt (4 * cc + 2 * b + a) then cin else bitOf tt (8 + 4 * cc + 2 * b + a)
      else cin
  | fuel + 1, .q x y c =>
    let n := devRegion d (regionOf x y)
    let col := x - regionX0 n
    let row := y - regionY0 n
    qUnder s n col row c
      (asyncActs s n col row c && evalSig s d fuel (.pin x y (81 + 2 * cellField s n col row c 19 1)))
  | fuel + 1, .pin x y p =>
    let n := devRegion d (regionOf x y)
    let col := x - regionX0 n
    let row := y - regionY0 n
    match s.active n with
    | none => false
    | some pl =>
      let sel := clusterField s pl n col row (384 + 7 * p) 7
      if sel < 64 then evalSig s d fuel (.ci x y sel)
      else if sel < 80 then evalSig s d fuel (.o x y (sel - 64))
      else if sel < 96 then evalSig s d fuel (.q x y (sel - 80))
      else sel == 97
  | fuel + 1, .ci x y k =>
    let n := devRegion d (regionOf x y)
    let col := x - regionX0 n
    let row := y - regionY0 n
    match attachedCi s n col row k with
    | some v => v
    | none =>
      match s.active n with
      | none => false
      | some p =>
        let sel := clusterField s p n col row (972 + 5 * k) 5
        let t := k % 16
        if sel < 4 then evalSig s d fuel (.wire x y sel (t % 8))
        else if sel < 8 then evalSig s d fuel (.wire x y (sel - 4) ((t + 4) % 8))
        else if sel < 12 then evalSig s d fuel (.wire x y (sel - 8) (8 + t % 4))
        else if sel < 16 then evalSig s d fuel (.wire x y (sel - 12) (8 + (t + 2) % 4))
        else if sel < 20 then evalSig s d fuel (.wire x y (sel - 16) 12)
        else if sel = 20 then inboundTap s d x y
        else false
  | fuel + 1, .wire x y dir i =>
    match wireStart x y dir i with
    | none => false
    | some (x0, y0) =>
      let n := devRegion d (regionOf x0 y0)
      let col := x0 - regionX0 n
      let row := y0 - regionY0 n
      if n != devRegion d (regionOf x y) && !s.outputsOn n then false
      else
        match s.active n with
        | none => false
        | some p =>
          let sel := clusterField s p n col row (1292 + 5 * (13 * dir + i)) 5
          if sel < 8 then evalSig s d fuel (.o x0 y0 ((i + 2 * sel) % 16))
          else if sel < 16 then evalSig s d fuel (.q x0 y0 ((i + 2 * (sel - 8)) % 16))
          else if sel < 20 then evalSig s d fuel (.wire x0 y0 (sel - 16) i)
          else if sel < 24 then
            evalSig s d fuel (.wire x0 y0 (sel - 20) (if 8 ≤ i ∧ i < 12 then 12 else 8 + i % 4))
          else if sel = 24 then inboundTap s d x0 y0
          else false

/-- The depth bound of an evaluation: one more than the signals of a die, 248 for each of its 512 × 768 clusters. -/
def evalDepth : Nat := 97517569

/-- O of a cell of a region. -/
def oOf (s : State) (n col row c : Nat) : Bool :=
  evalSig s (n / 16) evalDepth (.o (regionX0 n + col) (regionY0 n + row) c)

/-- A crossbar pin of a cluster of a region. -/
def pinOf (s : State) (n col row p : Nat) : Bool :=
  evalSig s (n / 16) evalDepth (.pin (regionX0 n + col) (regionY0 n + row) p)

/-- Q of a cell: SRVAL while an asynchronous set/reset of it is high (R43, R46, R48, R49). -/
def qOf (s : State) (n col row c : Nat) : Bool :=
  qUnder s n col row c (asyncActs s n col row c && pinOf s n col row (81 + 2 * cellField s n col row c 19 1))

/-- The output of a cell that an attachment takes: O or Q by its source bit (R97, R136, R187). -/
def cellOut (s : State) (n col row c : Nat) (isrc : Bool) : Bool := if isrc then qOf s n col row c else oOf s n col row c

/-- The value of a cluster's outbound span tap (R57). -/
def outboundTap (s : State) (n col row : Nat) : Bool :=
  match s.active n with
  | none => false
  | some p =>
    let sel := clusterField s p n col row 1566 5
    if sel < 16 then oOf s n col row sel else if sel < 31 then qOf s n col row (sel - 16) else false

/-! ### The regional clock edge (R43-R46, R271) -/

/-- The clusters of a region whose column has a configured cluster frame: every other cluster is all zeros and quiescent (R65). -/
def configuredCols (s : State) (p n : Nat) : List Nat :=
  (List.range 192).filter (fun col =>
    s.fab.frames.any (fun e => decide (frameKey p n (col * 112) ≤ e.1) && decide (e.1 < frameKey p n (col * 112 + 112))))

/-- The key of a control set. -/
def setKey (n col row set : Nat) : Nat := ((n * 128 + row) * 192 + col) * 2 + set

/-- The data input of a flip-flop by DSEL (R43). -/
def dataInput (s : State) (n col row c : Nat) : Bool :=
  match cellField s n col row c 17 2 with
  | 0 => oOf s n col row c
  | 1 => pinOf s n col row (5 * c + 4)
  | _ => evalSig s (n / 16) evalDepth (.co (regionX0 n + col) (regionY0 n + row) c)

/-- What a flip-flop captures at an active edge of its control set (R43, R45, R46). -/
def captureCell (s : State) (n col row c : Nat) : Bool :=
  let csn := cellField s n col row c 19 1
  let cs := controlSet s n col row csn
  let sr := bitOf cs 5 && pinOf s n col row (81 + 2 * csn)
  let ce := !bitOf cs 4 || pinOf s n col row (80 + 2 * csn)
  if sr then srval s n col row c
  else if ce then dataInput s n col row c
  else SMap.get false s.fab.q (cellKey n row col c)

/-- The value after the edge that follows a release less than t_REC before it: SRVAL or the data input, by a free value for each flip-flop
of the set (R47, log entry 4). -/
def recoverCell (s : State) (n col row c : Nat) : Bool :=
  let k := setKey n col row (cellField s n col row c 19 1)
  if bitOf (s.freshAt (s.fab.recov.idxOf k)) c then srval s n col row c else dataInput s n col row c

/-- Whether a cell's control set is clocked by an edge of a track, and its flip-flop is on (R43, R44). -/
def clockedBy (s : State) (n col row c track edge : Nat) : Bool :=
  let cs := cellSet s n col row c
  bitsOf cs 2 0 == track && bitsOf cs 3 3 == edge && cellField s n col row c 17 2 != 3

/-- The cells of a region that a test holds of, as column, row and cell; a cell of a column with no configured frame is quiescent (R65). -/
def cellsWith (s : State) (n : Nat) (f : Nat → Nat → Nat → Bool) : List (Nat × Nat × Nat) :=
  match s.active n with
  | none => []
  | some p =>
    (configuredCols s p n).flatMap (fun col =>
      (List.range 128).flatMap (fun row => ((List.range 16).filter (fun c => f col row c)).map (fun c => (col, row, c))))

/-- The cells whose flip-flops an edge of a track clocks. -/
def clockedCells (s : State) (n track edge : Nat) : List (Nat × Nat × Nat) :=
  cellsWith s n (fun col row c => clockedBy s n col row c track edge)

/-- Every flip-flop that the edge clocks, with the value it captures: all are judged on the state before the edge. -/
def captures (s : State) (n track edge : Nat) : List (Nat × Bool) :=
  (clockedCells s n track edge).map (fun x => (cellKey n x.2.1 x.1 x.2.2,
    if s.fab.recov.contains (setKey n x.1 x.2.1 (cellField s n x.1 x.2.1 x.2.2 19 1)) then recoverCell s n x.1 x.2.1 x.2.2
    else captureCell s n x.1 x.2.1 x.2.2))

/-- The flip-flops that a high asynchronous set/reset holds at SRVAL, with that value (R46). -/
def asyncHigh (s : State) (n : Nat) : List (Nat × Bool) :=
  (cellsWith s n (fun col row c =>
    asyncActs s n col row c && pinOf s n col row (81 + 2 * cellField s n col row c 19 1))).map (fun x =>
      (cellKey n x.2.1 x.1 x.2.2, srval s n x.1 x.2.1 x.2.2))

/-- The device domain of a region's clock (R410): domain `n`. -/
def State.regionRuns (s : State) (n : Nat) : Bool := s.dom n == domRun

/-! ### Track records and PLLs (R406-R409) -/

/-- The speed figure of the device's grade (R60, R72, R134). -/
def byGrade (a b c : Nat) : Nat := if Config.grade = 1 then a else if Config.grade = 2 then b else c

/-- The regional clock track limit in MHz (R60). -/
def trackMhz : Nat := byGrade 700 800 900
/-- f_SPAN in MHz (R72). -/
def spanMhz : Nat := byGrade 900 1050 1200
/-- f_ENG in MHz (R134). -/
def engMhz : Nat := byGrade 800 900 1000

/-- The fabric factor of a point, in thousandths (R415). -/
def fabricFactor (k : Nat) : Nat := [1000, 900, 800, 700, 600, 500, 375, 250].getD k 250

/-- The current point of a group (R418). -/
def State.vfCur (s : State) (g : Nat) : Nat := s.fld uClk F.clkVfStatusCur g

/-- VCO of a PLL in MHz as a fraction: SREF, 50 MHz, times (FBDIV + FRAC / 65,536) / REFDIV (R398, R406). -/
def State.vco (s : State) (k : Nat) : Nat × Nat :=
  (50 * (s.fld uClk F.clkPllCfgFbdiv k * 65536 + s.fld uClk F.clkPllCfgFrac k), 65536 * (s.fld uClk F.clkPllCfgRefdiv k + 1))

/-- ODIV of an output. -/
def State.odiv (s : State) (k out : Nat) : Nat := s.fld uClk (if out = 0 then F.clkPllOutOdiv0 else F.clkPllOutOdiv1) k

/-- Whether a PLL output, divided by `d`, stays within a limit in MHz at a point of the fabric group (R409, R415). -/
def State.withinMhz (s : State) (k out d mhz point : Nat) : Bool :=
  decide ((s.vco k).1 * 1000 ≤ mhz * fabricFactor point * ((s.vco k).2 * s.odiv k out * d))

/-- Whether a PLL drives its outputs: enabled, locked and not in STANDBY (R406, R408). -/
def State.pllRuns (s : State) (k : Nat) : Bool :=
  s.flag uClk F.clkPllCfgEn k && s.flag uClk F.clkPllCfgLock k && !s.flag uClk F.clkPllOutStandby k

/-- The record of a track, or, at place 8, the ENGCLK record of a plane's REGION frame (R252). -/
def State.trackRec (s : State) (p n t : Nat) : Nat := s.regionBits p n (16 * t) 16

/-- The PLL and output a record selects, and its divider; output 0 of PLL 52 is the span clock (R73, R407, R409). -/
def recSource (n r : Nat) : Nat × Nat × Nat :=
  if bitsOf r 15 14 = 1 then (6 * (n / 16) + bitsOf r 13 11, bitsOf r 10 10, bitsOf r 3 0 + 1) else (52, 0, bitsOf r 1 0 + 1)

/-- Whether a record breaks a rule of R409, at a point of the fabric group: KIND 0b11, a reserved field value, a frequency over the limit,
an ENGCLK record that is not KIND 1. An all-zero ENGCLK record, like KIND 0b00 of a track, only stops the clock. -/
def State.badRecord (s : State) (n r : Nat) (eng : Bool) (point : Nat) : Bool :=
  let src := recSource n r
  let fast := !s.withinMhz src.1 src.2.1 src.2.2 (if eng then engMhz else trackMhz) point
  match bitsOf r 15 14 with
  | 0 => eng && r != 0
  | 1 => decide (6 ≤ bitsOf r 13 11) || bitsOf r 9 4 != 0 || fast
  | 2 => eng || bitsOf r 13 4 != 0 || bitsOf r 3 2 != 0 || fast
  | _ => true

/-- Whether a clock of a region runs: its record selects a source that runs and breaks no rule, and the region's domain runs (R409,
R420). -/
def State.clockRuns (s : State) (n t : Nat) : Bool :=
  match s.active n with
  | none => false
  | some p =>
    let r := s.trackRec p n t
    s.regionRuns n && bitsOf r 15 14 != 0 && !s.badRecord n r (t == 8) (s.vfCur 2) && s.pllRuns (recSource n r).1

/-- RUNNING of CLK_REGION_STAT (R420). -/
def State.runningTracks (s : State) (n : Nat) : Nat := ((List.range 8).map (fun t => boolNat (s.clockRuns n t) * 2 ^ t)).sum

/-- BADREC set where a record of a region's ACTIVE plane breaks a rule (R409). -/
def State.noteRecords (s : State) (n : Nat) : State :=
  match s.active n with
  | none => s
  | some p =>
    if (List.range 9).any (fun t => s.badRecord n (s.trackRec p n t) (t == 8) (s.vfCur 2)) then s.setFld uClk F.clkRegionStatBadrec 1 n
    else s

/-- Every region's records judged anew, as a PLL or the fabric group's point changes. -/
def State.noteAllRecords (s : State) : State := (List.range 128).foldl (fun (t : State) n => t.noteRecords n) s

/-! ### Block memories and queues at an edge -/

/-- An edge of the pop domain: a flush drops the elements it found and the pop side sees none (R115); otherwise the flag lag counts down
(R114). -/
def Queue.popEdge (q : Queue) : Queue :=
  if q.flushPop then
    { q with
      rd := q.rd + q.drop, count := q.count - q.drop, drop := 0, popView := 0, flushPop := false
      popLag := if q.count ≤ q.drop then 0 else max q.popLag 1 }
  else if q.popLag = 0 then q
  else if q.popLag = 1 then { q with popLag := 0, popView := q.count }
  else { q with popLag := q.popLag - 1 }

/-- An edge of the push domain: a flush leaves the push side seeing no element (R115); otherwise the flag lag counts down (R114). -/
def Queue.pushEdge (q : Queue) : Queue :=
  if q.flushPush then { q with pushView := 0, pushLag := 0, flushPush := false }
  else if q.pushLag = 0 then q
  else if q.pushLag = 1 then { q with pushLag := 0, pushView := q.count - q.drop }
  else { q with pushLag := q.pushLag - 1 }

/-- The device region and memory of a QN. -/
def qnMem (qn : Nat) : Nat := qn / 4

/-- Whether an edge of a region's track clocks a memory port. -/
def edgeClocksPort (s : State) (n track edge m port : Nat) : Bool :=
  match s.active n with
  | none => false
  | some p => m / 128 == n && memPortField (s.memRecord p n (m % 128)) port 2 0 == track &&
      memPortField (s.memRecord p n (m % 128)) port 3 3 == edge

/-- The output register of a port after one more edge (R100); VALID and REFUSED are 1 for one cycle (R112). -/
def BmPort.edge (b : BmPort) : BmPort :=
  match b.next with
  | some (w, c) =>
    { b with dout := w, cerr := c, next := none, valid := b.nextValid, nextValid := false, refused := false, busy := false }
  | none => { b with valid := false, nextValid := false, refused := false, busy := false }

/-- Whether a port acts: it is enabled, its region has reached ENABLES and its clock runs (R100, R270). -/
def portOn (s : State) (m port : Nat) : Bool :=
  match s.active (m / 128) with
  | some p =>
    let r := s.memRecord p (m / 128) (m % 128)
    memPortEn r port && decide (2 ≤ s.stage (m / 128)) && s.clockRuns (m / 128) (memPortField r port 2 0)
  | none => false

/-- EN of a port, from its attached cell (R97). -/
def portEn (s : State) (m port : Nat) : Bool :=
  match s.active (m / 128) with
  | some p =>
    cellOut s (m / 128) (24 * (m % 128 / 16) + 11 + port) (8 * (m % 128 % 16) + 3) 8
      (memPortField (s.memRecord p (m / 128) (m % 128)) port 9 9 == 1)
  | none => false

/-- The memory ports and queue flags of a region after an edge of a track: each port's EN is as the design drove it in the state `s0` before
the edge, and a side of a queue that belongs to the network has no edge here (R100, R107, R112, R114, R119). -/
def bmEdge (s0 s : State) (n track edge : Nat) : State :=
  { s with bm := { s.bm with
      port := s.bm.port.filterMap (fun e =>
        if edgeClocksPort s n track edge (e.1 / 2) (e.1 % 2) then
          let b := { e.2.edge with busy := portOn s0 (e.1 / 2) (e.1 % 2) && portEn s0 (e.1 / 2) (e.1 % 2) }
          if b = {} then none else some (e.1, b)
        else some e)
      q := s.bm.q.filterMap (fun e =>
        let r := e.2
        let u := uDie (qnDie e.1)
        let r1 := if edgeClocksPort s n track edge (qnMem e.1) 0 && !s.flag u F.qcCfgPushNet (qnIdx e.1) then r.pushEdge else r
        let r2 := if edgeClocksPort s n track edge (qnMem e.1) 1 && !s.flag u F.qcCfgPopNet (qnIdx e.1) then r1.popEdge else r1
        if r2 = {} then none else some (e.1, r2)) } }

/-- Input `sig` of a fabric port: O or Q of a cell of column 191, by FP_ISRC (R187). -/
def fpInput (s : State) (n sig : Nat) : Bool :=
  match s.active n with
  | some p =>
    if s.regionBits p n 145 1 = 0 then oOf s n 191 (sig / 16) (sig % 16) else qOf s n 191 (sig / 16) (sig % 16)
  | none => false

/-- The 512 data bits of a channel that the design drives, from input `base` on (R187). -/
def fpLine (s : State) (n base : Nat) : Line :=
  BitVec.ofNat 512 ((List.range 512).foldl (fun v i => if fpInput s n (base + i) then v + 2 ^ i else v) 0)

/-- A number the design drives on `len` inputs of a fabric port (R187). -/
def fpNumber (s : State) (n base len : Nat) : Nat :=
  (List.range len).foldl (fun v i => if fpInput s n (base + i) then v + 2 ^ i else v) 0

/-- What transfers into a fabric port at an edge of FPCLK: an IQ flit and a TS flit whose VALID and READY are 1 in the state `s0` before the
edge (R188), and a take handshake (R240). -/
def fpTransfer (s0 : State) (n : Nat) (f : FpPort) : FpPort :=
  let pri := fpNumber s0 n 514 2
  { f with
    iqIn := if fpInput s0 n 512 && fpSignal s0 n (1030 + pri) then
        f.iqIn ++ [⟨fpLine s0 n 0, fpInput s0 n 513, BitVec.ofNat 2 pri⟩] else f.iqIn
    tsIn := if fpInput s0 n 1028 && fpSignal s0 n 1034 then f.tsIn ++ [⟨fpLine s0 n 516, fpInput s0 n 1029, 0⟩] else f.tsIn
    takeIn := if fpInput s0 n 1040 && fpSignal s0 n 1040 then f.takeIn ++ [BitVec.ofNat 3 (fpNumber s0 n 1041 3)] else f.takeIn }

/-- The fabric port after an edge of FPCLK: the flits the design drove are taken, the next flit appears on IS, and on TQ once the design,
which drove TQ_READY in the state `s0` before the edge, has taken the one shown (R188). -/
def fpEdge (s0 s : State) (n track edge : Nat) : State :=
  match s.active n with
  | none => s
  | some p =>
    if fpActs s n && s.regionBits p n 146 3 == track && s.regionBits p n 149 1 == edge then
      let f := s.fpPort n
      let f1 := match f.isWait with
        | [] => { f with isOut := none }
        | x :: r => { f with isOut := some x, isWait := r }
      let taken := match f.tqOut with
        | none => true
        | some x => fpInput s0 n (1030 + x.pri.toNat)
      let f2 := if taken then
          (match f.tqWait with
          | [] => { f1 with tqOut := none }
          | x :: r => { f1 with tqOut := some x, tqWait := r })
        else f1
      s.setFp n (fpTransfer s0 n f2)
    else s

/-- Flip-flops loaded, by cell key. -/
def State.setQs (s : State) (l : List (Nat × Bool)) : State :=
  { s with fab := { s.fab with q := l.foldl (fun m e => SMap.store false m e.1 e.2) s.fab.q } }

/-- Every flip-flop under a high asynchronous set/reset has loaded SRVAL, so that it keeps SRVAL when the pin falls (R46). -/
def State.latchAsync (s : State) : State := s.setQs ((List.range 128).flatMap (asyncHigh s))

/-- What a region's flip-flops keep as its clock stops: SRVAL where an asynchronous set/reset is high (R37, R46); a hold that has not ended
counts its edges anew (R271). -/
def State.stopRegion (s : State) (n : Nat) : State :=
  let s1 := s.setQs (asyncHigh s n)
  { s1 with fab := { s1.fab with trackEdges := s1.fab.trackEdges.filter (fun e => e.1 / 8 != n || decide (2 ≤ e.2)) } }

/-- An active edge of a track counted toward the release of its hold (R271). -/
def State.countEdge (s : State) (k : Nat) : State :=
  { s with fab := { s.fab with trackEdges := SMap.store 0 s.fab.trackEdges k (SMap.get 0 s.fab.trackEdges k + 1) } }

/-- The levels at the pads of the bank a region hosts (R537). -/
def setPads (s : State) (n : Nat) (pads : Option (BitVec 48)) : State :=
  match pads, hostBank n with
  | some v, some b =>
    let others := s.pin.upad.filter (fun i => i / 48 ≠ b)
    { s with pin := { s.pin with
        upad := ((List.range 48).filter (fun i => v.getLsbD i)).foldl (fun l i => NSet.add l (b * 48 + i)) others } }
  | _, _ => s

/-- The input capture flip-flops of a bank clocked by a rising edge of their track (R537). -/
def capturePads (s : State) (n track edge : Nat) : State :=
  match s.active n, hostBank n with
  | some p, some b =>
    if edge = 1 then s
    else
      { s with pin := { s.pin with
          ucap := (List.range 48).foldl (fun l i =>
            let r := s.pinRecord p n i
            if bitOf r 12 ∧ bitsOf r 15 13 = track then
              (if s.pin.upad.contains (b * 48 + i) then NSet.add l (b * 48 + i) else NSet.del l (b * 48 + i))
            else l) s.pin.ucap } }
  | _, _ => s

/-- The drive of a user pin by its own record in a plane: enable and level (R537). -/
def recordDrive (s : State) (n p pin : Nat) : Bool × Bool :=
  let r := s.pinRecord p n pin
  let isrc := bitOf r 11
  let oe := match bitsOf r 5 4 with
    | 1 => true
    | 2 => cellOut s n 0 pin 1 isrc
    | _ => false
  (s.pinStd p n pin != 0 && oe, cellOut s n 0 pin 0 isrc)

/-- The drive of a user pin by its plane: enable and level; the odd pin of an LVDS pair has the complement of the even one (R536, R537). -/
def userDrive (s : State) (n pin : Nat) : Bool × Bool :=
  match s.active n with
  | none => (false, false)
  | some p =>
    if pin % 2 = 1 ∧ s.pinStd p n (pin - 1) = 4 then
      ((recordDrive s n p (pin - 1)).1, !(recordDrive s n p (pin - 1)).2)
    else recordDrive s n p pin

/-- PULL of a user pin's record (R536, R539). -/
def userPull (s : State) (n pin : Nat) : Nat :=
  match s.active n with
  | none => 0
  | some p => bitsOf (s.pinRecord p n pin) 7 6

/-! ### The edges -/

/-- Whether a clock edge at an output of a PLL is an edge of a track too: the track takes the same output, at the same divider, or is named
among the tracks whose edges coincide (R59, log entry 125). -/
def coincides (s : State) (src : Nat × Nat × Nat) (edge : Nat) (also : List (Fin 128 × Fin 8 × Bool)) (m t e : Nat) : Bool :=
  match s.active m with
  | none => false
  | some p =>
    let x := recSource m (s.trackRec p m t)
    s.clockRuns m t && x.1 == src.1 && x.2.1 == src.2.1 &&
      ((x.2.2 == src.2.2 && e == edge) || also.any (fun y => y.1.val == m && y.2.1.val == t && boolNat y.2.2 == e))

/-- The edges of one instant, as region, track and edge: that of the named track and those that coincide with it (R59). -/
def edgesAt (s : State) (n track edge : Nat) (also : List (Fin 128 × Fin 8 × Bool)) : List (Nat × Nat × Nat) :=
  match s.active n with
  | none => []
  | some p =>
    let src := recSource n (s.trackRec p n track)
    ((List.range 128).filter (fun m => (s.active m).isSome)).flatMap (fun m =>
      (List.range 16).filterMap (fun i => if coincides s src edge also m (i / 2) (i % 2) then some (m, i / 2, i % 2) else none))

/-- An edge of a track counted while the track is in hold after RESETS, if a flip-flop is clocked by it (R271, log entry 126). -/
def holdEdge (s : State) (x : Nat × Nat × Nat) : State :=
  if s.stage x.1 = 3 ∧ s.ffHeld x.1 x.2.1 ∧ clockedCells s x.1 x.2.1 x.2.2 ≠ [] then s.countEdge (x.1 * 8 + x.2.1) else s

/-- What an edge brings beside the flip-flops: the hold, the block memories, the input capture flip-flops and the fabric port, which take
their inputs from the state `s0` before the edge. -/
def edgeAround (s0 s : State) (x : Nat × Nat × Nat) : State :=
  fpEdge s0 (capturePads (bmEdge s0 (holdEdge s x) x.1 x.2.1 x.2.2) x.1 x.2.1 x.2.2) x.1 x.2.1 x.2.2

/-- The flip-flops that an edge clocks and no hold keeps. -/
def edgeCells (s : State) (x : Nat × Nat × Nat) : List (Nat × Nat × Nat) :=
  if s.ffHeld x.1 x.2.1 then [] else clockedCells s x.1 x.2.1 x.2.2

/-- What R47 needs after the edges: the sets whose edge has come recover no longer, and the data inputs of the cells with an asynchronous
set/reset are noted. -/
def noteEdges (s0 s : State) (l : List (Nat × Nat × Nat)) : State :=
  let hit := l.flatMap (fun x => (edgeCells s0 x).map (fun y => (x.1, y)))
  let gone := hit.map (fun y => setKey y.1 y.2.1 y.2.2.1 (cellField s0 y.1 y.2.1 y.2.2.1 y.2.2.2 19 1))
  let noted := hit.filter (fun y => setAsync (cellSet s0 y.1 y.2.1 y.2.2.1 y.2.2.2))
  { s with
    free := s.free + s.fab.recov.length
    fab := { s.fab with
      recov := s.fab.recov.filter (fun k => !gone.contains k)
      lastD := noted.foldl (fun (m : NSet) y =>
        let k := cellKey y.1 y.2.2.1 y.2.1 y.2.2.2
        if dataInput s0 y.1 y.2.1 y.2.2.1 y.2.2.2 then NSet.add m k else NSet.del m k) s.fab.lastD } }

/-- REGIONAL_CLOCK_EDGE (R42-R47, R59, R114, R271, R537): one edge of a track of a region and the edges that coincide with it, with the pads of
the bank the region hosts where they are given. Every flip-flop clocked captures from the state before the edge. A track that does not
run has no edge (R37, R409); a track in hold counts its active edges since RESETS (R271). -/
def execRegionalClockEdge (n : Fin 128) (track : Fin 8) (falling : Bool) (pads : Option (BitVec 48)) (s0 : State)
    (also : List (Fin 128 × Fin 8 × Bool) := []) : Out :=
  let s := (setPads s0 n pads).latchAsync
  let l := if s.clockRuns n track then edgesAt s n track (boolNat falling) also else []
  let loads := l.flatMap (fun x => if s.ffHeld x.1 x.2.1 then [] else captures s x.1 x.2.1 x.2.2)
  .next (l.foldl (edgeAround s) (noteEdges s (s.setQs loads) l))

/-- The flip-flops of one control set of a cluster that are on (R43, R44). -/
def setCells (s : State) (n col row csn : Nat) : List Nat :=
  (List.range 16).filter (fun c => cellField s n col row c 19 1 == csn && cellField s n col row c 17 2 != 3)

/-- Every flip-flop of a control set at SRVAL (R45). -/
def setLoad (s : State) (n col row csn : Nat) : State :=
  s.setQs ((setCells s n col row csn).map (fun c => (cellKey n row col c, srval s n col row c)))

/-- ASYNC_SET_RESET (R46, R47): the asynchronous set/reset of one control set of a cluster rises or is released, where its pin agrees. A pin
that is high puts every flip-flop of the set that is not held at SRVAL at once. A release less than t_REC before the next edge leaves Q
after that edge, and one less than t_REM after the last edge leaves Q now, at SRVAL or the data input, chosen for each flip-flop by a
free value (log entry 4). -/
def execAsyncSetReset (n : Fin 128) (x : Fin 192) (y : Fin 128) (set rises : Bool) (when : SrTime) (s : State) : Out :=
  let csn := boolNat set
  let cs := controlSet s n x y csn
  if (s.active n).isNone || !s.regionRuns n || !setAsync cs || s.ffHeld n (bitsOf cs 2 0) then .next s
  else
    match rises, when, pinOf s n x y (81 + 2 * csn) with
    | true, .clear, true => .next (setLoad s n x y csn)
    | false, .clear, false => .next (setLoad s n x y csn)
    | false, .late, false =>
      .next { setLoad s n x y csn with fab := { (setLoad s n x y csn).fab with recov := NSet.add s.fab.recov (setKey n x y csn) } }
    | false, .early, false =>
      .next (s.setQs ((setCells s n x y csn).map (fun c => (cellKey n y x c,
        if bitOf s.fresh c then srval s n x y c else s.fab.lastD.contains (cellKey n y x c))))).draw
    | _, _, _ => .next s

end Sys2Proof.Machine
end

