-- ==== Sys2Proof/Machine/Operands.lean ====
section
/-! DEFINITION. The forms of a packet: opcodes, byte ranges, atomics, responses, and the bytes of a payload (R168-R173, R181). -/

namespace Sys2Proof

/-- Opcodes of R170. -/
def opRead : Nat := 0x01
/-- WRITE. -/
def opWrite : Nat := 0x02
/-- ATOMIC. -/
def opAtomic : Nat := 0x03
/-- DOPND. -/
def opDopnd : Nat := 0x08
/-- DTAKE. -/
def opDtake : Nat := 0x09
/-- LMSG. -/
def opLmsg : Nat := 0x10
/-- CMSG. -/
def opCmsg : Nat := 0x11

/-- The opcode of a packet. -/
def Packet.op (p : Packet) : Nat := p.opc.toNat

/-- A request (R170). -/
def isRequest (o : Nat) : Bool := o == 0x01 || o == 0x02 || o == 0x03 || o == 0x08 || o == 0x09
/-- A message (R170). -/
def isMessage (o : Nat) : Bool := o == 0x10 || o == 0x11
/-- A response (R170). -/
def isResponse (o : Nat) : Bool := o == 0x21 || o == 0x22 || o == 0x23 || o == 0x28 || o == 0x29

/-- The 48-bit address of a packet. -/
def Packet.a48 (p : Packet) : Nat := p.addr.toNat % 2 ^ 48
/-- The KID of a packet's address (R19). -/
def Packet.kid (p : Packet) : Nat := p.addr.toNat / 2 ^ 48
/-- LAST of a READ or WRITE (R170). -/
def Packet.last (p : Packet) : Nat := p.aux.toNat % 64

/-- The first unit of the range, as a 64-byte aligned address (R172). -/
def Packet.base (p : Packet) : Nat := p.a48 / 64 * 64
/-- The number of bytes of the range: from ADDR to byte LAST of unit LEN − 1; none when LEN = 0 (R172). -/
def Packet.rangeLen (p : Packet) : Nat :=
  if p.len.toNat = 0 then 0 else (p.len.toNat - 1) * 64 + p.last + 1 - p.a48 % 64

/-- All byte enables set: ADDR[5:0] = 0 and LAST = 63 (R172). -/
def Packet.fullEnables (p : Packet) : Bool := p.a48 % 64 == 0 && p.last == 63

/-- The payload bytes of a packet, from byte 0 of unit 0. -/
def Packet.payload (p : Packet) : List Byte := p.body.flatMap (fun l => toLeBytes 64 l.toNat)

/-- The enabled bytes of a WRITE, from ADDR on (R172). -/
def Packet.writeBytes (p : Packet) : List Byte := (p.payload.drop (p.a48 % 64)).take p.rangeLen

/-- Bytes cut into 64-byte units, the last filled with zeros. -/
def toLines : Nat → List Byte → List Line
  | 0, _ => []
  | n + 1, bs => BitVec.ofNat 512 (leBytes (bs.take 64)) :: toLines n (bs.drop 64)

/-- The body of a READ response: zeros outside the range (R172). -/
def Packet.readBody (p : Packet) (bytes : List Byte) : List Line :=
  toLines p.len.toNat (List.replicate (p.a48 % 64) 0 ++ bytes.take p.rangeLen)

/-- The response to a request: DST and SRC swapped, HOPLIM 0, body flits only on a READ response with OK or POISON (R170). -/
def Packet.respond (p : Packet) (st : Stat) (body : List Line := []) (ext : Nat := 0) : Packet :=
  { p with
    opc := p.opc ||| 0x20#6
    len := if (st = .ok ∨ st = .poison) then BitVec.ofNat 8 body.length else 0
    dst := p.src
    src := p.dst
    stat := BitVec.ofNat 4 st.code
    hoplim := 0
    ext := BitVec.ofNat 64 ext
    hdata := 0
    body := if (st = .ok ∨ st = .poison) then body else [] }

/-- AOP of an ATOMIC (R170). -/
def Packet.aop (p : Packet) : Nat := p.aux.toNat % 16
/-- The bytes of an ATOMIC's operand: 4 or 8 by SZ (R173). -/
def Packet.atomicBytes (p : Packet) : Nat := if bitOf p.aux.toNat 4 then 8 else 4
/-- The operand of an ATOMIC. -/
def Packet.operand (p : Packet) : Nat := p.ext.toNat % 2 ^ (8 * p.atomicBytes)
/-- The compare value of a CAS. -/
def Packet.compare (p : Packet) : Nat := p.hdata.toNat % 2 ^ (8 * p.atomicBytes)

/-- The bytes from ADDR on that a packet acts on: those of an ATOMIC's operand, else those of its range (R172, R173). -/
def Packet.reach (p : Packet) : Nat := if p.op = opAtomic then p.atomicBytes else max p.rangeLen 1

/-- The header of a packet as bits [255:0] of its head flit (R168, R169). -/
def Packet.header (p : Packet) : Nat :=
  p.pri.toNat * 2 ^ 254 + p.opc.toNat * 2 ^ 248 + p.len.toNat * 2 ^ 240 + p.tag.toNat * 2 ^ 224 + p.dst.toNat * 2 ^ 213 +
  p.src.toNat * 2 ^ 202 + p.label.toNat * 2 ^ 186 + p.icls.toNat * 2 ^ 183 + p.stat.toNat * 2 ^ 176 + p.addr.toNat * 2 ^ 120 +
  p.aux.toNat * 2 ^ 88 + p.hoplim.toNat * 2 ^ 80 + p.ext.toNat

/-- The head flit of a packet (R168). -/
def Packet.head (p : Packet) : Line := BitVec.ofNat 512 (p.hdata.toNat * 2 ^ 256 + p.header)

/-- The flits of a packet, the head first (R168). -/
def Packet.flits (p : Packet) : List Line := p.head :: p.body

/-- The packet of a head flit and its body flits (R168, R169). -/
def ofFlits (h : Line) (body : List Line) : Packet :=
  let v := h.toNat
  { pri := BitVec.ofNat 2 (v / 2 ^ 254), opc := BitVec.ofNat 6 (v / 2 ^ 248), len := BitVec.ofNat 8 (v / 2 ^ 240),
    tag := BitVec.ofNat 16 (v / 2 ^ 224), dst := BitVec.ofNat 11 (v / 2 ^ 213), src := BitVec.ofNat 11 (v / 2 ^ 202),
    label := BitVec.ofNat 16 (v / 2 ^ 186), icls := BitVec.ofNat 3 (v / 2 ^ 183), stat := BitVec.ofNat 4 (v / 2 ^ 176),
    addr := BitVec.ofNat 56 (v / 2 ^ 120), aux := BitVec.ofNat 32 (v / 2 ^ 88), hoplim := BitVec.ofNat 8 (v / 2 ^ 80),
    ext := BitVec.ofNat 64 v, hdata := BitVec.ofNat 256 (v / 2 ^ 256), body := body }

/-- Whether a packet's LEN is one the table of R170 allows, R210, R226 and R237 included. -/
def Packet.lenAllowed (p : Packet) : Bool :=
  let ok := p.stat.toNat == 0
  match p.op with
  | 0x03 => p.len == 0
  | 0x08 => p.len == 0
  | 0x09 => p.len == 0
  | 0x11 => p.len == 1
  | 0x21 => ok || p.stat.toNat == 5 || p.len == 0
  | 0x22 => p.len == 0
  | 0x23 => p.len == 0
  | 0x28 => p.len == 0
  | 0x29 => if ok then p.len == 1 else p.len == 0
  | _ => true

/-- The body flits a packet of its LEN has (R168). -/
def Packet.bodyLen (p : Packet) : Nat := if p.op = opRead then 0 else p.len.toNat

/-- Whether a packet is malformed on the request channel (`rsp` false) or the response channel (R174). -/
def Packet.malformed (p : Packet) (rsp : Bool) : Bool :=
  !(isRequest p.op || isMessage p.op || isResponse p.op) ||
  (p.op == opAtomic && decide (8 ≤ p.aop)) ||
  decide (64 < p.len.toNat) || !p.lenAllowed ||
  (p.pri == 3 && decide (4 < p.len.toNat)) ||
  ((p.op == opRead || p.op == opWrite) && p.len == 1 && decide (p.last < p.a48 % 64)) ||
  (p.op == opAtomic && p.a48 % p.atomicBytes != 0) ||
  p.body.length != p.bodyLen ||
  (isResponse p.op != rsp)

end Sys2Proof

namespace Sys2Proof.Machine

open Sys2Proof

/-- The number of a lane at an input or output of a router (R177). -/
def meshLane (router at_ pri : Nat) (rsp : Bool) : Nat := ((router * 20 + at_) * 4 + pri) * 2 + boolNat rsp

/-- The flits of a packet that enters a router in plate cycle `cycle`: the head can leave the first router 2 cycles later, each further flit
1 cycle behind the one before (R167). -/
def meshFlits (cycle : Nat) (p : Packet) : List MeshFlit := (List.range (1 + p.body.length)).map (fun i => ⟨p, i, cycle + 2 + i⟩)

/-- A packet handed to the router port `k`, node × 16 + port, where its flits wait in the lane of its PRI (R164, R177). What waits there beyond
the 16 flits of the buffer stands in the attachment (log entry 130). -/
def State.inject (s : State) (k : Nat) (rsp : Bool) (p : Packet) : State :=
  let m := s.net.mesh
  let key := meshLane (k / 16) (k % 16) p.pri.toNat rsp
  { s with net := { s.net with mesh := { m with lane := SMap.store [] m.lane key (SMap.get [] m.lane key ++ meshFlits m.cycle p) } } }

/-- A packet sent into the mesh on its request lane, at the port of its SRC. -/
def State.sendReq (s : State) (p : Packet) : State := s.inject p.src.toNat false p

/-- A packet sent into the mesh on its response lane, at the port of its SRC. -/
def State.sendRsp (s : State) (p : Packet) : State := s.inject p.src.toNat true p

/-- A request taken off the mesh by its target, if it is there. -/
def State.takeReq (s : State) (p : Packet) : State := { s with net := { s.net with reqs := s.net.reqs.erase p } }

/-- A request answered: taken off the mesh, its response sent back (R170). -/
def State.reply (s : State) (p : Packet) (st : Stat) (body : List Line := []) (ext : Nat := 0) : State :=
  (s.takeReq p).sendRsp (p.respond st body ext)

/-- The result of an atomic operation on an old value of `w` bits (R173). -/
def atomicResult (aop w old operand cmp : Nat) : Nat :=
  match aop with
  | 0 => (old + operand) % 2 ^ w
  | 1 => operand
  | 2 => if old = cmp then operand else old
  | 3 => old &&& operand
  | 4 => old ||| operand
  | 5 => old ^^^ operand
  | 6 => if signedOf w old < signedOf w operand then operand else old
  | _ => if signedOf w operand < signedOf w old then operand else old

/-- The unit of a router port: the attachment's own; a fabric port's is its router (R33, R174). -/
def portUnit (node port : Nat) : Nat :=
  match port with
  | 1 => uDdr (((List.range 8).find? (fun c => ddrNode c == node)).getD 0)
  | 2 => uPci (if node = 19 then 0 else 1)
  | 3 => uLnk (((List.range 16).find? (fun c => linkNode c == node)).getD 0)
  | 4 => uCore (((List.range 4).find? (fun c => coreNode c == node)).getD 0)
  | 5 => uDsp (((List.range 8).find? (fun c => sliceNode c == node)).getD 0)
  | 6 => if node = 31 then uCfg else uMgt
  | 7 => if node = 31 then uScb else uEvt
  | 8 => if node = 31 then uCns else uDbg
  | 9 => uPin
  | 14 => uLane (((List.range 4).find? (fun c => laneNode c == node)).getD 0)
  | 15 => uDie (node / 16)
  | _ => uNoc node

/-- The clock domain of a packet's destination attachment; none for the always-on units and the logic-die controllers (R185, R410). -/
def dstDomain (p : Packet) : Option Nat :=
  let node := p.dst.toNat / 16
  match p.dst.toNat % 16 with
  | 0 => some node
  | 1 => some (136 + (portUnit node 1 - uDdr 0))
  | 2 => some (148 + (portUnit node 2 - uPci 0))
  | 3 => some (150 + (portUnit node 3 - uLnk 0) / 4)
  | 4 => some (144 + (portUnit node 4 - uCore 0))
  | 5 => some (128 + (portUnit node 5 - uDsp 0))
  | 6 =>
    if node = 31 then some 154
    else
      match mapAddr p.a48 with
      | .sram _ => if isRequest p.op then some 159 else none
      | _ => none
  | 7 => if node = 31 then some 154 else some 155
  | 8 => if node = 31 then some 154 else some 155
  | 9 => some 158
  | 12 => some 157
  | 14 => some (150 + (portUnit node 14 - uLane 0))
  | _ => none

/-- Whether the destination of a packet runs, and the mesh with it (R402, R453). -/
def State.targetRuns (s : State) (p : Packet) : Bool :=
  match dstDomain p with
  | some d => s.dom d == domRun && !s.clk.halted
  | none => !s.clk.halted

/-- Whether two packets act on a common byte (R172, R173, R176). -/
def sharesByte (p q : Packet) : Bool := decide (p.a48 < q.a48 + q.reach) && decide (q.a48 < p.a48 + p.reach)

/-- Whether no packet that has arrived before this one meets the test: its turn has come where a target serves such packets in arrival
order. -/
def State.firstOf (s : State) (p : Packet) (f : Packet → Bool) : Bool := !(s.net.reqs.takeWhile (fun q => q != p)).any f

/-- Whether an earlier packet from the same source port at the same PRI to the same destination is still to be performed that touches a byte
of the range (R176), or came over the same link (R208). -/
def State.behind (s : State) (p : Packet) : Bool :=
  !s.firstOf p (fun q => q.src == p.src && q.pri == p.pri && q.dst == p.dst && (p.icls.toNat == iclsLink || sharesByte p q))

/-- A request or a message that its target can act on: it has arrived, its turn has come, and its destination runs (R176, R185). -/
def State.arrived (s : State) (p : Packet) : Bool :=
  s.net.reqs.contains p && !isResponse p.op && s.targetRuns p && !s.behind p

end Sys2Proof.Machine
end

