-- ==== Sys2Proof/Machine/BlockMem.lean ====
section
/-! DEFINITION. Block memories and queue controllers (R94-R129). -/

namespace Sys2Proof.Machine

open Sys2Proof

/-! ### Lines (R94, R103-R108) -/

/-- A line of data with a fresh check: the check in bits [71:64] (R94, R103). -/
def lineOf (data : Nat) : Word72 := BitVec.ofNat 72 (crc8 (data % 2 ^ 64) * 2 ^ 64 + data % 2 ^ 64)

/-- The line every memory holds after the clearing of R122. -/
def zeroLine : Word72 := lineOf 0

/-- The data of a line. -/
def lineData (w : Word72) : Nat := w.toNat % 2 ^ 64

/-- Whether a line's check passes (R103). -/
def lineOk (w : Word72) : Bool := w.toNat / 2 ^ 64 == crc8 (lineData w)

/-- A line of a memory. -/
def State.line (s : State) (m l : Nat) : Word72 := SMap.get zeroLine s.bm.lines (m * 1024 + l)

/-- A line stored as it is. -/
def State.setLine (s : State) (m l : Nat) (w : Word72) : State :=
  { s with bm := { s.bm with lines := SMap.store zeroLine s.bm.lines (m * 1024 + l) w } }

/-- The flip mask of a die, as 72 bits (R108). -/
def flipMask (s : State) (d : Nat) : Nat :=
  s.fld (uDie d) F.bmFlipChkMask * 2 ^ 64 + s.fld (uDie d) F.bmFlipHiMask * 2 ^ 32 + s.fld (uDie d) F.bmFlipLoMask

/-- Whether the next write to a memory is corrupted by an armed flip mask (R108). -/
def flipArmed (s : State) (m : Nat) : Bool :=
  s.flag (uDie (m / 2048)) F.bmFlipCtrlArm && s.fld (uDie (m / 2048)) F.bmFlipCtrlMem == m % 2048

/-- A line written by a port or a push: an armed flip mask corrupts it and disarms (R108). -/
def writeLine (s : State) (m l : Nat) (w : Word72) : State :=
  if flipArmed s m then
    (s.setLine m l (BitVec.ofNat 72 (w.toNat ^^^ flipMask s (m / 2048)))).setFld (uDie (m / 2048)) F.bmFlipCtrlArm 0
  else s.setLine m l w

/-- A stored error recorded: counted, MEM_STAT.STORED set, BM_ERR_STATUS loaded if it is free, class 0x06 raised (R105). -/
def recordStored (s : State) (m l src : Nat) : State :=
  let u := uDie (m / 2048)
  let s1 := (s.countSat u F.bmCountsStored).setFld u F.bmMemStatStored 1 (m % 2048)
  let s2 :=
    if s1.flag u F.bmErrStatusValid then s1
    else (((s1.setFld u F.bmErrStatusValid 1).setFld u F.bmErrStatusMem (m % 2048)).setFld u F.bmErrStatusSrc src).setFld u
      F.bmErrStatusLine l
  s2.raise u 0x06

/-- A transient error recorded (R105). -/
def recordTransient (s : State) (m : Nat) : State :=
  (s.countSat (uDie (m / 2048)) F.bmCountsTransient).setFld (uDie (m / 2048)) F.bmMemStatTransient 1 (m % 2048)

/-- A failing read owes one refetch of its line (R104). -/
def oweRefetch (s : State) (m side l : Nat) : State :=
  { s with bm := { s.bm with refetch := s.bm.refetch ++ [⟨m, side, l⟩] } }

/-- A mask of `n` bits from bit `lo`. -/
def maskAt (lo n : Nat) : Nat := (2 ^ n - 1) * 2 ^ lo

/-- Data merged over a line's data under a mask. -/
def mergeData (old new mask : Nat) : Nat := (old &&& (2 ^ 64 - 1 - mask)) ||| (new &&& mask)

/-- Bits of a line written under a mask: a write of all 64 bits stores a fresh check; any other is a merged write, which leaves a
failing line failing and records it (R106). -/
def writeMasked (s : State) (m l data mask : Nat) : State :=
  if mask = 2 ^ 64 - 1 then writeLine s m l (lineOf data)
  else
    let old := s.line m l
    let nw := lineOf (mergeData (lineData old) data mask)
    if lineOk old then writeLine s m l nw
    else recordStored (writeLine s m l (BitVec.ofNat 72 (nw.toNat ^^^ (0xFF * 2 ^ 64)))) m l 1

/-! ### Ports (R95-R102) -/

/-- The word width of a WIDTH code (R95). -/
def portWidth (code : Nat) : Nat := [64, 32, 16, 8].getD code 64

/-- The ACTIVE record of a memory of the device, 0 with no ACTIVE plane. -/
def activeRecord (s : State) (m : Nat) : Nat :=
  match s.active (m / 128) with
  | some p => s.memRecord p (m / 128) (m % 128)
  | none => 0

/-- The region-local column of a memory port's attached clusters (R96). -/
def portCol (m port : Nat) : Nat := 24 * (m % 128 / 16) + 11 + port

/-- Cells of an attached row as a number: bit `i` from cell `c0 + i` (R97). -/
def attachedBits (s : State) (m port rho c0 w : Nat) : Nat :=
  (List.range w).foldl (fun acc i =>
    acc + boolNat (cellOut s (m / 128) (portCol m port) (8 * (m % 128 % 16) + rho) (c0 + i)
      (memPortField (activeRecord s m) port 9 9 == 1)) * 2 ^ i) 0

/-- The inputs of a port, taken from the cells of its attached clusters (R97). -/
def portInputs (s : State) (m port : Nat) : PortIn :=
  { addr := BitVec.ofNat 13 (attachedBits s m port 0 8 8 + attachedBits s m port 1 8 5 * 256)
    din := BitVec.ofNat 64 ((List.range 8).foldl (fun acc r => acc + attachedBits s m port r 0 8 * 2 ^ (8 * r)) 0)
    be := BitVec.ofNat 8 (attachedBits s m port 2 8 8)
    en := attachedBits s m port 3 8 1 == 1
    we := attachedBits s m port 3 9 1 == 1
    queueOp := attachedBits s m port 3 10 1 == 1
    qsel := BitVec.ofNat 2 (attachedBits s m port 3 11 2) }

/-- The inputs an access uses: those given, or those of the attached cells. -/
def portInput (s : State) (m port : Nat) (inp : Option PortIn) : PortIn := inp.getD (portInputs s m port)

/-- Whether a memory is in queue mode (R110). -/
def inQueueMode (s : State) (m : Nat) : Bool := memLayout (activeRecord s m) != 0 && memLayout (activeRecord s m) != 7

/-- Whether a port accesses its array in RAM mode: the port acts and EN = 1 (R100, R110, R270). -/
def portActive (s : State) (m port : Nat) (i : PortIn) : Bool := portOn s m port && !inQueueMode s m && i.en

/-- The line a port addresses, and the bit its word starts at (R95). -/
def wordAt (s : State) (m port : Nat) (i : PortIn) : Nat × Nat × Nat :=
  let w := portWidth (memPortField (activeRecord s m) port 5 4)
  let a := i.addr.toNat % (65536 / w)
  (a / (64 / w), w * (a % (64 / w)), w)

/-- A port replaced. -/
def State.setPort (s : State) (m port : Nat) (b : BmPort) : State :=
  { s with bm := { s.bm with port := SMap.store {} s.bm.port (m * 2 + port) b } }

/-- A port after an access: the edge has passed, and EN was 1 at it. -/
def BmPort.access (b : BmPort) : BmPort := { b.edge with busy := true }

/-- An access's read data put on a port: at once with OREG = 0, after the next edge with OREG = 1 (R100). -/
def showData (s : State) (m port data : Nat) (cerr : Bool) : State :=
  let b := (s.bmPort m port).access
  if memPortField (activeRecord s m) port 8 8 = 1 then
    s.setPort m port { b with next := some (BitVec.ofNat 64 data, cerr) }
  else s.setPort m port { b with dout := BitVec.ofNat 64 data, cerr := cerr }

/-- A port's read (R95, R100, R104): the whole line is checked, and a failing read shows CERR and owes a refetch. -/
def portRead (s : State) (m port : Nat) (i : PortIn) : State :=
  let w := wordAt s m port i
  let l := s.line m w.1
  let s1 := showData s m port (lineData l / 2 ^ w.2.1 % 2 ^ w.2.2) (!lineOk l)
  if lineOk l then s1 else oweRefetch s1 m port w.1

/-- The mask of the enabled bits of a port's word within its line (R95, R101). -/
def writeMask (s : State) (m port : Nat) (i : PortIn) : Nat :=
  let w := wordAt s m port i
  (List.range (w.2.2 / 8)).foldl (fun acc b => if bitOf i.be.toNat b then acc + maskAt (w.2.1 + 8 * b) 8 else acc) 0

/-- A port's write data at its place in the line. -/
def writeData (s : State) (m port : Nat) (i : PortIn) : Nat :=
  let w := wordAt s m port i
  i.din.toNat % 2 ^ w.2.2 * 2 ^ w.2.1

/-- What DOUT shows after a write, by WMODE, from the line before and the data as written (R101). CERR goes with the word shown: that of the
line before, or 0 with the word as written; a write owes no refetch (log entry 7). -/
def showWrite (s : State) (m port : Nat) (i : PortIn) (old : Word72) (written : Nat) : State :=
  let w := wordAt s m port i
  match memPortField (activeRecord s m) port 7 6 with
  | 0 => showData s m port (lineData old / 2 ^ w.2.1 % 2 ^ w.2.2) (!lineOk old)
  | 1 => showData s m port (written / 2 ^ w.2.1 % 2 ^ w.2.2) false
  | _ => s.setPort m port (s.bmPort m port).access

/-- One port's write alone (R101, R106, R108). -/
def portWrite (s : State) (m port : Nat) (i : PortIn) : State :=
  let w := wordAt s m port i
  let old := s.line m w.1
  let mask := writeMask s m port i
  let s1 := writeMasked s m w.1 (writeData s m port i) mask
  showWrite s1 m port i old (mergeData (lineData old) (writeData s m port i) mask)

/-- Whether edges of the two ports can coincide: their tracks have one source, and one divider only with one edge (R102, R252). -/
def portsCoincide (s : State) (m : Nat) : Bool :=
  let r := activeRecord s m
  let n := m / 128
  match s.active n with
  | some p =>
    let a := recSource n (s.trackRec p n (memPortField r 0 2 0))
    let b := recSource n (s.trackRec p n (memPortField r 1 2 0))
    a.1 == b.1 && a.2.1 == b.2.1 && (a.2.2 != b.2.2 || memPortField r 0 3 3 == memPortField r 1 3 3)
  | none => false

/-- Writes of both ports to one line at edges that coincide: bytes enabled on both take port A's data, one check is computed over
the result, and the collision is counted (R102). -/
def collide (s : State) (m : Nat) (a b : PortIn) : State :=
  let w := wordAt s m 0 a
  let old := s.line m w.1
  let ma := writeMask s m 0 a
  let mb := writeMask s m 1 b
  let data := mergeData (writeData s m 1 b) (writeData s m 0 a) ma
  let s1 := writeMasked s m w.1 data (ma ||| mb)
  let s2 := s1.countSat (uDie (m / 2048)) F.bmMemStatCollisions 1 (m % 2048)
  let written := mergeData (lineData old) data (ma ||| mb)
  showWrite (showWrite s2 m 0 a old written) m 1 b old written

/-- Accesses of both ports at edges that coincide: a read returns the line as it was before the other port's write; two writes make one
merged write where they meet in a line, port A's first where they do not (R102). -/
def bothPorts (s : State) (m : Nat) (a b : PortIn) : State :=
  match a.we, b.we with
  | false, false => portRead (portRead s m 0 a) m 1 b
  | false, true => portWrite (portRead s m 0 a) m 1 b
  | true, false => portWrite (portRead s m 1 b) m 0 a
  | true, true => if (wordAt s m 0 a).1 = (wordAt s m 1 b).1 then collide s m a b else portWrite (portWrite s m 0 a) m 1 b

/-- An access of a port with the one of the other port at an edge that coincides, where there is one (R100, R102). -/
def portAccess (s : State) (m port : Nat) (i : PortIn) (other : Option PortIn) : State :=
  match other with
  | some o =>
    if portActive s m (1 - port) o && portsCoincide s m then
      (if port = 0 then bothPorts s m i o else bothPorts s m o i)
    else if i.we then portWrite s m port i else portRead s m port i
  | none => if i.we then portWrite s m port i else portRead s m port i

/-- BM_READ (R95, R100, R102, R104): a port reads its word, with the other port's access at an edge that coincides, where there is one. -/
def execBmRead (m : Fin 16384) (port : Fin 2) (inp : Option PortIn) (s : State) (other : Option PortIn := none) : Out :=
  let i := portInput s m port inp
  if !portActive s m port i || i.we then .next s else .next (portAccess s m port i other)

/-- BM_WRITE (R101, R102, R106, R108): a port writes the enabled bytes of its word, with the other port's access at an edge that coincides,
where there is one. -/
def execBmWrite (m : Fin 16384) (port : Fin 2) (inp other : Option PortIn) (s : State) : Out :=
  let i := portInput s m port inp
  if !portActive s m port i || !i.we then .next s else .next (portAccess s m port i other)

/-! ### Refetches and line commands (R104, R105, R107) -/

/-- The oldest refetch a side of a memory owes. -/
def owedRefetch (s : State) (m side : Nat) : Option Refetch := s.bm.refetch.find? (fun r => r.mem == m && r.side == side)

/-- A refetch no longer owed. -/
def dropRefetch (s : State) (r : Refetch) : State := { s with bm := { s.bm with refetch := s.bm.refetch.erase r } }

/-- Whether the network side of a memory's queues moves lines (R107). -/
def memMoving (s : State) (m : Nat) : Bool := s.bm.moving.any (fun t => t.qn / 4 == m)

/-- Whether a side of a memory is in a cycle in which it can refetch: a port with EN = 0 and no queue access at its latest edge; the network
side while it moves no line (R104). -/
def sideIdle (s : State) (m side : Nat) : Bool := if side = 2 then !memMoving s m else !(s.bmPort m side).busy

/-- Whether a port counts as idle for a line command: it does not act, or its latest edge was idle (R107). -/
def portIdle (s : State) (m port : Nat) : Bool := !portOn s m port || !(s.bmPort m port).busy

/-- LINE_REFETCH (R104, R105): in the first idle cycle the line is read again: transient if it passes, stored if it fails. -/
def execLineRefetch (m : Fin 16384) (side : Fin 3) (s : State) : Out :=
  match owedRefetch s m side with
  | none => .next s
  | some r =>
    if !sideIdle s m side then .next s
    else .next (if lineOk (s.line m r.line) then recordTransient (dropRefetch s r) m
      else recordStored (dropRefetch s r) m r.line 0)

/-- REFETCH_TIMEOUT (R105): no idle cycle within 1,024 cycles; the error is recorded as stored. -/
def execRefetchTimeout (m : Fin 16384) (side : Fin 3) (s : State) : Out :=
  match owedRefetch s m side with
  | none => .next s
  | some r => .next (recordStored (dropRefetch s r) m r.line 0)

/-- A line command queued; a write while one is pending is ignored (R107). -/
def queueLineCmd (s : State) (d op m line : Nat) : State :=
  if (SMap.find s.bm.lineCmd d).isSome then s
  else ({ s with bm := { s.bm with lineCmd := SMap.put s.bm.lineCmd d ⟨op, m, line⟩ } }).setFld (uDie d) F.bmLineStatBusy 1

/-- LINE_CMD_REFETCH (R107). -/
def execLineCmdRefetch (d : Fin 8) (m : Fin 2048) (line : Fin 1024) (s : State) : Out := .next (queueLineCmd s d 1 m line)

/-- LINE_CMD_RECOMPUTE (R107). -/
def execLineCmdRecompute (d : Fin 8) (m : Fin 2048) (line : Fin 1024) (s : State) : Out := .next (queueLineCmd s d 2 m line)

/-- LINE_CMD_EXECUTE (R107): the pending command runs in a cycle in which the ports and the network side are idle. -/
def execLineCmdExecute (d : Fin 8) (s : State) : Out :=
  match SMap.find s.bm.lineCmd d with
  | none => .next s
  | some c =>
    let m := d.val * 2048 + c.mem
    if memMoving s m || !portIdle s m 0 || !portIdle s m 1 then .next s
    else
      let s1 := ({ s with bm := { s.bm with lineCmd := SMap.erase s.bm.lineCmd d } }).setFld (uDie d) F.bmLineStatBusy 0
      if c.op = 2 then
        .next ((s1.setLine m c.line (lineOf (lineData (s.line m c.line)))).setFld (uDie d) F.bmLineStatResult 3)
      else if lineOk (s.line m c.line) then .next (s1.setFld (uDie d) F.bmLineStatResult 1)
      else .next (recordStored (s1.setFld (uDie d) F.bmLineStatResult 2) m c.line 2)

/-! ### Queues (R109-R115) -/

/-- A queue replaced. -/
def State.setQueue (s : State) (qn : Nat) (q : Queue) : State :=
  { s with bm := { s.bm with q := SMap.store {} s.bm.q qn q } }

/-- The element width of a queue (R111). -/
def qWidth (s : State) (qn : Nat) : Nat := 8 * 2 ^ s.fld (uDie (qnDie qn)) F.qcCfgQw (qnIdx qn)
/-- The capacity of a queue in elements (R111). -/
def qCap (s : State) (qn : Nat) : Nat := s.fld (uDie (qnDie qn)) F.qcCfgLines (qnIdx qn) * (64 / qWidth s qn)
/-- LIMIT of a queue. -/
def qLimit (s : State) (qn : Nat) : Nat := s.fld (uDie (qnDie qn)) F.qcLimitLimit (qnIdx qn)
/-- Whether a queue is present in the ACTIVE layout. -/
def qPresent (s : State) (qn : Nat) : Bool := s.flag (uDie (qnDie qn)) F.qcCfgPresent (qnIdx qn)

/-- Where element `i` of a queue lies: line and first bit (R111). -/
def qPlace (s : State) (qn i : Nat) : Nat × Nat :=
  let per := 64 / qWidth s qn
  (s.fld (uDie (qnDie qn)) F.qcCfgBase (qnIdx qn) + i % qCap s qn / per, qWidth s qn * (i % qCap s qn % per))

/-- The edges the other side waits to see a change (R114): one where both sides are fabric on one track and edge, else one to
three, by a free value. -/
def flagLag (s : State) (qn : Nat) : Nat :=
  let r := activeRecord s (qnMem qn)
  if !s.flag (uDie (qnDie qn)) F.qcCfgPushNet (qnIdx qn) && !s.flag (uDie (qnDie qn)) F.qcCfgPopNet (qnIdx qn) &&
      memPortField r 0 3 0 == memPortField r 1 3 0 then 1
  else 1 + s.fresh % 3

/-- `n` elements entered: the push side sees them at once, the pop side after its lag (R113, R114). -/
def Queue.pushed (q : Queue) (n lag : Nat) : Queue :=
  { q with count := q.count + n, pushView := q.pushView + n, popLag := if q.popLag = 0 then lag else q.popLag }

/-- `n` elements removed: the pop side sees it at once, the push side after its lag (R113, R114). -/
def Queue.popped (q : Queue) (n cap lag : Nat) : Queue :=
  { q with
    rd := if cap = 0 then 0 else (q.rd + n) % cap
    count := q.count - n
    popView := q.popView - n
    pushLag := if q.pushLag = 0 then lag else q.pushLag }

/-- One element written to its place (R111). -/
def putElement (s : State) (qn i v : Nat) : State :=
  let pl := qPlace s qn i
  writeMasked s (qnMem qn) pl.1 (v % 2 ^ qWidth s qn * 2 ^ pl.2) (maskAt pl.2 (qWidth s qn))

/-- One element read from its place. -/
def getElement (s : State) (qn i : Nat) : Nat :=
  let pl := qPlace s qn i
  lineData (s.line (qnMem qn) pl.1) / 2 ^ pl.2 % 2 ^ qWidth s qn

/-- Whether an element's line passes its check. -/
def elementOk (s : State) (qn i : Nat) : Bool := lineOk (s.line (qnMem qn) (qPlace s qn i).1)

/-- A push refused and counted (R112). -/
def refusePush (s : State) (qn : Nat) (n : Nat := 1) : State :=
  (s.setFld (uDie (qnDie qn)) F.qcStatusRefused 1 (qnIdx qn)).countSat (uDie (qnDie qn)) F.qcRefusedCount n (qnIdx qn)

/-- Port A shows REFUSED for the cycle. -/
def showRefused (s : State) (m : Nat) (v : Bool) : State := s.setPort m 0 { (s.bmPort m 0).access with refused := v }

/-- The queue that a port's QSEL names. -/
def portQueue (m : Nat) (i : PortIn) : Nat := m * 4 + i.qsel.toNat

/-- Whether a port performs queue operations: it acts, in queue mode, with EN = 1 (R112, R270). -/
def queuePort (s : State) (m port : Nat) (i : PortIn) : Bool := portOn s m port && inQueueMode s m && i.en && i.queueOp

/-- PUSH (R112, R115): a push at a port A edge. It is refused where the queue is FULL as its own flags stand at the edge, is pushed
from the network, or is absent; a push at the edge of a FLUSH is discarded and counted as refused. -/
def execPush (m : Fin 16384) (inp : Option PortIn) (s : State) : Out :=
  let i := portInput s m 0 inp
  let qn := portQueue m i
  if !queuePort s m 0 i then .next s
  else if !qPresent s qn then .next (showRefused s m true)
  else
    let q := s.queue qn
    if q.flushPush then .next (showRefused (refusePush (s.setQueue qn q.pushEdge) qn) m true)
    else if s.flag (uDie (qnDie qn)) F.qcCfgPushNet (qnIdx qn) then .next (showRefused (refusePush s qn) m true)
    else if queueFull s qn then .next (showRefused (refusePush (s.setQueue qn q.pushEdge) qn) m true)
    else
      .next (showRefused ((putElement s qn (q.rd + q.count) i.din.toNat).setQueue qn
        (q.pushEdge.pushed 1 (flagLag s qn))).draw m false)

/-- POP (R112, R115): a pop at a port B edge removes the oldest element that the pop side sees. It appears on DOUT with VALID and CERR after
the following edge; a failing element also sets QC_STATUS.CERR and owes a refetch (R104). Nothing happens on an EMPTY queue or one
popped from the network. -/
def execPop (m : Fin 16384) (inp : Option PortIn) (s : State) : Out :=
  let i := portInput s m 1 inp
  let qn := portQueue m i
  if !queuePort s m 1 i then .next s
  else if !qPresent s qn || s.flag (uDie (qnDie qn)) F.qcCfgPopNet (qnIdx qn) then
    .next (s.setPort m 1 (s.bmPort m 1).access)
  else
    let q := s.queue qn
    if queueEmpty s qn || q.flushPop then
      .next ((s.setPort m 1 (s.bmPort m 1).access).setQueue qn q.popEdge)
    else
      let ok := elementOk s qn q.rd
      let s1 := s.setPort m 1 { (s.bmPort m 1).access with
        next := some (BitVec.ofNat 64 (getElement s qn q.rd), !ok), nextValid := true }
      let s2 := (s1.setQueue qn (q.popEdge.popped 1 (qCap s qn) (flagLag s qn))).draw
      .next (if ok then s2
        else oweRefetch (s2.setFld (uDie (qnDie qn)) F.qcStatusCerr 1 (qnIdx qn)) m 1 (qPlace s qn q.rd).1)

/-- A flush of a queue: each side is emptied at its domain's next edge, of the elements there are now; transfers under way complete with
BUSY (R115, R119). -/
def flushQueue (s : State) (qn : Nat) : State :=
  let q := s.queue qn
  let s1 := s.setQueue qn { q with flushPush := true, flushPop := true, drop := q.count }
  { s1 with bm := { s1.bm with moving := s.bm.moving.map (fun t => if t.qn = qn then { t with aborted := true } else t) } }

/-- FLUSH (R115). -/
def execFlush (qn : BitVec 16) (s : State) : Out :=
  if qPresent s qn.toNat then .next (flushQueue s qn.toNat) else .next s

/-! ### The queue aperture (R116-R119) -/

/-- The fabric port and the window offset of a request to a fabric-port window. -/
def windowOf (p : Packet) : Option (Nat × Nat) :=
  match mapAddr p.a48 with
  | .fabric n o => some (n, o)
  | _ => none

/-- The queue an aperture offset names (R116). -/
def apertureQueue (n o : Nat) : Nat := qnOf n ((o - 0xFFE00000) / 0x4000) ((o - 0xFFE00000) / 0x1000 % 4)

/-- The elements a request moves: LEN × 512 / QW (R117). -/
def reqElements (s : State) (qn : Nat) (p : Packet) : Nat := p.len.toNat * 512 / qWidth s qn

/-- A queue request answered; one that completes with BUSY is counted (R129). -/
def replyQueue (s : State) (qn : Nat) (p : Packet) (st : Stat) (body : List Line := []) : State :=
  let s1 := s.reply p st body
  if st = .busy then s1.countSat (uDie (qnDie qn)) F.qcBusyCountCount else s1

/-- The fabric port of a queue. -/
def qnPort (qn : Nat) : Nat := qn / 512

/-- Whether a region lies between a flip and the ENABLES stage of release (R118, R189). -/
def flipping (s : State) (n : Nat) : Bool := (s.active n).isSome && decide (s.stage n < 2)

/-- The elements a queue has room for, or holds, counting the transfers under way (R117, R119). -/
def pushRoom (s : State) (qn : Nat) : Nat :=
  qLimit s qn - ((s.queue qn).pushView + ((s.bm.moving.filter (fun t => t.qn == qn && t.push && !t.aborted)).map
    (fun t => reqElements s qn t.pkt)).sum)

/-- The elements a network pop can take. -/
def popAvail (s : State) (qn : Nat) : Nat :=
  (s.queue qn).popView - ((s.bm.moving.filter (fun t => t.qn == qn && !t.push && !t.aborted)).map
    (fun t => reqElements s qn t.pkt)).sum

/-- Whether a request's condition is met (R117). -/
def conditionMet (s : State) (qn : Nat) (push : Bool) (p : Packet) : Bool :=
  if push then decide (reqElements s qn p ≤ pushRoom s qn) else decide (reqElements s qn p ≤ popAvail s qn)

/-- A request begins to move its lines (R119). -/
def startTransfer (s : State) (qn : Nat) (push : Bool) (p : Packet) : State :=
  { s with bm := { s.bm with moving := s.bm.moving ++ [⟨qn, push, p, false⟩] } }

/-- A request that cannot be performed yet: BUSY at once with NB = 1, QC_HOLD = 0 or all 8 slots occupied, else held (R117, R118). -/
def holdRequest (s : State) (qn : Nat) (push : Bool) (p : Packet) : State :=
  if s.flag (uDie (qnDie qn)) F.qcCfgNb (qnIdx qn) || s.fld (uDie (qnDie qn)) F.qcHoldCycles == 0 ||
      decide (8 ≤ (s.bm.held.filter (fun h => qnPort h.qn == qnPort qn)).length) then
    replyQueue s qn p .busy
  else { s.takeReq p with bm := { s.bm with held := s.bm.held ++ [⟨qn, push, p⟩] } }

/-- An edge of the plate clock at the network sides of the queues (R114, R115, R119). -/
def plateQueues (s : State) : State :=
  { s with bm := { s.bm with
      q := s.bm.q.filterMap (fun e =>
        let u := uDie (qnDie e.1)
        let r1 := if s.flag u F.qcCfgPushNet (qnIdx e.1) then e.2.pushEdge else e.2
        let r2 := if s.flag u F.qcCfgPopNet (qnIdx e.1) then r1.popEdge else r1
        if r2 = {} then none else some (e.1, r2)) } }

/-- A flush that waits for the plate edge of a network side takes effect before a request of that side is decided (R115). -/
def netFlush (s : State) (qn : Nat) (push : Bool) : State :=
  let q := s.queue qn
  if !s.flag (uDie (qnDie qn)) (if push then F.qcCfgPushNet else F.qcCfgPopNet) (qnIdx qn) then s
  else if push && q.flushPush then s.setQueue qn q.pushEdge
  else if !push && q.flushPop then s.setQueue qn q.popEdge
  else s

/-- A network push or pop decided (R116-R118). -/
def decideQueue (s0 : State) (push : Bool) (p : Packet) : State :=
  match windowOf p with
  | none => s0
  | some (n, o) =>
    if o < 0xFFE00000 then s0
    else
      let qn := apertureQueue n o
      let s := netFlush s0 qn push
      let u := uDie (qnDie qn)
      if p.op ≠ (if push then opWrite else opRead) ∨ (p.len.toNat ≠ 0 ∧ !p.fullEnables) then s.reply p .decode
      else if flipping s n then holdRequest s qn push p
      else if !qPresent s qn || !s.flag u (if push then F.qcCfgPushNet else F.qcCfgPopNet) (qnIdx qn) then s.reply p .decode
      else if p.len.toNat = 0 then s.reply p .ok
      else if qLimit s qn < reqElements s qn p then
        (s.setFld u F.qcStatusTooLong 1 (qnIdx qn)).reply p .tooLong
      else if (s.bm.held.any (fun h => h.qn == qn)) || !conditionMet s qn push p then holdRequest s qn push p
      else startTransfer (s.takeReq p) qn push p

/-- The queue a READ or a WRITE of the queue aperture names. -/
def queueNamed (p : Packet) : Option Nat :=
  match windowOf p with
  | some (n, o) => if o < 0xFFE00000 ∨ (p.op ≠ opRead ∧ p.op ≠ opWrite) then none else some (apertureQueue n o)
  | none => none

/-- Whether no earlier request for the same queue is still to be decided (R118). -/
def queueTurn (s : State) (p : Packet) : Bool := s.firstOf p (fun q => (queueNamed q).isSome && queueNamed q == queueNamed p)

/-- APERTURE_PUSH (R116-R119). -/
def execAperturePush (p : Packet) (s : State) : Out :=
  if s.arrived p && queueTurn s p && p.op != opRead then .next (decideQueue s true p) else .next s

/-- The bytes of `n` elements of a queue from element `i` (R111). -/
def elementBytes (s : State) (qn i n : Nat) : List Byte :=
  (List.range n).flatMap (fun k => toLeBytes (qWidth s qn / 8) (getElement s qn (i + k)))

/-- A read of a queue by the debug unit while PEEK is 1 (R116): it is decided as a pop, except that one that would be held completes with
BUSY; it returns what the pop would return and moves nothing. -/
def peekQueue (s : State) (n o : Nat) (p : Packet) : State :=
  let qn := apertureQueue n o
  let u := uDie (qnDie qn)
  if p.op ≠ opRead ∨ (p.len.toNat ≠ 0 ∧ !p.fullEnables) then s.reply p .decode
  else if flipping s n then replyQueue s qn p .busy
  else if !qPresent s qn || !s.flag u F.qcCfgPopNet (qnIdx qn) then s.reply p .decode
  else if p.len.toNat = 0 then s.reply p .ok
  else if qLimit s qn < reqElements s qn p then (s.setFld u F.qcStatusTooLong 1 (qnIdx qn)).reply p .tooLong
  else if (s.bm.held.any (fun h => h.qn == qn)) || !conditionMet s qn false p then replyQueue s qn p .busy
  else
    let k := reqElements s qn p
    let ok := (List.range k).all (fun j => elementOk s qn ((s.queue qn).rd + j))
    s.reply p (if ok then .ok else .poison) (toLines p.len.toNat (elementBytes s qn (s.queue qn).rd k))

/-- Whether a request is a read of a queue that leaves it as it is (R116). -/
def peeks (s : State) (p : Packet) : Bool := p.icls.toNat == iclsDebug && p.op == opRead && s.flag uDbg F.dbgCtrlPeek

/-- A read of the queue aperture: a peek, or a pop (R116). -/
def readQueue (s : State) (p : Packet) : State :=
  match windowOf p with
  | none => s
  | some (n, o) => if o < 0xFFE00000 then s else if peeks s p then peekQueue s n o p else decideQueue s false p

/-- APERTURE_POP (R116-R119). -/
def execAperturePop (p : Packet) (s : State) : Out :=
  if s.arrived p && queueTurn s p && p.op == opRead then .next (readQueue s p) else .next s

/-- PEEK (R116). -/
def execPeek (p : Packet) (s : State) : Out := if s.arrived p && queueTurn s p && peeks s p then .next (readQueue s p) else .next s

/-- HELD_REQUEST_PROCEED (R118): the oldest held request of a queue proceeds once its condition is met and its region is released. -/
def execHeldRequestProceed (qn : BitVec 16) (s0 : State) : Out :=
  match s0.bm.held.find? (fun h => h.qn == qn.toNat) with
  | none => .next s0
  | some h =>
    let s := netFlush s0 h.qn h.push
    let u := uDie (qnDie h.qn)
    let free : State := { s with bm := { s.bm with held := s.bm.held.erase h } }
    if flipping s (qnPort h.qn) then .next s
    else if !qPresent s h.qn || !s.flag u (if h.push then F.qcCfgPushNet else F.qcCfgPopNet) (qnIdx h.qn) then
      .next (free.reply h.pkt .decode)
    else if qLimit s h.qn < reqElements s h.qn h.pkt then
      .next ((free.setFld u F.qcStatusTooLong 1 (qnIdx h.qn)).reply h.pkt .tooLong)
    else if !conditionMet s h.qn h.push h.pkt then .next s
    else .next (startTransfer free h.qn h.push h.pkt)

/-- HOLD_TIMEOUT (R118): the held request in slot `i` of a fabric port completes with BUSY, having changed nothing. -/
def execHoldTimeout (n : Fin 128) (i : Fin 8) (s : State) : Out :=
  match (s.bm.held.filter (fun h => qnPort h.qn == n.val))[i.val]? with
  | none => .next s
  | some h => .next (replyQueue { s with bm := { s.bm with held := s.bm.held.erase h } } h.qn h.pkt .busy)

/-- The elements a push carries, from its payload (R116). -/
def pushElements (s : State) (qn : Nat) (p : Packet) : List Nat :=
  (List.range (reqElements s qn p)).map (fun k => leBytes ((p.payload.drop (k * (qWidth s qn / 8))).take (qWidth s qn / 8)))

/-- The elements of one line merged at their places, from place `off` of the line: data and mask (R111). -/
def lineElements (w off : Nat) : List Nat → Nat × Nat
  | [] => (0, 0)
  | v :: vs =>
    let r := lineElements w (off + 1) vs
    (r.1 + v % 2 ^ w * 2 ^ (w * off), r.2 + maskAt (w * off) w)

/-- The elements of a push written a line at a time from element `i`: a line they fill is one full write, another one merged write
(R111, R119). The first argument bounds the lines. -/
def putElements (s : State) (qn i : Nat) : Nat → List Nat → State
  | 0, _ => s
  | _, [] => s
  | fuel + 1, vs =>
    let w := qWidth s qn
    let off := i % qCap s qn % (64 / w)
    let k := 64 / w - off
    let e := lineElements w off (vs.take k)
    putElements (writeMasked s (qnMem qn) (qPlace s qn i).1 e.1 e.2) qn (i + k) fuel (vs.drop k)

/-- A network push completes: its elements are stored and the pointer moves once (R119). -/
def finishPush (s : State) (t : Transfer) : State :=
  let q := s.queue t.qn
  (((putElements s t.qn (q.rd + q.count) (8 * t.pkt.len.toNat + 1) (pushElements s t.qn t.pkt)).setQueue t.qn
    (q.pushed (reqElements s t.qn t.pkt) (flagLag s t.qn))).draw).reply t.pkt .ok

/-- The lines of a pop's elements that fail their checks, each once. -/
def failingLines (s : State) (qn i n : Nat) : NSet :=
  (List.range n).foldl (fun acc k => if elementOk s qn (i + k) then acc else NSet.add acc (qPlace s qn (i + k)).1) []

/-- A network pop completes: every element is popped, and failing ones make the data POISON (R119). -/
def finishPop (s : State) (t : Transfer) : State :=
  let q := s.queue t.qn
  let n := reqElements s t.qn t.pkt
  let bad := failingLines s t.qn q.rd n
  let s1 := (s.setQueue t.qn (q.popped n (qCap s t.qn) (flagLag s t.qn))).draw
  let body := toLines t.pkt.len.toNat (elementBytes s t.qn q.rd n)
  if bad.isEmpty then s1.reply t.pkt .ok body
  else
    (bad.foldl (fun u l => oweRefetch u (qnMem t.qn) 2 l)
      (s1.setFld (uDie (qnDie t.qn)) F.qcStatusCerr 1 (qnIdx t.qn))).reply t.pkt .poison body

/-- NETWORK_TRANSFER_DONE (R113, R114, R119): the last line of the oldest request of a queue has moved. -/
def execNetworkTransferDone (qn : BitVec 16) (s : State) : Out :=
  match s.bm.moving.find? (fun t => t.qn == qn.toNat) with
  | none => .next s
  | some t =>
    let s1 : State := { s with bm := { s.bm with moving := s.bm.moving.erase t } }
    if t.aborted then .next (replyQueue s1 t.qn t.pkt .busy)
    else .next (if t.push then finishPush s1 t else finishPop s1 t)

/-- MEMORY_CLEAR_DONE (R122, R159): after reset every block memory, operand memory and instruction memory is 0 with fresh checks, but for
those a load has written in the meantime. -/
def execMemoryClearDone (s : State) : Out :=
  if !s.bm.clearing then .next s
  else
    .next { s with
      bm := { s.bm with lines := s.bm.lines.filter (fun e => s.bm.loadedMem.contains (e.1 / 1024)), clearing := false }
      eng := s.eng.map (fun e => if s.bm.loadedEng.contains e.1 then e else (e.1, { e.2 with om := [], badParity := [] }))
      csr := s.csr.filter (fun e => !(unitKind (e.1 / 0x1000000) == .die && decide (0x800000 ≤ e.1 % 0x1000000) &&
        decide (e.1 % 0x1000000 < 0xC00000) && decide (0x800 ≤ e.1 % 0x1000) && decide (e.1 % 0x1000 < 0xC00) &&
        !s.bm.loadedEng.contains ((e.1 / 0x1000000 - uDie 0) * 1024 + (e.1 % 0x1000000 - 0x800000) / 0x1000))) }

/-! ### A flip of a region's memories (R120, R121, R124, R127, R128) -/

/-- The lines of the queues of a layout: first line and number, by queue; none where absent (R110). -/
def layoutQueue (layout q : Nat) : Option (Nat × Nat) :=
  match layout, q with
  | 1, 0 => some (0, 1024)
  | 2, 0 => some (0, 512)
  | 2, 1 => some (512, 512)
  | 3, 0 => some (0, 256)
  | 3, 1 => some (256, 256)
  | 3, 2 => some (512, 256)
  | 3, 3 => some (768, 256)
  | 4, 0 => some (0, 512)
  | 4, 1 => some (512, 256)
  | 4, 2 => some (768, 256)
  | 5, 0 => some (0, 768)
  | 5, 1 => some (768, 256)
  | 6, 0 => some (0, 256)
  | 6, 1 => some (256, 768)
  | _, _ => none

/-- A queue field of a memory record (R124). -/
def queueField (r q hi lo : Nat) : Nat := bitsOf r (64 + 48 * q + hi) (64 + 48 * q + lo)

/-- CAP of a queue of a record. -/
def recordCap (r q : Nat) : Nat :=
  match layoutQueue (memLayout r) q with
  | some (_, n) => n * (8 / 2 ^ queueField r q 1 0)
  | none => 0

/-- Whether a record's fields that take effect hold a reserved or out-of-range value (R101, R110, R120, R124, R127). -/
def recordBad (r : Nat) : Bool :=
  memLayout r == 7 || bitsOf r 4 3 == 3 ||
  (memLayout r == 0 && (memPortField r 0 7 6 == 3 || memPortField r 1 7 6 == 3)) ||
  (List.range 4).any (fun q => (layoutQueue (memLayout r) q).isSome &&
    (decide (recordCap r q < queueField r q 18 5) || decide (recordCap r q < queueField r q 32 19) ||
      decide (recordCap r q < queueField r q 46 33)))

/-- The registers of one queue loaded from the record at a flip (R124, R128). -/
def loadQueue (s : State) (n k q r : Nat) : State :=
  let u := uDie (n / 16)
  let i := qnIdx (qnOf n k q)
  match layoutQueue (memLayout r) q with
  | none => ((s.setReg u (F.qcCfgPresent.at i 0) 0).setReg u (F.qcLimitCap.at i 0) 0).setReg u (F.qcThAfullTh.at i 0) 0
  | some (base, lines) =>
    let cap := recordCap r q
    let th := fun v => if cap < v then 0 else v
    ((s.setReg u (F.qcCfgPresent.at i 0) (BitVec.ofNat 32 (2 ^ 31 + queueField r q 1 0 * 2 ^ 29 + queueField r q 2 2 * 2 ^ 28 +
        queueField r q 3 3 * 2 ^ 27 + queueField r q 4 4 * 2 ^ 26 + base * 2 ^ 12 + lines))).setReg u (F.qcLimitCap.at i 0)
      (BitVec.ofNat 32 (cap * 2 ^ 16 + min (queueField r q 18 5) cap))).setReg u (F.qcThAfullTh.at i 0)
      (BitVec.ofNat 32 (th (queueField r q 32 19) * 2 ^ 16 + th (queueField r q 46 33)))

/-- Whether a memory's queues keep their contents and pointers across a flip between two records (R121): an IMAGE memory whose bank has
been `reused` is treated as RETAIN (R275). -/
def keepsQueues (reused : Bool) (old new : Nat) : Bool :=
  (bitsOf new 4 3 == 0 || (reused && bitsOf new 4 3 == 1)) && memLayout old == memLayout new &&
    (List.range 4).all (fun q => queueField old q 1 0 == queueField new q 1 0 || (layoutQueue (memLayout new) q).isNone)

/-- One memory of a region at its flip from an old record to a new one: contents by INITMODE (an IMAGE memory is written by the caller),
queues kept or emptied, DOUT of a port that is disabled 0, MEM_STAT and the queue registers loaded (R120, R121, R124, R127, R128). A port
that stays enabled keeps its output register (log entry 129). -/
def flipMemory (n : Nat) (reused : Bool) (old : Nat) (s : State) (kr : Nat × Nat) : State :=
  let k := kr.1
  let new := kr.2
  let m := n * 128 + k
  let u := uDie (n / 16)
  let s1 := if 2 ≤ bitsOf new 4 3 then
      { s with bm := { s.bm with lines := s.bm.lines.filter (fun e => e.1 / 1024 ≠ m) } } else s
  let s2 := if keepsQueues reused old new then s1 else
      { s1 with bm := { s1.bm with
          q := s1.bm.q.filter (fun e => e.1 / 4 ≠ m)
          moving := s1.bm.moving.map (fun t => if t.qn / 4 = m then { t with aborted := true } else t) } }
  let off := fun (e : Nat × BmPort) => e.1 / 2 == m && !memPortEn new (e.1 % 2)
  let s2' : State := { s2 with bm := { s2.bm with port := s2.bm.port.filter (fun e => !off e) } }
  let s3 := ((s2'.setFld u F.bmMemStatLayout (memLayout new) (m % 2048)).setFld u F.bmMemStatInitmode (bitsOf new 4 3)
    (m % 2048)).setFld u F.bmMemStatCfgBad (boolNat (recordBad new)) (m % 2048)
  (List.range 4).foldl (fun t q => loadQueue t n k q new) s3

/-- The memories of a region at its flip to plane `p` (R120-R128); `old` gives each memory's record before the flip, `reused` whether the
bank of the plane's load holds another load now (R275). -/
def flipMemories (s : State) (n p : Nat) (reused : Bool) (old : Nat → Nat) : State :=
  (List.range 128).foldl (fun t k => flipMemory n reused (old k) t (k, t.memRecord p n k)) s

/-! ### Views (R128) -/

/-- QC_COUNT and QC_STATUS as read; none for another register. -/
def queueView (s : State) (d off : Nat) : Option Nat :=
  if 0x400000 ≤ off ∧ off < 0x440000 then
    let qn := d * 8192 + (off - 0x400000) / 0x20
    if (off - 0x400000) % 0x20 = 0x0C then some (s.queue qn).popView
    else if (off - 0x400000) % 0x20 = 0x10 then
      some ((s.reg (uDie d) off).toNat / 16 % 8 * 16 + 128 * boolNat (s.bm.held.any (fun h => h.qn == qn)) +
        8 * boolNat (queueAfull s qn) + 4 * boolNat (qPresent s qn && queueFull s qn) + 2 * boolNat (qPresent s qn && queueAempty s qn) +
        boolNat (queueEmpty s qn))
    else none
  else none

end Sys2Proof.Machine
end

