-- ==== Sys2Proof/Machine/Flags.lean ====
section
/-! DEFINITION. The arithmetic flags of the tap engines: saturation, rounding shifts, headroom (R144, R145, R153, R154). -/

namespace Sys2Proof.Machine

open Sys2Proof

/-- A signed sum saturated to `w` bits, and whether it saturated (R144). -/
def satSigned (w : Nat) (i : Int) : Int × Bool := (clampSigned w i, clampSigned w i != i)

/-- An arithmetic right shift with the rounding of R145. -/
def roundShift (i : Int) (n : Nat) : Int := if n = 0 then i else (i + ((2 ^ (n - 1) : Nat) : Int)).fdiv ((2 ^ n : Nat) : Int)

/-- The headroom of an 18-bit element: the bits below bit 17, from bit 16 down, that equal bit 17 (R154). -/
def headroom (v : Nat) : Nat := ((List.range 17).takeWhile (fun i => bitOf v (16 - i) == bitOf v 17)).length

end Sys2Proof.Machine
end

