-- ==== Sys2Proof/Machine/Tap.lean ====
section
/-! DEFINITION. Tap engines (R132-R163). -/

namespace Sys2Proof.Machine

open Sys2Proof

/-! ### Registers of an engine (R161, R162) -/

/-- The logic-die controller of a device engine. -/
def engUnit (i : Nat) : Nat := uDie (i / 1024)

/-- A field of an engine's block. -/
def State.ef (s : State) (i : Nat) (f : Fld) (j : Nat := 0) : Nat := s.fld (engUnit i) f (i % 1024) j

/-- A field of an engine's block set. -/
def State.setEf (s : State) (i : Nat) (f : Fld) (v : Nat) (j : Nat := 0) : State := s.setFld (engUnit i) f v (i % 1024) j

/-- Engine states (R157). -/
def tapIdle : Nat := 0
/-- RUN. -/
def tapRun : Nat := 1
/-- HELD. -/
def tapHeld : Nat := 2
/-- FAULT. -/
def tapFault : Nat := 3

/-- Whether an engine is in I8 mode (R133). -/
def isI8 (s : State) (i : Nat) : Bool := s.ef i F.tapCfgMode == 1

/-- The die's DONE_ANY and FAULT_ANY event sources driven (R162, R507). -/
def tapEvents (s : State) (d : Nat) : State :=
  let anyOf := fun f => (List.range 32).any (fun k => s.fld (uDie d) f k != 0)
  (s.level (16 + 2 * d) (anyOf F.tapDonePendPend)).level (17 + 2 * d) (anyOf F.tapFaultPendPend)

/-- An engine's DONE_PEND or FAULT_PEND bit set or cleared (R162). -/
def setPendBit (s : State) (i : Nat) (f : Fld) (b : Bool) : State :=
  let k := i % 1024
  tapEvents (s.setFld (engUnit i) f (withBit (s.fld (engUnit i) f (k / 32)) (k % 32) b) (k / 32)) (i / 1024)

/-- A fault: the engine stops with PC at the faulting instruction, CAUSE recorded, FAULT_PEND set (R158). -/
def faultEngine (s : State) (i cause : Nat) : State :=
  setPendBit (((s.setEf i F.tapStatusState tapFault).setEf i F.tapStatusCause cause).setEf i F.tapStatusWait 0) i
    F.tapFaultPendPend true

/-! ### The operand memory (R133, R140) -/

/-- A word of the operand memory. -/
def omWord (e : Engine) (w : Nat) : Nat := (SMap.get 0 e.om (w % 2048)).toNat

/-- A word of the operand memory set. -/
def setOmWord (e : Engine) (w v : Nat) : Engine := { e with om := SMap.store 0 e.om (w % 2048) (BitVec.ofNat 72 v) }

/-- An element by its address (R133): 18 bits in S18, the quad's 32 bits in I8. -/
def omElement (i8 : Bool) (e : Engine) (a : Nat) : Nat :=
  if i8 then bitsOf (omWord e (a % 4096 / 2)) (36 * (a % 2) + 31) (36 * (a % 2))
  else bitsOf (omWord e (a % 8192 / 4)) (18 * (a % 4) + 17) (18 * (a % 4))

/-- An element written: quad bits [35:32] are written 0 (R133). -/
def setOmElement (i8 : Bool) (e : Engine) (a v : Nat) : Engine :=
  let w := if i8 then a % 4096 / 2 else a % 8192 / 4
  let lo := if i8 then 36 * (a % 2) else 18 * (a % 4)
  let n := if i8 then 36 else 18
  let v' := if i8 then v % 2 ^ 32 else v % 2 ^ 18
  setOmWord e w ((omWord e w &&& (2 ^ 72 - 1 - maskAt lo n)) + v' * 2 ^ lo)

/-! ### Address generators (R142, R143) -/

/-- The low `b` bits of a number reversed. -/
def revBits : Nat → Nat → Nat
  | 0, _ => 0
  | b + 1, v => v % 2 * 2 ^ b + revBits b (v / 2)

/-- The number of bits of a power of two, by its exponent; none where it is none. -/
def log2Exact (n : Nat) : Option Nat := (List.range 15).find? (fun b => 2 ^ b == n)

/-- Whether using a generator is an error (R143). -/
def agError (s : State) (i g : Nat) : Bool :=
  let len := s.ef i F.tapAgBLen g
  let mode := s.ef i F.tapAgBMode g
  (decide (2 ≤ mode) && (log2Exact len).isNone) || (mode == 3 && len == 1) || (isI8 s i && decide (4096 < len))

/-- The address a generator forms (R142). -/
def agAddress (s : State) (i g : Nat) : Nat :=
  let base := s.ef i F.tapAgABase g
  let idx := s.ef i F.tapAgAIdx g
  let len := s.ef i F.tapAgBLen g
  let b := (log2Exact len).getD 0
  let off :=
    match s.ef i F.tapAgBMode g with
    | 0 => idx
    | 1 => idx % len
    | 2 => revBits b (idx % len)
    | _ => 2 * revBits (b - 1) (idx % len / 2) + idx % len % 2
  (base + off) % (if isI8 s i then 4096 else 8192)

/-- A sum under a generator's update rule: modulo 2^13 in mode 0, the non-negative remainder modulo LEN in the others (R142). -/
def agReduce (s : State) (i g : Nat) (sum : Int) : Nat :=
  if s.ef i F.tapAgBMode g = 0 then unsignedOf 13 sum else (sum % (s.ef i F.tapAgBLen g : Int)).toNat

/-- A generator advanced once by STEP (R142). -/
def agAdvance (s : State) (i g : Nat) : State :=
  s.setEf i F.tapAgAIdx (agReduce s i g ((s.ef i F.tapAgAIdx g : Int) + signedOf 13 (s.ef i F.tapAgBStep g))) g

/-! ### Issue (R146-R152) -/

/-- The instruction an engine fetches. -/
def tapFetch (s : State) (i : Nat) : Nat := (s.reg (engUnit i) (F.tapImemWord.at (i % 1024) (s.ef i F.tapStatusPc))).toNat

/-- Where execution goes after the last instruction of a body, and the loops left: loops that share an END are counted innermost
first, in one cycle (R148). -/
def loopNext (pc : Nat) : List LoopRec → Nat × List LoopRec
  | [] => ((pc + 1) % 256, [])
  | l :: ls =>
    if l.last = pc then
      if 1 < l.left then (l.start, { l with left := l.left - 1 } :: ls) else loopNext pc ls
    else ((pc + 1) % 256, l :: ls)

/-- An instruction that used `cycles` issue cycles and `stall` stall cycles is complete; execution continues at `pc` (R150, R152). -/
def complete (s : State) (i pc cycles stall : Nat) : State :=
  let e := s.engine i
  let s1 := s.setEngine i { e with
    sinceAcc := min 3 (e.sinceAcc + cycles + stall), sinceWrite := min 3 (e.sinceWrite + cycles + stall), pushed := 0 }
  (((s1.setEf i F.tapStatusPc pc).setEf i F.tapStatusWait 0).countWrap (engUnit i) F.tapCyclesCount (cycles + stall)
    (i % 1024)).countWrap (engUnit i) F.tapStallsCount stall (i % 1024)

/-- An instruction complete in sequence, loops counted (R148). -/
def completeSeq (s : State) (i cycles stall : Nat) : State :=
  let e := s.engine i
  let nx := loopNext (s.ef i F.tapStatusPc) e.loops
  complete (s.setEngine i { e with loops := nx.2 }) i nx.1 cycles stall

/-- An instruction waits for its element, doorbell or room (R147). -/
def waitEngine (s : State) (i : Nat) : State := s.setEf i F.tapStatusWait 1

/-- The stall of an instruction that reads ACC: it issues no earlier than 3 cycles after the last that wrote it (R152). -/
def accStall (s : State) (i : Nat) : Nat := 3 - (s.engine i).sinceAcc

/-- The stall of an instruction that uses the OM slots `need` (1 P, 2 Q) where the write of one issued less than 3 cycles before may need
one of them: whether it does is not stated, a free value of 0 or 1 (R141, R150, R151, log entry 8). -/
def slotStall (s : State) (i need : Nat) : Nat :=
  if (s.engine i).sinceWrite < 3 ∧ (s.engine i).writeSlots &&& need ≠ 0 then s.fresh % 2 else 0

/-- An instruction that wrote ACC has issued: its own stall came before (R152). -/
def afterMac (s : State) (i : Nat) : State := s.setEngine i { s.engine i with sinceAcc := 1 }

/-- An instruction that writes OM in some slots has issued; its own stall came before (R141). -/
def afterWrite (s : State) (i slots : Nat) : State := s.setEngine i { s.engine i with writeSlots := slots, sinceWrite := 1 }

/-- Cycles in which an engine only stalls (R150, R152). -/
def stallEngine (s : State) (i n : Nat) : State :=
  let e := s.engine i
  ((s.setEngine i { e with sinceAcc := min 3 (e.sinceAcc + n), sinceWrite := min 3 (e.sinceWrite + n) }).countWrap (engUnit i)
    F.tapCyclesCount n (i % 1024)).countWrap (engUnit i) F.tapStallsCount n (i % 1024)

/-- Whether an engine's clock runs and it can issue or resume an instruction. -/
def canIssue (s : State) (i : Nat) : Bool := s.clockRuns (i / 64) 8 && s.ef i F.tapStatusState == tapRun

/-- An instruction fetched and, where its opcode is the command's, performed by `body`. `upset` says that the entry has suffered an upset
that its parity bit shows (R158, log entry 95). A parity failure faults with PARITY and raises
class 0x03, a reserved opcode faults with ILLEGAL (R147, R158); an engine that is not running, waits or stops issues nothing. -/
def issue (s : State) (i op : Nat) (upset : Bool) (body : Nat → State → State) : State :=
  if !canIssue s i || s.ef i F.tapStatusWait == 1 || (s.engine i).stopping then s
  else if upset then
    (faultEngine (s.setEngine i { s.engine i with badParity := NSet.add (s.engine i).badParity (s.ef i F.tapStatusPc) }) i 2).raise
      (engUnit i) 0x03
  else if (s.engine i).badParity.contains (s.ef i F.tapStatusPc) then (faultEngine s i 2).raise (engUnit i) 0x03
  else
    let w := tapFetch s i
    if 0x12 ≤ w / 2 ^ 26 then faultEngine s i 1
    else if w / 2 ^ 26 = op then body w (s.setEngine i { s.engine i with evt := false })
    else s

/-! ### Control instructions -/

/-- NOP (R146). -/
def execNop (i : Fin 8192) (s : State) (upset : Bool := false) : Out := .next (issue s i 0x00 upset (fun _ t => completeSeq t i 1 0))

/-- HALT (R146, R157, R162). -/
def execHalt (i : Fin 8192) (s : State) (upset : Bool := false) : Out :=
  .next (issue s i 0x01 upset (fun _ t =>
    (setPendBit ((completeSeq t i 1 0).setEf i F.tapStatusDone 1) i F.tapDonePendPend true).setEf i F.tapStatusState tapIdle))

/-- SIG (R146, R162). -/
def execSig (i : Fin 8192) (s : State) (upset : Bool := false) : Out :=
  .next (issue s i 0x02 upset (fun _ t =>
    let t1 := setPendBit (completeSeq t i 1 0) i F.tapDonePendPend true
    t1.setEngine i { t1.engine i with evt := true }))

/-- JMP (R146): every active loop whose body does not contain TARGET is left. -/
def execJmp (i : Fin 8192) (s : State) (upset : Bool := false) : Out :=
  .next (issue s i 0x03 upset (fun w t =>
    let tg := bitsOf w 7 0
    let e := t.engine i
    complete (t.setEngine i { e with loops := e.loops.filter (fun l => decide (l.start ≤ tg) && decide (tg ≤ l.last)) }) i tg 1 0))

/-- LOOP (R148). -/
def execLoop (i : Fin 8192) (s : State) (upset : Bool := false) : Out :=
  .next (issue s i 0x04 upset (fun w t =>
    let pc := t.ef i F.tapStatusPc
    let last := bitsOf w 23 16
    let count := if bitOf w 25 then t.ef i F.tapLcrCount (bitsOf w 1 0) else bitsOf w 15 0
    let e := t.engine i
    if last ≤ pc ∨ (match e.loops with | l :: _ => decide (l.last < last) | [] => false) = true then faultEngine t i 4
    else if count = 0 then
      let nx := loopNext last e.loops
      complete (t.setEngine i { e with loops := nx.2 }) i nx.1 1 0
    else if e.loops.length = 4 then faultEngine t i 3
    else complete (t.setEngine i { e with loops := ⟨pc + 1, last, count⟩ :: e.loops }) i (pc + 1) 1 0))

/-- WAITD performed when the doorbell is non-zero (R149). -/
def doWaitd (s : State) (i : Nat) : State :=
  if s.ef i F.tapDoorbellCount = 0 then waitEngine s i
  else completeSeq (s.setEf i F.tapDoorbellCount (s.ef i F.tapDoorbellCount - 1)) i 1 0

/-- WAITD (R146, R149). -/
def execWaitd (i : Fin 8192) (s : State) (upset : Bool := false) : Out := .next (issue s i 0x05 upset (fun _ t => doWaitd t i))

/-- AGSET (R142, R143, R146, R147). -/
def execAgset (i : Fin 8192) (s : State) (upset : Bool := false) : Out :=
  .next (issue s i 0x06 upset (fun w t =>
    let g := bitsOf w 25 25
    let v := bitsOf w 15 0
    match bitsOf w 24 22 with
    | 0 => completeSeq (t.setEf i F.tapAgABase v g) i 1 0
    | 1 => completeSeq (t.setEf i F.tapAgAIdx v g) i 1 0
    | 2 => completeSeq (t.setEf i F.tapAgBStep v g) i 1 0
    | 3 => if v % 2 ^ 14 = 0 ∨ 8192 < v % 2 ^ 14 then faultEngine t i 5 else completeSeq (t.setEf i F.tapAgBLen v g) i 1 0
    | 4 => completeSeq (t.setEf i F.tapAgBMode v g) i 1 0
    | 5 => if g = 1 then faultEngine t i 1 else completeSeq (t.setEf i F.tapPairWords v) i 1 0
    | _ => faultEngine t i 1))

/-- AGADD (R142, R146, R147). -/
def execAgadd (i : Fin 8192) (s : State) (upset : Bool := false) : Out :=
  .next (issue s i 0x07 upset (fun w t =>
    let g := bitsOf w 25 25
    let v := signedOf 16 (bitsOf w 15 0)
    match bitsOf w 24 22 with
    | 0 => completeSeq (t.setEf i F.tapAgABase (agReduce t i g ((t.ef i F.tapAgABase g : Int) + v)) g) i 1 0
    | 1 => completeSeq (t.setEf i F.tapAgAIdx (agReduce t i g ((t.ef i F.tapAgAIdx g : Int) + v)) g) i 1 0
    | _ => faultEngine t i 1))

/-! ### Multiply-accumulate (R144, R146) -/

/-- The product of a lane: S18 elements, or the dot product of two quads of int8 (R144). -/
def laneProduct (i8 : Bool) (x y : Nat) : Int :=
  if i8 then
    ((List.range 4).map (fun k => signedOf 8 (bitsOf x (8 * k + 7) (8 * k)) * signedOf 8 (bitsOf y (8 * k + 7) (8 * k)))).sum
  else signedOf 18 x * signedOf 18 y

/-- A lane's accumulator, signed. -/
def accOf (e : Engine) (j : Nat) : Int := signedOf 48 (SMap.get 0 e.acc j)

/-- One MAC step of a lane (R144): the accumulator and whether it saturated. -/
def macStep (acc p : Int) (clr sub : Bool) : Int × Bool :=
  satSigned 48 ((if clr then 0 else acc) + (if sub then -p else p))

/-- The MAC steps of all eight lanes, with `y` for each (R144). -/
def macLanes (s : State) (i : Nat) (clr sub : Bool) (y : Nat → Nat) : State :=
  let e := s.engine i
  let res := (List.range 8).map (fun j => (j, macStep (accOf e j) (laneProduct (isI8 s i) (SMap.get 0 e.dl j) (y j)) clr sub))
  let s1 := s.setEngine i { e with
    acc := res.foldl (fun m r => SMap.store 0 m r.1 (unsignedOf 48 r.2.1)) e.acc }
  if res.any (fun r => r.2.2) then s1.setEf i F.tapStatusOvf 1 else s1

/-- The delay line shifted: DL0 takes an element, the one in DL7 is discarded (R146). -/
def shiftDl (e : Engine) (v : Nat) : Engine :=
  { e with dl := (List.range 8).foldl (fun m j =>
      SMap.store 0 m j (if j = 0 then v else SMap.get 0 e.dl (j - 1))) [] }

/-- FTAP (R140-R144, R146, R151). -/
def execFtap (i : Fin 8192) (s : State) (upset : Bool := false) : Out :=
  .next (issue s i 0x08 upset (fun w t =>
    if agError t i 0 || agError t i 1 then faultEngine t i 5
    else
      let e := t.engine i
      let y := omElement (isI8 t i) e (agAddress t i 0)
      let x := omElement (isI8 t i) e (agAddress t i 1)
      let t1 := macLanes (agAdvance (agAdvance t i 0) i 1) i (bitOf w 25) (bitOf w 24) (fun _ => y)
      (afterMac (completeSeq (t1.setEngine i (shiftDl (t1.engine i) x)) i 1 (slotStall t i 3)) i).draw))

/-- MAC (R143, R144, R146). -/
def execMac (i : Fin 8192) (s : State) (upset : Bool := false) : Out :=
  .next (issue s i 0x09 upset (fun w t =>
    if bitOf w 23 then
      let e := t.engine i
      afterMac (completeSeq (macLanes t i (bitOf w 25) (bitOf w 24) (fun j => SMap.get 0 e.coef j)) i 1 0) i
    else if agError t i 0 then faultEngine t i 5
    else
      let y := omElement (isI8 t i) (t.engine i) (agAddress t i 0)
      let t1 := macLanes (agAdvance t i 0) i (bitOf w 25) (bitOf w 24) (fun _ => y)
      (afterMac (completeSeq t1 i 1 (slotStall t i 1)) i).draw))

/-! ### Loads, stores and FIFOs (R145-R147) -/

/-- LDDL with SRC = 1 performed when the input FIFO holds an element (R147). -/
def doLddlFifo (s : State) (i : Nat) : State :=
  let e := s.engine i
  match e.fifoIn with
  | [] => waitEngine s i
  | v :: r => completeSeq (s.setEngine i (shiftDl { e with fifoIn := r } v)) i 1 0

/-- LDDL (R146, R147). -/
def execLddl (i : Fin 8192) (s : State) (upset : Bool := false) : Out :=
  .next (issue s i 0x0A upset (fun w t =>
    let g := bitsOf w 23 23
    if bitOf w 25 then
      if t.ef i F.tapCfgFabEn = 0 then faultEngine t i 6 else doLddlFifo t i
    else if agError t i g then faultEngine t i 5
    else
      let v := omElement (isI8 t i) (t.engine i) (agAddress t i g)
      let t1 := agAdvance t i g
      (completeSeq (t1.setEngine i (shiftDl (t1.engine i) v)) i 1 (slotStall t i 2)).draw))

/-- LDC (R146, R150): C0-C7 take the elements from the address rounded down to a multiple of 8. -/
def execLdc (i : Fin 8192) (s : State) (upset : Bool := false) : Out :=
  .next (issue s i 0x0B upset (fun w t =>
    let g := bitsOf w 23 23
    if agError t i g then faultEngine t i 5
    else
      let e := t.engine i
      let a := agAddress t i g / 8 * 8
      let t1 := agAdvance t i g
      let e1 : Engine := { e with coef := (List.range 8).foldl (fun m j => SMap.store 0 m j (omElement (isI8 t i) e (a + j))) [] }
      (completeSeq (t1.setEngine i e1) i (if isI8 t i then 2 else 1) (slotStall t i 3)).draw))

/-- An accumulator output (R145): the value in `w` signed bits and whether it saturated. -/
def accOut (s : State) (i j rsh : Nat) : Nat × Bool :=
  let w := if isI8 s i then 8 else 18
  let r := satSigned w (roundShift (accOf (s.engine i) j) rsh)
  (unsignedOf w r.1, r.2)

/-- The outputs of all eight accumulators. -/
def accOuts (s : State) (i rsh : Nat) : List (Nat × Bool) := (List.range 8).map (fun j => accOut s i j rsh)

/-- SAT set where a condition holds (R145, R153). -/
def setSat (s : State) (i : Nat) (b : Bool) : State := if b then s.setEf i F.tapStatusSat 1 else s

/-- BH lowered by the headroom of each element written (R154). -/
def seeHeadroom (s : State) (i : Nat) (vs : List Nat) : State :=
  s.setEf i F.tapBxBh (vs.foldl (fun m v => min m (headroom v)) (s.ef i F.tapBxBh))

/-- The elements an ST writes, by address: S18 elements from a multiple of 8; in I8 two quads from an even address (R146). -/
def stElements (i8 : Bool) (a : Nat) (outs : List Nat) : List (Nat × Nat) :=
  if i8 then
    let quad := fun k => (List.range 4).foldl (fun acc j => acc + outs.getD (4 * k + j) 0 * 2 ^ (8 * j)) 0
    [(a / 2 * 2, quad 0), (a / 2 * 2 + 1, quad 1)]
  else (List.range 8).map (fun j => (a / 8 * 8 + j, outs.getD j 0))

/-- ST (R145, R146, R147, R152, R154). -/
def execSt (i : Fin 8192) (s : State) (upset : Bool := false) : Out :=
  .next (issue s i 0x0C upset (fun w t =>
    let g := bitsOf w 23 23
    let rsh := bitsOf w 21 16
    if 48 ≤ rsh then faultEngine t i 1
    else if agError t i g then faultEngine t i 5
    else
      let i8 := isI8 t i
      let outs := accOuts t i rsh
      let e1 := (stElements i8 (agAddress t i g) (outs.map Prod.fst)).foldl (fun e p => setOmElement i8 e p.1 p.2) (t.engine i)
      let t1 := setSat ((agAdvance t i g).setEngine i e1) i (outs.any Prod.snd)
      let t2 := if i8 then t1 else seeHeadroom t1 i (outs.map Prod.fst)
      let slots := if i8 then 1 else 3
      (afterWrite (completeSeq t2 i 1 (accStall t i + slotStall t i slots)) i slots).draw))

/-- IN performed when the input FIFO holds an element (R146, R147). -/
def doIn (s : State) (i g : Nat) : State :=
  let e := s.engine i
  match e.fifoIn with
  | [] => waitEngine s i
  | v :: r =>
    let e1 := setOmElement (isI8 s i) { e with fifoIn := r } (agAddress s i g) v
    (afterWrite (completeSeq ((agAdvance s i g).setEngine i e1) i 1 (slotStall s i 2)) i 2).draw

/-- IN (R146, R147). -/
def execIn (i : Fin 8192) (s : State) (upset : Bool := false) : Out :=
  .next (issue s i 0x0D upset (fun w t =>
    if t.ef i F.tapCfgFabEn = 0 then faultEngine t i 6
    else if agError t i (bitsOf w 23 23) then faultEngine t i 5
    else doIn t i (bitsOf w 23 23)))

/-- OUT performed when the output FIFO has room (R145-R147). -/
def doOut (s : State) (i w : Nat) : State :=
  let e := s.engine i
  let g := bitsOf w 23 23
  if 8 ≤ e.fifoOut.length then waitEngine s i
  else if bitOf w 25 then
    let o := accOut s i (bitsOf w 2 0) (bitsOf w 21 16)
    completeSeq (setSat (s.setEngine i { e with fifoOut := e.fifoOut ++ [o.1] }) i o.2) i 1 (accStall s i)
  else
    let v := omElement (isI8 s i) e (agAddress s i g)
    (completeSeq ((agAdvance s i g).setEngine i { e with fifoOut := e.fifoOut ++ [v] }) i 1 (slotStall s i 1)).draw

/-- OUT (R145-R147). -/
def execOut (i : Fin 8192) (s : State) (upset : Bool := false) : Out :=
  .next (issue s i 0x0E upset (fun w t =>
    if 48 ≤ bitsOf w 21 16 then faultEngine t i 1
    else if t.ef i F.tapCfgFabEn = 0 then faultEngine t i 6
    else if !bitOf w 25 && agError t i (bitsOf w 23 23) then faultEngine t i 5
    else doOut t i w))

/-- OUTA: the outputs are pushed in lane order while there is room; with none left the engine waits. The stall for ACC comes before the first
push (R146, R147, R152). -/
def doOuta (s0 : State) (i w : Nat) : State :=
  let s := if (s0.engine i).pushed = 0 ∧ (s0.engine i).fifoOut.length < 8 then stallEngine s0 i (accStall s0 i) else s0
  let e := s.engine i
  let outs := accOuts s i (bitsOf w 21 16)
  let n := min (8 - e.pushed) (8 - e.fifoOut.length)
  let now := (outs.drop e.pushed).take n
  let s1 := setSat (s.setEngine i { e with fifoOut := e.fifoOut ++ now.map Prod.fst, pushed := e.pushed + n }) i
    (now.any Prod.snd)
  if e.pushed + n = 8 then completeSeq s1 i 8 0 else waitEngine s1 i

/-- OUTA (R145-R147, R152). -/
def execOuta (i : Fin 8192) (s : State) (upset : Bool := false) : Out :=
  .next (issue s i 0x0F upset (fun w t =>
    if 48 ≤ bitsOf w 21 16 then faultEngine t i 1
    else if t.ef i F.tapCfgFabEn = 0 then faultEngine t i 6
    else doOuta t i w))

/-- ENGINE_WAIT_RESUME (R147, R149): a waiting instruction proceeds once its element, doorbell or room is present; `waited` engine cycles
of RUN have passed. -/
def execEngineWaitResume (i : Fin 8192) (waited : Word32) (s : State) : Out :=
  if !canIssue s i || s.ef i F.tapStatusWait == 0 then .next s
  else
    let w := tapFetch s i
    let e := s.engine i
    let t := (s.setEngine i { e with
        sinceAcc := min 3 (e.sinceAcc + waited.toNat), sinceWrite := min 3 (e.sinceWrite + waited.toNat) }).countWrap (engUnit i)
      F.tapCyclesCount waited.toNat (i % 1024)
    match w / 2 ^ 26 with
    | 0x05 => .next (doWaitd t i)
    | 0x0A => .next (doLddlFifo t i)
    | 0x0D => .next (doIn t i (bitsOf w 23 23))
    | 0x0E => .next (doOut t i w)
    | 0x0F => .next (doOuta t i w)
    | _ => .next s

/-! ### Butterflies and block exponent (R153, R154) -/

/-- A complex value of a word: the real and the imaginary element (R153). -/
def complexOf (w v : Nat) : Int × Int :=
  (signedOf 18 (bitsOf w (36 * v + 17) (36 * v)), signedOf 18 (bitsOf w (36 * v + 35) (36 * v + 18)))

/-- One butterfly: A + t and A − t with t = round(W × B / 2^17), A and B scaled by SCL as they are read, the results saturated (R153). -/
def butterfly (scl : Nat) (a b w : Int × Int) : List (Int × Bool) :=
  let a' := (roundShift a.1 scl, roundShift a.2 scl)
  let b' := (roundShift b.1 scl, roundShift b.2 scl)
  let tr := roundShift (w.1 * b'.1 - w.2 * b'.2) 17
  let ti := roundShift (w.1 * b'.2 + w.2 * b'.1) 17
  [satSigned 18 (a'.1 + tr), satSigned 18 (a'.2 + ti), satSigned 18 (a'.1 - tr), satSigned 18 (a'.2 - ti)]

/-- A word of two complex values. -/
def complexWord (l : List Int) : Nat :=
  (List.range 4).foldl (fun acc k => acc + unsignedOf 18 (l.getD k 0) * 2 ^ (18 * k)) 0

/-- BFLY (R142, R143, R147, R153, R154). -/
def execBfly (i : Fin 8192) (s : State) (upset : Bool := false) : Out :=
  .next (issue s i 0x10 upset (fun w t =>
    if isI8 t i then faultEngine t i 1
    else if agError t i 0 || agError t i 1 then faultEngine t i 5
    else
      let e := t.engine i
      let scl := t.ef i F.tapBxScl
      let wa := agAddress t i 0 / 4
      let wb := (wa + t.ef i F.tapPairWords) % 2048
      let tw := omWord e (agAddress t i 1 / 4)
      let t1 := agAdvance (agAdvance t i 0) i 1
      let inw := bitOf w 25
      let r0 := if inw then butterfly scl (complexOf (omWord e wa) 0) (complexOf (omWord e wa) 1) (complexOf tw 0)
        else butterfly scl (complexOf (omWord e wa) 0) (complexOf (omWord e wb) 0) (complexOf tw 0)
      let r1 := if inw then [] else butterfly scl (complexOf (omWord e wa) 1) (complexOf (omWord e wb) 1) (complexOf tw 1)
      let va := if inw then r0.map Prod.fst else (r0.take 2 ++ r1.take 2).map Prod.fst
      let vb := (r0.drop 2 ++ r1.drop 2).map Prod.fst
      let e1 := setOmWord e wa (complexWord va)
      let e2 := if inw then e1 else setOmWord e1 wb (complexWord vb)
      let t2 := setSat (t1.setEngine i e2) i ((r0 ++ r1).any Prod.snd)
      let t3 := seeHeadroom t2 i ((if inw then va else va ++ vb).map (unsignedOf 18))
      let slots := if inw then 1 else 3
      (afterWrite (completeSeq t3 i 3 (slotStall t i slots)) i slots).draw))

/-- BEXP (R147, R154). -/
def execBexp (i : Fin 8192) (s : State) (upset : Bool := false) : Out :=
  .next (issue s i 0x11 upset (fun w t =>
    if isI8 t i then faultEngine t i 1
    else
      let scl := bitsOf w 1 0 - t.ef i F.tapBxBh
      let t1 := if bitOf w 24 then (t.setEf i F.tapBxScl scl).setEf i F.tapBxExpt (addSat 8 (t.ef i F.tapBxExpt) scl) else t
      completeSeq (if bitOf w 25 then t1.setEf i F.tapBxBh 17 else t1) i 1 0))

/-! ### The fabric interface (R135-R139) -/

/-- The input-side cell of an engine, O or Q by ISRC (R136). -/
def engCell (s : State) (i rho c : Nat) : Bool :=
  cellOut s (i / 64) (48 * (i % 64 / 16) + 23) (8 * (i % 16) + rho) c (s.ef i F.tapCfgIsrc == 1)

/-- IDATA as the cells give it, while IVALID is 1. -/
def engOffer (s : State) (i : Nat) : Option Nat :=
  if engCell s i 4 0 then
    some ((List.range 36).foldl (fun acc k => acc + boolNat (engCell s i (k / 9) (k % 9)) * 2 ^ k) 0)
  else none

/-- An element offered at an interface edge: taken, or lost with IN_LOST set while the FIFO is full (R138). -/
def offerElement (s : State) (i v : Nat) : State :=
  let e := s.engine i
  if e.fifoIn.length < 8 then
    s.setEngine i { e with fifoIn := e.fifoIn ++ [if isI8 s i then v % 2 ^ 32 else v % 2 ^ 18] }
  else s.setEf i F.tapStatusInLost 1

/-- Whether an engine's fabric interface acts: FAB_EN, its track FRCLK runs, and its region has reached ENABLES (R138, R270). -/
def interfaceOn (s : State) (i : Nat) : Bool :=
  s.clockRuns (i / 64) (s.ef i F.tapCfgFrclk) && s.ef i F.tapCfgFabEn == 1 && decide (2 ≤ s.stage (i / 64))

/-- FIFO_INPUT (R136, R138, R139): at an interface edge with IVALID = 1 the input FIFO takes IDATA. -/
def execFifoInput (i : Fin 8192) (data : Option (BitVec 36)) (s : State) : Out :=
  if !interfaceOn s i then .next s
  else
    match (data.map BitVec.toNat).orElse (fun _ => engOffer s i) with
    | some v => .next (offerElement s i v)
    | none => .next s

/-- FIFO_OUTPUT (R138): at an interface edge with ORDY = 1 the output FIFO removes its oldest element; an element offered at the same
edge is taken or lost. -/
def execFifoOutput (i : Fin 8192) (rdy : Option Bool) (data : Option (BitVec 36)) (s : State) : Out :=
  if !interfaceOn s i then .next s
  else
    let s1 := if rdy.getD (engCell s i 4 1) then s.setEngine i { s.engine i with fifoOut := (s.engine i).fifoOut.tail } else s
    match data with
    | some v => .next (offerElement s1 i v.toNat)
    | none => .next s1

/-! ### States (R157, R159) -/

/-- An IDLE engine started at ENTRY with the loop stack empty; START is ignored in every other state (R157). -/
def startEngine (s : State) (i : Nat) : State :=
  if s.ef i F.tapStatusState = tapIdle then
    ((s.setEngine i { s.engine i with loops := [], sinceAcc := 3, sinceWrite := 3, pushed := 0 }).setEf i F.tapStatusPc
      (s.ef i F.tapCfgEntry)).setEf i F.tapStatusState tapRun
  else s

/-- CLEAR, obeyed in IDLE and FAULT (R157). -/
def clearEngine (s : State) (i : Nat) : State :=
  if s.ef i F.tapStatusState = tapIdle ∨ s.ef i F.tapStatusState = tapFault then
    ((s.setEngine i { s.engine i with dl := [], coef := [], acc := [], fifoIn := [], fifoOut := [] }).setEf i
      F.tapStatusState tapIdle).setEf i F.tapStatusCause 0
  else s

/-- TAP_CMD: its bits act in the order STOP, CLEAR, START; those that follow a STOP act when it has completed (R157). -/
def tapCommand (s : State) (i : Nat) (stop clear start : Bool) : State :=
  if stop && s.ef i F.tapStatusState == tapRun then
    s.setEngine i { s.engine i with stopping := true, after := 2 * boolNat clear + boolNat start }
  else
    let s1 := if clear then clearEngine s i else s
    if start then startEngine s1 i else s1

/-- ENGINE_START (R157). -/
def execEngineStart (i : Fin 8192) (s : State) : Out := .next (startEngine s i)

/-- START_PIN (R157): a rising edge of START at an interface edge. -/
def execStartPin (i : Fin 8192) (high : Option Bool) (s : State) : Out :=
  if !interfaceOn s i then .next s
  else
    let v := high.getD (engCell s i 4 2)
    let s1 := s.setEngine i { s.engine i with startPin := v }
    .next (if v && !(s.engine i).startPin then startEngine s1 i else s1)

/-- ENGINE_STOP (R157). -/
def execEngineStop (i : Fin 8192) (s : State) : Out := .next (tapCommand s i true false false)

/-- ENGINE_STOP_COMPLETE (R157): the issued instructions have completed and the engine enters IDLE; PC holds the next instruction. -/
def execEngineStopComplete (i : Fin 8192) (s : State) : Out :=
  let e := s.engine i
  if !e.stopping || s.ef i F.tapStatusWait == 1 then .next s
  else
    let s1 := (s.setEngine i { e with stopping := false, after := 0, loops := [] }).setEf i F.tapStatusState
      (if s.ef i F.tapStatusState = tapRun then tapIdle else s.ef i F.tapStatusState)
    .next (tapCommand s1 i false (2 ≤ e.after) (e.after % 2 == 1))

/-- ENGINE_CLEAR (R157). -/
def execEngineClear (i : Fin 8192) (s : State) : Out := .next (clearEngine s i)

/-- A value added to the doorbell count, or DBOVF set where it would pass 65,535 (R149). -/
def addDoorbell (s : State) (i v : Nat) : State :=
  if 65535 < s.ef i F.tapDoorbellCount + v then s.setEf i F.tapStatusDbovf 1
  else s.setEf i F.tapDoorbellCount (s.ef i F.tapDoorbellCount + v)

/-- DOORBELL_ADD (R149, R161): while the engine is HELD the write completes with BUSY and nothing is added. -/
def execDoorbellAdd (i : Fin 8192) (v : BitVec 16) (s : State) : Out :=
  if s.ef i F.tapStatusState = tapHeld then .next (s.answer .busy) else .next ((addDoorbell s i v.toNat).answer .ok)

/-! ### Access to OM and IMEM (R155, R156, R161, R163) -/

/-- An IMEM entry of an engine. -/
def imemWord (s : State) (i k : Nat) : Nat := (s.reg (engUnit i) (F.tapImemWord.at (i % 1024) k)).toNat

/-- An IMEM entry written, with good parity. -/
def setImem (s : State) (i k v : Nat) : State :=
  (s.setEngine i { s.engine i with badParity := NSet.del (s.engine i).badParity k }).setReg (engUnit i)
    (F.tapImemWord.at (i % 1024) k) (BitVec.ofNat 32 v)

/-- A byte of an engine's aperture range (R155). -/
def apertureByte (s : State) (i o : Nat) : Byte :=
  if o < 0x8000 then
    if o % 16 < 9 then BitVec.ofNat 8 (omWord (s.engine i) (o / 16) / 2 ^ (8 * (o % 16))) else 0
  else BitVec.ofNat 8 (imemWord s i ((o - 0x8000) / 4) / 2 ^ (8 * (o % 4)))

/-- A byte written to an engine's aperture range: bytes 9-15 of an OM word are ignored (R155). -/
def setApertureByte (s : State) (i o : Nat) (b : Byte) : State :=
  if o < 0x8000 then
    if o % 16 < 9 then
      let e := s.engine i
      s.setEngine i (setOmWord e (o / 16) ((omWord e (o / 16) &&& (2 ^ 72 - 1 - maskAt (8 * (o % 16)) 8)) +
        b.toNat * 2 ^ (8 * (o % 16))))
    else s
  else
    let k := (o - 0x8000) / 4
    let w := imemWord s i k
    setImem s i k ((w &&& (2 ^ 32 - 1 - maskAt (8 * (o % 4)) 8)) + b.toNat * 2 ^ (8 * (o % 4)))

/-- Bytes written from an aperture offset on. -/
def setApertureBytes (s : State) (i o : Nat) : List Byte → State
  | [] => s
  | b :: bs => setApertureBytes (setApertureByte s i o b) i (o + 1) bs

/-- External accesses to `words` words of OM may each stall a running engine by one cycle (R141): a free number of them does
(log entry 8). IMEM has no slots. -/
def apertureStall (s : State) (i words : Nat) : State :=
  if s.ef i F.tapStatusState = tapRun then (stallEngine s i (s.fresh % (words + 1))).draw else s

/-- A request at offset `o` of the engine aperture of a window (R155, R156). -/
def engineAperture (s : State) (n o : Nat) (p : Packet) : State :=
  let i := n * 64 + (o - 0xFF800000) / 0x10000
  let off := o % 0x10000
  let len := p.rangeLen
  let words := if off < 0x8000 then (off + len + 15) / 16 - off / 16 else 0
  if p.op ≠ opRead ∧ p.op ≠ opWrite then s.reply p .decode
  else if p.len.toNat = 0 then s.reply p .ok
  else if 0x8400 ≤ off ∨ (off < 0x8000 ∧ 0x8000 < off + len) ∨ 0x8400 < off + len ∨
      (p.op = opWrite ∧ 0x8000 ≤ off ∧ (off % 4 ≠ 0 ∨ len % 4 ≠ 0)) then s.reply p .decode
  else if s.ef i F.tapStatusState = tapHeld ∨ (p.op = opWrite ∧ 0x8000 ≤ off ∧ s.ef i F.tapStatusState = tapRun) then s.reply p .busy
  else if p.op = opRead then
    (apertureStall s i words).reply p .ok (p.readBody ((List.range len).map (fun k => apertureByte s i (off + k))))
  else (apertureStall (setApertureBytes s i off p.writeBytes) i words).reply p .ok

/-- ENGINE_APERTURE_REQUEST (R155, R156). -/
def execEngineApertureRequest (p : Packet) (s : State) : Out :=
  match windowOf p with
  | none => .next s
  | some (n, o) => if o < 0xFF800000 ∨ 0xFFC00000 ≤ o ∨ !s.arrived p then .next s else .next (engineAperture s n o p)

/-- Entries of IMEM written from entry `k` upward. -/
def setImems (s : State) (i k : Nat) : List Byte → State
  | a :: b :: c :: d :: r => setImems (setImem s i k (leBytes [a, b, c, d])) i (k + 1) r
  | _ => s

/-- A DOMAIN write of an IMEM (R163): the abort code, or the state after it. -/
def imemDomain (s : State) (i : Nat) (data : List Byte) : Except Nat State :=
  if 1024 < data.length then .error 0x03000001
  else if data.length = 0 then .error 0x03000002
  else if data.length % 4 ≠ 0 then .error 0x03000003
  else if s.ef i F.tapStatusState = tapRun then .error 0x04000001
  else .ok (setImems s i 0 data)

/-- IMEM_DOMAIN_WRITE (R163): the abort code is answered where the write is refused. -/
def execImemDomainWrite (i : Fin 8192) (data : List Byte) (s : State) : Out :=
  match imemDomain s i data with
  | .ok t => .next (t.answer .ok)
  | .error c => .next (s.answer .ok (toLeBytes 4 c))

/-! ### A flip of a region's engines (R159, R160) -/

/-- The 64-bit record of an engine in a plane (R160). -/
def State.engRecord (s : State) (p n e : Nat) : Nat := frameBits (s.frame p n (ordRecord 8 (e / 32))) (64 * (e % 32)) 64

/-- One engine of a region at its flip: HELD, its program abandoned, its state at reset values, its record loaded, OM and IMEM kept
(RETAIN), left for the burin (IMAGE) or cleared (R159, R160). -/
def flipEngine (n p : Nat) (s : State) (e : Nat) : State :=
  let i := n * 64 + e
  let r := s.engRecord p n e
  let u := engUnit i
  let k := i % 1024
  let keepOm := decide (bitsOf r 1 0 < 2)
  let keepIm := decide (bitsOf r 3 2 < 2)
  let old := s.engine i
  let s1 := s.setEngine i { om := if keepOm then old.om else [], badParity := if keepIm then old.badParity else [] }
  let bad := boolNat (bitsOf r 1 0 == 3 || bitsOf r 3 2 == 3)
  let s2 := if keepIm then s1 else
    { s1 with csr := s1.csr.drop (fun key => decide (csrKey u (F.tapImemWord.at k 0) ≤ key) &&
        decide (key < csrKey u (F.tapImemWord.at k 256))) }
  let s3 := [F.tapStatusState, F.tapLcrCount, F.tapAgAIdx, F.tapAgBMode, F.tapPairWords, F.tapBxBh, F.tapDoorbellCount].foldl
    (fun t f => (List.range (if f.s2 = 0 then 1 else if f.s2 = 4 then 4 else 2)).foldl
      (fun t j => t.setReg u (f.at k j) (csrReset (csrKey u (f.at k j)))) t) s2
  let s4 := s3.setReg u (F.tapCfgFabEn.at k 0) (BitVec.ofNat 32 (bitsOf r 6 6 * 2 ^ 31 + bitsOf r 5 5 * 2 ^ 30 +
    bitsOf r 7 7 * 2 ^ 29 + bitsOf r 10 8 * 2 ^ 26 + bitsOf r 11 11 * 2 ^ 25 + bitsOf r 4 4 * 2 ^ 24 + bitsOf r 1 0 * 2 ^ 22 +
    bitsOf r 3 2 * 2 ^ 20 + bad * 2 ^ 19 + bitsOf r 23 16 * 2 ^ 8))
  setPendBit (setPendBit s4 i F.tapDonePendPend false) i F.tapFaultPendPend false

/-- The engines of a region at its flip to plane `p` (R159). -/
def flipEngines (s : State) (n p : Nat) : State := (List.range 64).foldl (flipEngine n p) s

/-- The engines of a region at the RESETS stage: to IDLE, and to RUN where AUTOSTART = 1 (R157, R270). -/
def releaseEngines (s : State) (n : Nat) : State :=
  (List.range 64).foldl (fun t e =>
    let i := n * 64 + e
    if t.ef i F.tapStatusState = tapHeld then
      let t1 := t.setEf i F.tapStatusState tapIdle
      if t1.ef i F.tapCfgAutostart = 1 then startEngine t1 i else t1
    else t) s

end Sys2Proof.Machine
end

