-- ==== Sys2Proof/Machine/Network.lean ====
section
/-! DEFINITION. The Rovis network: ingress ports, routing, tags and timeouts, waking, fabric-port channels (R164-R193). -/

namespace Sys2Proof.Machine

open Sys2Proof

/-! ### Ports -/

/-- The class a port stamps on what enters there (R17, R18). -/
def portIcls (node port : Nat) : Nat :=
  match port with
  | 0 => iclsFabric
  | 2 => iclsPcie
  | 3 => iclsLink
  | 4 => iclsCore
  | 5 => iclsDsp
  | 6 => if node = 31 then iclsBurin else iclsMgmt
  | 7 => if node = 31 then iclsBurin else iclsMgmt
  | 8 => if node = 31 then iclsBurin else iclsDebug
  | _ => iclsMgmt

/-- The classes whose PRI 3 packets are demoted to PRI 2 (R171). -/
def demoted (icls : Nat) : Bool := icls == 0 || icls == 1 || icls == 2 || icls == 3 || icls == 6

/-- The router node and port of an endpoint code. -/
def codeOf (node port : Nat) : Nat := node * 16 + port

/-- A packet handed to the attachment of a port. -/
def State.deliverTo (s : State) (k : Nat) (p : Packet) : State :=
  let np := s.netPort k
  s.setNetPort k { np with delivered := np.delivered ++ [p] }

/-- A malformed packet found at a port: class 0x02 against its unit, counted by the router (R174). -/
def State.countMalformed (s : State) (node port : Nat) (p : Packet) : State :=
  ((((s.raise (portUnit node port) 0x02 p.op).countSat (uNoc node) F.nocMalfCntCount).setFld (uNoc node) F.nocRtStatusMalf 1).setFld
    (uNoc node) F.nocPortStatusMalf 1 port)

/-! ### Routing of a request (R12, R20-R23, R172, R173, R175) -/

/-- The DRAM channel of an address (R350). -/
def dramChannel (a : Nat) : Nat :=
  bitsOf a 14 12 ^^^ bitsOf a 17 15 ^^^ bitsOf a 20 18 ^^^ bitsOf a 23 21 ^^^ bitsOf a 26 24 ^^^ bitsOf a 29 27

/-- Whether the range of a READ or WRITE lies in one aligned 4 KiB block (R172). -/
def in4K (p : Packet) : Bool := decide (bitsOf p.a48 11 6 + p.len.toNat ≤ 64)

/-- A CSR access of 4 or 8 bytes, naturally aligned (R12). -/
def csrShape (p : Packet) : Bool :=
  (p.rangeLen == 4 && p.a48 % 4 == 0) || (p.rangeLen == 8 && p.a48 % 8 == 0)

/-- Offsets of unit CSR spaces that are windows of data: the token windows, the stream windows and the boot window are decided by
their own rules (R227, R238, R262, R287, R445). -/
def windowSpace (u off : Nat) : Bool :=
  (unitKind u == .dsp && decide (0x600000 ≤ off)) || (u == uCfg && decide (0x600000 ≤ off)) ||
  (u == uMgt && decide (0x800000 ≤ off))

/-- The DST of a READ, WRITE or ATOMIC with LABEL 0, by its address; none where the port answers DECODE (R175). The installed capacity is
known once DRAM training has completed (R449). -/
def decodeDst (s : State) (p : Packet) : Option Nat :=
  if p.kid = 255 then none
  else
    match mapAddr p.a48 with
    | .dram =>
      if !s.ddr.trained || decide (p.a48 < s.ddr.installed) then some (codeOf (ddrNode (dramChannel p.a48)) 1) else none
    | .fabric n _ => if p.kid ≠ 0 ∨ p.op = opAtomic then none else some (codeOf n 0)
    | .sram _ => if p.kid ≠ 0 then none else some (codeOf 96 6)
    | .csr u off =>
      if p.kid ≠ 0 ∨ p.op = opAtomic ∨ !unitAssigned u then none
      else if !windowSpace u off && !csrShape p then none
      else some (codeOf (attachment u).1 (attachment u).2)
    | .pcie c _ => if p.kid ≠ 0 ∨ p.op = opAtomic then none else some (codeOf (pcieNode c) 2)
    | .none => none

/-- Whether a DST names port 3 of a link port's router (R175). -/
def isLinkPort (dst : Nat) : Bool := dst % 16 == 3 && portOccupied (dst / 16) 3

/-- The DST of a request at its ingress port, or the status the port answers with (R172, R175). -/
def requestDst (s : State) (p : Packet) : Sum Nat Stat :=
  if (p.op == opRead || p.op == opWrite) && !in4K p then .inr .decode
  else if p.label ≠ 0 then (if isLinkPort p.dst.toNat then .inl p.dst.toNat else .inr .noRoute)
  else if p.op = opDopnd ∨ p.op = opDtake then .inl p.dst.toNat
  else
    match decodeDst s p with
    | some d => .inl d
    | none => .inr .decode

/-! ### Accepting (R171, R174, R182, R183) -/

/-- The first wire tag from a place that is neither outstanding nor retired. -/
def freeTag (used : List Nat) : Nat → Nat → Nat
  | 0, t => t % 65536
  | k + 1, t => if used.contains (t % 65536) then freeTag used k (t + 1) else t % 65536

/-- A request issued under a wire tag of the port's own choice: a free value among those not in use (R182, R184). -/
def issueReq (s : State) (k : Nat) (orig p : Packet) (xt : Bool := false) : State :=
  let np := s.netPort k
  let used := np.outst.map (·.wireTag) ++ np.retired
  let tag := freeTag used used.length (s.fresh % 65536)
  let o : Outst := ⟨tag, orig, p, s.fld (uNoc (k / 16)) F.nocTmoCycles (k % 16), xt⟩
  ((s.setNetPort k { np with outst := np.outst ++ [o] }).draw).sendReq { p with tag := BitVec.ofNat 16 tag }

/-- A packet as its ingress port stamps it: SRC, ICLS, STAT of a request, and the demotion of PRI 3 (R171). -/
def stamp (k icls : Nat) (p : Packet) : Packet :=
  { p with
    src := BitVec.ofNat 11 k
    icls := BitVec.ofNat 3 icls
    stat := if isRequest p.op then 0 else p.stat
    pri := if p.pri = 3 ∧ demoted icls then 2 else p.pri }

/-- The response a port makes itself to a request as it stands after R171, under the initiator's TAG: header only (R170, R174, R183). -/
def localAnswer (tag : BitVec 16) (p : Packet) (st : Stat) : Packet := { p.respond st with tag := tag, len := 0, body := [] }

/-- A request that waits for nothing more is issued to its destination, or answered by the port (R175). -/
def issueOrAnswer (s : State) (k : Nat) (orig p : Packet) (xt : Bool) : State :=
  match requestDst s p with
  | .inr st => s.deliverTo k (localAnswer orig.tag p st)
  | .inl d => issueReq s k orig { p with dst := BitVec.ofNat 11 d } xt

/-- A request that passed its checks: issued, or left waiting at MAXOUT (R182); or answered by the port (R175). -/
def admitReq (s : State) (k : Nat) (orig p : Packet) (xt : Bool := false) : State :=
  let np := s.netPort k
  match requestDst s p with
  | .inr st => s.deliverTo k (localAnswer orig.tag p st)
  | .inl _ =>
    if np.outst.length < s.fld (uNoc (k / 16)) F.nocPortCtrlMaxout (k % 16) ∧ np.waiting.isEmpty then issueOrAnswer s k orig p xt
    else s.setNetPort k { np with waiting := np.waiting ++ [⟨orig, xt⟩] }

/-- A packet accepted at an ingress port (R171, R174, R175), `xt` for a take of the execution port (R240). The answers of the port itself
join what is delivered to its attachment. -/
def ingress (s : State) (k : Nat) (orig : Packet) (xt : Bool := false) : State :=
  let p := stamp k (portIcls (k / 16) (k % 16)) orig
  if p.malformed false then
    let s1 := s.countMalformed (k / 16) (k % 16) p
    if isRequest p.op then s1.deliverTo k (localAnswer orig.tag p .malformed) else s1
  else if isRequest p.op then admitReq s k orig p xt
  else s.sendReq p

/-- Requests that waited at MAXOUT are issued in order while there is room (R182). -/
def drainWaiting (s : State) (k : Nat) : Nat → State
  | 0 => s
  | fuel + 1 =>
    let np := s.netPort k
    match np.waiting with
    | [] => s
    | w :: r =>
      if np.outst.length < s.fld (uNoc (k / 16)) F.nocPortCtrlMaxout (k % 16) then
        drainWaiting (issueOrAnswer (s.setNetPort k { np with waiting := r }) k w.req (stamp k (portIcls (k / 16) (k % 16)) w.req) w.xt) k fuel
      else s

/-- The initiator's TAG restored on a response (R182). A proxy restores the fields it recorded and addresses the recorded SRC (R204). -/
def restoreRsp (k : Nat) (o : Outst) (r : Packet) : Packet :=
  if k % 16 = 3 then
    { r with tag := o.req.tag, src := o.req.src, label := o.req.label, icls := o.req.icls, dst := o.req.src, hoplim := 0 }
  else { r with tag := o.req.tag }

/-- A response completes the request outstanding under its tag; any other is a late response (R183, R184). -/
def completeRsp (s : State) (k : Nat) (r : Packet) : State :=
  let np := s.netPort k
  match np.outst.find? (fun o => o.wireTag == r.tag.toNat) with
  | some o =>
    let s1 := s.setNetPort k { np with outst := np.outst.erase o, delivered := np.delivered ++ [restoreRsp k o r] }
    drainWaiting s1 k np.waiting.length
  | none =>
    ((s.setNetPort k { np with retired := NSet.del np.retired r.tag.toNat }).countSat (uNoc (k / 16)) F.nocLateCntCount 1 (k % 16)).setFld
      (uNoc (k / 16)) F.nocPortStatusLate 1 (k % 16)

/-- A request's deadline passes: TIMEOUT is delivered, counted and raised, and its tag is retired (R183, R184). -/
def timeoutReq (s : State) (k tag : Nat) : State :=
  let np := s.netPort k
  match np.outst.find? (fun o => o.wireTag == tag) with
  | none => s
  | some o =>
    let s1 := s.setNetPort k { np with
      outst := np.outst.erase o
      retired := NSet.add np.retired tag
      delivered := np.delivered ++ [restoreRsp k o (localAnswer o.req.tag o.sent .timeout)] }
    let s2 := ((s1.countSat (uNoc (k / 16)) F.nocTmoCntCount 1 (k % 16)).setFld (uNoc (k / 16)) F.nocPortStatusTimeout 1 (k % 16)).raise
      (portUnit (k / 16) (k % 16)) 0x01 tag
    drainWaiting s2 k np.waiting.length

/-- TAG_RELEASE (R184): NOC_TMO further cycles have passed since a wire tag was retired, so it may be issued again. -/
def execTagRelease (node : BitVec 7) (port : BitVec 4) (tag : BitVec 16) (s : State) : Out :=
  let k := codeOf node.toNat port.toNat
  let np := s.netPort k
  .next (s.setNetPort k { np with retired := NSet.del np.retired tag.toNat })

/-! ### Unoccupied ports and waking (R175, R185) -/

/-- A packet that reached a port which serves nothing: counted in the router (R175). -/
def State.countNoRoute (s : State) (node : Nat) : State :=
  (s.countSat (uNoc node) F.nocNorouteCntCount).setFld (uNoc node) F.nocRtStatusNoroute 1

/-- NO_ROUTE (R175): a request that reaches an unoccupied port is answered by the router; a message or response that reaches one, or
the internal port, is dropped. -/
def execNoRoute (p : Packet) (s : State) : Out :=
  let node := p.dst.toNat / 16
  let port := p.dst.toNat % 16
  if isResponse p.op then
    if s.net.rsps.contains p && (!portOccupied node port || port == 12) then
      .next ({ s with net := { s.net with rsps := s.net.rsps.erase p } }.countNoRoute node)
    else .next s
  else if isRequest p.op then
    if portOccupied node port || !s.net.reqs.contains p then .next s else .next ((s.reply p .noRoute).countNoRoute node)
  else if (portOccupied node port && port != 12) || !s.net.reqs.contains p then .next s
  else .next ((s.takeReq p).countNoRoute node)

/-- A held request answered WAKE_FAIL and counted, a held message dropped (R185). -/
def failHeld (s : State) (p : Packet) : State :=
  if isRequest p.op then
    (((s.reply p .wakeFail).countSat (uNoc (p.dst.toNat / 16)) F.nocWakefailCntCount).setFld (uNoc (p.dst.toNat / 16))
      F.nocRtStatusWakefail 1)
  else s.takeReq p

/-- A wake requested for a domain by a router, counted there (R185). -/
def State.routerWake (s : State) (node d : Nat) : State :=
  if s.dom d = domGated ∨ s.dom d = domOff then (s.wakeDom d).countSat (uNoc node) F.nocWakeCntCount else s

/-- The packets of one level that a router holds for a destination that does not run (R185). -/
def State.heldAt (s : State) (d : Nat) (p : Packet) : Nat :=
  (s.net.held.filter (fun h => h.dom == d && h.pkt.dst == p.dst && h.pkt.pri == p.pri)).length

/-- WAKE_HOLD (R185): a packet for a domain that does not run is held in the ejection buffer, up to 4 of a level, and a wake is requested;
with WAKE_EN = 0 it fails at once. For a STOPPED or CLOSING domain it waits and no wake is requested yet. -/
def execWakeHold (p : Packet) (s : State) : Out :=
  let node := p.dst.toNat / 16
  if isResponse p.op || !portOccupied node (p.dst.toNat % 16) || !s.net.reqs.contains p then .next s
  else
    match dstDomain p with
    | none => .next s
    | some d =>
      if s.dom d = domRun then .next s
      else if !s.flag (uNoc node) F.nocRtCtrlWakeEn && s.dom d != domStopped then .next (failHeld s p)
      else if 4 ≤ s.heldAt d p then .next s
      else
        let s1 := s.takeReq p
        let s2 : State := { s1 with net := { s1.net with held := s1.net.held ++ [HeldPkt.mk d p] } }
        .next (s2.routerWake node d)

/-- HELD_PACKET_DELIVER (R185): once a domain runs, its held packets are delivered in arrival order. -/
def execHeldPacketDeliver (d : Fin 160) (s : State) : Out :=
  if s.dom d ≠ domRun then .next s
  else
    let mine := (s.net.held.filter (fun h => h.dom == d.val)).map (·.pkt)
    .next { s with net := { s.net with
      reqs := mine ++ s.net.reqs
      held := s.net.held.filter (fun h => h.dom != d.val) } }

/-- What a router holds for a domain fails: the requests answered WAKE_FAIL and the messages dropped (R185). -/
def failHeldAt (s : State) (node d : Nat) : State :=
  let here := fun (h : HeldPkt) => h.dom == d && h.pkt.dst.toNat / 16 == node
  (s.net.held.filter here).foldl (fun t h => failHeld t h.pkt) { s with net := { s.net with held := s.net.held.filter (fun h => !here h) } }

/-- WAKE_FAIL (R185): a domain is not running 100 µs after the wake its held packets raised, or its wake is refused: the requests a
router holds for it are answered WAKE_FAIL and the messages dropped. A STOPPED domain is waited for. -/
def execWakeFail (node : BitVec 7) (d : Fin 160) (s : State) : Out :=
  if s.dom d = domRun ∨ s.dom d = domStopped then .next s
  else .next (failHeldAt s node.toNat d)

/-! ### Fabric-port channels (R186-R189) -/

/-- The flits of a packet as a channel shows them. -/
def channelFlits (p : Packet) : List Flit :=
  let fs := p.flits
  (List.range fs.length).map (fun i => Flit.mk (fs.getD i 0) (i + 1 == fs.length) p.pri)

/-- Responses delivered to a fabric port go to IS (R186). -/
def absorbFp (s : State) (n : Nat) : State :=
  let np := s.netPort (n * 16)
  let f := s.fpPort n
  (s.setNetPort (n * 16) { np with delivered := [] }).setFp n { f with isWait := f.isWait ++ np.delivered.flatMap channelFlits }

/-- IQ_SUBMIT (R188): the flit named, the oldest of those that transferred on IQ at an edge of FPCLK, is taken up by the port; the packet enters
the network with its last flit (R171, R174). -/
def execIqSubmit (n : Fin 128) (data : Line) (eop : Bool) (pri : BitVec 2) (s : State) : Out :=
  let f := s.fpPort n
  match f.iqIn with
  | [] => .next s
  | x :: r =>
    if s.clk.halted || x != ⟨data, eop, pri⟩ then .next s
    else if eop then
      let fs := f.iq ++ [data]
      .next (absorbFp (ingress (s.setFp n { f with iqIn := r, iq := [] }) (n * 16) (ofFlits (fs.headD 0) fs.tail)) n)
    else .next (s.setFp n { f with iqIn := r, iq := f.iq ++ [data] })

/-- The TQ requests outstanding at a fabric port. -/
def State.tqOf (s : State) (n : Nat) : List Packet := SMap.get [] s.net.tq n

/-- The TQ requests outstanding at a fabric port replaced. -/
def State.setTq (s : State) (n : Nat) (l : List Packet) : State := { s with net := { s.net with tq := SMap.store [] s.net.tq n l } }

/-- A request in the design range delivered on TQ, or answered where the region cannot take it; with 64 outstanding it waits (R189). -/
def tqDeliver (s : State) (n : Nat) (p : Packet) : State :=
  match s.active n with
  | none => s.reply p .decode
  | some pl =>
    if s.regionBits pl n 144 1 = 0 then s.reply p .decode
    else if s.stage n < 2 then s.reply p .busy
    else if 64 ≤ (s.tqOf n).length then s
    else
      let f := s.fpPort n
      ((s.takeReq p).setTq n (s.tqOf n ++ [p])).setFp n { f with tqWait := f.tqWait ++ channelFlits p }

/-- Whether a TS response answers a TQ request (R189). -/
def tsMatches (r q : Packet) : Bool := r.op == q.op + 0x20 && r.dst == q.src && r.tag == q.tag

/-- A packet of the design's TS channel (R174, R189): a response answers the TQ request it matches; a malformed packet is counted and
discarded, a request among them answered MALFORMED; a response that matches none is a STRAY. -/
def tsPacket (s : State) (n : Nat) (r : Packet) : State :=
  if r.malformed true then
    let s1 := s.countMalformed n 0 r
    if isRequest r.op then absorbFp (s1.deliverTo (n * 16) (localAnswer r.tag r .malformed)) n else s1
  else
    match (s.tqOf n).find? (fun q => tsMatches r q) with
    | some q => (s.setTq n ((s.tqOf n).erase q)).inject (n * 16) true r
    | none => (s.setFld (uNoc n) F.nocPortStatusStray 1 0).raise (uNoc n) 0x02 r.op

/-- TS_RESPONSE (R188, R189): the flit named, the oldest of those that transferred on TS at an edge of FPCLK, is taken up by the port, and with
its last flit the packet. -/
def execTsResponse (n : Fin 128) (x : Flit) (s : State) : Out :=
  let f := s.fpPort n
  match f.tsIn with
  | [] => .next s
  | y :: r =>
    if s.clk.halted || y != x then .next s
    else if x.eop then
      let fs := f.ts ++ [x.data]
      .next (tsPacket (s.setFp n { f with tsIn := r, ts := [] }) n (ofFlits (fs.headD 0) fs.tail))
    else .next (s.setFp n { f with tsIn := r, ts := f.ts ++ [x.data] })

/-- A request performed on the design range of a window (R189). -/
def designRange (o : Nat) : Bool := decide (o < 0xFF800000)

/-- At a flip of a region: outstanding TQ requests are answered BUSY, outstanding IQ requests and execution-port takes are retired,
and IQ packets accepted without their last flit are discarded (R189, R240, R290). -/
def flipFabricPort (s : State) (n : Nat) : State :=
  let s1 := (s.tqOf n).foldl (fun t q => t.sendRsp (q.respond .busy)) (s.setTq n [])
  let np := s1.netPort (n * 16)
  (s1.setNetPort (n * 16) { np with
    outst := []
    waiting := []
    retired := np.outst.foldl (fun l o => NSet.add l o.wireTag) np.retired }).setFp n {}

end Sys2Proof.Machine
end

