-- ==== Sys2Proof/Machine/Link.lean ====
section
/-! DEFINITION. The lane line code, lane states and Rovis link ports: frames, replay, credits, marks, proxies, labels and failure
(R194-R220, R368-R385). -/

namespace Sys2Proof.Machine

open Sys2Proof

/-! ### Lanes (R371-R374, R383, R384) -/

/-- The key of a general lane. -/
def laneKey (k j : Nat) : Nat := k * 32 + j

/-- A lane's hidden state. -/
def State.laneX (s : State) (k j : Nat) : LaneX := SMap.get {} s.lane (laneKey k j)

/-- A lane's hidden state replaced. -/
def State.setLaneX (s : State) (k j : Nat) (x : LaneX) : State := { s with lane := SMap.store {} s.lane (laneKey k j) x }

/-- STATE of a lane: 0 OFF, 1 DETECT, 2 TRAIN, 3 LOCK, 4 CAPS, 5 ACTIVE, 6 PRBS (R374). -/
def State.laneState (s : State) (k j : Nat) : Nat := s.fld (uLane k) F.laneStatusState j

/-- The link port of a general lane and its index there (R194). -/
def lanePort (k j : Nat) : Nat := 4 * k + j / 8

/-- The lane die and lane of a port's lane `i` (R194). -/
def portLane (p i : Nat) : Nat × Nat := (p / 4, 8 * (p % 4) + i)

/-- A link port's records. -/
def State.lnk (s : State) (p : Nat) : Link := SMap.get {} s.link p

/-- A link port's records replaced. -/
def State.setLnk (s : State) (p : Nat) (l : Link) : State := { s with link := SMap.store {} s.link p l }

/-- The lanes of a width code (R217). -/
def widthLanes (w : Nat) : Nat := 2 ^ w

/-- Whether a link port owns a lane: EN = 1 and the lane within its width (R383). -/
def State.laneOwned (s : State) (k j : Nat) : Bool :=
  s.flag (uLnk (lanePort k j)) F.lnkCtrlEn && decide (j % 8 < widthLanes (s.lnk (lanePort k j)).width)

/-- A lane's STATE set, with ALIGNED, LANE_ACTIVE, the event of entering LOCK, and the end of an eye scan that the new state does not
allow (R374, R377, R381, R384). -/
def State.setLaneState (s : State) (k j st : Nat) : State :=
  let u := uLane k
  let s1 := (s.setFld u F.laneStatusState st j).setFld u F.laneStatusAligned (boolNat (st == 4 || st == 5)) j
  let s2 := s1.setFld u F.laneActive0Active (withBit (s1.fld u F.laneActive0Active) j (st == 5))
  let s3 := if st = 3 ∧ s.laneState k j ≠ 3 then s2.edge (256 + 32 * k + j) else s2
  if s3.flag u F.laneEyeStatBusy j && !(st == 3 || st == 4 || st == 5) then
    ((s3.setLaneX k j { s3.laneX k j with scanHolds := false }).setFld u F.laneEyeStatBusy 0 j).setFld u F.laneEyeStatResult 3 j
  else s3

/-- A lane enters DETECT: the rate and the scrambler setting take effect, and the bring-up starts afresh (R370, R371, R374). -/
def State.laneDetect (s : State) (k j : Nat) : State :=
  let u := uLane k
  let x := s.laneX k j
  let s1 := s.setLaneX k j { x with
    mbd := s.fld u F.laneRateMbd j
    pam4 := s.flag u F.laneRateMod j
    txS := s.fld u F.laneSeedSeed j
    rxS := s.fld u F.laneSeedSeed j
    runLen := 0
    rest := []
    boundary := 0
    stuffAge := []
    capsAt := none
    mismatch := false
    sentNext := false
    gotNext := false }
  (((s1.setFld u F.laneStatusPeerAligned 0 j).setFld u F.laneAlignConsec 0 j).setLaneState k j 1)

/-- A lane in the state its MODE calls for while no link owns it: OFF or PRBS (R383). -/
def State.laneByMode (s : State) (k j : Nat) : State :=
  (s.setLaneX k j { s.laneX k j with synced := false }).setLaneState k j (if s.fld (uLane k) F.laneCtrlMode j = 2 then 6 else 0)

/-- The bits of a symbol: one in NRZ; two in PAM4, first the low bit of its Gray code (R372). -/
def symBits (pam4 : Bool) (y : BitVec 2) : List Bool :=
  if pam4 then
    (match y.toNat with
    | 0 => [false, false]
    | 1 => [true, false]
    | 2 => [true, true]
    | _ => [false, true])
  else [y.toNat != 0]

/-- Received symbols with stuffed symbols deleted: the bits, for each stuff error the symbols received after it, and the run in hand (R373). -/
def unstuff (pam4 : Bool) : Nat → Nat → List (BitVec 2) → List Bool × List Nat × Nat × Nat
  | sym, len, [] => ([], [], sym, len)
  | sym, len, y :: ys =>
    if len = 63 then
      let r := unstuff pam4 y.toNat 1 ys
      (r.1, if y.toNat = sym then ys.length :: r.2.1 else r.2.1, r.2.2.1, r.2.2.2)
    else
      let r := unstuff pam4 y.toNat (if y.toNat = sym then len + 1 else 1) ys
      (symBits pam4 y ++ r.1, r.2.1, r.2.2.1, r.2.2.2)

/-- Bits through the additive scrambler, which is its own inverse: the bits and S after them (R371). -/
def scramble : Nat → List Bool → List Bool × Nat
  | sreg, [] => ([], sreg)
  | sreg, b :: bs =>
    let t := bitOf sreg 30 != bitOf sreg 27
    let r := scramble ((sreg * 2 + boolNat t) % 2 ^ 31) bs
    ((b != t) :: r.1, r.2)

/-- Bits, the least significant of each byte first, as bytes (R372). -/
def bitsToBytes : Nat → List Bool → List Byte
  | 0, _ => []
  | n + 1, bs => BitVec.ofNat 8 ((List.range 8).map (fun i => boolNat (bs.getD i false) * 2 ^ i)).sum :: bitsToBytes n (bs.drop 8)

/-- The ages of a lane's stuff errors after `n` more symbols, within the last 2^20 (R378). -/
def stuffAges (new old : List Nat) (n : Nat) : List Nat := (new ++ old.map (· + n)).filter (fun a => decide (a < 2 ^ 20))

/-- Symbols received on a lane: the bytes of `n` bytes of frame from the boundary on, and the lane after them with stuff errors counted
(R371-R373, R377). -/
def receiveSymbols (s : State) (k j n : Nat) (ys : List (BitVec 2)) : List Byte × State :=
  let x := s.laneX k j
  let r := unstuff x.pam4 x.runSym x.runLen ys
  let d := scramble x.rxS r.1
  let bits := x.rest ++ d.1
  (bitsToBytes n (bits.drop x.boundary),
   (s.setLaneX k j { x with
      rxS := d.2, runSym := r.2.2.1, runLen := r.2.2.2, rest := bits.drop (x.boundary + 8 * n), boundary := 0
      stuffAge := stuffAges r.2.1 x.stuffAge ys.length }).countSat (uLane k) F.laneStuffCntCount r.2.1.length j)

/-- The bits of bytes, the least significant of each first (R372). -/
def bytesToBits (bs : List Byte) : List Bool := bs.flatMap (fun b => (List.range 8).map (fun i => b.getLsbD i))

/-- A PAM4 symbol of two bits, the first the low bit of its Gray code (R372). -/
def paSymbol (b c : Bool) : BitVec 2 :=
  match b, c with
  | false, false => 0
  | true, false => 1
  | true, true => 2
  | false, true => 3

/-- The symbols of bits in PAM4, one for each two (R372). -/
def paSymbols : List Bool → List (BitVec 2)
  | b :: c :: r => paSymbol b c :: paSymbols r
  | _ => []

/-- The symbols of scrambled bits: one for each in NRZ, one for each two in PAM4 (R372). -/
def toSymbols (pam4 : Bool) (bs : List Bool) : List (BitVec 2) :=
  if pam4 then paSymbols bs else bs.map (fun b => if b then 1 else 0)

/-- The symbol that breaks a run (R373). -/
def stuffSymbol (pam4 : Bool) (y : BitVec 2) : BitVec 2 :=
  if pam4 then (if y.toNat < 2 then 3 else 0) else (if y = 0 then 1 else 0)

/-- Symbols with a stuffed symbol after every run of 63, and the run in hand (R373). -/
def stuff (pam4 : Bool) : Nat → Nat → List (BitVec 2) → List (BitVec 2) × Nat × Nat
  | sym, len, [] => ([], sym, len)
  | sym, len, y :: ys =>
    let n := if y.toNat = sym then len + 1 else 1
    if n = 63 then
      let z := stuffSymbol pam4 y
      let r := stuff pam4 z.toNat 1 ys
      (y :: z :: r.1, r.2)
    else
      let r := stuff pam4 y.toNat n ys
      (y :: r.1, r.2)

/-- Bytes sent on a lane: scrambled, made into symbols, and stuffed (R371-R373). -/
def sendBytes (s : State) (k j : Nat) (bs : List Byte) : State :=
  let x := s.laneX k j
  let d := scramble x.txS (bytesToBits bs)
  let r := stuff x.pam4 x.txSym x.txLen (toSymbols x.pam4 d.1)
  s.setLaneX k j { x with txS := d.2, txSym := r.2.1, txLen := r.2.2, sentSyms := r.1 }

/-! ### Link frames (R196-R199) -/

/-- The state of a link: 0 DOWN, 1 BRINGUP, 2 UP, 3 FAILED (R217). -/
def State.linkState (s : State) (p : Nat) : Nat := s.fld (uLnk p) F.lnkStatusState

/-- The state of a link set. -/
def State.setLinkState (s : State) (p v : Nat) : State := s.setFld (uLnk p) F.lnkStatusState v

/-- The code of a link port's endpoint. -/
def linkCode (p : Nat) : Nat := codeOf (linkNode p) 3

/-- The lane index of a packet: 2 × PRI + LANE, LANE 1 for responses (R197). -/
def pktLane (p : Packet) : Nat := 2 * p.pri.toNat + boolNat (isResponse p.op)

/-- The bytes of a link frame: FCW, payload, CRW and CRC (R196, R197). -/
def frameBytes (l : Link) (ftype fcwLow payload : Nat) (nak : Bool) : List Byte :=
  let fcw := ftype * 2 ^ 60 + fcwLow + (l.rxSeq + 4095) % 4096 * 2 ^ 32 + boolNat l.rxAny * 2 ^ 31 + boolNat nak * 2 ^ 30
  let crw := 2 ^ 31 + l.crwLane * 2 ^ 28 + SMap.get 0 l.freed l.crwLane % 4096 * 2 ^ 16
  let b := toLeBytes 8 fcw ++ toLeBytes 64 payload ++ toLeBytes 4 crw
  b ++ toLeBytes 4 (crc32c b)

/-- A frame that waits for its slot. -/
def Link.emit (l : Link) (ftype fcwLow payload : Nat) (nak : Bool := false) : Link :=
  { l with wire := l.wire ++ [⟨ftype, fcwLow, payload, nak⟩] }

/-- The frame of the next slot, IDLE where none waits; the CTOTALs take turns, one a frame (R197, R198). -/
def Link.nextFrame (l : Link) : List Byte × Link :=
  let f := l.wire.headD ⟨0, 0, 0, false⟩
  (frameBytes l f.ftype f.fcw f.payload f.nak, { l with wire := l.wire.tail, crwLane := (l.crwLane + 1) % 8 })

/-- A FLIT frame that waits for its slot. -/
def Link.emitFlit (l : Link) (t : TxFrame) : Link :=
  l.emit 1 (boolNat t.rsp * 2 ^ 59 + t.flit.pri.toNat * 2 ^ 57 + boolNat t.flit.eop * 2 ^ 56 + t.seq * 2 ^ 44) t.flit.data.toNat

/-- Credits of a lane (R198). -/
def Link.credits (l : Link) (lane : Nat) : Nat :=
  256 - (SMap.get 0 l.sent lane + 4096 - SMap.get 0 l.ctotal lane % 4096) % 4096

/-- The flits of a packet sent as frames under the next sequence numbers (R198, R199). -/
def Link.sendFlits (l : Link) (lane : Nat) : List Flit → Link
  | [] => l
  | f :: fs =>
    let t : TxFrame := ⟨l.txSeq, lane % 2 == 1, f⟩
    (({ l with
      txSeq := (l.txSeq + 1) % 4096
      replay := l.replay ++ [t]
      sent := SMap.store 0 l.sent lane ((SMap.get 0 l.sent lane + 1) % 4096) } : Link).emitFlit t).sendFlits lane fs

/-- Waiting packets sent in order, each lane held back by its own credits and by the replay buffer's 1,024 frames (R198, R199). -/
def Link.pump (l : Link) (blocked : NSet) : List Packet → List Packet → Link
  | [], kept => { l with waiting := kept.reverse }
  | p :: ps, kept =>
    let lane := pktLane p
    let n := 1 + p.body.length
    if blocked.contains lane || decide (l.credits lane < n) || decide (1024 < l.replay.length + n) then
      l.pump (NSet.add blocked lane) ps (p :: kept)
    else (l.sendFlits lane (channelFlits p)).pump blocked ps kept

/-- What can be sent is sent. -/
def Link.pumpAll (l : Link) : Link := l.pump [] l.waiting []

/-- A packet lost to a link that is not UP: a request is answered, responses and messages are discarded and counted (R215). -/
def linkRefuse (s : State) (p : Nat) (st : Stat) (pkt : Packet) : State :=
  if isRequest pkt.op then s.sendRsp (pkt.respond st)
  else
    let s1 := s.countSat (uLnk p) F.lnkDropCntCount
    if isResponse pkt.op then s1.setFld (uLnk p) F.lnkStatusRspdrop 1 else s1

/-- A packet given to a link to send (R202, R215). -/
def linkSend (s : State) (p : Nat) (pkt : Packet) : State :=
  if s.linkState p ≠ 2 then linkRefuse s p .noRoute pkt
  else
    let l := s.lnk p
    s.setLnk p ({ l with waiting := l.waiting ++ [pkt] } : Link).pumpAll

/-- Whether SREF is the crystal (R399). -/
def State.srefXtal (s : State) : Bool := s.fld uClk F.clkOscStatusSref == 1

/-- QUAL and DEPTH as R405 gives them: with TRIM_SRC 3, one more than the DEPTH of the peer's last admitted mark. -/
def showQual (s : State) : State :=
  let src := s.fld uClk F.clkOscCtrlTrimSrc
  let q : Nat × Nat :=
    if s.srefXtal && s.flag uClk F.clkOscStatusXtalQual then (1, 0)
    else if !s.srefXtal && s.flag uClk F.clkOscStatusLocked && src == 2 then (2, 0)
    else if !s.srefXtal && s.flag uClk F.clkOscStatusLocked && src == 3 then
      (3, (s.lnk (s.fld uClk F.clkOscCtrlTrimPort)).markDepth + 1)
    else (0, 0)
  (s.setFld uClk F.clkOscStatusQual q.1).setFld uClk F.clkOscStatusDepth q.2

/-- LOCKED lost (R405). -/
def loseLock (s : State) : State :=
  { s.setFld uClk F.clkOscStatusLocked 0 with clk := { s.clk with goodRun := 0 } }

/-- The marks of a link end: the HF oscillator loses LOCKED where they are its source (R404, R405). -/
def marksEnd (s : State) (p : Nat) : State :=
  let s1 := s.setLnk p { s.lnk p with markSeq := none, markGap := 0 }
  if s.fld uClk F.clkOscCtrlTrimSrc = 3 ∧ s.fld uClk F.clkOscCtrlTrimPort = p then showQual (loseLock s1) else s1

/-- A link leaves UP with a cause: what it has accepted and not sent is answered or discarded (R215). -/
def linkLeave (s : State) (p : Nat) (st : Stat) (next : Nat) : State :=
  let was := s.linkState p
  let l := s.lnk p
  let s1 := (s.setLnk p { l with waiting := [], wire := [] }).setLinkState p next
  if was = 2 then l.waiting.foldl (fun t pkt => linkRefuse t p st pkt) (marksEnd s1 p) else s1

/-- The lanes of a link port, by its width in force. -/
def State.linkLanes (s : State) (p : Nat) : List (Nat × Nat) := (List.range (widthLanes (s.lnk p).width)).map (fun i => portLane p i)

/-- Bring-up started: the width takes effect and every lane of the link enters DETECT (R201, R217). -/
def linkBringUp (s : State) (p : Nat) : State :=
  let s1 := s.setLnk p { s.lnk p with width := s.fld (uLnk p) F.lnkCtrlWidth }
  (s1.linkLanes p).foldl (fun t kj => t.laneDetect kj.1 kj.2) (s1.setLinkState p 1)

/-- A link in bring-up whose every lane is ACTIVE: it exchanges link frames (R201, R376). -/
def linkActive (s : State) (p : Nat) : Bool :=
  s.linkState p == 1 && (s.linkLanes p).all (fun kj => s.laneState kj.1 kj.2 == 5)

/-- A link comes UP: its sequence numbers, running totals, credits and replay buffer start afresh (R201). -/
def linkUp (s : State) (p : Nat) : State :=
  let l := s.lnk p
  ((s.setLnk p {
      width := l.width
      mseq := l.mseq
      fseq := l.fseq
      markDepth := l.markDepth
      arrived := l.arrived
      stale := l.arrived.map (fun e => (e.1, e.2.length)) }).setLinkState p 2).setFld (uLnk p) F.lnkPeerValid 0

/-- A lane leaves ACTIVE or its bring-up: its link leaves UP and the bring-up starts again on every lane (R201, R215, R378). -/
def linkLaneLost (s : State) (k j : Nat) : State :=
  let p := lanePort k j
  if s.laneOwned k j && (s.linkState p == 2 || s.linkState p == 1) then linkBringUp (linkLeave s p .noRoute 1) p else s

/-- A resend of every unacknowledged frame from the oldest; RETRY_MAX in a row from the same frame exhaust the replay (R199, R200). -/
def linkResend (s : State) (p : Nat) : State :=
  let l := s.lnk p
  match l.replay with
  | [] => s
  | t :: _ =>
    let n := if l.resends ≠ 0 ∧ l.resendSeq = t.seq then l.resends + 1 else 1
    let s1 := (s.countSat (uLnk p) F.lnkReplayCntCount).setFld (uLnk p) F.lnkStatusReplay 1
    if s.fld (uLnk p) F.lnkCtrlRetryMax ≤ n then
      linkLeave (((s1.countSat (uLnk p) F.lnkExhCntCount).setFld (uLnk p) F.lnkStatusExhausted 1).raise (uLnk p) 0x0A) p .retryExhausted 3
    else
      s1.setLnk p (l.replay.foldl Link.emitFlit { l with
        resends := n, resendSeq := t.seq, wire := l.wire.filter (fun f => f.ftype != 1) })

/-- Frames an ACK covers leave the replay buffer (R199). -/
def Link.acked (l : Link) (ack : Nat) : Link :=
  let kept := l.replay.filter (fun t => !decide ((ack + 4096 - t.seq) % 4096 < 2048))
  if kept.length = l.replay.length then l else { l with replay := kept, resends := 0 }

/-- A NAK sent unless one is open (R199). -/
def Link.nak (l : Link) : Link := if l.nakOpen then l else { l.emit 0 0 0 true with nakOpen := true }

/-- A frame whose FCW and CRW are lost: counted, and a NAK sent (R197, R199). -/
def linkBadFrame (s : State) (p : Nat) : State :=
  (s.countSat (uLnk p) F.lnkCrcCntCount).setLnk p (s.lnk p).nak

/-- A FLIT accepted in order: its packet is complete with EOP (R199). -/
def Link.acceptFlit (l : Link) (lane : Nat) (eop : Bool) (data : Line) : Link :=
  let l1 := { l with rxSeq := (l.rxSeq + 1) % 4096, rxAny := true, nakOpen := false }
  let fs := SMap.get [] l.rx lane ++ [data]
  if eop then
    { l1 with
      rx := SMap.store [] l.rx lane []
      arrived := SMap.store [] l.arrived lane (SMap.get [] l.arrived lane ++ [ofFlits (fs.headD 0) (fs.drop 1)]) }
  else { l1 with rx := SMap.store [] l.rx lane fs }

/-- A MARK received: LNK_PEER is updated (R213), and a mark that R214 admits gives the DEPTH that a trim from it reports, and the interval
since the one before it in marks (R404, R405). -/
def linkMark (s0 : State) (p payload : Nat) : State :=
  let u := uLnk p
  let qual := payload / 2 ^ 24 % 4
  let depth := payload / 2 ^ 28 % 16
  let mseq := payload / 2 ^ 32 % 2 ^ 32
  let s := if s0.flag u F.lnkCtrlMarkTrust && qual != 0 && decide (depth < 15) then
      showQual (s0.setLnk p { s0.lnk p with
        markDepth := depth
        markSeq := some mseq
        markGap := match (s0.lnk p).markSeq with
          | some q => (mseq + 2 ^ 32 - q) % 2 ^ 32
          | none => 0 }) else s0
  ((((s.setFld u F.lnkPeerSysid (payload % 65536)).setFld u F.lnkPeerPort (payload / 2 ^ 16)).setFld u F.lnkPeerQual
    (payload / 2 ^ 24)).setFld u F.lnkPeerDepth (payload / 2 ^ 28)).setFld u F.lnkPeerValid 1

/-- A frame that passes its CRC (R197-R199). -/
def linkGoodFrame (s : State) (p v : Nat) : State :=
  let fcw := v % 2 ^ 64
  let payload := v / 2 ^ 64 % 2 ^ 512
  let crw := v / 2 ^ 576 % 2 ^ 32
  let ftype := bitsOf fcw 63 60
  let l0 := s.lnk p
  let l1 := if bitOf fcw 31 then l0.acked (bitsOf fcw 43 32) else l0
  let l2 := if bitOf crw 31 then { l1 with ctotal := SMap.store 0 l1.ctotal (bitsOf crw 30 28) (bitsOf crw 27 16) } else l1
  let l3 :=
    if ftype = 1 then
      (if bitsOf fcw 55 44 = l2.rxSeq then
        l2.acceptFlit (2 * bitsOf fcw 58 57 + bitsOf fcw 59 59) (bitOf fcw 56) (BitVec.ofNat 512 payload)
      else l2.nak)
    else l2
  let s1 := s.setLnk p l3
  let s2 := if ftype = 2 then linkMark s1 p payload else s1
  let s3 := if bitOf fcw 30 then linkResend s2 p else s2
  if s3.linkState p = 2 then s3.setLnk p (s3.lnk p).pumpAll else s3

/-- The bytes of a frame from the bytes of its lanes: byte `b` from lane `b mod W` (R196). -/
def mergeLanes (lanes : List (List Byte)) : List Byte :=
  (List.range 80).map (fun b => (lanes.getD (b % lanes.length) []).getD (b / lanes.length) 0)

/-- The symbols of a frame received on the lanes of a link, from lane `i`. -/
def receiveLanes (s : State) (n : Nat) : List (Nat × Nat) → List (List (BitVec 2)) → List (List Byte) × State
  | [], _ => ([], s)
  | kj :: r, ys =>
    let a := receiveSymbols s kj.1 kj.2 n (ys.headD [])
    let b := receiveLanes a.2 n r ys.tail
    (a.1 :: b.1, b.2)

/-- An ACTIVE lane drops (R378): class 0x09, DOWN, the count, and DETECT, from which it retrains. -/
def laneDown (s : State) (k j : Nat) : State :=
  let s1 := ((s.raise (uLane k) 0x09 j).setFld (uLane k) F.laneStatusDown 1 j).countSat (uLane k) F.laneDownCntCount 1 j
  linkLaneLost (s1.laneDetect k j) k j

/-- The ACTIVE lanes of a link that have seen more than STUFF_MAX stuff errors within 2^20 received symbols drop (R378). -/
def dropStuffed (s : State) (p : Nat) : State :=
  (s.linkLanes p).foldl (fun t kj =>
    if t.laneState kj.1 kj.2 = 5 ∧ t.fld (uLane kj.1) F.laneCtrlStuffMax kj.2 < (t.laneX kj.1 kj.2).stuffAge.length then
      laneDown t kj.1 kj.2 else t) s

/-- LINK_FRAME_RECEIVE (R196-R199, R201, R213, R378): the symbols of one frame on the lanes of a link that is UP, or whose lanes are all ACTIVE: such
a link comes UP with the first frame that passes its CRC. -/
def execLinkFrameReceive (p : Fin 16) (syms : List (List (BitVec 2))) (s : State) : Out :=
  if (s.linkState p ≠ 2 ∧ !linkActive s p) ∨ !s.clocked (150 + p / 4) then .next s
  else
    let w := widthLanes (s.lnk p).width
    let r := receiveLanes s (80 / w) (s.linkLanes p) syms
    let bytes := mergeLanes r.1
    let v := leBytes bytes
    if crc32c (bytes.take 76) ≠ v / 2 ^ 608 ∨ 3 ≤ bitsOf v 63 60 then
      .next (dropStuffed (if s.linkState p = 2 then linkBadFrame r.2 p else r.2.countSat (uLnk p) F.lnkCrcCntCount) p)
    else .next (dropStuffed (linkGoodFrame (if s.linkState p = 2 then r.2 else linkUp r.2 p) p v) p)

/-- ACK_TIMEOUT (R199, R200): ACK has not advanced within LNK_ACK_TMO while frames are unacknowledged. -/
def execAckTimeout (p : Fin 16) (s : State) : Out :=
  if s.linkState p ≠ 2 ∨ !s.clocked (150 + p / 4) then .next s else .next (linkResend s p)

/-! ### Bring-up and failure (R201, R215, R217, R383) -/

/-- EN raised: the link takes its lanes and starts its bring-up. -/
def linkEnable (s : State) (p : Nat) : State :=
  if s.flag (uLnk p) F.lnkCtrlEn then s else linkBringUp (s.setFld (uLnk p) F.lnkCtrlEn 1) p

/-- EN cleared: the link leaves UP and its lanes return to the MODE last written (R215, R383). -/
def linkDisable (s : State) (p : Nat) : State :=
  if !s.flag (uLnk p) F.lnkCtrlEn then s
  else
    let lanes := s.linkLanes p
    lanes.foldl (fun t kj => t.laneByMode kj.1 kj.2) ((linkLeave s p .noRoute 0).setFld (uLnk p) F.lnkCtrlEn 0)

/-- GO: an enabled link leaves UP and restarts its bring-up (R217). -/
def linkRetrain (s : State) (p : Nat) : State :=
  if s.flag (uLnk p) F.lnkCtrlEn then linkBringUp (linkLeave s p .noRoute 1) p else s

/-- LINK_ENABLE (R201, R217). -/
def execLinkEnable (p : Fin 16) (s : State) : Out := .next (linkEnable s p)

/-- LINK_DISABLE (R215, R217). -/
def execLinkDisable (p : Fin 16) (s : State) : Out := .next (linkDisable s p)

/-- LINK_RETRAIN (R217). -/
def execLinkRetrain (p : Fin 16) (s : State) : Out := .next (linkRetrain s p)

/-! ### Sending and receiving packets (R202-R206) -/

/-- Responses delivered to a link port's proxy go back over the link on which their requests arrived (R204). -/
def absorbLink (s : State) (p : Nat) : State :=
  let np := s.netPort (linkCode p)
  np.delivered.foldl (fun t r => linkSend t p r) (s.setNetPort (linkCode p) { np with delivered := [] })

/-- LINK_TRANSMIT (R202): a packet that reached port 3. A request with LABEL 0 has no way on and is answered NO_ROUTE. -/
def execLinkTransmit (p : Fin 16) (pkt : Packet) (s : State) : Out :=
  let c := pkt.icls.toNat
  if pkt.dst.toNat ≠ linkCode p ∨ !s.arrived pkt ∨ !s.firstOf pkt (fun q => q.dst == pkt.dst && q.pri == pkt.pri) then .next s
  else
    let s1 := s.takeReq pkt
    if isRequest pkt.op then .next (if pkt.label = 0 then s1.sendRsp (pkt.respond .noRoute) else linkSend s1 p pkt)
    else if (pkt.op = opLmsg ∧ (c = 4 ∨ c = 7)) ∨ (pkt.op = opCmsg ∧ (c = 4 ∨ c = 5 ∨ c = 7)) then .next (linkSend s1 p pkt)
    else .next (s1.countSat (uLnk p) F.lnkDropCntCount)

/-- A label entry; entry 0 reads 0 (R218). -/
def State.labelEntry (s : State) (p l : Nat) : Nat := if l = 0 then 0 else s.fld (uLnk p) F.lnkLabelEntry l

/-- A packet passed on or consumed under a DST and a LABEL: a request through the proxy (R204), a message at once (R171). The answer
is whether it was taken; a request beyond MAXOUT waits in its lane. -/
def proxyPass (s : State) (p : Nat) (orig pkt : Packet) : Bool × State :=
  let k := linkCode p
  let q := stamp k iclsLink pkt
  if !isRequest q.op then (true, s.sendReq q)
  else
    match requestDst s q with
    | .inr st => (true, linkSend s p (localAnswer orig.tag orig st))
    | .inl d =>
      if (s.netPort k).outst.length < s.fld (uNoc (linkNode p)) F.nocPortCtrlMaxout 3 then
        (true, issueReq s k orig { q with dst := BitVec.ofNat 11 d })
      else (false, s)

/-- A packet refused by the label table (R203, R206). -/
def labelRefuse (s : State) (p : Nat) (pkt : Packet) : State :=
  let s1 := (s.countSat (uLnk p) F.lnkNolabelCntCount).setFld (uLnk p) F.lnkStatusNolabel 1
  if isRequest pkt.op then linkSend s1 p (localAnswer pkt.tag pkt .noRoute) else s1

/-- The census role check of a CMSG with LABEL 0 (R210, R212). -/
def roleAdmits (s : State) (p : Nat) (pkt : Packet) : Bool :=
  let role := s.fld (uLnk p) F.lnkCtrlRole
  let t := pkt.ext.toNat / 2 ^ 60
  (t == 1 && role == 1) || ((t == 2 || t == 3) && role == 2)

/-- The label entry decides a packet (R206). -/
def labelLookup (s : State) (p : Nat) (orig pkt : Packet) : Bool × State :=
  let e := s.labelEntry p pkt.label.toNat
  let act := bitsOf e 31 30
  let admits := if isRequest pkt.op then bitOf e 25 else bitOf e 24
  if act = 1 ∧ admits then
    proxyPass s p orig { pkt with
      label := 0
      dst := if pkt.op = opLmsg then BitVec.ofNat 11 (codeOf 96 6) else if pkt.op = opCmsg then BitVec.ofNat 11 (codeOf 31 8) else pkt.dst }
  else if act = 2 ∧ admits ∧ bitsOf e 15 0 ≠ 0 ∧ s.linkState (bitsOf e 29 26) = 2 then
    proxyPass s p orig { pkt with label := BitVec.ofNat 16 e, dst := BitVec.ofNat 11 (linkCode (bitsOf e 29 26)) }
  else (true, labelRefuse s p pkt)

/-- A packet received over a lane of a link, by the first row of R203 that applies. -/
def linkPacket (s : State) (p lane : Nat) (pkt : Packet) : Bool × State :=
  let node := linkNode p
  if pkt.malformed (lane % 2 == 1) then
    let s1 := s.countMalformed node 3 pkt
    (true, if isRequest pkt.op then linkSend s1 p (localAnswer pkt.tag pkt .malformed) else s1)
  else if isResponse pkt.op then (true, s.sendRsp pkt)
  else if pkt.label = 0 then
    if isRequest pkt.op then (true, linkSend s p (localAnswer pkt.tag pkt .noRoute))
    else if pkt.op = opLmsg then proxyPass s p pkt { pkt with dst := BitVec.ofNat 11 (codeOf 96 6) }
    else if roleAdmits s p pkt then proxyPass s p pkt { pkt with dst := BitVec.ofNat 11 (codeOf 31 8) }
    else (true, s.countSat (uLnk p) F.lnkDropCntCount)
  else if pkt.hoplim = 0 then
    let s1 := (s.countSat (uLnk p) F.lnkHoplimCntCount).setFld (uLnk p) F.lnkStatusHoplim 1
    (true, if isRequest pkt.op then linkSend s1 p (localAnswer pkt.tag pkt .hopLim) else s1)
  else labelLookup s p pkt { pkt with hoplim := pkt.hoplim - 1 }

/-- The oldest packet that arrived on a lane of a link handled; its flits are freed once it is taken (R198, R203, R204). -/
def linkReceive (s : State) (p lane : Nat) : State :=
  let l := s.lnk p
  match SMap.get [] l.arrived lane with
  | [] => s
  | pkt :: r =>
    let out := linkPacket s p lane pkt
    if out.1 then
      let m := out.2.lnk p
      let old := SMap.get 0 m.stale lane
      out.2.setLnk p { m with
        arrived := SMap.store [] m.arrived lane r
        stale := SMap.store 0 m.stale lane (old - 1)
        freed := if old = 0 then SMap.store 0 m.freed lane ((SMap.get 0 m.freed lane + 1 + pkt.body.length) % 4096) else m.freed }
    else s

/-- MARK_SEND (R213): at a mark instant an UP link with MARK_EN = 1 sends a MARK in the next frame slot. -/
def execMarkSend (p : Fin 16) (offset : BitVec 16) (s : State) : Out :=
  if s.linkState p ≠ 2 ∨ !s.flag (uLnk p) F.lnkCtrlMarkEn then .next s
  else
    let l := s.lnk p
    let payload := s.fld uCns F.cnsSysidSysid + p.val * 2 ^ 16 + s.fld uClk F.clkOscStatusQual * 2 ^ 24 +
      s.fld uClk F.clkOscStatusDepth * 2 ^ 28 + l.mseq * 2 ^ 32 + offset.toNat * 2 ^ 64
    .next (s.setLnk p { l with wire := ⟨2, 0, payload, false⟩ :: l.wire, mseq := (l.mseq + 1) % 2 ^ 32 })

/-! ### Lane commands (R374-R383) -/

/-- Whether a lane's receiver works: it is awake, and the lane die's clock runs (R379, R410). -/
def State.laneHears (s : State) (k j : Nat) : Bool := s.clocked (150 + k) && !s.flag (uLane k) F.laneStatusRxAsleep j

/-- ENERGY_DETECT (R374): 4 µs of continuous energy in DETECT. -/
def execEnergyDetect (k : Fin 4) (lane : Fin 32) (s : State) : Out :=
  if s.laneState k lane = 1 ∧ s.laneHears k lane then .next (s.setLaneState k lane 2) else .next s

/-- A receiver's scrambler loaded from received bits, with which it is in step (R374, R383). -/
def loadRxS (s : State) (k j : Nat) (seed : BitVec 31) : State :=
  s.setLaneX k j { s.laneX k j with rxS := seed.toNat, runLen := 0, rest := [], boundary := 0, synced := true }

/-- TRAIN_LOCK (R374, R383): 2,048 correctly predicted bits, after S was loaded from received bits. A lane in PRBS synchronises in the same
way and stays there. -/
def execTrainLock (k : Fin 4) (lane : Fin 32) (seed : BitVec 31) (s : State) : Out :=
  if !s.laneHears k lane then .next s
  else if s.laneState k lane = 2 then .next ((loadRxS s k lane seed).setLaneState k lane 3)
  else if s.laneState k lane = 6 then .next (loadRxS s k lane seed)
  else .next s

/-- TRAIN_TIMEOUT (R374): TRAIN_TMO expires in TRAIN. -/
def execTrainTimeout (k : Fin 4) (lane : Fin 32) (s : State) : Out :=
  if s.laneState k lane = 2 ∧ s.clocked (150 + k) then
    .next (((s.laneDetect k lane).setFld (uLane k) F.laneStatusTrainFail 1 lane).countSat (uLane k) F.laneTrainfailCntCount 1 lane)
  else .next s

/-- A byte of a CAPS frame. -/
def capsByte (v b : Nat) : Nat := v / 256 ^ b % 256

/-- Whether a CAPS frame agrees with the lane's own settings (R375). -/
def capsAgrees (s : State) (k j v : Nat) : Bool :=
  let x := s.laneX k j
  capsByte v 7 == j % 8 && capsByte v 8 == (s.lnk (lanePort k j)).width && v / 256 ^ 12 % 65536 == x.mbd &&
    capsByte v 14 == boolNat x.pam4

/-- Whether NEXT can be sent on a link: every receiver is in CAPS, agrees with its peer, and has last seen ALIGNED = 1 (R376). -/
def capsReady (s : State) (p : Nat) : Bool :=
  (s.linkLanes p).all (fun kj => s.laneState kj.1 kj.2 == 4 && !(s.laneX kj.1 kj.2).mismatch &&
    s.flag (uLane kj.1) F.laneStatusPeerAligned kj.2)

/-- Lanes that have sent and received NEXT are ACTIVE (R376). -/
def capsActive (s : State) (p : Nat) : State :=
  (s.linkLanes p).foldl (fun t kj =>
    if (t.laneX kj.1 kj.2).sentNext && (t.laneX kj.1 kj.2).gotNext && t.laneState kj.1 kj.2 == 4 then t.setLaneState kj.1 kj.2 5 else t) s

/-- The skew in bits between two lanes that received CAPS frames of the given FSEQ at the given bit times (R376). -/
def skewBits (a b : Nat × Nat) : Nat := ((a.2 : Int) - b.2 - 640 * signedOf 16 ((a.1 + 65536 - b.1 % 65536) % 65536)).natAbs

/-- Whether a lane lies within 1,280 bits of every other lane of its link, aligned by FSEQ (R376). -/
def deskewed (s : State) (k j : Nat) (a : Nat × Nat) : Bool :=
  (s.linkLanes (lanePort k j)).all (fun kj =>
    match (s.laneX kj.1 kj.2).capsAt with
    | some b => kj.2 == j || decide (skewBits a b ≤ 1280)
    | none => true)

/-- A CAPS frame that passes its CRC, on a lane in CAPS, `at_` its bit time (R375, R376). -/
def capsCheck (s : State) (k j v at_ : Nat) : State :=
  let a := (v / 256 ^ 4 % 65536, at_)
  let ok := capsAgrees s k j v && deskewed s k j a
  let x := s.laneX k j
  let s1 := s.setLaneX k j { x with mismatch := !ok, capsAt := some a, gotNext := x.gotNext || (ok && bitOf (capsByte v 6) 1) }
  if ok then capsActive s1 (lanePort k j) else s1.setFld (uLane k) F.laneStatusCapsErr 1 j

/-- The registers that show the last CAPS frame that passed its CRC (R375, R377, R385). -/
def capsShow (s : State) (k j v : Nat) : State :=
  let u := uLane k
  let s1 := (s.setFld u F.laneAlignFseq (v / 256 ^ 4 % 65536) j).setFld u F.laneStatusPeerAligned (capsByte v 6) j
  (((s1.setFld u F.lanePeerSysid (v / 256 ^ 10 % 65536) j).setFld u F.lanePeerPort (capsByte v 9) j).setFld u F.lanePeerLane
    (capsByte v 7) j).setFld u F.lanePeerWidth (capsByte v 8) j

/-- A window received on a lane in PRBS, once it is in step: the bits that differ from the training pattern are counted (R383). -/
def prbsWindow (s : State) (k j : Nat) (syms : List (BitVec 2)) : State :=
  if !(s.laneX k j).synced then s
  else
  let r := receiveSymbols s k j 80 syms
  r.2.countSat (uLane k) F.lanePrbsErrCount ((bytesToBits r.1).count true) j

/-- CAPS_FRAME_RECEIVE (R373-R377, R383): the symbols of one 640-bit window, at bit time `at_`, on a lane in LOCK, in CAPS until its peer has sent
NEXT, or in PRBS. -/
def execCapsFrameReceive (k : Fin 4) (lane : Fin 32) (syms : List (BitVec 2)) (at_ : Nat) (s : State) : Out :=
  let u := uLane k
  let st := s.laneState k lane
  if !s.laneHears k lane then .next s
  else if st = 6 then .next (prbsWindow s k lane syms)
  else if (st ≠ 3 ∧ st ≠ 4) ∨ (s.laneX k lane).gotNext then .next s
  else
    let r := receiveSymbols s k lane 80 syms
    let v := leBytes r.1
    if crc32c (r.1.take 76) ≠ v / 2 ^ 608 ∨ v % 2 ^ 32 ≠ 0x53504143 then .next (r.2.setFld u F.laneAlignConsec 0 lane)
    else
      let s1 := capsShow (r.2.countSat u F.laneAlignConsec 1 lane) k lane v
      let s2 := if st = 3 ∧ 4 ≤ s1.fld u F.laneAlignConsec lane then s1.setLaneState k lane 4 else s1
      .next (if s2.laneState k lane = 4 then capsCheck s2 k lane v at_ else s2)

/-- LANE_SLIP (R377): the boundary moves later by 1 to 639 bits. -/
def laneSlip (s : State) (k j n : Nat) : State :=
  if n = 0 ∨ 640 ≤ n then s
  else
    let x := s.laneX k j
    let s1 := (s.setLaneX k j { x with boundary := x.boundary + n }).setFld (uLane k) F.laneAlignConsec 0 j
    if s.laneState k j = 4 then s1.setLaneState k j 3 else s1

/-- LANE_SLIP (R377). -/
def execLaneSlip (k : Fin 4) (lane : Fin 32) (n : BitVec 10) (s : State) : Out := .next (laneSlip s k lane n.toNat)

/-- LANE_DROP (R378): an ACTIVE lane loses its energy for 1 µs, or its clock recovery loses lock. -/
def execLaneDrop (k : Fin 4) (lane : Fin 32) (s : State) : Out :=
  if s.laneState k lane ≠ 5 ∨ !s.clocked (150 + k) then .next s else .next (laneDown s k lane)

/-- TX_SLEEP written: the transmitter sleeps or wakes; an ACTIVE lane leaves ACTIVE (R379). -/
def laneTxSleep (s : State) (k j : Nat) (v : Bool) : State :=
  let s1 := (s.setFld (uLane k) F.laneCtrlTxSleep (boolNat v) j).setFld (uLane k) F.laneStatusTxAsleep (boolNat v) j
  if v && s.laneState k j == 5 then linkLaneLost (s1.laneDetect k j) k j else s1

/-- RX_SLEEP written: the receiver sleeps, keeping its adaptation, or wakes into DETECT (R379). -/
def laneRxSleep (s : State) (k j : Nat) (v : Bool) : State :=
  let st := s.laneState k j
  let s1 := (s.setFld (uLane k) F.laneCtrlRxSleep (boolNat v) j).setFld (uLane k) F.laneStatusRxAsleep (boolNat v) j
  if v && st == 5 then linkLaneLost (s1.laneDetect k j) k j
  else if s.flag (uLane k) F.laneStatusRxAsleep j && !v && decide (1 ≤ st) && decide (st ≤ 5) then s1.laneDetect k j
  else s1

/-- TX_SLEEP (R379). -/
def execTxSleep (k : Fin 4) (lane : Fin 32) (v : Bool) (s : State) : Out := .next (laneTxSleep s k lane v)

/-- RX_SLEEP (R379). -/
def execRxSleep (k : Fin 4) (lane : Fin 32) (v : Bool) (s : State) : Out := .next (laneRxSleep s k lane v)

/-- LANE_SIGNAL (R379): while the receiver sleeps, SIGNAL follows the energy detector and drives its event source. -/
def execLaneSignal (k : Fin 4) (lane : Fin 32) (v : Bool) (s : State) : Out :=
  if !s.flag (uLane k) F.laneStatusRxAsleep lane then .next s
  else .next ((s.setFld (uLane k) F.laneStatusSignal (boolNat v) lane).level (384 + 32 * k + lane) v)

/-- TUNING_STEP (R380, R382, R424): an admitted step, begun while no slice of an eye scan holds the offset sampler, measures the eye height here
and one CTLE setting to either side, and moves only to a setting better by at least HYST codes. -/
def execTuningStep (k : Fin 4) (lane : Fin 32) (ns here below above : Nat) (s : State) : Out :=
  let u := uLane k
  if !s.clocked (150 + k) ∨ s.laneState k lane ≠ 5 ∨ s.fld u F.laneTuneTuneMs lane = 0 ∨ (s.laneX k lane).scanHolds then .next s
  else
    let h := s.fld u F.laneTuneHyst lane
    .next (s.budgeted 4 k (min ns 10000) (fun t =>
      let x := t.laneX k lane
      let up := decide (here + h ≤ above) && decide (here < above) && decide (below ≤ above)
      let down := decide (here + h ≤ below) && decide (here < below)
      t.setLaneX k lane { x with ctle := if up then x.ctle + 1 else if down then x.ctle - 1 else x.ctle }))

/-- START of an eye scan: it begins in LOCK, CAPS or ACTIVE, and takes the sampler; it ends at once as NOTREADY in any other state (R381, R382,
R385). -/
def eyeStart (s : State) (k j : Nat) : State :=
  let u := uLane k
  if s.flag u F.laneEyeStatBusy j then s
  else
    let st := s.laneState k j
    if 3 ≤ st ∧ st ≤ 5 then
      (((s.setLaneX k j { s.laneX k j with scanN := s.fld u F.laneEyeCtrlN j, slices := 0, scanHolds := true }).setFld u F.laneEyeStatBusy 1 j).setFld
        u F.laneEyeStatResult 0 j).setFld u F.laneEyeErrCount 0 j
    else s.setFld u F.laneEyeStatResult 2 j

/-- EYE_SCAN_START (R381). -/
def execEyeScanStart (k : Fin 4) (lane : Fin 40) (s : State) : Out := .next (eyeStart s k lane)

/-- EYE_SCAN_SLICE (R382, R424): an admitted slice of a scan charges 1,024 ns of the sampler, which the scan holds through it; where its budget
stops it, its hold ends. -/
def execEyeScanSlice (k : Fin 4) (lane : Fin 40) (s : State) : Out :=
  if !s.flag (uLane k) F.laneEyeStatBusy lane || !s.clocked (150 + k) then .next s
  else
    let on := s.admits 5 k
    let x := s.laneX k lane
    .next ((s.budgeted 5 k 1024 id).setLaneX k lane { x with slices := x.slices + boolNat on, scanHolds := on })

/-- Whether the slices of a scan have compared its 2^N symbols: 1,024 ns each, at the lane's symbol rate in MBd (R381, R424). -/
def scanned (x : LaneX) : Bool := decide (2 ^ x.scanN * 1000 ≤ x.slices * 1024 * x.mbd)

/-- EYE_SCAN_DONE (R381): a scan has compared its 2^N symbols and reports its mismatches among them, saturating. -/
def execEyeScanDone (k : Fin 4) (lane : Fin 40) (mismatches : Nat) (s : State) : Out :=
  let u := uLane k
  let x := s.laneX k lane
  if !s.flag u F.laneEyeStatBusy lane || !s.clocked (150 + k) || !scanned x || decide (2 ^ x.scanN < mismatches) then .next s
  else
    .next ((((s.setLaneX k lane { x with scanHolds := false }).setFld u F.laneEyeStatBusy 0 lane).setFld u F.laneEyeStatResult 1 lane).setFld u
      F.laneEyeErrCount (min mismatches (2 ^ 32 - 1)) lane)

/-! ### What the transmitters send (R196, R371-R376, R383) -/

/-- The CAPS frame of a lane (R375). ALIGNED is 1 while its receiver is in CAPS and no mismatch was found. -/
def capsFrame (s : State) (k j : Nat) (next : Bool) : List Byte :=
  let p := lanePort k j
  let x := s.laneX k j
  let b := toLeBytes 4 0x53504143 ++ toLeBytes 2 (s.lnk p).fseq ++
    toLeBytes 1 (boolNat (s.laneState k j == 4 && !x.mismatch) + 2 * boolNat next) ++ toLeBytes 1 (j % 8) ++ toLeBytes 1 (s.lnk p).width ++
    toLeBytes 1 p ++ toLeBytes 2 (s.fld uCns F.cnsSysidSysid) ++ toLeBytes 2 x.mbd ++ toLeBytes 1 (boolNat x.pam4) ++
    List.replicate 61 0
  b ++ toLeBytes 4 (crc32c b)

/-- Whether a lane's transmitter sends: it is awake, in a state that sends (R374, R379, R383). -/
def laneSends (s : State) (k j : Nat) : Bool :=
  s.laneState k j != 0 && !s.flag (uLane k) F.laneStatusTxAsleep j

/-- What a lane sends in a slot outside link frames: CAPS frames in LOCK and CAPS, the training pattern in DETECT, TRAIN and PRBS (R374,
R383). -/
def laneSlot (next : Bool) (s : State) (kj : Nat × Nat) : State :=
  if !laneSends s kj.1 kj.2 then s
  else if s.laneState kj.1 kj.2 = 3 ∨ s.laneState kj.1 kj.2 = 4 then sendBytes s kj.1 kj.2 (capsFrame s kj.1 kj.2 next)
  else sendBytes s kj.1 kj.2 (List.replicate 80 0)

/-- A link frame sent on the lanes of a link: byte `b` on lane `b mod W` (R196). -/
def frameSlot (s : State) (p : Nat) : State :=
  let f := (s.lnk p).nextFrame
  let w := widthLanes (s.lnk p).width
  (List.range w).foldl (fun t i =>
    sendBytes t (portLane p i).1 (portLane p i).2 ((List.range (80 / w)).map (fun b => f.1.getD (w * b + i) 0))) (s.setLnk p f.2)

/-- NEXT noted as sent on every lane of a link (R376). -/
def noteNext (s : State) (p : Nat) : State :=
  capsActive ((s.linkLanes p).foldl (fun t kj => t.setLaneX kj.1 kj.2 { t.laneX kj.1 kj.2 with sentNext := true }) s) p

/-- One slot of the lanes of a link that is brought up or UP: link frames once NEXT has been sent; until then what each lane's state calls for,
the CAPS frames of one slot under one FSEQ (R374-R376). -/
def linkSlot (s : State) (p : Nat) : State :=
  let lanes := s.linkLanes p
  if lanes.all (fun kj => (s.laneX kj.1 kj.2).sentNext) then frameSlot s p
  else
    let next := capsReady s p && lanes.all (fun kj => laneSends s kj.1 kj.2)
    let s1 := lanes.foldl (laneSlot next) s
    let s2 := s1.setLnk p { s1.lnk p with fseq := ((s1.lnk p).fseq + 1) % 65536 }
    if next then noteNext s2 p else s2

/-- The lanes of a link port that no link owns and that send: those in PRBS (R383). -/
def prbsLanes (s : State) (p : Nat) : List (Nat × Nat) :=
  ((List.range 8).map (portLane p)).filter (fun kj => s.laneState kj.1 kj.2 == 6)

/-- Whether a link port's lanes send anything: its link is on, or a lane of its group is in PRBS, and the lane die runs. -/
def portSends (s : State) (p : Nat) : Bool :=
  s.dom (150 + p / 4) == domRun && (s.flag (uLnk p) F.lnkCtrlEn || !(prbsLanes s p).isEmpty)

/-- One slot of every lane that sends (log entry 135). -/
def laneSlots (s : State) : State :=
  (List.range 16).foldl (fun t p =>
    if portSends t p then
      (let t1 := (prbsLanes t p).foldl (laneSlot false) t
       if t1.flag (uLnk p) F.lnkCtrlEn then linkSlot t1 p else t1)
    else t) s

/-- MODE written: OFF or PRBS on a lane no link owns (R383). -/
def laneMode (s : State) (k j m : Nat) : State :=
  if s.laneOwned k j || m == 1 || m == 3 then s else (s.setFld (uLane k) F.laneCtrlMode m j).laneByMode k j

/-- LANE_MODE_WRITE (R383). -/
def execLaneModeWrite (k : Fin 4) (lane : Fin 32) (mode : BitVec 2) (s : State) : Out := .next (laneMode s k lane mode.toNat)

end Sys2Proof.Machine
end

