-- ==== Sys2Proof/Machine/Dispatcher.lean ====
section
/-! DEFINITION. The dataflow dispatcher: tokens, matching, delays, firings, takes, purges (R221-R246). -/

namespace Sys2Proof.Machine

open Sys2Proof

/-! ### Slices, keys and slots -/

/-- A slice's records. -/
def State.sliceOf (s : State) (sl : Nat) : Slice := SMap.get {} s.dsp.slice sl

/-- A slice's records replaced. -/
def State.setSlice (s : State) (sl : Nat) (x : Slice) : State :=
  { s with dsp := { s.dsp with slice := SMap.store {} s.dsp.slice sl x } }

/-- The home slice of a key (R222). -/
def homeSlice (n c : Nat) : Nat := (n % 8) ^^^ (c % 8)

/-- The code of a slice's endpoint (R33, R222). -/
def sliceCode (sl : Nat) : Nat := codeOf (sliceNode sl) 5

/-- The slice a packet is addressed to, where one is. -/
def packetSlice (p : Packet) : Option Nat := (List.range 8).find? (fun sl => sliceCode sl == p.dst.toNat)

/-- Free slots of the general pool (R229). -/
def State.freeGen (s : State) (sl : Nat) : Nat := s.fld (uDsp sl) F.dspFreeGeneral
/-- Free slots of the completion reserve (R229). -/
def State.freeRsv (s : State) (sl : Nat) : Nat := s.fld (uDsp sl) F.dspRsvFreeReserve

/-- Slots taken. -/
def State.takeSlots (s : State) (sl gen rsv : Nat) : State :=
  (s.setFld (uDsp sl) F.dspFreeGeneral (s.freeGen sl - gen)).setFld (uDsp sl) F.dspRsvFreeReserve (s.freeRsv sl - rsv)

/-- Slots given back. -/
def State.freeSlots (s : State) (sl gen rsv : Nat) : State :=
  (s.setFld (uDsp sl) F.dspFreeGeneral (s.freeGen sl + gen)).setFld (uDsp sl) F.dspRsvFreeReserve (s.freeRsv sl + rsv)

/-- DSP_NOW: 48 bits in slice 0 (R232). -/
def State.now (s : State) : Nat := s.fld (uDsp 0) F.dspNowLoNow + s.fld (uDsp 0) F.dspNowHiNow * 2 ^ 32

/-- The partial match of a key. -/
def Slice.find (x : Slice) (g n c : Nat) : Option Match := x.matching.find? (fun m => m.g == g && m.n == n && m.c == c)

/-- A partial match replaced, or removed where none is given. -/
def Slice.setMatch (x : Slice) (g n c : Nat) (m : Option Match) : Slice :=
  let r := x.matching.filter (fun k => !(k.g == g && k.n == n && k.c == c))
  { x with matching := match m with
    | some k => r ++ [k]
    | none => r }

/-- Whether a firing is of a key. -/
def Firing.isKey (f : Firing) (g n c : Nat) : Bool := f.key.g == g && f.key.n == n && f.key.c == c

/-- The descriptor kept for a key by its held operands, delayed tokens and held tokens (R224). -/
def Slice.keptDesc (x : Slice) (t : Token) : Option Desc :=
  match x.find t.g t.n t.c with
  | some m => some m.desc
  | none =>
    match x.delay.find? (fun d => d.tok.g == t.g && d.tok.n == t.n && d.tok.c == t.c) with
    | some d => some d.desc
    | none => (x.hold.find? (fun h => h.tok.g == t.g && h.tok.n == t.n && h.tok.c == t.c)).map (·.desc)

/-! ### Firing and taking (R228, R234-R238) -/

/-- The header of a firing (R236). -/
def Firing.header (f : Firing) : Nat :=
  f.key.g * 2 ^ 56 + f.key.n * 2 ^ 40 + f.key.c * 2 ^ 16 + f.key.desc.list * 2 ^ 8 + f.key.desc.arity * 2 ^ 4 + 1 +
  f.key.desc.act.toNat * 2 ^ 64 + f.tick * 2 ^ 128

/-- The operand values of a firing, value 0 first; zeros from ARITY upward (R236). -/
def Firing.values (f : Firing) : Line :=
  BitVec.ofNat 512 ((List.range 8).map (fun i => (SMap.get 0 f.key.ops i).toNat * 2 ^ (64 * i))).sum

/-- A take answered: with a firing, or with no work (R236-R238). -/
def answerTake (s : State) (req : Packet) (f : Option Firing) : State :=
  match f with
  | some x =>
    if req.op = opDtake then
      s.sendRsp { req.respond .ok [x.values] with hdata := BitVec.ofNat 256 x.header }
    else s.sendRsp (req.respond .ok [BitVec.ofNat 512 x.header, x.values])
  | none =>
    if req.op = opDtake then s.sendRsp (req.respond .busy) else s.sendRsp (req.respond .ok [0, 0])

/-- A firing delivered by a slice: its slots are freed at its home slice (R228). -/
def deliverFiring (s : State) (sl : Nat) (req : Packet) (f : Firing) : State :=
  ((answerTake s req (some f)).countWrap (uDsp sl) F.dspTakesCount).freeSlots (homeSlice f.key.n f.key.c) f.key.gen f.key.rsv

/-- A firing arrives on its list: it goes to the oldest waiting take that names the list, or joins the list's tail (R234). -/
def joinList (s : State) (sl : Nat) (f : Firing) : State :=
  let x := s.sliceOf sl
  let l := f.key.desc.list % 32
  match x.waits.find? (fun w => w.mask.getLsbD l) with
  | some w => deliverFiring (s.setSlice sl { x with waits := x.waits.erase w }) sl w.req f
  | none => s.setSlice sl { x with lists := SMap.store [] x.lists l (SMap.get [] x.lists l ++ [f]) }

/-- A key fires at its home slice: it joins its list there, or travels over the private ring (R228). -/
def fireKey (s : State) (sl : Nat) (m : Match) : State :=
  let f : Firing := ⟨m, s.now⟩
  let s1 := s.countWrap (uDsp sl) F.dspFiringsCount
  let home := m.desc.list / 32
  if home = sl then joinList s1 sl f
  else
    let y := s1.sliceOf home
    s1.setSlice home { y with ring := y.ring ++ [f] }

/-- The firings of a key queued or on the ring, of every slice (R228). -/
def firingsOf (s : State) (g n c : Nat) : List Firing :=
  (List.range 8).flatMap (fun k =>
    ((s.sliceOf k).lists.flatMap (fun e => e.2) ++ (s.sliceOf k).ring).filter (fun f => f.isKey g n c))

/-- The firings of a key taken off every list and off the ring. -/
def dropFirings (s : State) (g n c : Nat) : State :=
  (List.range 8).foldl (fun (u : State) k =>
    let y := u.sliceOf k
    u.setSlice k { y with
      lists := y.lists.filterMap (fun (e : Nat × List Firing) =>
        let r := e.2.filter (fun f => !f.isKey g n c)
        if r = [] then none else some (e.1, r))
      ring := y.ring.filter (fun f => !f.isKey g n c) }) s

/-- A key whose held operands fail their code at its home slice: the whole key is discarded with its slots, the firing if it had fired, and
the operands that wait in slots on the delay list (R231, log entry 134). -/
def loseKey (s : State) (g n c : Nat) : State :=
  let sl := homeSlice n c
  let x := s.sliceOf sl
  let found := x.find g n c
  let late := x.delay.filter (fun d => d.tok.g == g && d.tok.n == n && d.tok.c == c)
  let fired := firingsOf s g n c
  if found.isNone && fired.isEmpty && late.isEmpty then s
  else
    let s1 := s.setSlice sl { x.setMatch g n c none with
      delay := x.delay.filter (fun d => !(d.tok.g == g && d.tok.n == n && d.tok.c == c)) }
    let s2 := s1.freeSlots sl ((found.map (·.gen)).getD 0 + late.length) ((found.map (·.rsv)).getD 0)
    let s3 := fired.foldl (fun (u : State) f => u.freeSlots sl f.key.gen f.key.rsv) (dropFirings s2 g n c)
    let u := uDsp sl
    ((((s3.setFld u F.dspLostkeyLoC c).setFld u F.dspLostkeyLoG g).setFld u F.dspLostkeyHiN n).setFld u F.dspStatusLost 1).raise u 0x03

/-- FIRING_RING_ARRIVE (R228, R231): the oldest firing on its way from a slice reaches another and joins its list, or, `lost`, is found to hold
operands that fail their code. -/
def execFiringRingArrive (sl src : Fin 8) (s : State) (lost : Bool := false) : Out :=
  let x := s.sliceOf sl
  match x.ring.find? (fun f => homeSlice f.key.n f.key.c == src.val) with
  | none => .next s
  | some f =>
    if lost then .next (loseKey s f.key.g f.key.n f.key.c)
    else .next (joinList (s.setSlice sl { x with ring := x.ring.erase f }) sl f)

/-! ### Matching (R226-R233) -/

/-- The request a token came in answered, and an OK counted (R226, R227). -/
def answerToken (s : State) (sl : Nat) (t : Token) (st : Stat) : State :=
  let s1 := s.sendRsp (t.req.respond st)
  if st = .ok then s1.countWrap (uDsp sl) F.dspTokensCount else s1

/-- Whether a token completes its key: every other operand of a key of ARITY above 1 is held (R228). -/
def completes (x : Slice) (t : Token) (d : Desc) : Bool :=
  match x.find t.g t.n t.c with
  | some m => decide (m.ops.length + 1 = d.arity)
  | none => false

/-- A token put into a match under slots already taken: it starts the key, adds an operand, or fires it (R228). -/
def putOperand (s : State) (sl : Nat) (t : Token) (d : Desc) (gen rsv : Nat) : State :=
  let x := s.sliceOf sl
  let m : Match := (x.find t.g t.n t.c).getD ⟨t.g, t.n, t.c, d, [], 0, 0⟩
  let m1 := { m with ops := SMap.put m.ops t.op t.value, gen := m.gen + gen, rsv := m.rsv + rsv }
  if d.arity ≤ m1.ops.length then fireKey (s.setSlice sl (x.setMatch t.g t.n t.c none)) sl m1
  else s.setSlice sl (x.setMatch t.g t.n t.c (some m1))

/-- Ticks remaining to a due tick, negative once it has passed (R232). -/
def ticksLeft (now due : Nat) : Int :=
  let d : Nat := (due + 2 ^ 48 - now) % 2 ^ 48
  if d ≤ 2 ^ 47 then (d : Int) else (d : Int) - 2 ^ 48

/-- A delayed token put in its place: by ticks remaining, equal ones in arrival order (R232). -/
def insertDelayed (now : Nat) (t : Delayed) : List Delayed → List Delayed
  | [] => [t]
  | d :: ds => if ticksLeft now t.due < ticksLeft now d.due then t :: d :: ds else d :: insertDelayed now t ds

/-- A token answered BUSY for want of a slot: class 0x11, counted (R230). -/
def answerBusySlot (s : State) (sl : Nat) (t : Token) : State :=
  (((answerToken s sl t .busy).raise (uDsp sl) 0x11).countSat (uDsp sl) F.dspBusyCntCount).setFld (uDsp sl) F.dspStatusOvf 1

/-- A token that finds no slot of its kind: held, or BUSY at once (R230). -/
def holdToken (s : State) (sl : Nat) (t : Token) (d : Desc) : State :=
  let x := s.sliceOf sl
  if t.nb || decide (64 ≤ x.hold.length) || s.fld (uDsp sl) F.dspHoldCycles == 0 then answerBusySlot s sl t
  else s.setSlice sl { x with hold := x.hold ++ [⟨t, d⟩] }

/-- The duplicate of an operand already held (R226, R233). -/
def countDup (s : State) (sl : Nat) : State :=
  (s.countSat (uDsp sl) F.dspDupCntCount).setFld (uDsp sl) F.dspStatusDup 1

/-- A token with its descriptor: delayed, refused as a duplicate, matched, or held (R226 from OP on, R228-R232). -/
def matchToken (s : State) (sl : Nat) (t : Token) (d : Desc) : State :=
  let x := s.sliceOf sl
  if d.arity ≤ t.op then answerToken s sl t .decode
  else if t.delay ≠ 0 then
    (if s.freeGen sl = 0 then holdToken s sl t d
    else
      let s1 := s.takeSlots sl 1 0
      answerToken (s1.setSlice sl { x with delay := insertDelayed s.now ⟨t, d, (s.now + t.delay) % 2 ^ 48⟩ x.delay }) sl t .ok)
  else if ((x.find t.g t.n t.c).map (fun m => (SMap.find m.ops t.op).isSome)).getD false then
    answerToken (countDup s sl) sl t .decode
  else if 0 < s.freeGen sl then answerToken (putOperand (s.takeSlots sl 1 0) sl t d 1 0) sl t .ok
  else if completes x t d && decide (0 < s.freeRsv sl) then
    answerToken (putOperand (s.takeSlots sl 0 1) sl t d 0 1) sl t .ok
  else holdToken s sl t d

/-- Whether a held token completes its key (R230). -/
def heldCompletes (x : Slice) (h : HeldTok) : Bool := completes x h.tok h.desc && h.tok.delay == 0

/-- The held token that a free slot goes to: the oldest completing one where a slot of either kind is free, else the oldest of the others
where one of the general pool is (R229, R230). -/
def nextHeld (s : State) (sl : Nat) : Option HeldTok :=
  let x := s.sliceOf sl
  match x.hold.find? (fun h => heldCompletes x h && (decide (0 < s.freeGen sl) || decide (0 < s.freeRsv sl))) with
  | some h => some h
  | none => if 0 < s.freeGen sl then x.hold.find? (fun h => !heldCompletes x h) else none

/-- A held token decided again. -/
def matchHeld (s : State) (sl : Nat) (h : HeldTok) : State :=
  let x := s.sliceOf sl
  matchToken (s.setSlice sl { x with hold := x.hold.erase h }) sl h.tok h.desc

/-- Held tokens matched while a slot of their kind is free (R230). -/
def settleHeld (sl : Nat) : Nat → State → State
  | 0, s => s
  | k + 1, s =>
    match nextHeld s sl with
    | some h => settleHeld sl k (matchHeld s sl h)
    | none => s

/-- A token with its descriptor decided, after the held tokens for which a slot has come free (R226, R230). -/
def decideDesc (s : State) (sl : Nat) (t : Token) (d : Desc) : State :=
  matchToken (settleHeld sl (s.sliceOf sl).hold.length s) sl t d

/-- A descriptor read sent with ICLS 6; the rules give its PRI no value (R223). -/
def sendFetch (s : State) (sl g n : Nat) (t : Token) : State :=
  let x := s.sliceOf sl
  let base := s.fld (uDsp 0) F.dspGBaseLoBase g * 16 + s.fld (uDsp 0) F.dspGBaseHiBase g * 2 ^ 32
  let a := (base + 16 * n) % 2 ^ 56
  let p : Packet := {
    pri := BitVec.ofNat 2 (s.fresh % 3), opc := 0x01, len := 1, tag := BitVec.ofNat 16 x.nextTag, dst := 0, src := 0, label := 0,
    icls := 6, stat := 0, addr := BitVec.ofNat 56 a, aux := BitVec.ofNat 32 (a % 64 + 15), hoplim := 0, ext := 0, hdata := 0, body := [] }
  let s1 := s.draw.setSlice sl { x with
    nextTag := (x.nextTag + 1) % 65536
    fetch := x.fetch ++ [{ tag := x.nextTag, g := g, n := n, toks := [t] }] }
  ingress s1 (sliceCode sl) p

/-- A token by the rows of R226 down to its descriptor: kept for its key, cached, or read (R224). -/
def findDesc (s : State) (sl : Nat) (t : Token) : State :=
  let x := s.sliceOf sl
  match x.keptDesc t with
  | some d => decideDesc s sl t d
  | none =>
    match x.cache.find? (fun e => e.1 == t.g * 65536 + t.n) with
    | some e => decideDesc s sl t e.2
    | none => sendFetch s sl t.g t.n t

/-- The rows of R226 before the descriptor; a token of a graph under purge waits for the purge (R241). -/
def decideToken (s : State) (sl : Nat) (t : Token) : State :=
  let u := uDsp sl
  if !s.flag u F.dspCtrlEn then answerToken s sl t .busy
  else if homeSlice t.n t.c ≠ sl then
    answerToken ((s.countSat u F.dspMisdirCntCount).setFld u F.dspStatusMisdir 1) sl t .decode
  else if !s.flag (uDsp 0) F.dspGCtrlEn t.g then answerToken s sl t .decode
  else if !bitOf (s.fld (uDsp 0) F.dspGCtrlIclsOk t.g) t.req.icls.toNat then answerToken s sl t .prot
  else if s.dsp.purging.contains t.g then
    let x := s.sliceOf sl
    s.setSlice sl { x with purgeWait := x.purgeWait ++ [t] }
  else if s.fld (uDsp 0) F.dspGCtrlNodes t.g ≤ t.n then answerToken s sl t .decode
  else findDesc s sl t

/-- A token at its slice: it is decided, or stands behind an earlier one whose descriptor is being read, since the slice answers in arrival
order (R226). -/
def arriveToken (s : State) (sl : Nat) (t : Token) : State :=
  let x := s.sliceOf sl
  if x.fetch.isEmpty && x.line.isEmpty then decideToken s sl t else s.setSlice sl { x with line := x.line ++ [t] }

/-- The tokens that stood behind one, decided in order until one waits for its own descriptor (R226). -/
def advanceLine (sl : Nat) : Nat → State → State
  | 0, s => s
  | k + 1, s =>
    let x := s.sliceOf sl
    match x.line with
    | [] => s
    | t :: r => if x.fetch.isEmpty then advanceLine sl k (decideToken (s.setSlice sl { x with line := r }) sl t) else s

/-- A token of ADDR, AUX and value fields (R225). -/
def tokenOf (addr aux : Nat) (value : Word64) (p : Packet) : Token :=
  { g := bitsOf addr 55 48, n := bitsOf addr 47 32, c := bitsOf addr 31 8, op := bitsOf addr 2 0, value := value,
    delay := bitsOf aux 31 8, nb := bitOf aux 7, req := p }

/-- DOPND (R225-R231): a token at a slice; `lost` where the held operands of its key are found to fail their code. -/
def execDopnd (p : Packet) (lost : Bool) (s : State) : Out :=
  match packetSlice p with
  | none => .next s
  | some sl =>
    if p.op ≠ opDopnd ∨ !s.arrived p then .next s
    else
      let t := tokenOf p.addr.toNat p.aux.toNat p.ext p
      let s1 := s.takeReq p
      .next (arriveToken (if lost then loseKey s1 t.g t.n t.c else s1) sl t)

/-- The slice of an access to a slice's CSR space, with its offset. -/
def sliceSpace (p : Packet) : Option (Nat × Nat) :=
  match mapAddr p.a48 with
  | .csr u off => if unitKind u = .dsp then some (u - uDsp 0, off) else none
  | _ => none

/-- The token record of a payload (R227). -/
def tokenRecord (p : Packet) : Token :=
  let bs := p.payload
  tokenOf (leBytes (bs.take 7)) (leBytes ((bs.drop 8).take 4)) (BitVec.ofNat 64 (leBytes ((bs.drop 16).take 8))) p

/-- A request to a slice's token window (R227). -/
def tokenWindow (s : State) (sl : Nat) (p : Packet) (lost : Bool) : State :=
  if p.op = opWrite ∧ p.len = 1 ∧ p.fullEnables then
    let t := tokenRecord p
    let s1 := s.takeReq p
    arriveToken (if lost then loseKey s1 t.g t.n t.c else s1) sl t
  else s.reply p .decode

/-- TOKEN_WINDOW_WRITE (R227). -/
def execTokenWindowWrite (p : Packet) (lost : Bool) (s : State) : Out :=
  match sliceSpace p with
  | some (sl, off) =>
    if 0x600000 ≤ off ∧ off < 0x610000 ∧ s.arrived p then .next (tokenWindow s sl p lost) else .next s
  | none => .next s

/-- A descriptor of 16 bytes, where it is valid (R223). -/
def descOf (v : Nat) : Option Desc :=
  let a := bitsOf v 3 0
  if bitOf v 13 && decide (1 ≤ a) && decide (a ≤ 8) then some ⟨a, bitsOf v 11 4, BitVec.ofNat 64 (v / 2 ^ 64)⟩ else none

/-- A fetched descriptor used for the token that waits for it (R224, R226). -/
def useDesc (s : State) (sl : Nat) (t : Token) (d : Desc) (lost : Bool) : State :=
  let s1 := if lost then loseKey s t.g t.n t.c else s
  decideDesc s1 sl t (((s1.sliceOf sl).keptDesc t).getD d)

/-- DESCRIPTOR_FETCH (R224, R226, R231): the oldest descriptor response delivered to a slice is used for the token that waits for it, and the
tokens behind it are decided; `lost` where held operands of its key are found to fail their code. -/
def execDescriptorFetch (sl : Fin 8) (s : State) (lost : Bool := false) : Out :=
  let k := sliceCode sl
  let np := s.netPort k
  match np.delivered with
  | [] => .next s
  | r :: rest =>
    let s1 := s.setNetPort k { np with delivered := rest }
    let x := s1.sliceOf sl
    match x.fetch.find? (fun f => f.tag == r.tag.toNat) with
    | none => .next s1
    | some f =>
      let off := r.a48 % 64
      let v := leBytes ((r.payload.drop off).take 16)
      let d := if r.stat = 0 then descOf v else none
      let y := { x with
        fetch := x.fetch.erase f
        cache := match d with
          | some e => if f.stale then x.cache else ((f.g * 65536 + f.n, e) :: x.cache).take 1024
          | none => x.cache }
      let s2 := s1.setSlice sl y
      match d with
      | some e => .next (advanceLine sl x.line.length (f.toks.foldl (fun t k => useDesc t sl k e lost) s2))
      | none =>
        .next (advanceLine sl x.line.length (f.toks.foldl (fun t k => answerToken t sl k .decode)
          (s2.setFld (uDsp sl) F.dspStatusDescerr 1)))

/-- HELD_TOKEN_MATCH (R229-R231): the oldest held token of a kind, completing or not, obtains a slot and is decided again; `lost` where held
operands of its key are found to fail their code. -/
def execHeldTokenMatch (sl : Fin 8) (completing : Bool) (s : State) (lost : Bool := false) : Out :=
  let x := s.sliceOf sl
  match x.hold.find? (fun h => heldCompletes x h == completing) with
  | none => .next s
  | some h =>
    if 0 < s.freeGen sl ∨ (completing ∧ 0 < s.freeRsv sl) then
      .next (matchHeld (if lost then loseKey s h.tok.g h.tok.n h.tok.c else s) sl h)
    else .next s

/-- TOKEN_HOLD_TIMEOUT (R230): a held token has not been matched within DSP_HOLD; one for which a slot has come free is matched. -/
def execTokenHoldTimeout (sl : Fin 8) (i : Fin 64) (s : State) : Out :=
  match (s.sliceOf sl).hold[i.val]? with
  | none => .next s
  | some h =>
    let s1 := settleHeld sl (s.sliceOf sl).hold.length s
    let x := s1.sliceOf sl
    if x.hold.contains h then .next (answerBusySlot (s1.setSlice sl { x with hold := x.hold.erase h }) sl h.tok) else .next s1

/-- Whether a delayed token is due (R232). -/
def isDue (now : Nat) (d : Delayed) : Bool := decide ((now + 2 ^ 48 - d.due) % 2 ^ 48 < 2 ^ 47)

/-- TICK (R232, R233, R541): DSP_NOW advances in every mode except DORMANT, TICK pins go high for a bank clock, and a gated slice with a token now due is woken. -/
def execTick (s : State) : Out :=
  if s.mode.dormant then .next s
  else
    let v := (s.now + 1) % 2 ^ 48
    let s0 : State := { s with pin := { s.pin with tick := true } }
    let s1 := (s0.setFld (uDsp 0) F.dspNowLoNow v).setFld (uDsp 0) F.dspNowHiNow (v / 2 ^ 32)
    .next ((List.range 8).foldl (fun t sl => if (t.sliceOf sl).delay.any (isDue v) then t.wakeDom (128 + sl) else t) s1)

/-- DELAYED_TOKEN_RELEASE (R231-R233): the first due token leaves the delay list and is matched in its own slot; `lost` where its slot, or
another of its key, is found to fail its code. -/
def execDelayedTokenRelease (sl : Fin 8) (lost : Bool) (s : State) : Out :=
  let x := s.sliceOf sl
  match x.delay with
  | [] => .next s
  | d :: ds =>
    if !isDue s.now d || s.dom (128 + sl) != domRun then .next s
    else if lost then .next (loseKey s d.tok.g d.tok.n d.tok.c)
    else
      let s1 := s.setSlice sl { x with delay := ds }
      let s3 := if ticksLeft s.now d.due < -1 then s1.countSat (uDsp sl) F.dspLateCntCount else s1
      if (((s3.sliceOf sl).find d.tok.g d.tok.n d.tok.c).map (fun m => (SMap.find m.ops d.tok.op).isSome)).getD false then
        .next ((countDup s3 sl).freeSlots sl 1 0)
      else .next (putOperand s3 sl d.tok d.desc 1 0)

/-! ### Takes (R234-R240) -/

/-- The lowest-numbered local list named by a mask that holds a firing, with its oldest firing (R234). -/
def bestFiring (x : Slice) (mask : BitVec 32) : Option (Nat × Firing) :=
  (List.range 32).findSome? (fun l =>
    if mask.getLsbD l then
      (match SMap.get [] x.lists l with
      | f :: _ => some (l, f)
      | [] => none)
    else none)

/-- The firing that a take would receive found to hold a double-bit error: its key is lost (R231). -/
def loseBest (s : State) (sl : Nat) (mask : BitVec 32) : State :=
  match bestFiring (s.sliceOf sl) mask with
  | some (_, f) => loseKey s f.key.g f.key.n f.key.c
  | none => s

/-- A take served, left to wait, or answered with no work (R234). -/
def serveTake (s : State) (sl : Nat) (mask : BitVec 32) (wait : Nat) (req : Packet) : State :=
  let x := s.sliceOf sl
  match bestFiring x mask with
  | some (l, f) =>
    deliverFiring (s.setSlice sl { x with lists := SMap.store [] x.lists l ((SMap.get [] x.lists l).drop 1) }) sl req f
  | none =>
    if wait = 0 ∨ 256 ≤ x.waits.length then answerTake s req none
    else s.setSlice sl { x with waits := x.waits ++ [⟨mask, req⟩] }

/-- A take whose first firing may be found to hold a double-bit error: that key is lost and the take is served with what is left (R231, R234). -/
def beginTake (s : State) (sl : Nat) (mask : BitVec 32) (wait : Nat) (req : Packet) (lost : Bool) : State :=
  serveTake (if lost then loseBest s sl mask else s) sl mask wait req

/-- DTAKE (R231, R234, R237); `lost` where the operands of the firing it meets first are found to fail their code. -/
def execDtake (p : Packet) (lost : Bool) (s : State) : Out :=
  match packetSlice p with
  | none => .next s
  | some sl =>
    if p.op ≠ opDtake ∨ !s.arrived p then .next s
    else if !s.flag (uDsp sl) F.dspCtrlEn then .next (s.reply p .busy)
    else if p.aux = 0 then .next (s.reply p .decode)
    else .next (beginTake (s.takeReq p) sl p.aux (p.ext.toNat % 2 ^ 32) p lost)

/-- A READ of a take window (R238). -/
def takeWindow (s : State) (sl off : Nat) (p : Packet) (lost : Bool) : State :=
  let prof := (off - 0x800000) / 0x80
  if p.op ≠ opRead ∨ p.len ≠ 2 ∨ p.a48 % 128 ≠ 0 ∨ p.last ≠ 63 ∨ 64 ≤ prof then s.reply p .decode
  else
    let s1 := s.takeReq p
    let mask := BitVec.ofNat 32 (s.fld (uDsp sl) F.dspTpMaskMask prof)
    if p.icls.toNat = iclsDebug ∨ !s.flag (uDsp sl) F.dspCtrlEn ∨ mask = 0 then answerTake s1 p none
    else beginTake s1 sl mask (s.fld (uDsp sl) F.dspTpWaitWait prof) p lost

/-- TAKE_WINDOW_READ (R238). -/
def execTakeWindowRead (p : Packet) (lost : Bool) (s : State) : Out :=
  match sliceSpace p with
  | some (sl, off) => if 0x800000 ≤ off ∧ s.arrived p then .next (takeWindow s sl off p lost) else .next s
  | none => .next s

/-- TAKE_WAIT_EXPIRE (R234, R235): a waiting take reaches WAIT and is answered with no work. -/
def execTakeWaitExpire (sl : Fin 8) (i : Fin 256) (s : State) : Out :=
  let x := s.sliceOf sl
  match x.waits[i.val]? with
  | none => .next s
  | some w => .next (answerTake (s.setSlice sl { x with waits := x.waits.erase w }) w.req none)

/-- EXEC_TAKE (R240): the oldest take handshake of a region's execution port, of the profile named, sends a DTAKE of that profile; the rules give its PRI
no value. -/
def execExecTake (n : Fin 128) (prof : BitVec 3) (s : State) : Out :=
  let f := s.fpPort n
  match f.takeIn with
  | [] => .next s
  | x :: r =>
    if s.clk.halted || x != prof then .next s else
    let u := uDsp (n / 16)
    let p : Packet := {
      pri := BitVec.ofNat 2 (s.fresh % 3), opc := 0x09, len := 0, tag := prof.zeroExtend 16,
      dst := BitVec.ofNat 11 (sliceCode (s.fld u F.dspXpSliceSlice (n % 16) prof.toNat)), src := 0, label := 0, icls := 1, stat := 0, addr := 0,
      aux := BitVec.ofNat 32 (s.fld u F.dspXpMaskMask (n % 16) prof.toNat), hoplim := 0,
      ext := BitVec.ofNat 64 (s.fld u F.dspXpWaitWait (n % 16) prof.toNat), hdata := 0, body := [] }
    .next (absorbFp (ingress (s.draw.setFp n { f with takeIn := r }) (n * 16) p true) n)

/-! ### Purge and invalidation (R224, R241) -/

/-- BUSY of a graph: a purge or an invalidation is in progress (R244). -/
def setGraphBusy (s : State) (g : Nat) : State :=
  s.setFld (uDsp 0) F.dspGCtrlBusy (boolNat (s.dsp.purging.contains g || s.dsp.invaling.contains g)) g

/-- A graph's partial matches, delayed tokens and queued firings removed from a slice, their slots freed (R241). -/
def purgeSlice (g : Nat) (s : State) (sl : Nat) : State :=
  let x := s.sliceOf sl
  let gone := x.matching.filter (fun m => m.g == g)
  let delayed := x.delay.filter (fun d => d.tok.g == g)
  let fired : List Firing := (x.lists.flatMap (fun e => e.2) ++ x.ring).filter (fun f => f.key.g == g)
  let s1 := s.setSlice sl { x with
    matching := x.matching.filter (fun m => m.g != g)
    delay := x.delay.filter (fun d => d.tok.g != g)
    lists := x.lists.filterMap (fun (e : Nat × List Firing) =>
      let r := e.2.filter (fun f => f.key.g != g)
      if r = [] then none else some (e.1, r))
    ring := x.ring.filter (fun f => f.key.g != g) }
  let s2 := s1.freeSlots sl ((gone.map (·.gen)).sum + delayed.length) ((gone.map (·.rsv)).sum)
  fired.foldl (fun (t : State) f => t.freeSlots (homeSlice f.key.n f.key.c) f.key.gen f.key.rsv) s2

/-- PURGE written (R241). -/
def purgeGraph (s : State) (g : Nat) : State :=
  let s1 := (List.range 8).foldl (purgeSlice g) s
  setGraphBusy { s1 with dsp := { s1.dsp with purging := NSet.add s1.dsp.purging g } } g

/-- INVAL written (R224). -/
def invalGraph (s : State) (g : Nat) : State :=
  let s1 := (List.range 8).foldl (fun (t : State) sl =>
    let x := t.sliceOf sl
    t.setSlice sl { x with
      cache := x.cache.filter (fun e => e.1 / 65536 != g)
      fetch := x.fetch.map (fun f => if f.g = g then { f with stale := true } else f) }) s
  setGraphBusy { s1 with dsp := { s1.dsp with invaling := NSet.add s1.dsp.invaling g } } g

/-- PURGE (R241). -/
def execPurge (g : BitVec 8) (s : State) : Out := .next (purgeGraph s g.toNat)

/-- INVAL (R224). -/
def execInval (g : BitVec 8) (s : State) : Out := .next (invalGraph s g.toNat)

/-- PURGE_DONE (R241): every slice has finished; the graph's tokens that arrived meanwhile are decided in arrival order. -/
def execPurgeDone (g : BitVec 8) (s : State) : Out :=
  let gn := g.toNat
  if !s.dsp.purging.contains gn then .next s
  else
    let s1 := setGraphBusy { s with dsp := { s.dsp with purging := NSet.del s.dsp.purging gn } } gn
    .next ((List.range 8).foldl (fun (t : State) sl =>
      let x := t.sliceOf sl
      (x.purgeWait.filter (fun k => k.g == gn)).foldl (fun u k => arriveToken u sl k)
        (t.setSlice sl { x with purgeWait := x.purgeWait.filter (fun k => k.g != gn) })) s1)

/-- INVAL_DONE (R224): the invalidation has completed in every slice. -/
def execInvalDone (g : BitVec 8) (s : State) : Out :=
  let gn := g.toNat
  .next (if s.dsp.invaling.contains gn then setGraphBusy { s with dsp := { s.dsp with invaling := NSet.del s.dsp.invaling gn } } gn else s)

end Sys2Proof.Machine
end

