-- ==== Sys2Proof/Machine/Ddr.lean ====
section
/-! DEFINITION. The DDR5 controllers: address mapping, stored lines, line code, line buffer, queues, refresh, row disturbance, replays,
training and retraining windows (R348-R366). -/

namespace Sys2Proof.Machine

open Sys2Proof

/-! ### Address mapping (R350, R351) -/

/-- The channel-local address (R350). -/
def localAddr (a : Nat) : Nat := a / 2 ^ 15 * 4096 + a % 4096

/-- The device address of a channel-local address (R350). -/
def deviceAddr (c loc : Nat) : Nat :=
  let up := loc / 4096 * 2 ^ 15
  up + (c ^^^ dramChannel up) * 4096 + loc % 4096

/-- The channel of a line. -/
def lineChannel (line : Nat) : Nat := dramChannel (line * 64)

/-- The state of a controller beyond its registers. -/
def State.chan (s : State) (c : Nat) : DdrChan := SMap.get {} s.ddr.chan c

/-- The state of a controller replaced. -/
def State.setChan (s : State) (c : Nat) (h : DdrChan) : State :=
  { s with ddr := { s.ddr with chan := SMap.store {} s.ddr.chan c h } }

/-- Rank, bank (rank × 1,024 + subchannel × 512 + bank group × 16 + bank) and row of a line (R351). -/
def State.place (s : State) (line : Nat) : Nat × Nat × Nat :=
  let c := lineChannel line
  let u := uDdr c
  let v := localAddr (line * 64) / 64
  let sub := v % 2
  let v1 := v / 2 / 2 ^ (s.fld u F.ddrMapColw - 4)
  let bgw := s.fld u F.ddrMapBgw
  let bgf := v1 % 2 ^ bgw
  let v2 := v1 / 2 ^ bgw
  let ba := v2 % 2 ^ s.fld u F.ddrMapBaw
  let v3 := v2 / 2 ^ s.fld u F.ddrMapBaw
  let rk := v3 % 2 ^ s.fld u F.ddrMapRkw
  let row := v3 / 2 ^ s.fld u F.ddrMapRkw % 2 ^ s.fld u F.ddrMapRoww
  let bg := bgf ^^^ (row % 2 ^ bgw)
  (rk, rk * 1024 + sub * 512 + bg * 16 + ba, row)

/-- The bank of a line. -/
def State.bankOf (s : State) (line : Nat) : Nat := (s.place line).2.1

/-! ### Stored lines -/

/-- The AES input of block `j` of a line (R321). -/
def ctrInput (kid line j major minor : Nat) : Nat :=
  kid * 2 ^ 120 + line * 2 ^ 72 + j * 2 ^ 70 + major * 2 ^ 6 + minor

/-- The keystream of a line (R321, R326). -/
def lineStream (key : BitVec 256) (kid line major minor : Nat) : Line :=
  BitVec.ofNat 512 (leBytes ((List.range 4).flatMap (fun j => toBeBytes 16 (Crypto.aes key.toNat (ctrInput kid line j major minor)))))

/-- What a filling puts in a line. -/
def Fill.line (f : Fill) (line : Nat) : Line :=
  match f with
  | .zero => 0
  | .lost g => Config.lostLine g line
  | .scrambled kid key => lineStream key kid line 0 0

/-- The filling of the GiB and channel of a line. -/
def State.fillOf (s : State) (line : Nat) : Fill :=
  let c := lineChannel line
  match SMap.find s.ddr.fill (line / 2 ^ 24 * 8 + c) with
  | some f => f
  | none =>
    match SMap.get 0 s.ddr.losses c with
    | 0 => .zero
    | n => .lost n

/-- The contents of a line in the DRAM devices. -/
def State.dramLine (s : State) (line : Nat) : Line := SMap.get 0 s.ddr.mem line ^^^ (s.fillOf line).line line

/-- The contents of a line in the DRAM devices replaced, with fresh check bytes. -/
def State.setDramLine (s : State) (line : Nat) (v : Line) : State :=
  { s with ddr := { s.ddr with
    mem := SMap.store 0 s.ddr.mem line (v ^^^ (s.fillOf line).line line)
    err := SMap.erase s.ddr.err line } }

/-- Bits upset in a stored burst. -/
def State.upsetBurst (s : State) (key : Nat) (x : BitVec 640) : State :=
  if x = 0 then s else { s with ddr := { s.ddr with err := SMap.store 0 s.ddr.err key (SMap.get 0 s.ddr.err key ^^^ x) } }

/-- A change of a list of changes, for one line or tag line. -/
def changeOf {n w : Nat} (l : List (BitVec n × BitVec w)) (line : Nat) : BitVec w :=
  ((l.find? (fun x => x.1.toNat == line)).map (·.2)).getD 0

/-- A change of a list of changes, for the tree node of a level. -/
def levelChange {w : Nat} (l : List (Fin 5 × BitVec w)) (level : Nat) : BitVec w :=
  ((l.find? (fun x => x.1.val == level)).map (·.2)).getD 0

/-- Whether a line stands in a list. -/
def hasLine (l : List (BitVec 42)) (line : Nat) : Bool := l.any (fun x => x.toNat == line)

/-- The contents of a channel lost: CONTENT_LOST, every line unknown (R362, R453). -/
def State.loseContents (s : State) (c : Nat) : State :=
  let s1 := s.setFld (uDdr c) F.ddrStatusContentLost 1
  { s1 with ddr := { s1.ddr with
      mem := s1.ddr.mem.filter (fun x => lineChannel x.1 != c)
      err := s1.ddr.err.filter (fun x => decide (2 ^ 42 ≤ x.1) || lineChannel x.1 != c)
      fill := s1.ddr.fill.filter (fun x => x.1 % 8 != c)
      losses := SMap.put s1.ddr.losses c (SMap.get 0 s1.ddr.losses c + 1) } }

/-! ### The line code (R352, R353) -/

/-- What the line code makes of an error (R352): none, one it corrects, one it detects, or one beyond both guarantees. -/
inductive CodeVerdict where
  | clean | corrected | detected | beyond
deriving DecidableEq, Repr

/-- The 4-bit symbols of a burst that an error touches: beat × 10 + group of four DQ. -/
def symbolsHit (x : BitVec 640) : List Nat := (List.range 160).filter (fun i => bitsOf x.toNat (4 * i + 3) (4 * i) != 0)

/-- The guarantees of the code (R352): any error in one x4 device or in at most 8 symbols is corrected, any in two x4 devices or in one x8 or
x16 device is detected. -/
def judgeError (devw : Nat) (x : BitVec 640) : CodeVerdict :=
  let hit := symbolsHit x
  let groups := (hit.map (· % 10)).dedup
  if hit.isEmpty then .clean
  else if hit.length ≤ 8 ∨ groups.length ≤ 1 then .corrected
  else if groups.length ≤ 2 ∨ (devw = 2 ∧ (groups.map (· / 4)).dedup.length ≤ 1) then .detected
  else .beyond

/-- The data bits of a burst: data bit b on beat b div 32, DQ b mod 32, the check bits on DQ 32-39 (log entry 139). -/
def burstData (x : BitVec 640) : Line :=
  BitVec.ofNat 512 ((List.range 16).map (fun i => bitsOf x.toNat (40 * i + 31) (40 * i) * 2 ^ (32 * i))).sum

/-- A line of free values. -/
def State.freshLine (s : State) : Line :=
  BitVec.ofNat 512 ((List.range 8).foldl (fun v i => v * 2 ^ 64 + (Config.freeWord (s.free + i)).toNat) 0)

/-- A corrected error counted (R353). -/
def countCe (s : State) (c : Nat) : State := (s.setFld (uDdr c) F.ddrStatusCe 1).countSat (uDdr c) F.ddrCeCntCount

/-- An uncorrectable error reported (R353): class 0x04, counted, the first address held. -/
def reportUe (s : State) (c line : Nat) : State :=
  let u := uDdr c
  let s1 := ((s.raise u 0x04 line).setFld u F.ddrStatusUe 1).countSat u F.ddrUeCntCount
  if s1.flag u F.ddrErrAddrHiValid then s1
  else ((s1.setFld u F.ddrErrAddrLoAddr (line * 64)).setFld u F.ddrErrAddrHiAddr (line * 64 / 2 ^ 32)).setFld u F.ddrErrAddrHiValid 1

/-- A burst as it comes through the line code: the state, the data, whether it is uncorrectable, whether it was corrected. -/
structure BurstRead where
  st : State
  data : Line
  ue : Bool
  ce : Bool

/-- A burst read (R352, R353): `key` names its stored upsets, `line` the address that is reported, `v` what was stored. An error beyond the
guarantees is reported, miscorrected or passed, by a free value. -/
def readBurst (s : State) (c key line : Nat) (v : Line) (bus : BitVec 640) : BurstRead :=
  let x := SMap.get 0 s.ddr.err key ^^^ bus
  match judgeError (s.fld (uDdr c) F.ddrCapDevw) x with
  | .clean => ⟨s, v, false, false⟩
  | .corrected => ⟨countCe s c, v, false, true⟩
  | .detected => ⟨reportUe s c line, v ^^^ burstData x, true, false⟩
  | .beyond =>
    match s.fresh % 3 with
    | 0 => ⟨reportUe s.draw c line, v ^^^ burstData x, true, false⟩
    | 1 => ⟨countCe { s with free := s.free + 9 } c, s.draw.freshLine, false, true⟩
    | _ => ⟨s.draw, v ^^^ burstData x, false, false⟩

/-! ### States of a channel, commands and activations (R360, R361) -/

/-- ACTIVE (R366). -/
def ddrActive : Nat := 1
/-- HALTED. -/
def ddrHalted : Nat := 2
/-- DISABLED. -/
def ddrDisabled : Nat := 3

/-- The state of a channel. -/
def State.ddrStateOf (s : State) (c : Nat) : Nat := s.fld (uDdr c) F.ddrStatusState

/-- Whether a channel's clock domain runs; while it is gated every rank is in self-refresh (R365). -/
def State.chanAwake (s : State) (c : Nat) : Bool := s.clocked (136 + c)

/-- A command put in the retry buffer, which keeps the last 64 (R361). -/
def DdrChan.issue (h : DdrChan) (k : DramCmd) : DdrChan :=
  { h with retry := (h.retry ++ [k]).drop ((h.retry.length + 1) - 64) }

/-- The source with the most activations of a row, the first of equals. -/
def leadingSource (srcs : SMap Nat) : Nat :=
  (srcs.foldl (fun (a : Nat × Nat) x => if a.2 < x.2 then x else a) (0, 0)).1

/-- One activation counted in a tracker of 16 entries; a row not held replaces the entry with the fewest activations. -/
def trackRow (t : List ActRow) (row src : Nat) : List ActRow :=
  if t.any (fun a => a.row == row) then
    t.map (fun a => if a.row = row then { a with count := a.count + 1, srcs := SMap.put a.srcs src (SMap.get 0 a.srcs src + 1) } else a)
  else
    let kept := if t.length < 16 then t else
      (match t.find? (fun a => t.all (fun b => decide (a.count ≤ b.count))) with
       | some a => t.erase a
       | none => t)
    kept ++ [⟨row, 1, [(src, 1)]⟩]

/-- A row opened for a request: another row of the bank is closed first, and the activation is tracked while RD_EN = 1. -/
def activate (s : State) (c line src : Nat) : State :=
  let bank := s.bankOf line
  let row := (s.place line).2.2
  let h := s.chan c
  if SMap.find h.openRow bank = some row then s
  else
    let h1 : DdrChan := { h with openRow := SMap.put h.openRow bank row }
    let h2 : DdrChan := if s.flag (uDdr c) F.ddrCtrlRdEn then
      { h1 with tracker := SMap.put h1.tracker bank (trackRow (SMap.get [] h1.tracker bank) row src) } else h1
    s.setChan c (h2.issue (.act bank row))

/-! ### Line buffer and write queue (R354, R355) -/

/-- The set of a line in its line-buffer slice, of 2,048 (R354, log entry 140). -/
def lbSet (line : Nat) : Nat := localAddr (line * 64) / 64 % 2048

/-- A line put first in a slice; of its set the 16 latest are kept (R354). -/
def lbInsert (l : List (Nat × Line)) (line : Nat) (v : Line) : List (Nat × Line) :=
  let others := l.filter (fun x => x.1 != line)
  let mates := ((others.filter (fun x => lbSet x.1 == lbSet line)).take 15).map (·.1)
  (line, v) :: others.filter (fun x => lbSet x.1 != lbSet line || mates.contains x.1)

/-- A line put into the line buffer as the latest, while LB_EN = 1; else the buffer keeps nothing (R354). -/
def State.lbPut (s : State) (line : Nat) (v : Line) : State :=
  let c := lineChannel line
  let h := s.chan c
  s.setChan c { h with lb := if s.flag (uDdr c) F.ddrCtrlLbEn then lbInsert h.lb line v else [] }

/-- A line invalidated in the line buffer. -/
def State.lbDrop (s : State) (line : Nat) : State :=
  let c := lineChannel line
  let h := s.chan c
  s.setChan c { h with lb := h.lb.filter (fun x => x.1 != line) }

/-- A line as the line buffer holds it, while LB_EN = 1. -/
def State.lbLine (s : State) (line : Nat) : Option Line :=
  let c := lineChannel line
  if s.flag (uDdr c) F.ddrCtrlLbEn then ((s.chan c).lb.find? (fun x => x.1 == line)).map (·.2) else none

/-- Bit errors in the line buffer met at a line: a single one is corrected and counted, a double one invalidates the entry and raises class
0x03 (R36, R354). -/
def State.lbCheck (s : State) (line : Nat) (e : MemEnv) : State :=
  let u := uDdr (lineChannel line)
  if (s.lbLine line).isNone then s
  else if hasLine e.lbDouble line then (s.lbDrop line).raise u 0x03 line
  else if hasLine e.lbSingle line then
    { s with sram := { s.sram with corrected := SMap.modify 0 s.sram.corrected u (· + 1) } }
  else s

/-- The queued write of a line. -/
def State.queued (s : State) (line : Nat) : Option QWrite := (s.chan (lineChannel line)).wq.find? (fun w => w.line == line)

/-- Corrected lines that are to be written back join the write queue as it has room (R353, R355). -/
def State.takeBacks (s : State) (c : Nat) : State :=
  let h := s.chan c
  let room := 64 - h.wq.length
  s.setChan c { h with
    wq := h.wq ++ (h.backs.take room).map (fun x => ⟨x.1, x.2, 0, 0⟩)
    backs := h.backs.drop room }

/-- A queued write that reaches the DRAM. -/
def State.writeOut (s : State) (c : Nat) (w : QWrite) : State :=
  let h := s.chan c
  ((s.setChan c { h with wq := h.wq.erase w }).setDramLine w.line w.data).takeBacks c

/-- A write accepted (R354, R355): it replaces the data of a queued write to the line, or joins the queue. The caller has seen to room. -/
def State.ddrWrite (s : State) (line : Nat) (v : Line) (pri src : Nat) : State :=
  let c := lineChannel line
  let s1 := s.lbPut line v
  let h := s1.chan c
  s1.setChan c { h with
    backs := h.backs.filter (fun x => x.1 != line)
    wq := if h.wq.any (fun w => w.line == line) then h.wq.map (fun w => if w.line = line then { w with data := v } else w)
      else h.wq ++ [⟨line, v, pri, src⟩] }

/-- A corrected line to be written back, unless a write to it is queued already or WB_CE = 0 (R353). -/
def State.writeBack (s : State) (line : Nat) (v : Line) : State :=
  let c := lineChannel line
  let h := s.chan c
  if !s.flag (uDdr c) F.ddrCtrlWbCe || (s.queued line).isSome || h.backs.any (fun x => x.1 == line) then s
  else (s.setChan c { h with backs := h.backs ++ [(line, v)] }).takeBacks c

/-- How the data of a line is fetched: its read command has been issued, it is issued now for a source, or it is a refetch for a source. -/
inductive ReadHow where
  | issued | now (src : Nat) | again (src : Nat)
deriving DecidableEq, Repr

/-- The read command of a line issued in this operation (R360, R361). -/
def readNow (s : State) (line src : Nat) : State :=
  let c := lineChannel line
  let t := activate s c line src
  t.setChan c ((t.chan c).issue (.read line))

/-- A line as read from the DRAM devices through the line code (R352, R353): the data, and whether it is uncorrectable. -/
def State.readDevice (s : State) (line : Nat) (e : MemEnv) : State × Line × Bool :=
  let c := lineChannel line
  let x := changeOf e.tamper line
  let s1 : State := if x = 0 then s else { s with ddr := { s.ddr with mem := SMap.store 0 s.ddr.mem line (SMap.get 0 s.ddr.mem line ^^^ x) } }
  let s2 := s1.upsetBurst line (changeOf e.upset line)
  let r := readBurst s2 c line line (s2.dramLine line) (changeOf e.bus line)
  if r.ue then (r.st, r.data, true)
  else ((if r.ce then r.st.writeBack line r.data else r.st).lbPut line r.data, r.data, false)

/-- A line read (R353-R355): from the line buffer, the newest queued write, or the DRAM. A refetch bypasses the buffer and follows
a queued write to the DRAM. -/
def State.ddrRead (s : State) (line : Nat) (e : MemEnv) (how : ReadHow) : State × Line × Bool :=
  match how with
  | .again src =>
    let s1 := s.lbDrop line
    let s2 := match s1.queued line with
      | some w => (activate s1 (lineChannel line) line w.src).writeOut (lineChannel line) w
      | none => s1
    (readNow s2 line src).readDevice line e
  | how =>
    let s1 := s.lbCheck line e
    match s1.lbLine line with
    | some v => (s1.lbPut line v, v, false)
    | none =>
      match s1.queued line with
      | some w => (s1, w.data, false)
      | none => (match how with
        | .now src => readNow s1 line src
        | _ => s1).readDevice line e

/-! ### Counters of FULL lines as the engine has them (R323, R324) -/

/-- The bytes of a channel a node covers (R324); a root covers one level-4 node. -/
def nodeBytes (level : Nat) : Nat := 4096 * 8 ^ min level 4

/-- The index of the node of a level over a line, among those of its channel. -/
def nodeIdx (line level : Nat) : Nat := localAddr (line * 64) / nodeBytes level

/-- The key of a node: engine, level, index. -/
def nodeKey (eng level idx : Nat) : Nat := eng * 2 ^ 40 + level * 2 ^ 32 + idx

/-- The key of the counter block of a line. -/
def blockKey (line : Nat) : Nat := nodeKey (lineChannel line) 0 (nodeIdx line 0)

/-- A node as INIT writes it (R339): a counter block of zero lines with MAJOR 1, a tree node with counters 0. -/
def blankBody (key : Nat) : BitVec 448 := if key / 2 ^ 32 % 256 = 0 then 1 else 0

/-- Bits [447:0] of a node: as the counter cache holds them, or as DRAM does. -/
def State.nodeBody (s : State) (key : Nat) : BitVec 448 :=
  match SMap.find s.ipe.cache key with
  | some x => x.node.body
  | none => ((SMap.find s.ipe.node key).map (·.body)).getD (blankBody key)

/-- MINOR of a line in a counter block (R323). -/
def minorIn (b : BitVec 448) (line : Nat) : Nat := bitsOf b.toNat (64 + 6 * (line % 64) + 5) (64 + 6 * (line % 64))
/-- MAJOR of a counter block (R323). -/
def majorIn (b : BitVec 448) : Nat := b.toNat % 2 ^ 64

/-- The minor counter of a line. -/
def State.minor (s : State) (line : Nat) : Nat := minorIn (s.nodeBody (blockKey line)) line

/-! ### Requests in hand (R320, R355) -/

/-- The lines of a request. -/
def reqLines (p : Packet) : List Nat :=
  (List.range (if p.op = opAtomic then 1 else p.len.toNat)).map (fun i => p.a48 / 64 + i)

/-- The enabled bits of unit `i` of a WRITE (R172). -/
def enableMask (p : Packet) (i : Nat) : Line :=
  let lo := if i = 0 then p.a48 % 64 else 0
  let hi := if i + 1 = p.len.toNat then p.last else 63
  BitVec.ofNat 512 (2 ^ (8 * (hi + 1)) - 2 ^ (8 * lo))

/-- Whether a request needs the old contents of its line `i`. -/
def needsOld (p : Packet) (i : Nat) : Bool := p.op == opAtomic || enableMask p i != BitVec.allOnes 512

/-- The lines whose stored data a request reads: those of a READ, those a WRITE or ATOMIC merges into; of a FULL KID only lines with a
counter (R323, R333, R352). -/
def State.jobLines (s : State) (j : Job) : List Nat :=
  let p := j.req
  ((List.range (reqLines p).length).filter (fun i => p.op == opRead || needsOld p i)).map (fun i => p.a48 / 64 + i) |>.filter (fun l =>
    j.verdict != .full || (decide (1 ≤ s.minor l) && decide (s.minor l ≤ 62)))

/-- The lines of a request whose read command is still to be issued: neither the line buffer nor a queued write answers them. -/
def State.missing (s : State) (j : Job) : List Nat :=
  (s.jobLines j).filter (fun l => !j.got.contains l && (s.lbLine l).isNone && (s.queued l).isNone)

/-- The reads of a channel whose command is still to be issued, in arrival order, each with its request (R355). -/
def State.readQueue (s : State) (c : Nat) : List (Job × Nat) := (s.chan c).jobs.flatMap (fun j => (s.missing j).map (fun l => (j, l)))

/-- Whether a request waits for a bank that the test holds of. -/
def State.bankBusy (s : State) (c : Nat) (hit : Nat → Bool) : Bool :=
  (s.readQueue c).any (fun x => hit (s.bankOf x.2)) || (s.chan c).wq.any (fun w => hit (s.bankOf w.line))

/-- The data of a line's read command is on its way to the first request of a channel that still needs it. -/
def markGot (line : Nat) : List Job → List Job
  | [] => []
  | j :: r => if (reqLines j.req).contains line && !j.got.contains line then { j with got := j.got ++ [line] } :: r else j :: markGot line r

/-- Requests that a channel can no longer serve answered BUSY: those in hand and those that wait for a verification (R362). -/
def dropJobs (s : State) (c : Nat) : State :=
  let h := s.chan c
  let held := s.ipe.verif.filter (fun v => !v.spec && dramChannel v.req.a48 == c)
  let s1 := s.setChan c { h with jobs := [] }
  let s2 : State := { s1 with ipe := { s1.ipe with verif := s1.ipe.verif.filter (fun v => v.spec || dramChannel v.req.a48 != c) } }
  (h.jobs.map (·.req) ++ held.map (·.req)).foldl (fun t p => t.sendRsp (p.respond .busy)) s2

/-! ### Modes of the scheduler (R356) -/

/-- DRAIN_MODE (R356): at HWM entries or more, an oldest entry past WR_AGE (`aged`), or an empty read queue with writes waiting. -/
def execDrainMode (c : Fin 8) (aged : Bool) (s : State) : Out :=
  let h := s.chan c
  let full := decide (s.fld (uDdr c) F.ddrSchedHwm ≤ h.wq.length) || (aged && !h.wq.isEmpty)
  let idle := (s.readQueue c).isEmpty && !h.wq.isEmpty
  if !h.drain && (full || idle) then .next (s.setChan c { h with drain := true, drainEmpty := !full }) else .next s

/-- READ_MODE (R356): at LWM entries or fewer with none past the age limit; or, where drain was entered only because the read queue was
empty, when a read has arrived. -/
def execReadMode (c : Fin 8) (aged : Bool) (s : State) : Out :=
  let h := s.chan c
  if h.drain && ((decide (h.wq.length ≤ s.fld (uDdr c) F.ddrSchedLwm) && !aged) || (h.drainEmpty && !(s.readQueue c).isEmpty)) then
    .next (s.setChan c { h with drain := false, drainEmpty := false })
  else .next s

/-! ### Refresh (R359) -/

/-- Whether a bank is one of those a refresh of a rank takes: its bank index with SB = 1, every bank with SB = 0. -/
def State.refreshes (s : State) (c rank bank : Nat) (b : Nat) : Bool :=
  b / 1024 == rank && (!s.flag (uDdr c) F.ddrRefSb || b % 16 == bank % 16)

/-- A refresh issued: the rows of its banks are closed and the debt falls by one. -/
def refreshRank (s : State) (c rank bank : Nat) : State :=
  let h := s.chan c
  s.setChan c ({ h with
    openRow := h.openRow.filter (fun x => !s.refreshes c rank bank x.1)
    debt := SMap.store 0 h.debt rank (SMap.get 0 h.debt rank - 1) }.issue (.refresh rank bank))

/-- A forced refresh, counted (R359). -/
def forcedRefresh (s : State) (c rank bank : Nat) : State :=
  ((refreshRank s c rank bank).setFld (uDdr c) F.ddrStatusForcedRef 1).countSat (uDdr c) F.ddrFrefCntCount

/-- A bank index of a rank with no queued request; with SB = 0 the whole rank (R359). -/
def idleBank (s : State) (c rank : Nat) : Option Nat :=
  ((List.range (2 ^ s.fld (uDdr c) F.ddrMapBaw)).find? (fun b => !s.bankBusy c (s.refreshes c rank b)))

/-- A refresh forced on a rank: with SB = 1 of a bank index with no queued request or, where there is none, one that a free value chooses
(R359). -/
def forceRefresh (s : State) (c rank : Nat) : State :=
  match idleBank s c rank with
  | some b => forcedRefresh s c rank b
  | none => forcedRefresh s.draw c rank (s.fresh % 2 ^ s.fld (uDdr c) F.ddrMapBaw)

/-- REFRESH_DEBT (R359, R365): a tREFI adds one unit of debt to a rank; at MAX_DEBT the refresh is forced; during an alert it waits for ALERT_CLEAR (R361). A gated channel
refreshes itself. -/
def execRefreshDebt (c : Fin 8) (rank : Fin 4) (s : State) : Out :=
  let h := s.chan c
  if s.ddrStateOf c ≠ ddrActive ∨ !s.chanAwake c then .next s
  else
    let d := SMap.get 0 h.debt rank + 1
    let s1 := s.setChan c { h with debt := SMap.store 0 h.debt rank d }
    .next (if s1.fld (uDdr c) F.ddrRefMaxDebt ≤ d ∧ !h.alert then forceRefresh s1 c rank else s1)

/-- REFRESH (R359, R361, R365): below MAX_DEBT a refresh goes only to banks no request waits for, and none is issued during an alert or a
replay; at MAX_DEBT it is forced. -/
def execRefresh (c : Fin 8) (rank : Fin 4) (bank : BitVec 10) (s : State) : Out :=
  let d := SMap.get 0 (s.chan c).debt rank
  if s.ddrStateOf c ≠ ddrActive ∨ !s.chanAwake c ∨ d = 0 ∨ (s.chan c).alert then .next s
  else if s.fld (uDdr c) F.ddrRefMaxDebt ≤ d then .next (forcedRefresh s c rank bank.toNat)
  else if (s.chan c).replaying ∨ s.bankBusy c (s.refreshes c rank bank.toNat) then .next s
  else .next (refreshRank s c rank bank.toNat)

/-- Self-refresh on entry to a gated domain: debts are cleared and every row is closed (R365). -/
def selfRefresh (s : State) (c : Nat) : State :=
  let h := s.chan c
  s.setChan c { h with debt := [], openRow := [] }

/-! ### Row disturbance (R360) -/

/-- Whether a source's requests to open a row in a bank are throttled (R360). -/
def State.throttled (s : State) (c bank src : Nat) : Bool :=
  (List.range 16).any (fun i => s.flag (uDdr c) F.ddrThrValid i && s.fld (uDdr c) F.ddrThrSrc i == src &&
    SMap.get 0 (s.chan c).thrBank i == bank)

/-- THROTTLING shows whether an entry is valid. -/
def showThrottling (s : State) (c : Nat) : State :=
  s.setFld (uDdr c) F.ddrStatusThrottling (boolNat ((List.range 16).any (fun i => s.flag (uDdr c) F.ddrThrValid i)))

/-- The throttle entry a new throttle takes: the source's own for the bank, a free one, or the one with the least time left (R360). -/
def throttleSlot (s : State) (c bank src : Nat) : Nat :=
  let u := uDdr c
  match (List.range 16).find? (fun i => s.flag u F.ddrThrValid i && s.fld u F.ddrThrSrc i == src && SMap.get 0 (s.chan c).thrBank i == bank) with
  | some i => i
  | none =>
    match (List.range 16).find? (fun i => !s.flag u F.ddrThrValid i) with
    | some i => i
    | none => ((List.range 16).find? (fun i => (List.range 16).all (fun j => decide (s.fld u F.ddrThrLeft i ≤ s.fld u F.ddrThrLeft j)))).getD 0

/-- RD_THRESHOLD (R360): a row's count has reached DDR_RD_TH: RFMsb is due to the bank, the entry is reset, the event counted, and the
leading source throttled. -/
def execRdThreshold (c : Fin 8) (bank : BitVec 12) (s : State) : Out :=
  let u := uDdr c
  let h := s.chan c
  let t := SMap.get [] h.tracker bank.toNat
  if !s.flag u F.ddrCtrlRdEn then .next s
  else
    match t.find? (fun a => decide (s.fld u F.ddrRdThActs ≤ a.count)) with
    | none => .next s
    | some a =>
      let src := leadingSource a.srcs
      let i := throttleSlot s c bank.toNat src
      let s1 := s.setChan c { h with
        rfm := NSet.add h.rfm bank.toNat
        tracker := SMap.store [] h.tracker bank.toNat (t.erase a)
        thrBank := SMap.put h.thrBank i bank.toNat }
      let s2 := ((s1.setFld u F.ddrThrValid 1 i).setFld u F.ddrThrSrc src i).setFld u F.ddrThrLeft (s.fld u F.ddrRdThrDuration) i
      .next (showThrottling (s2.countSat u F.ddrRdCntCount) c)

/-- THROTTLE_EXPIRE (R360). -/
def execThrottleExpire (c : Fin 8) (i : Fin 16) (s : State) : Out :=
  .next (showThrottling ((s.setFld (uDdr c) F.ddrThrValid 0 i).setFld (uDdr c) F.ddrThrLeft 0 i) c)

/-- The throttles of a channel after `ns` more: LEFT counts the µs down, and an entry without time left is free (R360, R366). -/
def throttleTick (s : State) (c ns : Nat) : State :=
  let h := s.chan c
  let us := (h.thrNs + ns) / 1000
  let s1 := s.setChan c { h with thrNs := (h.thrNs + ns) % 1000 }
  showThrottling ((List.range 16).foldl (fun (t : State) i =>
    if t.flag (uDdr c) F.ddrThrValid i then
      (t.setFld (uDdr c) F.ddrThrValid (boolNat (decide (us < t.fld (uDdr c) F.ddrThrLeft i))) i).setFld (uDdr c) F.ddrThrLeft
        (t.fld (uDdr c) F.ddrThrLeft i - us) i
    else t) s1) c

/-- TRACKER_CLEAR (R360): every tREFI × 8,192. -/
def execTrackerClear (c : Fin 8) (s : State) : Out :=
  .next (s.setChan c { s.chan c with tracker := [] })

/-! ### Command-parity alerts (R361, R362) -/

/-- Replay exhausted (R362): class 0x05, HALTED; requests in hand are answered BUSY and queued writes kept. -/
def exhaust (s : State) (c : Nat) : State :=
  let u := uDdr c
  let h := s.chan c
  let s1 := (((s.raise u 0x05 (s.fld u F.ddrReplayReplayMax)).setFld u F.ddrStatusState ddrHalted).setFld u F.ddrStatusExhausted 1).countSat
    u F.ddrExhCntCount
  dropJobs (s1.setChan c { h with alert := false, replaying := false, attempts := 0, replay := [], openRow := [] }) c

/-- The reads among commands whose data did not return: they are still to come to their requests (R361). -/
def forgetReads (l : List DramCmd) (jobs : List Job) : List Job :=
  jobs.map (fun j => { j with got := j.got.filter (fun x => !l.contains (.read x)) })

/-- PARITY_ALERT (R348, R361, R362): where parity is in use, issue stops, and the commands after the `done` oldest that are known to have completed are to be issued
again; during a replay it is a failed attempt, and REPLAY_MAX of them in a row exhaust replay. An open retraining window is abandoned
and requested again (R364). -/
def execParityAlert (c : Fin 8) (done : Fin 65) (s : State) : Out :=
  let u := uDdr c
  let h := s.chan c
  if !s.flag u F.ddrCtrlParEn || !h.parity || s.ddrStateOf c != ddrActive then .next s
  else
    let n := if h.replaying then h.attempts + 1 else h.attempts
    let s1 := (s.setFld u F.ddrStatusAlert 1).countSat u F.ddrAlertCntCount
    let s2 := s1.setChan c { h with
      alert := true
      replaying := false
      attempts := n
      replay := h.retry.drop done ++ h.replay
      jobs := forgetReads (h.retry.drop done) h.jobs
      winReq := h.winOpen.foldl NSet.add h.winReq
      winOpen := [] }
    if h.replaying ∧ s.fld u F.ddrReplayReplayMax ≤ n then .next (exhaust s2 c) else .next s2

/-- The refreshes of a channel that have become forced, issued before its replay goes on (R361). -/
def overdueRefreshes (s : State) (c : Nat) : State :=
  (List.range 4).foldl (fun (t : State) rank =>
    (List.range (SMap.get 0 (s.chan c).debt rank + 1 - s.fld (uDdr c) F.ddrRefMaxDebt)).foldl (fun (u : State) _ =>
      forceRefresh u c rank) t) s

/-- ALERT_CLEAR (R361): the error is cleared, every bank precharged, forced refreshes are issued, and the replay begins; one with nothing to
issue is complete. -/
def execAlertClear (c : Fin 8) (s : State) : Out :=
  let h := s.chan c
  if !h.alert then .next s
  else
    .next (overdueRefreshes ((s.setChan c { h with
      alert := false
      openRow := []
      replaying := !h.replay.isEmpty
      attempts := if h.replay.isEmpty then 0 else h.attempts }).countSat (uDdr c) F.ddrReplayCntCount) c)

/-! ### Training (R349, R362-R364) -/

/-- The timing parameters, t_RD and the use of command parity of a trained channel: a written value counts only where it exceeds the SPD's (R366). -/
def loadTiming (s : State) (c : Nat) (t : ChannelTraining) : State :=
  let spd := t.tp.map (·.toNat)
  let s1 := s.setChan c { s.chan c with tpSpd := spd, parity := bitOf t.cap.toNat 17 || t.parity }
  (List.range 16).foldl (fun (u : State) k =>
    u.setFld (uDdr c) F.ddrTpCk (max (spd.getD k 0) (SMap.get 0 (s.chan c).tpWant k)) k) (s1.setFld (uDdr c) F.ddrTrdCycles t.trd.toNat)

/-- A channel whose training failed is UNTRAINED, and reads 0 in its timing registers (R349). -/
def failTraining (s : State) (c : Nat) : State :=
  let s1 := ((s.setFld (uDdr c) F.ddrStatusState 0).setFld (uDdr c) F.ddrStatusTrainFail 1).setFld (uDdr c) F.ddrTrdCycles 0
  (List.range 16).foldl (fun (u : State) k => u.setFld (uDdr c) F.ddrTpCk 0 k) s1

/-- A channel trained. -/
def passTraining (s : State) (c : Nat) (t : ChannelTraining) : State := loadTiming (s.setFld (uDdr c) F.ddrStatusState ddrActive) c t

/-- What every channel must have the same: density, width, type, DIMMs and ranks (R349, DDR_CAP [23:12]). -/
def sameKind (a b : ChannelTraining) : Bool := bitsOf a.cap.toNat 23 12 == bitsOf b.cap.toNat 23 12

/-- DRAM_TRAINING_DONE (R349, R363): with populations that differ, or one absent or unreadable, every channel fails; otherwise each
channel passes or fails by itself. The installed capacity is eight times a channel's, or 0 where any channel failed. -/
def execDramTrainingDone (t : List ChannelTraining) (s : State) : Out :=
  if s.ddr.trained ∨ t.length ≠ 8 then .next s
  else
    let alike := t.all (fun x => x.present) && t.all (fun x => t.all (fun y => sameKind x y))
    let s1 := (List.range 8).foldl (fun (u : State) c =>
      match t[c]? with
      | none => u
      | some x =>
        let u1 := (u.setReg (uDdr c) 0x008 (if x.present then x.cap &&& 0xFFFFF3FF#32 else 0)).setReg (uDdr c) 0x00C
          (if x.present then x.map &&& 0x0000FFFF#32 else 0)
        if alike && x.ok then passTraining u1 c x else failTraining u1 c) s
    let all := alike && t.all (fun x => x.ok)
    let gib := ((t[0]?).map (fun x => bitsOf x.cap.toNat 9 0)).getD 0
    .next { s1 with ddr := { s1.ddr with trained := true, installed := if all then 8 * gib * 2 ^ 30 else 0 } }

/-- Kept writes put into the DRAM. -/
def flushWrites (s : State) (c : Nat) : State :=
  (s.chan c).wq.foldl (fun t w => t.writeOut c w) s

/-- DDR_RETRAIN (R362): the channel is retrained; contents unrefreshed for more than tREFI × 4 (`lost`) are lost; on success the kept
writes are written and the channel is ACTIVE. -/
def execDdrRetrain (c : Fin 8) (t : ChannelTraining) (lost : Bool) (s : State) : Out :=
  let s1 := if lost then s.loseContents c else s
  let h := s1.chan c
  let s2 := s1.setChan c { h with
    alert := false, replaying := false, attempts := 0, replay := [], retry := [], openRow := [], winReq := [], winOpen := []
    lb := if lost then [] else h.lb }
  if t.present && t.ok then .next (flushWrites (passTraining s2 c t) c) else .next (dropJobs (failTraining s2 c) c)

/-- A channel disabled: kept writes discarded, contents lost, requests in hand answered BUSY (R362). -/
def disableChannel (s : State) (c : Nat) : State :=
  let s1 := (s.loseContents c).setFld (uDdr c) F.ddrStatusState ddrDisabled
  let s2 := dropJobs s1 c
  let h := s2.chan c
  s2.setChan c { tpSpd := h.tpSpd, tpWant := h.tpWant, parity := h.parity }

/-- DDR_DISABLE (R362): the kept writes are discarded, CONTENT_LOST is set and the channel is DISABLED. -/
def execDdrDisable (c : Fin 8) (s : State) : Out := .next (disableChannel s c)

/-- DRIFT_CHECK (R364): a rank's DQS oscillator is compared with its training value. A drift of DRIFT_TH requests a window, one of
FORCE_TH opens it at once. -/
def execDriftCheck (c : Fin 8) (rank : Fin 4) (drift : Nat) (s : State) : Out :=
  let u := uDdr c
  let h := s.chan c
  if s.fld u F.ddrRetrainInterval = 0 ∨ s.ddrStateOf c ≠ ddrActive ∨ !s.chanAwake c then .next s
  else if s.fld u F.ddrRetrainForceTh ≤ drift then
    .next ((s.setChan c { h with winOpen := NSet.add h.winOpen rank, winReq := NSet.del h.winReq rank }).countSat u F.ddrFwinCntCount)
  else if s.fld u F.ddrRetrainDriftTh ≤ drift then .next (s.setChan c { h with winReq := NSet.add h.winReq rank })
  else .next s

/-- RETRAINING_WINDOW (R364, R425): a requested window opens when the DRAM retraining budget admits it; beyond its floor it lets every live request
to the rank go first whose next command's timing is met (`unmet`: there is none such). -/
def execRetrainingWindow (c : Fin 8) (rank : Fin 4) (s : State) (unmet : Bool := false) : Out :=
  let h := s.chan c
  let live := !unmet && s.bankBusy c (fun b => b / 1024 == rank.val)
  if !h.winReq.contains rank.val || h.alert || h.replaying || !s.chanAwake c || s.ddrStateOf c != ddrActive then .next s
  else if live && decide (s.floorOf 6 ≤ (s.meter 6 c).u) then .next (s.hold 6 c)
  else
    .next (s.budgeted 6 c (s.fld (uDdr c) F.ddrRetrainWinUs * 1000) (fun t =>
      let g := t.chan c
      t.setChan c { g with winOpen := NSet.add g.winOpen rank, winReq := NSet.del g.winReq rank }))

/-- RETRAINING_WINDOW_END (R364): the rank's requests go on. -/
def execRetrainingWindowEnd (c : Fin 8) (rank : Fin 4) (s : State) : Out :=
  let h := s.chan c
  .next (s.setChan c { h with winOpen := NSet.del h.winOpen rank })

end Sys2Proof.Machine
end

