-- ==== Sys2Proof/Machine/Ipe.lean ====
section
/-! DEFINITION. The inline protection engines: deciding an access, FULL and LIGHT lines, verification, poisoning, quarantine, the lives of
keys, and what the DRAM controllers issue (R315-R341, R357). -/

namespace Sys2Proof.Machine

open Sys2Proof

/-! ### The KID table (R315, R316, R342-R344) -/

/-- The unit in which the shared registers have their home. -/
def uIpe0 : Nat := 0x10

/-- The device key-encryption key: all ones once return preparation has burned it (R338, R573). -/
def State.kek (s : State) : Nat := if s.fuse.kekBurned then 2 ^ 256 - 1 else Config.deviceKek.toNat

/-- States of R315. -/
def kidFree : Nat := 0
/-- KEYED. -/
def kidKeyed : Nat := 1
/-- INITIALISING. -/
def kidInitialising : Nat := 2
/-- LIVE. -/
def kidLive : Nat := 3
/-- RETIRING. -/
def kidRetiring : Nat := 4
/-- FAULTED. -/
def kidFaulted : Nat := 5

/-- The state of a KID. -/
def State.kidState (s : State) (k : Nat) : Nat := s.fld uIpe0 F.ipeKidCfgState k
/-- The state of a KID set. -/
def State.setKid (s : State) (k v : Nat) : State := s.setFld uIpe0 F.ipeKidCfgState v k
/-- BASE of a KID, in GiB. -/
def State.kidBase (s : State) (k : Nat) : Nat := s.fld uIpe0 F.ipeKidBaseGib k
/-- SIZE of a KID, in GiB. -/
def State.kidSize (s : State) (k : Nat) : Nat := s.fld uIpe0 F.ipeKidSizeGib k
/-- Whether the range of a KID is bound (R316). -/
def State.kidBound (s : State) (k : Nat) : Bool := s.ipe.bound.contains k

/-- The range of a KID bound (R316). -/
def State.bindKid (s : State) (k : Nat) : State := { s with ipe := { s.ipe with bound := NSet.add s.ipe.bound k } }

/-- The range of a KID bound no more. -/
def State.unbindKid (s : State) (k : Nat) : State := { s with ipe := { s.ipe with bound := NSet.del s.ipe.bound k } }

/-- Whether a GiB lies in the range of a KID. -/
def State.kidHas (s : State) (k gib : Nat) : Bool := decide (s.kidBase k ≤ gib) && decide (gib < s.kidBase k + s.kidSize k)
/-- Whether a GiB lies in the carve-out (R317). -/
def State.inCarveOut (s : State) (gib : Nat) : Bool :=
  decide (s.fld uIpe0 F.ipeMetaBaseGib ≤ gib) && decide (gib < s.fld uIpe0 F.ipeMetaBaseGib + s.fld uIpe0 F.ipeMetaSizeGib)
/-- GiB of bound FULL ranges. -/
def State.fullGib (s : State) : Nat :=
  ((List.range 256).map (fun k => if kidClass k == .full && s.kidBound k then s.kidSize k else 0)).sum

/-- IPE_META_USED of every engine: 20,480 KiB for each GiB of a bound FULL range (R342). -/
def showMeta (s : State) : State :=
  (List.range 8).foldl (fun (t : State) e => t.setFld (uIpe e) F.ipeMetaUsedKib (20480 * s.fullGib)) s

/-! ### Subtrees and quarantine (R324, R336, R337) -/

/-- The first device address covered by the node over a line. -/
def nodeAddr (level line : Nat) : Nat :=
  deviceAddr (lineChannel line) (localAddr (line * 64) / nodeBytes level * nodeBytes level)

/-- The quarantine list of an engine. -/
def State.quar (s : State) (e : Nat) : List Quar := SMap.get [] s.ipe.quar e

/-- Whether a line of a KID lies in a quarantined subtree. -/
def State.quarantined (s : State) (k line : Nat) : Bool :=
  (s.quar (lineChannel line)).any (fun q => q.kid == k && nodeAddr q.level line == q.addr)

/-- The quarantine entries of a KID released. -/
def releaseQuar (s : State) (k : Nat) : State :=
  { s with ipe := { s.ipe with quar :=
      (s.ipe.quar.map (fun x => (x.1, x.2.filter (fun q => q.kid != k)))).filter (fun x => !x.2.isEmpty) } }

/-- A persistent failure of a node (R336): its subtree is quarantined; with a full list the KID is FAULTED instead (R337). -/
def quarantine (s : State) (k level line : Nat) : State :=
  let e := lineChannel line
  let s1 := s.raise (uIpe e) 0x03 (line * 64)
  if 64 ≤ (s1.quar e).length then ((releaseQuar s1 k).setKid k kidFaulted).setFld (uIpe e) F.ipeStatusQovf 1
  else
    let s2 : State := { s1 with ipe := { s1.ipe with
      quar := SMap.put s1.ipe.quar e (s1.quar e ++ [⟨k, level, nodeAddr level line⟩]) } }
    (s2.setFld (uIpe e) F.ipeStatusQuar 1).edge (33 + 2 * e)

/-! ### Deciding an access (R318, R319) -/

/-- The first row of R318 that applies to a request. -/
def ipeDecide (s : State) (p : Packet) : Verdict :=
  let gib := p.a48 / 2 ^ 30
  let k := p.kid
  let st := s.kidState k
  if s.inCarveOut gib then .prot
  else if k = 0 then (if (List.range 256).any (fun j => s.kidBound j && s.kidHas j gib) then .prot else .clear)
  else if p.icls = 2 ∨ p.icls = 3 then .prot
  else if st = kidFree ∨ st = kidKeyed ∨ st = kidRetiring then .prot
  else if st = kidInitialising then .busy
  else if !s.kidHas k gib then .prot
  else if !bitOf (s.fld uIpe0 F.ipeKidCfgIclsOk k) p.icls.toNat then .prot
  else if st = kidFaulted ∨ (kidClass k = .full ∧
      (List.range (max 1 p.len.toNat)).any (fun i => s.quarantined k (p.a48 / 64 + i))) then .poison
  else if kidClass k = .full then .full else .light

/-- A PROTECTED answer counted (R318). -/
def countDeny (s : State) (e : Nat) : State := (s.setFld (uIpe e) F.ipeStatusDeny 1).countSat (uIpe e) F.ipeDenyCntCount

/-! ### Tags and the counter tree (R321-R324, R334) -/

/-- The key of a KID. -/
def State.keyOf (s : State) (k : Nat) : BitVec 256 := SMap.get 0 s.ipe.key k

/-- The tag of a ciphertext (R322): the leftmost 64 bits of AES-256-GMAC. -/
def tagOf (key : BitVec 256) (kid line major minor : Nat) (c : Line) : Word64 :=
  let bytes := toLeBytes 64 c.toNat
  let block (j : Nat) := beBytes ((bytes.drop (16 * j)).take 16)
  BitVec.ofNat 64 (Crypto.gmac key.toNat (ctrInput kid line 3 major minor + 2 ^ 119) 512 [block 0, block 1, block 2, block 3] / 2 ^ 64)

/-- Level, engine and index of a node from its key. -/
def keyLevel (key : Nat) : Nat := key / 2 ^ 32 % 256
/-- The engine of a node. -/
def keyEng (key : Nat) : Nat := key / 2 ^ 40
/-- The index of a node at its level. -/
def keyIdx (key : Nat) : Nat := key % 2 ^ 32
/-- The first line a node covers. -/
def keyLine (key : Nat) : Nat := deviceAddr (keyEng key) (keyIdx key * nodeBytes (keyLevel key)) / 64
/-- The parent of a node below level 4. -/
def keyParent (key : Nat) : Nat := nodeKey (keyEng key) (keyLevel key + 1) (keyIdx key / 8)
/-- The key of the node of a level over a line. -/
def levelKey (line level : Nat) : Nat := nodeKey (lineChannel line) level (nodeIdx line level)

/-- The key of the root over a level-4 node. -/
def rootKey (key : Nat) : Nat := keyEng key * 2 ^ 32 + keyIdx key

/-- Child counter `c` of a tree node (R324). -/
def childCtr (b : BitVec 448) (c : Nat) : Nat := bitsOf b.toNat (56 * c + 55) (56 * c)

/-- A tree node with a child counter replaced. -/
def setChildCtr (b : BitVec 448) (c v : Nat) : BitVec 448 :=
  BitVec.ofNat 448 (b.toNat - childCtr b c * 2 ^ (56 * c) + v % 2 ^ 56 * 2 ^ (56 * c))

/-- A counter block with a minor counter replaced (R323). -/
def setMinorIn (b : BitVec 448) (line m : Nat) : BitVec 448 :=
  BitVec.ofNat 448 (b.toNat - minorIn b line * 2 ^ (64 + 6 * (line % 64)) + m % 64 * 2 ^ (64 + 6 * (line % 64)))

/-- The 512 bits of a counter block or node (R323, R324). -/
def TreeNode.line (n : TreeNode) : Line := BitVec.ofNat 512 (n.mac.toNat * 2 ^ 448 + n.body.toNat)

/-- A counter block or node from its 512 bits. -/
def TreeNode.ofLine (l : Line) : TreeNode := ⟨BitVec.ofNat 448 l.toNat, BitVec.ofNat 64 (l.toNat / 2 ^ 448)⟩

/-- The tree key of an engine (R324). -/
def State.treeKeyOf (s : State) (eng : Nat) : BitVec 256 := (SMap.find s.ipe.treeKey eng).getD (Config.firstTreeKey eng)

/-- The MAC of a node under a counter of its parent (R324). -/
def State.nodeMac (s : State) (key ctr : Nat) (b : BitVec 448) : Word64 :=
  let bytes := toLeBytes 56 b.toNat
  let block (j : Nat) := beBytes ((bytes.drop (16 * j)).take 16)
  BitVec.ofNat 64 (Crypto.gmac (s.treeKeyOf (keyEng key)).toNat (Config.nodeIv (keyLevel key) (keyIdx key) ctr).toNat 448
    [block 0, block 1, block 2, block 3 * 2 ^ 64] / 2 ^ 64)

/-- A node as DRAM holds it; an unlisted one is as INIT wrote it, under counter 0 (R339). -/
def State.storedNode (s : State) (key : Nat) : TreeNode :=
  match SMap.find s.ipe.node key with
  | some n => n
  | none => ⟨blankBody key, s.nodeMac key 0 (blankBody key)⟩

/-- A node's counter in its parent, or in the root over it (R324). -/
def State.parentCtr (s : State) (key : Nat) : Nat :=
  if keyLevel key = 4 then (SMap.get 0 s.ipe.root (rootKey key)).toNat else childCtr (s.nodeBody (keyParent key)) (keyIdx key % 8)

/-- The CRC-32C of a counter-cache entry over its 64 bytes and its tree position (R334). -/
def nodeCrc (key : Nat) (n : TreeNode) : Word32 := BitVec.ofNat 32 (crc32c (toLeBytes 64 n.line.toNat ++ toLeBytes 8 key))

/-- A node put into the counter cache. -/
def State.cacheNode (s : State) (key : Nat) (n : TreeNode) (dirty : Bool) : State :=
  { s with ipe := { s.ipe with cache := SMap.put s.ipe.cache key ⟨n, nodeCrc key n, dirty⟩ } }

/-- A cached node changed: it holds updates that DRAM does not, and its MAC is computed anew (R324, R333). -/
def State.editNode (s : State) (key : Nat) (b : BitVec 448) : State := s.cacheNode key ⟨b, s.nodeMac key (s.parentCtr key) b⟩ true

/-- The minor counter of a line set. -/
def State.setMinor (s : State) (line m : Nat) : State := s.editNode (blockKey line) (setMinorIn (s.nodeBody (blockKey line)) line m)

/-- Whether a node has a child in the counter cache. -/
def State.hasChild (s : State) (key : Nat) : Bool :=
  s.ipe.cache.any (fun x => keyLevel key != 0 && keyLevel x.1 != 4 && keyParent x.1 == key)

/-- A node's counter in its parent incremented (R324). -/
def State.bumpParent (s : State) (key : Nat) : State :=
  if keyLevel key = 4 then
    { s with ipe := { s.ipe with root := SMap.store 0 s.ipe.root (rootKey key) (SMap.get 0 s.ipe.root (rootKey key) + 1) } }
  else s.editNode (keyParent key) (setChildCtr (s.nodeBody (keyParent key)) (keyIdx key % 8) (s.parentCtr key + 1))

/-- A node written back: its counter in its parent rises, and it is stored under the new one (R324). -/
def State.storeNode (s : State) (key : Nat) (b : BitVec 448) : State :=
  let t := s.bumpParent key
  { t with
    ipe := { t.ipe with node := SMap.put t.ipe.node key ⟨b, t.nodeMac key (t.parentCtr key) b⟩ }
    ddr := { t.ddr with err := SMap.erase t.ddr.err (2 ^ 43 + key) } }

/-- Whether an entry may leave the counter cache: none of its children is there, and its parent or root is (log entry 145). -/
def State.mayEvict (s : State) (key : Nat) : Bool :=
  !s.hasChild key && (keyLevel key == 4 || (SMap.find s.ipe.cache (keyParent key)).isSome)

/-- An entry that leaves the counter cache, written back if it is dirty (R324). -/
def evictNode (s : State) (key : Nat) : State :=
  match SMap.find s.ipe.cache key with
  | none => s
  | some x =>
    if !s.mayEvict key then s
    else
      let t := if x.dirty then s.storeNode key x.node.body else s
      { t with ipe := { t.ipe with cache := SMap.erase t.ipe.cache key } }

/-- Room made for one more entry in an engine's partition of 16,384 lines (R34, R324). -/
def makeRoom (s : State) (eng : Nat) : State :=
  let own := s.ipe.cache.filter (fun x => keyEng x.1 == eng)
  if own.length < 16384 then s
  else
    match own.find? (fun x => s.mayEvict x.1) with
    | some x => evictNode s x.1
    | none => s

/-- A burst of metadata read through the line code, at an address that the rules do not give: a corrected one is written back (R317, R353). -/
def readMeta (s : State) (c key : Nat) (v : Line) (upset bus : BitVec 640) : BurstRead :=
  let s1 := s.draw.upsetBurst key upset
  let r := readBurst s1 c key ((Config.freeWord s.free).toNat % 2 ^ 42) v bus
  if r.ce && s.flag (uDdr c) F.ddrCtrlWbCe then
    { r with st := { r.st with ddr := { r.st.ddr with err := SMap.erase r.st.ddr.err key } } }
  else r

/-- The eight tags of a tag line (R322). -/
def State.tagLine (s : State) (t : Nat) : Line :=
  BitVec.ofNat 512 ((List.range 8).map (fun i => (SMap.get 0 s.ipe.tag (8 * t + i)).toNat * 2 ^ (64 * i))).sum

/-- The tag of a line fetched, and whether its tag line is uncorrectable (R327, R330). -/
def State.fetchTag (s : State) (line : Nat) (e : MemEnv) : State × Word64 × Bool :=
  let x := changeOf e.tagTamper line
  let s1 : State := if x = 0 then s else { s with ipe := { s.ipe with tag := SMap.store 0 s.ipe.tag line (SMap.get 0 s.ipe.tag line ^^^ x) } }
  let r := readMeta s1 (lineChannel line) (2 ^ 42 + line / 8) (s1.tagLine (line / 8)) (changeOf e.tagUpset (line / 8)) (changeOf e.tagBus (line / 8))
  (r.st, BitVec.ofNat 64 (r.data.toNat / 2 ^ (64 * (line % 8))), r.ue)

/-- The tag of a line written with its tag line. -/
def State.putTag (s : State) (line : Nat) (t : Word64) : State :=
  { s with
    ipe := { s.ipe with tag := SMap.store 0 s.ipe.tag line t }
    ddr := { s.ddr with err := SMap.erase s.ddr.err (2 ^ 42 + line / 8) } }

/-- The node of a level over a line fetched from DRAM, and whether it passes the check against its parent (R335). -/
def State.fetchNode (s : State) (line level : Nat) (e : MemEnv) : State × TreeNode × Bool :=
  let key := levelKey line level
  let x := levelChange e.nodeTamper level
  let s1 : State := if x = 0 then s else
    { s with ipe := { s.ipe with node := SMap.put s.ipe.node key (TreeNode.ofLine ((s.storedNode key).line ^^^ x)) } }
  let r := readMeta s1 (lineChannel line) (2 ^ 43 + key) (s1.storedNode key).line (levelChange e.nodeUpset level) (levelChange e.nodeBus level)
  let n := TreeNode.ofLine r.data
  (r.st, n, !r.ue && n.mac == s.nodeMac key (s.parentCtr key) n.body)

/-- The counters of a line as the engine finds them: the counter block, the level of a node that fails its check, and whether the subtree was
quarantined at once. -/
structure Walk where
  st : State
  body : BitVec 448
  fail : Option Nat
  dead : Bool

/-- The lowest node over a line that the counter cache holds sound (R334): a clean entry that fails its CRC is discarded and counted, a dirty one
quarantined. Answered: the state, its level, whether a subtree was quarantined. -/
def lookup (s : State) (k line : Nat) (e : MemEnv) : State × Option Nat × Bool :=
  (List.range 5).foldl (fun (a : State × Option Nat × Bool) level =>
    let key := levelKey line level
    if a.2.1.isSome || a.2.2 then a
    else
      match SMap.find a.1.ipe.cache key with
      | none => a
      | some x =>
        let n := TreeNode.ofLine (x.node.line ^^^ levelChange e.cacheUpset level)
        if nodeCrc key n = x.crc then
          ({ a.1 with ipe := { a.1.ipe with cache := SMap.put a.1.ipe.cache key { x with node := n } } }, some level, false)
        else
          let t : State := { a.1 with ipe := { a.1.ipe with cache := SMap.erase a.1.ipe.cache key } }
          if x.dirty then (quarantine t k level line, none, true)
          else (t.countSat (uIpe (lineChannel line)) F.ipeCcErrCntCount, none, false)) (s, none, false)

/-- One level fetched below a verified one: a node that passes joins the counter cache; below one that fails nothing is verified. -/
def descend (line : Nat) (e : MemEnv) (a : Walk) (level : Nat) : Walk :=
  let r := a.st.fetchNode line level e
  if a.fail.isSome then { a with st := r.1, body := r.2.1.body }
  else if r.2.2 then
    { a with st := (makeRoom r.1 (lineChannel line)).cacheNode (levelKey line level) r.2.1 false, body := r.2.1.body }
  else { a with st := r.1, body := r.2.1.body, fail := some level }

/-- The counter block of a line used (R324, R327, R334, R335): from the counter cache, or fetched and verified up to the first node there or the
root, a double-bit error in which is a persistent failure. Entries that leave the cache do so first. -/
def walk (s : State) (k line : Nat) (e : MemEnv) : Walk :=
  let eng := lineChannel line
  let s1 := e.evict.foldl (fun (t : State) x => evictNode t (nodeKey eng x.1 x.2.toNat)) s
  let r := lookup s1 k line e
  if r.2.2 then ⟨r.1, 0, none, true⟩
  else if r.2.1.isNone && e.rootDouble then ⟨quarantine r.1 k 5 line, 0, none, true⟩
  else (List.range (r.2.1.getD 5)).reverse.foldl (descend line e) ⟨r.1, r.1.nodeBody (blockKey line), none, false⟩

/-- A line poisoned (R333): MINOR 63. -/
def poisonLine (s : State) (line : Nat) : State :=
  let u := uIpe (lineChannel line)
  (((s.setMinor line 63).setFld u F.ipeStatusPoisoned 1).countSat u F.ipePoisonCntCount)

/-- TRANSIENT counted (R330, R333, R335). -/
def countTransient (s : State) (e : Nat) : State := (s.setFld (uIpe e) F.ipeStatusTransient 1).countSat (uIpe e) F.ipeTransCntCount

/-! ### Alarms (R328) -/

/-- The log of an engine, which holds eight entries. -/
def State.alarmLog (s : State) (e : Nat) : List AlarmRec := SMap.get [] s.ipe.log e

/-- The entry of a request with a cause. -/
def alarmRec (p : Packet) (cause : Nat) : AlarmRec := ⟨p.addr.toNat, p.icls.toNat, cause, p.tag.toNat, p.src.toNat⟩

/-- An entry added to an engine's log while it holds fewer than eight. -/
def logAlarm (s : State) (e : Nat) (r : AlarmRec) : State :=
  if (s.alarmLog e).length < 8 then
    { s with ipe := { s.ipe with log := SMap.put s.ipe.log e (s.alarmLog e ++ [r]) } }
  else s

/-- An entry logged with class 0x03, for an answer that waited for its verification (R330, R333). -/
def loggedFault (s : State) (p : Packet) (cause : Nat) : State :=
  let e := dramChannel p.a48
  logAlarm (s.raise (uIpe e) 0x03 p.a48) e (alarmRec p cause)

/-- A late alarm (R328): class 0x03, log, ALARM source, and the signal to the burin (ICLS 5) or a core cluster (ICLS 0). -/
def lateAlarm (s : State) (p : Packet) (cause : Nat) : State :=
  let e := dramChannel p.a48
  let s1 := ((loggedFault s p cause).setFld (uIpe e) F.ipeStatusAlarm 1).countSat (uIpe e) F.ipeAlarmCntCount
  let s2 := s1.edge (32 + 2 * e)
  if p.icls = 5 ∨ p.icls = 0 then { s2 with ipe := { s2.ipe with signal := s2.ipe.signal ++ [alarmRec p cause] } } else s2

/-! ### Lines (R321-R326) -/

/-- A line as read through an engine: its plaintext, whether it is poisoned, and whether it was fetched under a tag and fails it. -/
structure LineRead where
  st : State
  data : Line
  poison : Bool
  fetched : Bool
  bad : Bool

/-- A line read under a verdict, a FULL one by its counter block (R321-R323, R326, R327, R330). What a poisoned line shows is a free value. -/
def ipeReadLine (s : State) (v : Verdict) (k line : Nat) (b : BitVec 448) (e : MemEnv) (how : ReadHow) : LineRead :=
  match v with
  | .full =>
    let m := minorIn b line
    if m = 0 then ⟨s, 0, false, false, false⟩
    else if m = 63 then ⟨{ s with free := s.free + 8 }, s.freshLine, true, false, false⟩
    else
      let r := s.ddrRead line e how
      let t := r.1.fetchTag line e
      ⟨t.1, r.2.1 ^^^ lineStream (s.keyOf k) k line (majorIn b) m, false, true,
        r.2.2 || t.2.2 || t.2.1 != tagOf (s.keyOf k) k line (majorIn b) m r.2.1⟩
  | .light =>
    let r := s.ddrRead line e how
    ⟨r.1, r.2.1 ^^^ lineStream (s.keyOf k) k line 0 0, r.2.2, false, false⟩
  | _ =>
    let r := s.ddrRead line e how
    ⟨r.1, r.2.1, r.2.2, false, false⟩

/-- A FULL line encrypted and written under its counter, with its tag (R321, R322). -/
def writeFullUnder (s : State) (k line major m : Nat) (v : Line) (pri src : Nat) : State :=
  let c := v ^^^ lineStream (s.keyOf k) k line major m
  (s.ddrWrite line c pri src).putTag line (tagOf (s.keyOf k) k line major m c)

/-- The written lines of the block of a line, but for that line (R325). -/
def State.mates (s : State) (line : Nat) : List Nat :=
  ((List.range 64).map (fun i => line / 64 * 64 + i)).filter (fun l => l != line && decide (1 ≤ s.minor l) && decide (s.minor l ≤ 62))

/-- A line read and verified for a re-encryption, with two refetches where it fails: the state and its plaintext, none where the last
refetch fails too. A refetch meets what is stored, with no new error. -/
def readMate (s : State) (k line src : Nat) (e : MemEnv) : State × Option Line :=
  let b := s.nodeBody (blockKey line)
  let x := ipeReadLine s .full k line b e (.now src)
  if !x.bad then (x.st, some x.data)
  else
    let y := ipeReadLine x.st .full k line b {} (.again src)
    let z := if y.bad then ipeReadLine y.st .full k line b {} (.again src) else y
    if z.bad then (z.st, none)
    else (countTransient z.st (lineChannel line), some z.data)

/-- A block re-encrypted (R325): MAJOR rises, every written line but the one about to be written is read, verified and rewritten with
MINOR 1; a line that fails is poisoned. Each line made adds to the counter-tree maintenance channel. -/
def reencrypt (s : State) (k line : Nat) (p : Packet) (e : MemEnv) : State :=
  let eng := lineChannel line
  let r := (s.mates line).foldl (fun (a : State × List (Nat × Line)) l =>
    match readMate a.1 k l p.src.toNat e with
    | (t, some d) => (t, a.2 ++ [(l, d)])
    | (t, none) => (loggedFault (poisonLine t l) { p with addr := BitVec.ofNat 56 (k * 2 ^ 48 + l * 64) } 2, a.2)) (s, [])
  let b := r.1.nodeBody (blockKey line)
  let major := (majorIn b + 1) % 2 ^ 64
  let b1 := (List.range 64).foldl (fun (x : BitVec 448) i =>
    if minorIn x i = 0 ∨ minorIn x i = 63 then x else setMinorIn x i 1) (BitVec.ofNat 448 (b.toNat - majorIn b + major))
  let s1 := r.2.foldl (fun (t : State) x => writeFullUnder t k x.1 major 1 x.2 p.pri.toNat p.src.toNat) (r.1.editNode (blockKey line) b1)
  (s1.charge 7 eng r.2.length).countSat (uIpe eng) F.ipeReencCntCount

/-- A whole line written under a verdict (R325, R326, R332): a FULL line takes the next counter of its block. -/
def ipeWriteLine (s : State) (v : Verdict) (k line : Nat) (d : Line) (p : Packet) (e : MemEnv) : State :=
  match v with
  | .full =>
    let m := s.minor line
    let s1 := if 62 ≤ m then reencrypt s k line p e else s
    let m1 := if 62 ≤ m then 1 else m + 1
    let s2 := s1.setMinor line m1
    writeFullUnder s2 k line (majorIn (s2.nodeBody (blockKey line))) m1 d p.pri.toNat p.src.toNat
  | .light => s.ddrWrite line (d ^^^ lineStream (s.keyOf k) k line 0 0) p.pri.toNat p.src.toNat
  | _ => s.ddrWrite line d p.pri.toNat p.src.toNat

/-! ### Requests (R16, R172, R173, R318, R320, R327-R333) -/

/-- The answer to an access: its request is kept for a verification, or its status, body and EXT. -/
inductive MemAns where
  | kept | done (st : Stat) (body : List Line) (ext : Nat)
deriving DecidableEq, Repr

/-- STAT POISON: zero data for a READ, nothing else for a WRITE or an ATOMIC (R318). -/
def poisonBody (p : Packet) : List Line := if p.op = opRead then List.replicate p.len.toNat 0 else []

/-- The old value an ATOMIC finds in its line (R173). -/
def atomicOld (p : Packet) (old : Line) : Nat := old.toNat / 2 ^ (8 * (p.a48 % 64)) % 2 ^ (8 * p.atomicBytes)

/-- The line a WRITE or ATOMIC leaves (R172, R173). -/
def newLine (p : Packet) (i : Nat) (old : Line) : Line :=
  if p.op = opAtomic then
    let w := 8 * p.atomicBytes
    let sh := 8 * (p.a48 % 64)
    (old &&& ~~~(BitVec.ofNat 512 ((2 ^ w - 1) * 2 ^ sh))) |||
      BitVec.ofNat 512 (atomicResult p.aop w (atomicOld p old) p.operand p.compare * 2 ^ sh)
  else (old &&& ~~~(enableMask p i)) ||| (p.body.getD i 0 &&& enableMask p i)

/-- Whether an answer on a line is still held back, so that later requests to the line wait (R320). -/
def State.lineHeld (s : State) (line : Nat) : Bool :=
  s.ipe.verif.any (fun v => !v.spec && (reqLines v.req).contains line)

/-- Whether a FULL read waits for its verification (R329). -/
def verifiedOnly (s : State) (p : Packet) : Bool :=
  p.icls == 6 || p.icls == 7 || s.flag uIpe0 F.ipeKidCfgVonly p.kid ||
  bitOf (s.reg uIpe0 (0x2000 + 4 * (p.src.toNat / 32))).toNat (p.src.toNat % 32) ||
  !s.flag (uIpe (dramChannel p.a48)) F.ipeCtrlSpecEn

/-- A verification begun. -/
def addVerif (s : State) (v : Verif) : State := { s with ipe := { s.ipe with verif := s.ipe.verif ++ [v] } }

/-- The counters a request needs: those of a FULL line's block; nothing for another verdict or a request of no line. -/
def reqWalk (s : State) (v : Verdict) (p : Packet) (e : MemEnv) : Walk :=
  if v = .full ∧ !(reqLines p).isEmpty then walk s p.kid (p.a48 / 64) e else ⟨s, 0, none, false⟩

/-- Lines read for a request. -/
structure LinesRead where
  st : State
  data : List Line
  poison : Bool
  fetched : Bool
  bad : List Nat

/-- One more line of a request read. -/
def LinesRead.add (a : LinesRead) (line : Nat) (r : LineRead) : LinesRead :=
  ⟨r.st, a.data ++ [r.data], a.poison || r.poison, a.fetched || r.fetched, if r.bad then a.bad ++ [line] else a.bad⟩

/-- The lines of a READ, in order. -/
def readLines (s : State) (v : Verdict) (p : Packet) (b : BitVec 448) (e : MemEnv) (how : ReadHow) : LinesRead :=
  (reqLines p).foldl (fun (a : LinesRead) line => a.add line (ipeReadLine a.st v p.kid line b e how)) ⟨s, [], false, false, []⟩

/-- The old lines a WRITE or ATOMIC needs, in order; 0 stands where none is needed. -/
def oldLines (s : State) (v : Verdict) (p : Packet) (b : BitVec 448) (e : MemEnv) (how : ReadHow) : LinesRead :=
  (List.range (reqLines p).length).foldl (fun (a : LinesRead) i =>
    if needsOld p i then a.add ((reqLines p).getD i 0) (ipeReadLine a.st v p.kid ((reqLines p).getD i 0) b e how)
    else { a with data := a.data ++ [0] }) ⟨s, [], false, false, []⟩

/-- The body of a READ response: zeros outside the range (R172). -/
def maskBody (p : Packet) (body : List Line) : List Line :=
  (List.range body.length).map (fun i => body.getD i 0 &&& enableMask p i)

/-- A READ performed under a verdict that admits it (R327, R329): a FULL read that fetched data is answered at once, unless it is
verified-only, and verified afterwards; one of zero and poisoned lines completes its verification with its response. -/
def readVerdict (s : State) (v : Verdict) (vonly : Bool) (p : Packet) (e : MemEnv) (how : ReadHow) : State × MemAns :=
  let w := reqWalk s v p e
  if w.dead then (w.st, .done .poison (poisonBody p) 0)
  else
    let r := readLines w.st v p w.body e how
    let body := maskBody p r.data
    let st : Stat := if r.poison then .poison else .ok
    if v ≠ .full ∨ (!r.fetched ∧ w.fail.isNone) then (r.st, .done st body 0)
    else if vonly ∨ !r.fetched then (addVerif r.st ⟨p, st, body, false, false, r.bad, w.fail, false, 0, false⟩, .kept)
    else (addVerif r.st ⟨p, st, body, true, false, r.bad, w.fail, false, 0, false⟩, .done st body 0)

/-- The writes of a WRITE or ATOMIC whose old lines are known. -/
def writeLines (s : State) (v : Verdict) (p : Packet) (olds : List Line) (e : MemEnv) : State :=
  let lines := reqLines p
  (List.range lines.length).foldl (fun (t : State) i =>
    ipeWriteLine t v p.kid (lines.getD i 0) (newLine p i (olds.getD i 0)) p e) s

/-- EXT of the answer to an ATOMIC: the old value. -/
def atomicExt (p : Packet) (olds : List Line) : Nat := if p.op = opAtomic then atomicOld p (olds.getD 0 0) else 0

/-- A partial write or ATOMIC that meets a poisoned line: counted under FULL (R333). -/
def countPoison (s : State) (v : Verdict) (p : Packet) : State :=
  if v = .full then s.countSat (uIpe (dramChannel p.a48)) F.ipePoisonCntCount else s

/-- A WRITE or ATOMIC performed under a verdict that admits it (R332, R333, R352, R353): whole or not at all. -/
def writeVerdict (s : State) (v : Verdict) (p : Packet) (e : MemEnv) (how : ReadHow) : State × MemAns :=
  let w := reqWalk s v p e
  if w.dead then (w.st, .done .poison [] 0)
  else
    let r := oldLines w.st v p w.body e how
    if r.poison then (countPoison r.st v p, .done .poison [] 0)
    else if !r.bad.isEmpty || w.fail.isSome then (addVerif r.st ⟨p, .ok, [], false, true, r.bad, w.fail, true, 0, false⟩, .kept)
    else (writeLines r.st v p r.data e, .done .ok [] (atomicExt p r.data))

/-- An access performed under the verdict of its arrival; one to a subtree quarantined, or of a KID FAULTED, in the meantime is POISON
(R318, R336, R337). -/
def performAccess (s : State) (v : Verdict) (vonly : Bool) (p : Packet) (e : MemEnv) (how : ReadHow) : State × MemAns :=
  if v = .full ∧ (s.kidState p.kid = kidFaulted ∨ (reqLines p).any (s.quarantined p.kid)) then (s, .done .poison (poisonBody p) 0)
  else if p.op = opRead then readVerdict s v vonly p e how
  else writeVerdict s v p e how

/-- The write-queue entries a WRITE or ATOMIC takes: its lines without a queued write, and under FULL those of a re-encryption (R325, R355). -/
def State.roomFor (s : State) (v : Verdict) (p : Packet) : Nat :=
  let lines := reqLines p
  let all := if v = .full ∧ lines.any (fun l => decide (62 ≤ s.minor l)) then
      lines ++ (lines.flatMap s.mates).dedup.filter (fun l => !lines.contains l)
    else lines
  (all.filter (fun l => (s.queued l).isNone)).length

/-- Whether a request must wait (R320, R355, R364): a line of it is held, its rank's retraining window is open, its channel does not run or
stands in an alert, or the write queue lacks room. -/
def State.mustWait (s : State) (v : Verdict) (p : Packet) : Bool :=
  let c := dramChannel p.a48
  let h := s.chan c
  (reqLines p).any s.lineHeld || h.winOpen.contains (s.place (p.a48 / 64)).1 || s.ddrStateOf c != ddrActive || h.alert || h.replaying ||
    (p.op != opRead && decide (64 < h.wq.length + s.roomFor v p))

/-- Whether one of a list of requests touches a line of a request. -/
def sharesLine (l : List Job) (p : Packet) : Bool := l.any (fun j => (reqLines j.req).any (fun x => (reqLines p).contains x))

/-- The request in hand at its engine (R320, R355). -/
def State.inHand (s : State) (p : Packet) : Bool := (s.chan (dramChannel p.a48)).jobs.any (fun j => j.req == p)

/-- A request in hand goes on: it is performed and answered once no earlier request in hand touches its lines, its reads have been issued,
and nothing else holds it. -/
def runJob (s : State) (c : Nat) (j : Job) (e : MemEnv) : State :=
  let p := j.req
  let h := s.chan c
  if !s.chanAwake c || sharesLine (h.jobs.takeWhile (fun x => x != j)) p || !(s.missing j).isEmpty || s.mustWait j.verdict p then s
  else
    match performAccess (s.setChan c { h with jobs := h.jobs.erase j }) j.verdict j.vonly p e .issued with
    | (t, .kept) => t
    | (t, .done st body ext) => t.sendRsp (p.respond st body ext)

/-- A request arrives at its engine (R318, R355, R362): it is the first of its lane, and is answered at once or taken in hand; it waits in its lane
while a queue has no room for it. -/
def acceptReq (s : State) (c : Nat) (p : Packet) (e : MemEnv) : State :=
  match ipeDecide s p with
  | .prot => (countDeny s c).reply p .prot
  | .busy => s.reply p .busy
  | .poison => s.reply p .poison (poisonBody p)
  | v =>
    let j : Job := ⟨p, v, verifiedOnly s p, []⟩
    let h := s.chan c
    if s.ddrStateOf c ≠ ddrActive then s.reply p .busy
    else if 64 < (s.readQueue c).length + (s.missing j).length ∨ (p.op ≠ opRead ∧ 64 ≤ h.wq.length) then s
    else runJob ((s.takeReq p).setChan c { h with jobs := h.jobs ++ [j] }) c j e

/-- A request to DRAM (R172, R173): one in hand goes on, one at the head of its lane arrives. -/
def memRequest (s : State) (p : Packet) (e : MemEnv) : State :=
  let c := dramChannel p.a48
  match (s.chan c).jobs.find? (fun j => j.req == p) with
  | some j => runJob s c j e
  | none => if s.firstOf p (fun q => q.dst == p.dst && q.pri == p.pri) then acceptReq s c p e else s

/-! ### Verifications (R327, R330, R333, R335, R336) -/

/-- A verification ended. -/
def dropVerif (s : State) (v : Verif) : State := { s with ipe := { s.ipe with verif := s.ipe.verif.erase v } }

/-- The verification at a place replaced. -/
def setVerif (s : State) (i : Nat) (v : Verif) : State := { s with ipe := { s.ipe with verif := s.ipe.verif.set i v } }

/-- A held request answered, to the mesh; the burin's own accesses have none waiting there. -/
def answerHeld (s : State) (v : Verif) (st : Stat) (body : List Line) (ext : Nat) : State := s.sendRsp (v.req.respond st body ext)

/-- The late alarm of a speculative read, unless it is out already (R328). -/
def alarmOnce (s : State) (v : Verif) (cause : Nat) : State := if v.spec && !v.alarmed then lateAlarm s v.req cause else s

/-- A verification found failing: data delivered that fails its tag under counters that pass is alarmed at once (R327, R328). -/
def verifyFail (s : State) (i : Nat) (v : Verif) : State :=
  if v.node.isNone then alarmOnce (setVerif s i { v with failed := true, alarmed := true }) v 0
  else setVerif s i { v with failed := true }

/-- A verification completes (R327, R328): one that passes ends, its held answer goes out; one that fails is to be refetched. -/
def verifyDone (s : State) (i : Nat) : State :=
  match s.ipe.verif[i]? with
  | none => s
  | some v =>
    if v.failed then s
    else if v.bad.isEmpty && v.node.isNone then
      let s1 := dropVerif s v
      if v.spec then s1 else answerHeld s1 v v.stat v.data 0
    else verifyFail s i v

/-- A verification that has not completed 4 µs after its response: the alarm with cause VTIME; the line is not poisoned (R328). The refetches of
a failing node go on. -/
def verifyTimeout (s : State) (i : Nat) : State :=
  match s.ipe.verif[i]? with
  | none => s
  | some v =>
    if !v.spec || v.alarmed then s
    else lateAlarm (if v.failed then setVerif s i { v with alarmed := true } else dropVerif s v) v.req 3

/-- A refetch that passes (R330, R333, R335): a partial write goes on, unless its line is poisoned by now; data delivered that failed under a
node that failed is alarmed with cause TREE. -/
def refetchPass (s : State) (v : Verif) (r : LinesRead) (e : MemEnv) : State :=
  let s1 := countTransient (dropVerif s v) (dramChannel v.req.a48)
  if v.pwrite then
    if r.poison then answerHeld (countPoison s1 .full v.req) v .poison [] 0
    else answerHeld (writeLines s1 .full v.req r.data e) v .ok [] (atomicExt v.req r.data)
  else if v.spec then (if v.bad.isEmpty then s1 else alarmOnce s1 v 1)
  else answerHeld s1 v (if r.poison then .poison else .ok) (maskBody v.req r.data) 0

/-- The second refetch fails too (R330, R333, R336): the node's subtree is quarantined, or the failing lines are poisoned. -/
def refetchFail (s : State) (v : Verif) (bad : List Nat) (node : Option Nat) : State :=
  let p := v.req
  let s1 := dropVerif s v
  let s2 := match node with
    | some l => quarantine s1 p.kid l (p.a48 / 64)
    | none => bad.foldl poisonLine s1
  let cause := if node.isSome then 1 else if v.pwrite then 2 else 0
  if v.spec then alarmOnce s2 v cause else answerHeld (loggedFault s2 p cause) v .poison (poisonBody p) 0

/-- What a refetch of a failing access finds: the counters, and the lines (R330, R333, R335). -/
def refetch (s : State) (v : Verif) (e : MemEnv) : Walk × LinesRead :=
  let how : ReadHow := .again v.req.src.toNat
  let w := walk s v.req.kid (v.req.a48 / 64) e
  (w, if v.pwrite then oldLines w.st .full v.req w.body e how else readLines w.st .full v.req w.body e how)

/-- Whether a refetch must wait: the channel does not run or stands in an alert, a window is open, or a write to a line is still queued (R354). -/
def refetchWaits (s : State) (p : Packet) : Bool :=
  let c := dramChannel p.a48
  let h := s.chan c
  !s.chanAwake c || s.ddrStateOf c != ddrActive || h.alert || h.replaying || h.winOpen.contains (s.place (p.a48 / 64)).1 ||
    (reqLines p).any (fun l => (s.queued l).isSome) || (p.op != opRead && decide (64 < h.wq.length + s.roomFor .full p))

/-- A refetch returns (R330, R333, R335): the failing lines and the failing node are read again, from the DRAM. -/
def verifyRefetch (s : State) (i : Nat) (e : MemEnv) : State :=
  match s.ipe.verif[i]? with
  | none => s
  | some v =>
    if !v.failed || refetchWaits s v.req then s
    else
      let r := refetch s v e
      if r.1.dead then
        let t := dropVerif r.1.st v
        if v.spec then alarmOnce t v 1 else answerHeld (loggedFault t v.req 1) v .poison (poisonBody v.req) 0
      else if r.2.bad.isEmpty && r.1.fail.isNone then refetchPass r.2.st v r.2 e
      else if v.attempts = 0 then verifyFail r.2.st i { v with attempts := 1, bad := r.2.bad, node := r.1.fail }
      else refetchFail r.2.st v r.2.bad r.1.fail

/-! ### Own accesses of the burin and the scrubber (R264, R287, R289) -/

/-- A failing access of the burin or the scrubber itself settled: its verification passes, or its refetches follow at once (R329, R330, R335);
they meet what is stored, with no new error. -/
def settleOwn (s : State) (e : MemEnv) (tries : Nat) : State × Stat × Line :=
  match s.ipe.verif.getLast? with
  | none => (s, .ok, 0)
  | some v =>
    let s1 := dropVerif s v
    if !v.pwrite && v.bad.isEmpty && v.node.isNone then (s1, v.stat, v.data.getD 0 0)
    else
      match tries with
      | 0 =>
        let s2 := match v.node with
          | some l => quarantine s1 v.req.kid l (v.req.a48 / 64)
          | none => v.bad.foldl poisonLine s1
        (loggedFault s2 v.req (if v.node.isSome then 1 else if v.pwrite then 2 else 0), .poison, 0)
      | n + 1 =>
        let r := refetch s1 v e
        if r.1.dead then (loggedFault r.2.st v.req 1, .poison, 0)
        else if r.2.bad.isEmpty && r.1.fail.isNone then
          let t := countTransient r.2.st (dramChannel v.req.a48)
          if v.pwrite then (writeLines t .full v.req r.2.data e, .ok, 0) else (t, v.stat, r.2.data.getD 0 0)
        else settleOwn (addVerif r.2.st { v with bad := r.2.bad, node := r.1.fail }) e n

/-- An access of a requester that waits for its answer before it goes on, performed at once; none while it must wait (R318, R320). -/
def ownAccess (s : State) (p : Packet) (e : MemEnv) : Option (State × Stat × Line) :=
  let c := dramChannel p.a48
  match ipeDecide s p with
  | .prot => some (countDeny s c, .prot, 0)
  | .busy => some (s, .busy, 0)
  | .poison => some (s, .poison, 0)
  | v =>
    if s.ddrStateOf c ≠ ddrActive then some (s, .busy, 0)
    else if s.mustWait v p || sharesLine (s.chan c).jobs p then none
    else
      match performAccess s v true p e (.now p.src.toNat) with
      | (t, .kept) => some (settleOwn t {} 2)
      | (t, .done st body _) => some (t, st, body.getD 0 0)

/-! ### The alarm log -/

/-- The oldest entry of an engine's alarm log removed. -/
def popAlarm (s : State) (e : Nat) : State :=
  { s with ipe := { s.ipe with log := SMap.store [] s.ipe.log e ((s.alarmLog e).drop 1) } }

/-- ALARM_POP (R342): the oldest entry of the alarm log is removed. -/
def execAlarmPop (e : Fin 8) (s : State) : Out := .next (popAlarm s e)

/-! ### Keys and their life (R338-R341) -/

/-- A command refused with a reason (R341, R343). -/
def refuseCmd (s : State) (k reason : Nat) : State :=
  ((s.setFld uIpe0 F.ipeCmdStatRefused 1).setFld uIpe0 F.ipeCmdStatReason reason).setFld uIpe0 F.ipeCmdStatKid k

/-- IPE_WRAP0-9 cleared, as after each command (R338). -/
def clearWrap (s : State) : State := (List.range 10).foldl (fun (t : State) i => t.setFld uIpe0 F.ipeWrapData 0 i) s

/-- The wrapped key written, its first byte the most significant. -/
def State.wrapped (s : State) : Nat :=
  beBytes ((List.range 10).flatMap (fun i => toLeBytes 4 (s.fld uIpe0 F.ipeWrapData i)))

/-- A command of IPE_KID_CMD under the refusals of R341 that come first: the KID, a command running, the state. -/
def kidCommand (s : State) (k : Nat) (fits : Bool) (f : State → State) : State :=
  clearWrap
    (if k = 0 ∨ k = 255 then refuseCmd s k 2
     else if s.flag uIpe0 F.ipeCmdStatBusy then refuseCmd s k 6
     else if !fits then refuseCmd s k 1
     else f (s.setFld uIpe0 F.ipeCmdStatKid k))

/-- A key installed: the KID is KEYED. -/
def installKey (s : State) (k : Nat) (key : BitVec 256) : State :=
  let s1 : State := { s with ipe := { s.ipe with key := SMap.store 0 s.ipe.key k key } }
  s1.setKid k kidKeyed

/-- LOAD (R338): the wrapped key is unwrapped under the device key-encryption key; a value that fails is refused with class 0x14. -/
def kidLoad (s : State) (e k : Nat) : State :=
  kidCommand s k (s.kidState k == kidFree) (fun t =>
    match Crypto.keyUnwrap s.kek s.wrapped with
    | some key => installKey t k (BitVec.ofNat 256 key)
    | none => (refuseCmd t k 5).raise (uIpe e) 0x14 k)

/-- GENERATE (R338): a key from the TRNG, a free value. -/
def kidGenerate (s : State) (k : Nat) : State :=
  kidCommand s k (s.kidState k == kidFree) (fun t =>
    installKey { t with free := t.free + 8 } k ((t.freshLine).truncate 256))

/-- The reason of R316 for which a range is refused, the first of the list. -/
def rangeRefusal (s : State) (k : Nat) : Option Nat :=
  let b := s.kidBase k
  let n := s.kidSize k
  let full := kidClass k == .full
  let total := n + s.fullGib
  if n = 0 ∨ s.ddr.installed < (b + n) * 2 ^ 30 then some 4
  else if (List.range 256).any (fun j => j != k && s.kidBound j &&
      decide (s.kidBase j < b + n) && decide (b < s.kidBase j + s.kidSize j)) ||
      (s.fld uIpe0 F.ipeMetaSizeGib != 0 && decide (s.fld uIpe0 F.ipeMetaBaseGib < b + n) &&
        decide (b < s.fld uIpe0 F.ipeMetaBaseGib + s.fld uIpe0 F.ipeMetaSizeGib)) then some 3
  else if full && (decide (512 < total) || decide (s.fld uIpe0 F.ipeMetaSizeGib * 1024 < total * 160)) then some 4
  else none

/-- Whether a line lies in a KID's range. -/
def State.inRangeOf (s : State) (k line : Nat) : Bool := s.kidHas k (line / 2 ^ 24)

/-- Whether the upsets named by a key are of metadata over a KID's range: those of a tag line or of a node. -/
def State.metaErrOf (s : State) (k key : Nat) : Bool :=
  if 2 ^ 43 ≤ key then s.inRangeOf k (keyLine (key - 2 ^ 43))
  else decide (2 ^ 42 ≤ key) && s.inRangeOf k ((key - 2 ^ 42) * 8)

/-- The counter blocks, nodes, roots, tags and counter-cache entries of a KID's range discarded: INIT then finds a tree of zero lines, MAJOR 1
and counters 0, and RETIRE leaves none (R339, R340). -/
def dropMeta (s : State) (k : Nat) : State :=
  { s with
    ipe := { s.ipe with
      node := s.ipe.node.filter (fun x => !s.inRangeOf k (keyLine x.1))
      cache := s.ipe.cache.filter (fun x => !s.inRangeOf k (keyLine x.1))
      root := s.ipe.root.filter (fun x => !s.inRangeOf k (keyLine (nodeKey (x.1 / 2 ^ 32) 4 (x.1 % 2 ^ 32))))
      tag := s.ipe.tag.filter (fun x => !s.inRangeOf k x.1) }
    ddr := { s.ddr with err := s.ddr.err.filter (fun x => !s.metaErrOf k x.1) } }

/-- Every line of a LIGHT range written as scrambled zeros (R339). -/
def scrambleRange (s : State) (k : Nat) : State :=
  let keys := (List.range (s.kidSize k * 8)).map (fun i => s.kidBase k * 8 + i)
  let chan := s.ddr.chan.map (fun x => (x.1, { x.2 with
    wq := x.2.wq.filter (fun w => !s.inRangeOf k w.line)
    lb := x.2.lb.filter (fun l => !s.inRangeOf k l.1) }))
  { s with ddr := { s.ddr with
      mem := s.ddr.mem.filter (fun x => !s.inRangeOf k x.1)
      fill := keys.foldl (fun m g => SMap.put m g (.scrambled k (s.keyOf k))) s.ddr.fill
      chan := chan.filter (fun x => decide (x.2 ≠ {})) } }

/-- Lines INIT has to write on each channel: FULL metadata or every LIGHT line (R324, R339). -/
def initLines (k size : Nat) : Nat := if kidClass k = .full then 37448 * size else 2097152 * size

/-- INIT goes on at one engine while U of the counter-tree maintenance channel lies below a limit, one unit a line (R339, R424). -/
def initLinesTo (s : State) (e limit : Nat) : State :=
  let left := SMap.get 0 s.ipe.initLeft e
  if left = 0 then s
  else
    let n := min left (min limit (s.capOf 7) - (s.meter 7 e).u)
    let t1 := if n = 0 then s else s.charge 7 e n
    let t2 : State := { t1 with ipe := { t1.ipe with initLeft := SMap.store 0 t1.ipe.initLeft e (left - n) } }
    if left = n then t2 else t2.hold 7 e

/-- Whether a live request is queued at a controller (R425). -/
def State.liveQueued (s : State) (c : Nat) : Bool := !(s.readQueue c).isEmpty || !(s.chan c).wq.isEmpty

/-- INIT goes on at every engine: in its floor band, and in its cap band where no live request is queued (R339, R425). -/
def initAdvance (s : State) : State :=
  (List.range 8).foldl (fun (t : State) e => initLinesTo t e (if t.liveQueued e then t.floorOf 7 else t.capOf 7)) s

/-- INIT (R339): the range is bound, and its initialisation begins. -/
def kidInit (s : State) (k : Nat) : State :=
  kidCommand s k (s.kidState k == kidKeyed) (fun t =>
    match rangeRefusal t k with
    | some r => refuseCmd t k r
    | none =>
      let t1 := showMeta (((t.bindKid k).setKid k kidInitialising).setFld uIpe0 F.ipeCmdStatBusy 1)
      let t2 := if kidClass k = .full then dropMeta t1 k else scrambleRange t1 k
      initAdvance { t2 with ipe := { t2.ipe with
        initLeft := (List.range 8).map (fun e => (e, initLines k (t.kidSize k))) } })

/-- ENABLE (R339): a KEYED LIGHT KID becomes LIVE without a write. -/
def kidEnable (s : State) (k : Nat) : State :=
  kidCommand s k (s.kidState k == kidKeyed && kidClass k == .light) (fun t =>
    match rangeRefusal t k with
    | some r => refuseCmd t k r
    | none => (t.bindKid k).setKid k kidLive)

/-- RETIRE (R340): later requests of the KID are refused. -/
def kidRetire (s : State) (k : Nat) : State :=
  kidCommand s k (s.kidState k == kidKeyed || s.kidState k == kidLive || s.kidState k == kidFaulted) (fun t =>
    let t1 := (t.setKid k kidRetiring).setFld uIpe0 F.ipeCmdStatBusy 1
    { t1 with ipe := { t1.ipe with retiring := some k } })

/-- KID_LOAD (R338). -/
def execKidLoad (e : Fin 8) (kid : BitVec 8) (s : State) : Out := .next (kidLoad s e kid.toNat)

/-- GENERATE (R338). -/
def execGenerate (kid : BitVec 8) (s : State) : Out := .next (kidGenerate s kid.toNat)

/-- KID_INIT (R339). -/
def execKidInit (kid : BitVec 8) (s : State) : Out := .next (kidInit s kid.toNat)

/-- KID_INIT_DONE (R339): every engine has finished, and the KID is LIVE. -/
def execKidInitDone (kid : BitVec 8) (s : State) : Out :=
  if s.kidState kid.toNat = kidInitialising ∧ s.ipe.initLeft = [] then
    .next ((s.setKid kid.toNat kidLive).setFld uIpe0 F.ipeCmdStatBusy 0)
  else .next s

/-- KID_ENABLE (R339). -/
def execKidEnable (kid : BitVec 8) (s : State) : Out := .next (kidEnable s kid.toNat)

/-- RETIRE (R340). -/
def execRetire (kid : BitVec 8) (s : State) : Out := .next (kidRetire s kid.toNat)

/-- Whether a request of a KID is in hand or its verification goes on. -/
def State.kidBusy (s : State) (k : Nat) : Bool :=
  s.ipe.verif.any (fun v => v.req.kid == k) || (List.range 8).any (fun c => (s.chan c).jobs.any (fun j => j.req.kid == k))

/-- RETIRE_DONE (R331, R340): the requests of the KID accepted earlier and their verifications are over; its metadata and key are gone and it
is FREE. -/
def execRetireDone (kid : BitVec 8) (s : State) : Out :=
  let k := kid.toNat
  if s.ipe.retiring ≠ some k ∨ s.kidBusy k then .next s
  else
    let s1 := releaseQuar (if s.kidBound k then (dropMeta s k).unbindKid k else s) k
    let s2 : State := { s1 with ipe := { s1.ipe with key := SMap.erase s1.ipe.key k, retiring := none } }
    .next (showMeta ((s2.setKid k kidFree).setFld uIpe0 F.ipeCmdStatBusy 0))

/-- Every KID FREE, every key, root and tree key zeroised: power-on reset and entry to DORMANT (R315). -/
def zeroiseKeys (s : State) : State :=
  let s1 := (List.range 255).foldl (fun (t : State) k => if t.kidState k = kidFree then t else t.setKid k kidFree) s
  let i : IpeState := { log := s1.ipe.log, signal := s1.ipe.signal, treeKey := (List.range 8).map (fun e => (e, 0)) }
  showMeta ({ s1 with ipe := i }.setFld uIpe0 F.ipeCmdStatBusy 0)

/-- The tree key of every engine drawn from the TRNG: eight free values, four words each (R324). -/
def drawTreeKeys (s : State) : State :=
  (List.range 8).foldl (fun (t : State) e =>
    { t with
      free := t.free + 8
      ipe := { t.ipe with treeKey := SMap.put t.ipe.treeKey e (t.freshLine.truncate 256) } }) s

/-! ### Issuing DRAM commands (R357, R360, R361) -/

/-- A candidate for issue: a read or a queued write, with its line, PRI and source. -/
structure Candidate where
  line : Nat
  pri : Nat
  src : Nat
  hit : Bool
  bank : Nat
deriving DecidableEq, Repr

/-- The candidate of a line. -/
def State.candidate (s : State) (line pri src : Nat) : Candidate :=
  let pl := s.place line
  ⟨line, pri, src, SMap.find (s.chan (lineChannel line)).openRow pl.2.1 == some pl.2.2, pl.2.1⟩

/-- The place of the candidate to issue: timing met, not in an open window's rank, no throttled source that opens a row before its gap,
no row hit past an old request to its bank; the highest PRI, then row hits, then the oldest (R357). -/
def pick (s : State) (c : Nat) (l : List Candidate) (met old gap : List Nat) : Option Nat :=
  let ok := (List.range l.length).filter (fun i =>
    match l[i]? with
    | none => false
    | some x =>
      met.contains i && !(s.chan c).winOpen.contains (x.bank / 1024) &&
      (x.hit || !s.throttled c x.bank x.src || gap.contains i) &&
      !(x.hit && (List.range i).any (fun j => old.contains j && ((l[j]?).map (·.bank)) == some x.bank)))
  ok.find? (fun i => ok.all (fun j =>
    match l[i]?, l[j]? with
    | some x, some y => decide (y.pri < x.pri) || (x.pri == y.pri && ((x.hit && !y.hit) || (x.hit == y.hit && decide (i ≤ j))))
    | _, _ => true))

/-- One RFM issued (R348, R360): of a bank, or of a rank whole, numbered 4,096 + rank; the rows are closed. -/
def issueRfm (s : State) (c key : Nat) : State :=
  let h := s.chan c
  let all := decide (4096 ≤ key)
  s.setChan c ({ h with
    rfm := NSet.del h.rfm key
    openRow := h.openRow.filter (fun x => if all then x.1 / 1024 != key - 4096 else x.1 != key) }.issue
      (if all then .rfmAll (key - 4096) else .rfm key))

/-- The effect of a command that a replay issues again (R361): a row opened, data on its way, a line stored, rows closed. -/
def replayed (s : State) (c : Nat) (k : DramCmd) : State :=
  let h := s.chan c
  match k with
  | .act bank row => s.setChan c { h with openRow := SMap.put h.openRow bank row }
  | .read line => s.setChan c { h with jobs := markGot line h.jobs }
  | .write line v => s.setDramLine line v
  | .refresh rank bank => s.setChan c { h with openRow := h.openRow.filter (fun x => !s.refreshes c rank bank x.1) }
  | .rfm bank => s.setChan c { h with openRow := SMap.erase h.openRow bank }
  | .rfmAll rank => s.setChan c { h with openRow := h.openRow.filter (fun x => x.1 / 1024 != rank) }

/-- One command of a replay reissued; after the last the count of failed attempts starts anew (R361). -/
def reissue (s : State) (c : Nat) (k : DramCmd) (rest : List DramCmd) : State :=
  let t := replayed s c k
  let h := t.chan c
  t.setChan c ({ h with replay := rest, replaying := !rest.isEmpty, attempts := if rest.isEmpty then 0 else h.attempts }.issue k)

/-- A queued write issued (R356, R357). -/
def issueWrite (s : State) (c : Nat) (w : QWrite) : State :=
  let s1 := (activate s c w.line w.src).writeOut c w
  s1.setChan c ((s1.chan c).issue (.write w.line w.data))

/-- A read issued: its data is on its way to its request (R356, R357). -/
def issueRead (s : State) (c line src : Nat) : State :=
  let s1 := readNow s line src
  let h := s1.chan c
  s1.setChan c { h with jobs := markGot line h.jobs }

/-- The rank of a list with a refresh due and banks that no request waits for, and their index (R357, R359). -/
def dueRefresh (s : State) (c : Nat) (ranks : List (Fin 4)) : Option (Nat × Nat) :=
  (ranks.map (fun r => r.val)).findSome? (fun r => if SMap.get 0 (s.chan c).debt r = 0 then none else (idleBank s c r).map (fun b => (r, b)))

/-- The next read in read mode or write in drain mode issued (R356, R357); with none eligible INIT goes on in its cap band (R425). -/
def issueNext (s : State) (c : Nat) (met old gap : List Nat) : State :=
  let h := s.chan c
  if h.drain then
    match (pick s c (h.wq.map (fun w => s.candidate w.line w.pri w.src)) met old gap).bind (fun i => h.wq[i]?) with
    | none => initLinesTo s c (s.capOf 7)
    | some w => issueWrite s c w
  else
    let rq := (s.readQueue c).take 64
    match (pick s c (rq.map (fun x => s.candidate x.2 x.1.req.pri.toNat x.1.req.src.toNat)) met old gap).bind (fun i => rq[i]?) with
    | none => initLinesTo s c (s.capOf 7)
    | some x => issueRead s c x.2 x.1.req.src.toNat

/-- DRAM_COMMAND_ISSUE (R357, R360, R361): a refresh or RFM that is due, then a command to be reissued, then the next read in read mode or write in
drain mode; `met` are the candidates whose timing is met, `old` those older than 256 plate cycles, `gap` those of a throttled source whose GAP
has passed, `raa` a bank, or with true its rank, whose devices ask for an RFM, `ref` the ranks whose refresh may be issued now. During an alert,
and on a channel that is gated or not ACTIVE, nothing is issued. -/
def execDramCommandIssue (c : Fin 8) (met old gap : List Nat) (raa : Option (BitVec 12 × Bool)) (s : State) (ref : List (Fin 4) := []) : Out :=
  let h0 := s.chan c
  let s0 := match raa with
    | some b => s.setChan c { h0 with rfm := NSet.add h0.rfm (if b.2 then 4096 + b.1.toNat / 1024 else b.1.toNat) }
    | none => s
  let h := s0.chan c
  if s0.ddrStateOf c ≠ ddrActive ∨ !s0.chanAwake c ∨ h.alert then .next s0
  else
    match dueRefresh s0 c ref with
    | some r => .next (if h.replaying then s0 else refreshRank s0 c r.1 r.2)
    | none =>
      match h.rfm with
      | b :: _ => .next (issueRfm s0 c b)
      | [] =>
        match h.replay with
        | k :: rest => .next (reissue s0 c k rest)
        | [] => .next (issueNext s0 c met old gap)

end Sys2Proof.Machine
end

