-- ==== Sys2Proof/Machine/Bus.lean ====
section
/-! DEFINITION. The configuration bus of a die: the order in which the scrubber visits frames, and the order in which loading, the census and
the scrubber are served (R291, R297, R302, R425). -/

namespace Sys2Proof.Machine

open Sys2Proof

/-! ### Order of frames (R291, R297) -/

/-- A scrub engine. -/
def State.scrub (s : State) (d : Nat) : ScrubEngine := SMap.get {} s.scb.eng d
/-- A scrub engine replaced. -/
def State.setScrub (s : State) (d : Nat) (g : ScrubEngine) : State := { s with scb := { s.scb with eng := SMap.store {} s.scb.eng d g } }

/-- A dynamic frame: a calibration frame of a region that hosts a bank (R297). -/
def dynamicFrame (n o : Nat) : Bool := (hostBank n).isSome && decide (ordRegion 100 ≤ o) && decide (o ≤ ordRegion 109)

/-- Whether the scrubber visits a region: enabled, with an ACTIVE plane, not power-gated, not between F and RESETS (R291). -/
def scrubbed (s : State) (n : Nat) : Bool :=
  bitOf (s.fld uScb F.scbRegionEnRegions (n / 32)) (n % 32) && (s.active n).isSome && s.dom n != domOff && s.stage n == 3

/-- The first place from `pos` on at a frame of a visited region, within `fuel` regions. -/
def nextPlace (s : State) (d : Nat) : Nat → Nat → Nat
  | 0, pos => pos
  | fuel + 1, pos =>
    if 16 * 22528 ≤ pos then pos
    else if scrubbed s (d * 16 + pos / 22528) then
      (if dynamicFrame (d * 16 + pos / 22528) (pos % 22528) then nextPlace s d fuel (pos / 22528 * 22528 + ordRegion 110) else pos)
    else nextPlace s d fuel ((pos / 22528 + 1) * 22528)

/-- A region placed first that is still visited. -/
def firstRegion (s : State) (g : ScrubEngine) : List Nat := g.first.filter (fun n => scrubbed s n)

/-- Where the next frame of an engine comes from: the census, a region placed first, or the lap. -/
inductive Visit where
  | census (key : Nat) | first (n o : Nat) | lap (pos : Nat) | lapEnd | idle
deriving DecidableEq, Repr

/-- Whether a visit is to a region placed first. -/
def isFirst : Visit → Bool
  | .first _ _ => true
  | _ => false

/-- The next visit of an engine (R291, R302). -/
def nextVisit (s : State) (d : Nat) : Visit :=
  let g := s.scrub d
  match s.scb.handed.find? (fun k => dieOfRegion (k / 22528) == d && s.stage (k / 22528) == 3) with
  | some k => .census k
  | none =>
    if !s.flag uScb F.scbCtrlEn then .idle
    else
      match firstRegion s g with
      | n :: _ =>
        let o := if g.fregion = some n then g.fpos else 0
        .first n (if dynamicFrame n o then ordRegion 110 else o)
      | [] =>
        let pos := nextPlace s d 40 g.pos
        if 16 * 22528 ≤ pos then .lapEnd else .lap pos

/-- Whether a scope holds a region (R301). -/
def scopeHas (l : List Nat) (n : Nat) : Bool := bitOf (l.getD (n / 32) 0) (n % 32)

/-! ### Service of the configuration bus (R425) -/

/-- Whether a repair of a scrub engine waits for the bus, within the budget of a channel: census (1) or scrubbing (2) (R298, R302). -/
def repairWaits (h : Search) (ch : Nat) : Bool := h.cand.isSome && !h.flipped && (if h.census then ch == 1 else ch == 2)

/-- Whether a scrub engine has a frame to read or repair within the budget of a channel (R291, R298, R302). -/
def scrubWaits (s : State) (d ch : Nat) : Bool :=
  match (s.scrub d).hand with
  | some h => repairWaits h ch
  | none =>
    s.dom 154 == domRun &&
      (match nextVisit s d with
       | .census k => ch == 1 && (s.active (k / 22528)).isSome
       | .first _ _ => ch == 2
       | .lap _ => ch == 2
       | _ => false)

/-- Whether the digest has a frame of a die to read (R302). -/
def digestWaits (s : State) (d : Nat) : Bool :=
  match s.cns.run with
  | none => false
  | some r =>
    let pos := SMap.get 0 r.pos d
    let n := d * 16 + pos / 22528
    decide (pos < 16 * 22528) && !s.scb.handed.contains (n * 22528 + pos % 22528) && scopeHas r.scope n && (s.active n).isSome &&
      !dynamicFrame n (pos % 22528) && s.stage n == 3

/-- Whether the census or the scrubber has an item waiting for the bus of a die. -/
def busWaits (s : State) (d ch : Nat) : Bool := (ch == 1 && digestWaits s d) || scrubWaits s d ch

/-- Whether work of channels waits in its floor band, or in either band (R425). -/
def floorWaits (s : State) (d : Nat) (waits : Nat → Bool) (l : List Nat) : Bool :=
  l.any (fun ch => waits ch && decide ((s.meter ch d).u < min (s.floorOf ch) (s.capOf ch)))

/-- The usage below which a channel's next item on the bus of a die is served now (R424, R425): 0 while a lower channel waits in its floor band; the
floor while a lower channel waits at all or a higher one in its floor band; else CAP. `waits` tells the channels with work waiting. -/
def busLimit (s : State) (ch d : Nat) (waits : Nat → Bool) : Nat :=
  let below := (List.range 3).filter (fun x => decide (x < ch))
  let above := (List.range 3).filter (fun x => decide (ch < x))
  if floorWaits s d waits below then 0
  else if floorWaits s d waits above || below.any (fun x => waits x && s.admits x d) then min (s.floorOf ch) (s.capOf ch)
  else s.capOf ch

end Sys2Proof.Machine
end

