-- ==== Sys2Proof/Machine/Burin.lean ====
section
/-! DEFINITION. The burin: frame addresses, the Steten image, loads, verification, flips and releases, versions, self-load
(R247-R290, R578). -/

namespace Sys2Proof.Machine

open Sys2Proof

/-! ### Planes (R247, R248) -/

/-- States of a plane (R247). -/
def planeEmpty : Nat := 0
/-- LOADING. -/
def planeLoading : Nat := 1
/-- VERIFIED. -/
def planeVerified : Nat := 2
/-- ACTIVE. -/
def planeActive : Nat := 3
/-- STALE. -/
def planeStale : Nat := 4

/-- The state of a plane of a region (R278). -/
def State.planeState (s : State) (n p : Nat) : Nat :=
  if p = 0 then s.fld uCfg F.cfgRegionPlane0 n else s.fld uCfg F.cfgRegionPlane1 n

/-- The state of a plane set. -/
def State.setPlane (s : State) (n p v : Nat) : State :=
  if p = 0 then s.setFld uCfg F.cfgRegionPlane0 v n else s.setFld uCfg F.cfgRegionPlane1 v n

/-- The inactive plane of a region: the one that is not ACTIVE; with none ACTIVE, the one last left by a flip, or plane 0 (R247). -/
def State.inactive (s : State) (n : Nat) : Nat :=
  match s.active n with
  | some p => 1 - p
  | none => SMap.get 0 s.cfg.left n

/-- Whether any region is ACTIVE. -/
def State.anyActive (s : State) : Bool := (List.range 128).any (fun n => (s.active n).isSome)

/-- Whether a plane is VERIFIED. -/
def State.anyVerified (s : State) : Bool :=
  (List.range 128).any (fun n => s.planeState n 0 == planeVerified || s.planeState n 1 == planeVerified)

/-- MODE by the table of R433. -/
def State.modeNo (s : State) : Nat :=
  if s.mode.dormant then 0
  else
    match s.mode.overlay with
    | .service => 7
    | .contain => 6
    | .drowse => 5
    | .none => if s.anyActive then 4 else if s.cfg.load.isSome then 2 else if s.anyVerified then 3 else 1

/-- A region between a flip and the end of its release (R268); one stopped by an INIT_FAULT is. -/
def State.releasing (s : State) (n : Nat) : Bool := s.cfg.flips.any (fun f => f.regions.contains n && decide (1 ≤ f.phase))

/-- A region still in a release as a FLIP sees it: not one stopped by an INIT_FAULT (R269, R273). -/
def State.inRelease (s : State) (n : Nat) : Bool :=
  s.cfg.flips.any (fun f => f.regions.contains n && decide (1 ≤ f.phase) && !f.fault)

/-- RELEASING shows whether a region is between F and RESETS (R277). -/
def showReleasing (s : State) : State :=
  s.setFld uCfg F.cfgStatusReleasing (boolNat (s.cfg.flips.any (fun f => decide (1 ≤ f.phase))))

/-- The source that shows VERIFIED, FAILED or FLIPPED set (R507). -/
def cfgEvent (s : State) : State := s.edge 11

/-- REFUSED set and nothing else changed (R249, R269, R274). -/
def cfgRefuse (s : State) : State := s.setFld uCfg F.cfgStatusRefused 1

/-! ### Frame addresses (R250-R252, R292) -/

/-- First ordinal, columns, minors per column of a block type. -/
def blockShape (b : Nat) : Option (Nat × Nat × Nat) :=
  match b with
  | 0 => some (0, 192, 112)
  | 1 => some (21504, 96, 4)
  | 2 => some (21888, 9, 2)
  | 3 => some (21906, 1, 110)
  | 4 => some (22016, 1, 512)
  | _ => none

/-- The device region, block type and ordinal a FAR names; none where it is invalid (R251). -/
def farPlace (far : Nat) : Option (Nat × Nat × Nat) :=
  let b := bitsOf far 24 22
  let col := bitsOf far 21 12
  let minor := bitsOf far 11 0
  match blockShape b with
  | none => none
  | some (first, cols, minors) =>
    if col < cols ∧ minor < minors then some (bitsOf far 31 25, b, first + col * minors + minor) else none

/-- The block type of an ordinal. -/
def blockOf (o : Nat) : Nat :=
  if o < 21504 then 0 else if o < 21888 then 1 else if o < 21906 then 2 else if o < 22016 then 3 else 4

/-- The FAR of a frame (R28, R62, R250). -/
def farOf (n o : Nat) : Nat :=
  let b := blockOf o
  match blockShape b with
  | none => 0
  | some (first, _, minors) => n * 2 ^ 25 + b * 2 ^ 22 + (o - first) / minors * 4096 + (o - first) % minors

/-- The bytes of a frame (R256). -/
def imgFrameBytes (f : Frame) : List Byte := toLeBytes 256 f.toNat

/-- The CRC of a frame (R258). -/
def frameCrc (f : Frame) : Word32 := BitVec.ofNat 32 (crc32c (imgFrameBytes f))

/-! ### The Steten image (R253-R260) -/

/-- A little-endian field of the image. -/
def imgField (bs : List Byte) (off n : Nat) : Nat := leBytes ((bs.drop off).take n)

/-- MANIFEST_LEN. -/
def imgManifestLen (bs : List Byte) : Nat := imgField bs 60 4
/-- FRAMES_LEN. -/
def imgFramesLen (bs : List Byte) : Nat := imgField bs 64 8
/-- INIT_LEN. -/
def imgInitLen (bs : List Byte) : Nat := imgField bs 72 8
/-- RUN_COUNT. -/
def imgRuns (bs : List Byte) : Nat := imgField bs 48 4
/-- INIT_COUNT. -/
def imgInits (bs : List Byte) : Nat := imgField bs 52 4
/-- CRC_COUNT. -/
def imgCrcs (bs : List Byte) : Nat := imgField bs 56 4
/-- The image offset of the initialisation section. -/
def imgInitOff (bs : List Byte) : Nat := 256 + imgManifestLen bs + imgFramesLen bs
/-- The image length given by its header (R253). -/
def imgLength (bs : List Byte) : Nat := imgInitOff bs + imgInitLen bs + 256
/-- REGION_SET. -/
def imgRegions (bs : List Byte) : NSet := (List.range 128).filter (fun n => bitOf (imgField bs (32 + n / 8) 1) (n % 8))

/-- Failure codes of R266. -/
def failFormat : Nat := 1
/-- DEVICE. -/
def failDevice : Nat := 2
/-- COUNT. -/
def failCount : Nat := 3
/-- FAR. -/
def failFar : Nat := 4
/-- FENCE. -/
def failFence : Nat := 5
/-- SPAN. -/
def failSpan : Nat := 6
/-- FRAME_CRC. -/
def failFrameCrc : Nat := 7
/-- INIT. -/
def failInit : Nat := 8
/-- DIGEST. -/
def failDigest : Nat := 9
/-- SIGNATURE. -/
def failSignature : Nat := 10
/-- SVN. -/
def failSvn : Nat := 11
/-- SOURCE. -/
def failSource : Nat := 12
/-- ABORTED. -/
def failAborted : Nat := 13
/-- STAGE. -/
def failStage : Nat := 14
/-- BUSY. -/
def failBusy : Nat := 15

/-- The class a failure raises (R266). -/
def failClass (code : Nat) : Option Nat :=
  if code = failFence then some 0x13 else if code = failSpan then some 0x12 else if code = failFrameCrc then some 0x07
  else if code = failAborted ∨ code = failBusy then none else some 0x14

/-- The first check of a list that fails, with its code and detail. -/
def firstFail (l : List (Bool × Nat × Nat)) : Option (Nat × Nat) := (l.find? (fun x => x.1)).map (·.2)

/-- The checks of a header, in the order of R255: whether each fails, its code, its detail (R266). -/
def headerChecks (bs : List Byte) (svn : Nat) : List (Bool × Nat × Nat) :=
  let f := imgField bs
  [ (f 0 4 != 0x54455453, failFormat, 0), (f 4 2 != 1, failFormat, 4), (f 6 2 != 256, failFormat, 6),
    (f 8 4 != 0x4B38, failFormat, 8), (f 28 4 != 0, failFormat, 28), (f 128 128 != 0, failFormat, 128),
    (f 12 1 == 0 || decide (3 < f 12 1), failFormat, 12),
    (decide (Config.grade < f 12 1), failDevice, 12), (decide (0x41 < f 13 1), failDevice, 13),
    (decide (1 < f 14 1), failFormat, 14), (decide (1 < f 15 1) || (f 14 1 == 0 && f 15 1 != 0), failFormat, 15),
    ((f 14 1 == 0 && (imgRegions bs).length != 128) || (imgRegions bs).isEmpty, failFormat, 32),
    (imgRuns bs == 0 || decide (2883584 < imgRuns bs), failCount, 48), (decide (32768 < imgInits bs), failCount, 52),
    (imgManifestLen bs != (16 * (imgRuns bs + imgInits bs) + 4 * imgCrcs bs + 63) / 64 * 64, failCount, 60),
    (imgInitLen bs % 64 != 0, failCount, 72),
    (decide (64 < f 16 4) || decide (f 16 4 < svn), failSvn, f 16 4) ]

/-- Run entry `i` of a manifest as bytes give it: FAR, COUNT, ZFILL. -/
def rawRun (bs : List Byte) (i : Nat) : Nat × Nat × Bool :=
  let o := 256 + 16 * i
  (imgField bs o 4, imgField bs (o + 4) 4, imgField bs (o + 8) 1 % 2 == 1)

/-- The last ordinal of a block type. -/
def blockEnd (b : Nat) : Nat :=
  match blockShape b with
  | some (first, cols, minors) => first + cols * minors
  | none => 0

/-- The runs of a manifest checked in order (R256): the runs, or the code and FAR of the first breach. `prev` is the last frame of the run
before, as region × 22,528 + ordinal, plus one. -/
def checkRuns (bs : List Byte) (regions : NSet) : Nat → Nat → Nat → Except (Nat × Nat) (List RunEntry)
  | 0, _, _ => .ok []
  | k + 1, i, prev =>
    let r := rawRun bs i
    match farPlace r.1 with
    | none => .error (failFar, r.1)
    | some (n, b, o) =>
      if r.2.1 = 0 ∨ 22528 < r.2.1 ∨ blockEnd b < o + r.2.1 ∨ n * 22528 + o < prev then .error (failFar, r.1)
      else if !regions.contains n then .error (failFence, r.1)
      else
        match checkRuns bs regions k (i + 1) (n * 22528 + o + r.2.1) with
        | .ok l => .ok (⟨n, o, r.2.1, r.2.2⟩ :: l)
        | .error e => .error e

/-- Initialisation entry `i` of a manifest (R257). -/
def rawInit (bs : List Byte) (i : Nat) : InitEntry :=
  let o := 256 + 16 * imgRuns bs + 16 * i
  ⟨imgField bs o 1, imgField bs (o + 1) 1 * 16 + imgField bs (o + 2) 1, imgField bs (o + 3) 1, imgField bs (o + 4) 4⟩

/-- LEN of a target (R257). -/
def targetLen (t : Nat) : Nat := if t = 0 then 8192 else if t = 1 then 18432 else 1024

/-- Whether one entry breaks R257 by itself. -/
def initBad (bs : List Byte) (regions : NSet) (i : Nat) : Bool :=
  let o := 256 + 16 * imgRuns bs + 16 * i
  let e := rawInit bs i
  decide (2 < e.target) || decide (7 < imgField bs (o + 1) 1) || decide (15 < imgField bs (o + 2) 1) ||
  decide ((if e.target = 0 then 128 else 64) ≤ e.index) || e.len != targetLen e.target || !regions.contains e.region

/-- The order of entries: (DIE, REGION, TARGET, INDEX) (R257). -/
def initOrder (e : InitEntry) : Nat := (e.region * 4 + e.target) * 256 + e.index

/-- The entries of a manifest checked in order (R257): the entries, or the index of the first that breaks a rule. -/
def checkInits (bs : List Byte) (regions : NSet) : Nat → Nat → Nat → Nat → Except Nat (List InitEntry)
  | 0, _, _, _ => .ok []
  | k + 1, i, prev, used =>
    let e := rawInit bs i
    if initBad bs regions i ∨ initOrder e < prev ∨ imgInitLen bs < used + e.len then .error i
    else
      match checkInits bs regions k (i + 1) (initOrder e + 1) (used + e.len) with
      | .ok l => .ok (e :: l)
      | .error x => .error x

/-- Frames of runs without ZFILL. -/
def dataFrames (runs : List RunEntry) : Nat := (runs.map (fun r => if r.zfill then 0 else r.count)).sum

/-- All frames of the runs. -/
def allFrames (runs : List RunEntry) : Nat := (runs.map (·.count)).sum

/-- Frame number `i` of the runs, in order: region, ordinal, and its place in the frame section where it carries data (R256). -/
def frameAt (runs : List RunEntry) (i data : Nat) : Option (Nat × Nat × Option Nat) :=
  match runs with
  | [] => none
  | r :: rest =>
    if i < r.count then some (r.region, r.first + i, if r.zfill then none else some (data + i))
    else frameAt rest (i - r.count) (if r.zfill then data else data + r.count)

/-- The place in the initialisation section of entry `i`. -/
def entryOff (entries : List InitEntry) (i : Nat) : Nat := ((entries.take i).map (·.len)).sum

/-- CFG_STAGE_NEED (R264, R578). -/
def stageNeed (initLen : Nat) (regions : NSet) : Nat := initLen / 64 + 1408 * regions.length

/-- Bytes cut in pieces of `n`. -/
def chunks {α : Type} (n : Nat) : Nat → List α → List (List α)
  | 0, _ => []
  | k + 1, bs => if bs.isEmpty then [] else bs.take n :: chunks n k (bs.drop n)

/-- The image digest of the bytes it covers: SHA-384 over the SHA-384 of the 1 MiB chunks (R260). -/
def imageDigest (bs : List Byte) : List Byte :=
  Crypto.sha384 ((chunks 1048576 (bs.length / 1048576 + 1) bs).flatMap Crypto.sha384)

/-- The checks of the signature block at an offset, over the bytes before it, in the order of R259. -/
def blockFail (s : State) (bs : List Byte) (off : Nat) : Option (Nat × Nat) :=
  let f (o n : Nat) := imgField bs (off + o) n
  let slot := f 5 1
  let digest := imageDigest (bs.take off)
  let pub := (bs.drop (off + 152)).take 97
  let big (o n : Nat) := beBytes ((bs.drop (off + o)).take n)
  firstFail [
    (f 0 4 != 0x47495353 || f 4 1 != 1 || f 6 2 != 0 || f 249 7 != 0, failSignature, slot),
    ((bs.drop (off + 8)).take 48 != digest, failDigest, 0),
    (decide (3 < slot) || (SMap.find s.fuse.slots slot).isNone ||
      SMap.get 0 s.fuse.slots slot != BitVec.ofNat 384 (beBytes (Crypto.sha384 pub)) || s.fuse.revoked.contains slot, failSignature, slot),
    (f 152 1 != 4 || !Crypto.ecdsaVerify (big 153 48) (big 201 48) (beBytes digest) (big 56 48) (big 104 48), failSignature, slot) ]

/-- The checks of an image's signature block (R259). -/
def signatureFail (s : State) (bs : List Byte) : Option (Nat × Nat) := blockFail s bs (imgLength bs - 256)

/-! ### Staging through the protection engines (R264, R319, R578) -/

/-- A one-line request of the burin (port 6) or the scrubber (port 7) of node 31: ICLS 5. -/
def burinPkt (port op addr : Nat) (d : Line) : Packet :=
  { pri := 2, opc := BitVec.ofNat 6 op, len := 1, tag := 0, dst := BitVec.ofNat 11 (codeOf (ddrNode (dramChannel (addr % 2 ^ 48))) 1),
    src := BitVec.ofNat 11 (codeOf 31 port), label := 0, icls := 5, stat := 0, addr := BitVec.ofNat 56 addr, aux := 63, hoplim := 0, ext := 0,
    hdata := 0, body := if op = opRead then [] else [d] }

/-- One line read or written by the burin; none while the line must wait (R320, R364). An address outside the installed DRAM is
DECODE (R23). -/
def burinLine (s : State) (port op addr : Nat) (d : Line) (e : MemEnv) : Option (State × Stat × Line) :=
  let p := burinPkt port op addr d
  if !s.ddr.trained then some (s, .busy, 0)
  else if s.ddr.installed ≤ addr % 2 ^ 48 ∨ addr / 2 ^ 48 = 255 then some (s, .decode, 0)
  else ownAccess s p e

/-- Lines read in order: the state, the first status that is not OK, and the bytes read before it. -/
def burinRead (s : State) (port addr : Nat) (e : MemEnv) : Nat → Option (State × Stat × List Byte)
  | 0 => some (s, .ok, [])
  | k + 1 =>
    match burinLine s port opRead addr 0 e with
    | none => none
    | some (t, .ok, v) =>
      match burinRead t port (addr + 64) e k with
      | none => none
      | some (u, st, bs) => some (u, st, toLeBytes 64 v.toNat ++ bs)
    | some (t, st, _) => some (t, st, [])

/-- Lines written in order: the state, and the first status that is not OK with its place. -/
def burinWrite (s : State) (addr off : Nat) (e : MemEnv) : List Line → Option (State × Option (Stat × Nat))
  | [] => some (s, none)
  | v :: r =>
    match burinLine s 6 opWrite (addr + off) v e with
    | none => none
    | some (t, .ok, _) => burinWrite t addr (off + 64) e r
    | some (t, st, _) => some (t, some (st, off))

/-- The base address of a staging bank, KID included (R277). -/
def State.bankBase (s : State) (b : Nat) : Nat :=
  (s.fld uCfg F.cfgStageBaseHiBase b * 2 ^ 32 + s.fld uCfg F.cfgStageBaseLoBase b) / 4096 * 4096

/-- The bank of a load sequence number (R264). -/
def bankOfSeq (seq : Nat) : Nat := seq % 2

/-- The bank that still holds the data of a load, if one does. -/
def State.bankHolding (s : State) (seq : Nat) : Option BankRec :=
  match SMap.find s.cfg.bank (bankOfSeq seq) with
  | some b => if b.seq = seq then some b else none
  | none => none

/-! ### The frame-check table (R292, R293) -/

/-- The CRC of an all-zero frame, which an entry holds until it is written. -/
def zeroFrameCrc : Word32 := frameCrc 0

/-- An entry of the frame-check table. -/
def State.fcEntry (s : State) (n o : Nat) : Word32 := SMap.get zeroFrameCrc s.scb.table (n * 22528 + o)

/-- The CRC of a block of 64 entries, computed from them (R293). -/
def blockCrcOf (s : State) (b : Nat) : Word32 :=
  BitVec.ofNat 32 (crc32c ((List.range 64).flatMap (fun i => toLeBytes 4 (SMap.get zeroFrameCrc s.scb.table (b * 64 + i)).toNat)))

/-- The CRC of a block no entry of which has been written. -/
def blankBlockCrc : Word32 :=
  BitVec.ofNat 32 (crc32c ((List.range 64).flatMap (fun _ => toLeBytes 4 zeroFrameCrc.toNat)))

/-- A block's CRC as held. -/
def State.blockCrc (s : State) (b : Nat) : Word32 := SMap.get blankBlockCrc s.scb.block b

/-- An entry written. -/
def State.setFcEntry (s : State) (n o : Nat) (w : Word32) : State :=
  { s with scb := { s.scb with table := SMap.store zeroFrameCrc s.scb.table (n * 22528 + o) w } }

/-- A fresh block CRC. -/
def freshBlock (s : State) (b : Nat) : State :=
  { s with scb := { s.scb with block := SMap.store blankBlockCrc s.scb.block b (blockCrcOf s b) } }

/-- All entries of a region written from a list of CRCs, with fresh block CRCs; 22,528 frames are 352 blocks. -/
def loadEntries (s : State) (n : Nat) (crc : Nat → Word32) : State :=
  let s1 := (List.range regionFrames).foldl (fun (t : State) o => t.setFcEntry n o (crc o)) s
  (List.range 352).foldl (fun (t : State) b => freshBlock t (n * 352 + b)) s1

/-! ### Loads (R249, R261-R268, R283-R289) -/

/-- The load in progress replaced. -/
def State.setLoad (s : State) (l : Option Load) : State := { s with cfg := { s.cfg with load := l } }

/-- PHASE shown. -/
def showPhase (s : State) (v : Nat) : State := s.setFld uCfg F.cfgStatusPhase v

/-- The load's phase advanced. -/
def setPhase (s : State) (l : Load) (v : Nat) : State := showPhase (s.setLoad (some { l with phase := v })) v

/-- A load ended: the bus fence falls, BUSY and PHASE are 0. -/
def endLoad (s : State) (l : Load) : State :=
  let s1 : State := { s with cfg := { s.cfg with load := none, lastSelf := l.source == 2 } }
  (showPhase s1 0).setFld uCfg F.cfgStatusBusy 0

/-- The LOADING planes of a load moved to a state (R248). -/
def movePlanes (s : State) (l : Load) (v : Nat) : State :=
  l.regions.foldl (fun (t : State) n => if t.planeState n (t.inactive n) = planeLoading then t.setPlane n (t.inactive n) v else t) s

/-- A load fails (R266, R284): its LOADING planes become STALE, FAILED, FAIL_CODE and CFG_FAIL_INFO tell why, and the class is raised.
After a fence, the next write to its window completes with STAT FENCED. -/
def failLoad (s : State) (l : Load) (code info : Nat) : State :=
  let s1 := endLoad (if 3 ≤ l.phase then movePlanes s l planeStale else s) l
  let s2 := ((s1.setFld uCfg F.cfgStatusFailed 1).setFld uCfg F.cfgStatusFailCode code).setFld uCfg F.cfgFailInfoInfo info
  let s3 := match failClass code with
    | some c => s2.raise uCfg c info
    | none => s2
  let s4 : State := if code = failFence ∧ l.source ≠ 0 then { s3 with cfg := { s3.cfg with fenced := some l.source } } else s3
  cfgEvent s4

/-- Beats of a load on a die's configuration bus, charged while any region is ACTIVE (R276). -/
def loadCharge (s : State) (d beats : Nat) : State := if s.anyActive then s.charge 0 d beats else s

/-- How many of `left` items of a load, each of `cost` beats, a die's bus serves now: every one while no region is ACTIVE, else while
U lies below CAP, or below FLOOR while the census or the scrubber waits in its floor band (R276, R424, R425). -/
def itemsNow (s : State) (d cost left : Nat) : Nat :=
  if s.anyActive then min left ((busLimit s 0 d (busWaits s d) - (s.meter 0 d).u + cost - 1) / cost) else left

/-- Items of a load charged as each die's bus admits them, the rest held (R424, R427): `work` gives the items of each die, `paid` those
admitted before; answers those admitted so far. -/
def paced (cost : Nat) : SMap Nat → State → SMap Nat → State × SMap Nat
  | [], s, paid => (s, paid)
  | (d, n) :: r, s, paid =>
    let left := n - SMap.get 0 paid d
    let k := itemsNow s d cost left
    let s1 := if k = 0 then s else loadCharge s d (cost * k)
    paced cost r (if k < left then s1.hold 0 d else s1) (SMap.store 0 paid d (SMap.get 0 paid d + k))

/-- Whether every item of the work has been admitted. -/
def allPaid (work paid : SMap Nat) : Bool := work.all (fun x => decide (x.2 ≤ SMap.get 0 paid x.1))

/-- `each` items for every region of a list, by die. -/
def dieWork (each : Nat) (regions : List Nat) : SMap Nat :=
  regions.foldl (fun m n => SMap.store 0 m (dieOfRegion n) (SMap.get 0 m (dieOfRegion n) + each)) []

/-- The inactive plane of a region made LOADING and cleared (R263). -/
def prepareRegion (s : State) (n : Nat) : State :=
  let p := s.inactive n
  let lo := frameKey p n 0
  let s1 := s.setPlane n p planeLoading
  { s1 with fab := { s1.fab with
    frames := s.fab.frames.filter (fun x => !(decide (lo ≤ x.1) && decide (x.1 < lo + regionFrames))) } }

/-- The regions whose ACTIVE plane a load copies: with BASE COPY, those that have one (R263). -/
def copyRegions (s : State) (l : Load) : List Nat :=
  if imgField l.bytes 15 1 = 1 then l.regions.filter (fun n => (s.active n).isSome) else []

/-- Frames `a` up to `b` of the regions of a die copied from their ACTIVE planes, numbered through the regions in turn, with their
frame-check entries (R263). -/
def copyFrames (l : Load) (s : State) (regions : List Nat) (a b : Nat) : State × Load :=
  (List.range (b - a)).foldl (fun (x : State × Load) i =>
    let k := a + i
    let n := regions.getD (k / regionFrames) 0
    let o := k % regionFrames
    (x.1.setFrame (x.1.inactive n) n o (x.1.frame ((x.1.active n).getD 0) n o),
      { x.2 with crc := SMap.store zeroFrameCrc x.2.crc (n * 22528 + o) (x.1.fcEntry n o) })) (s, l)

/-- COPY preparation goes on over each die's bus as the budget admits frames; the frames follow once every one is copied (R263, R276). -/
def copyStep (s : State) (l : Load) : State :=
  let regions := copyRegions s l
  let work := dieWork regionFrames regions
  let r := paced 16 work s l.paid
  let t := work.foldl (fun (x : State × Load) w =>
    copyFrames x.2 x.1 (regions.filter (fun n => dieOfRegion n = w.1)) (SMap.get 0 l.paid w.1) (SMap.get 0 r.2 w.1)) (r.1, l)
  if allPaid work r.2 then setPhase t.1 { t.2 with paid := [] } 4 else t.1.setLoad (some { t.2 with paid := r.2 })

/-- Preparation (R263, R285, R289): the planes of the region set become LOADING and are cleared, the bus fence is loaded, a self-load
set that meets the regions is cleared, and the frames that the image keeps are copied. -/
def prepare (s : State) (l : Load) : State :=
  let s1 := l.regions.foldl prepareRegion s
  let s2 : State := { s1 with cfg := { s1.cfg with
    slSet := if s1.cfg.slSet.any (fun n => l.regions.contains n) then [] else s1.cfg.slSet } }
  let l1 := { l with fence := l.regions }
  copyStep (setPhase s2 l1 3) { l1 with phase := 3 }

/-- The FENCE detail of the grant check: frame 0 of the lowest declared region outside CFG_SL_GRANT (R284). -/
def grantBreach (s : State) (l : Load) : Option Nat :=
  if l.source ≠ 2 then none
  else ((imgRegions l.bytes).find? (fun n => !bitOf (s.fld uCfg F.cfgSlGrantRegions (n / 32)) (n % 32))).map (fun n => farOf n 0)

/-- The manifest checked, staging settled, and the planes prepared (R256-R258, R263, R264). -/
def manifestStep (s : State) (l : Load) : State :=
  let regions := imgRegions l.bytes
  match checkRuns l.bytes regions (imgRuns l.bytes) 0 0 with
  | .error (code, far) => failLoad s l code far
  | .ok runs =>
    if imgFramesLen l.bytes ≠ 256 * dataFrames runs then failLoad s l failCount 64
    else if imgCrcs l.bytes ≠ dataFrames runs then failLoad s l failCount 56
    else
      match checkInits l.bytes regions (imgInits l.bytes) 0 0 0 with
      | .error i => failLoad s l failInit i
      | .ok entries =>
        let need := stageNeed (imgInitLen l.bytes) regions
        let s1 := s.setFld uCfg F.cfgStageNeedBytes need
        let mib := s.fld uCfg F.cfgStageSizeMib (bankOfSeq l.seq)
        let fits := decide (0 < mib) && decide (need ≤ mib * 16384)
        if !fits && regions.any (fun n => (s.active n).isSome) then failLoad s1 l failStage ((need + 16383) / 16384)
        else prepare s1 { l with runs := runs, entries := entries, regions := regions, staged := fits }

/-- The header checked (R255), then the grant (R283) and the release (R268). -/
def headerStep (s : State) (l : Load) : State :=
  match firstFail (headerChecks l.bytes s.fuse.svn) with
  | some (code, info) => failLoad s l code info
  | none =>
    match grantBreach s l with
    | some far => failLoad s l failFence far
    | none =>
      match (imgRegions l.bytes).find? (fun n => s.releasing n) with
      | some n => failLoad s l failBusy n
      | none => setPhase s l 2

/-- A load goes on with the bytes it has: the header once 256 are in, then the manifest once it is in. -/
def advanceLoad (s : State) : State :=
  let s1 := match s.cfg.load with
    | some l => if l.phase = 1 ∧ 256 ≤ l.bytes.length then headerStep s l else s
    | none => s
  match s1.cfg.load with
  | some l => if l.phase = 2 ∧ 256 + imgManifestLen l.bytes ≤ l.bytes.length then manifestStep s1 l else s1
  | none => s1

/-- Image bytes appended to the load, with CFG_STREAM_POS. -/
def appendImage (s : State) (l : Load) (bs : List Byte) : State :=
  let l1 := { l with bytes := l.bytes ++ bs }
  let s1 := ((s.setLoad (some l1)).setFld uCfg F.cfgStreamPosLoPos l1.bytes.length).setFld uCfg F.cfgStreamPosHiPos (l1.bytes.length / 2 ^ 32)
  advanceLoad s1

/-- Whether a write to the burin's command registers is accepted from a class (R267). -/
def cfgAccepts (s : State) (icls : Nat) : Bool :=
  icls == 4 || ((icls == 2 || icls == 7) && s.flag uCfg F.cfgCtrlExtCmd)

/-- A pin-control instruction is in effect: only in MANAGE, CONTAIN and SERVICE (R571). -/
def State.pinControl (s : State) : Bool := s.scan.control && (s.modeNo == 1 || s.modeNo == 6 || s.modeNo == 7)

/-- A load opened (R249, R262, R277). -/
def openFrom (s : State) (source icls : Nat) (boot : Bool) : State :=
  if s.cfg.load.isSome || s.pinControl then cfgRefuse s
  else
    let s1 := ((s.setFld uCfg F.cfgLoadSeqSeq (s.fld uCfg F.cfgLoadSeqSeq + 1)).setFld uCfg F.cfgStatusFailCode 0).setFld uCfg F.cfgStatusBusy 1
    let s2 := (s1.setFld uCfg F.cfgStreamPosLoPos 0).setFld uCfg F.cfgStreamPosHiPos 0
    let l : Load := { source := source, icls := icls, boot := boot, seq := s2.fld uCfg F.cfgLoadSeqSeq }
    showPhase { s2 with cfg := { s2.cfg with load := some l, fenced := none, lastSelf := source == 2 } } 1

/-- CFG_CMD OPEN. -/
def cfgOpen (s : State) (src icls : Nat) : State := if 2 ≤ src then cfgRefuse s else openFrom s src icls false

/-- OPEN (R263, R267, R277). -/
def execOpen (src : BitVec 4) (icls : BitVec 3) (s : State) : Out :=
  if !cfgAccepts s icls.toNat then .next (s.answer .prot) else .next ((cfgOpen s src.toNat icls.toNat).answer .ok)

/-- The load in progress aborted (R266); without one nothing happens. -/
def cfgAbort (s : State) : State :=
  match s.cfg.load with
  | some l => failLoad s l failAborted l.bytes.length
  | none => s

/-- ABORT (R266, R267). -/
def execAbort (icls : BitVec 3) (s : State) : Out :=
  if !cfgAccepts s icls.toNat then .next (s.answer .prot) else .next ((cfgAbort s).answer .ok)

/-- The image offset up to which the load has acted on its bytes (R261): the rest waits in the 256 KiB receive buffer. -/
def consumed (l : Load) : Nat :=
  if l.phase ≤ 2 then l.bytes.length
  else if l.phase = 4 then 256 + imgManifestLen l.bytes + 256 * dataFrames ((l.runs.foldl (fun (a : List RunEntry × Nat) r =>
      (a.1 ++ [{ r with count := min r.count a.2 }], a.2 - min r.count a.2)) ([], l.frame)).1)
  else if l.phase = 5 then imgInitOff l.bytes + entryOff l.entries l.entry
  else l.bytes.length

/-- What a write to a data window answers; none while its data does not fit the receive buffer (R261, R262, R284). -/
def streamDecide (s : State) (source icls : Nat) (p : Packet) : Option Stat :=
  if p.op ≠ opWrite ∨ (p.len ≠ 0 ∧ !p.fullEnables) then some .decode
  else if s.cfg.fenced = some source then some .fenced
  else
    match s.cfg.load with
    | none => some .busy
    | some l =>
      if l.source ≠ source then some .busy
      else if l.icls ≠ icls then some .prot
      else
        let bs := l.bytes ++ p.payload
        if 256 ≤ bs.length ∧ imgLength bs < bs.length then some .tooLong
        else if consumed l + 262144 < bs.length ∧ 3 ≤ l.phase then none
        else some .ok

/-- A request to a data window performed (R262, R284): appended where OK. The write that carries the data found to breach a fence is
itself the first unanswered. -/
def streamRequest (s : State) (source : Nat) (p : Packet) : State :=
  match streamDecide s source p.icls.toNat p with
  | none => s
  | some .ok =>
    match s.cfg.load with
    | none => s
    | some l =>
      let s1 := appendImage s l p.payload
      if s1.cfg.fenced = some source then { s1 with cfg := { s1.cfg with fenced := none } }.reply p .fenced else s1.reply p .ok
  | some .fenced => { s with cfg := { s.cfg with fenced := none } }.reply p .fenced
  | some st => s.reply p st

/-- STREAM_WRITE (R261, R262). -/
def execStreamWrite (p : Packet) (s : State) : Out :=
  if mapAddr (p.a48 / 0x800000 * 0x800000) = .csr uCfg 0x800000 ∧ isRequest p.op ∧ s.arrived p then .next (streamRequest s 1 p) else .next s

/-- Whether a request is admitted to the self-load range (R287). -/
def slAdmitted (s : State) (icls src : Nat) : Bool :=
  s.flag uCfg F.cfgSlPortEn && icls == 1 && src == codeOf (s.fld uCfg F.cfgSlPortPort) 0

/-- A request to the self-load data window (R287). -/
def slData (s : State) (p : Packet) : State :=
  if !slAdmitted s p.icls.toNat p.src.toNat then s.reply p .prot else streamRequest s 2 p

/-- SL_DATA_WRITE (R287). -/
def execSlDataWrite (p : Packet) (s : State) : Out :=
  if mapAddr (p.a48 / 0x200000 * 0x200000) = .csr uCfg 0x600000 ∧ isRequest p.op ∧ s.arrived p then .next (slData s p) else .next s

/-- The number of xSPI ports used (R261); PORTS holds no reserved code. -/
def xspiPorts (s : State) : Nat := 2 ^ s.fld uCfg F.cfgXspiCfgPorts

/-- The port and the address of an image byte in the configuration memories (R261). -/
def xspiPlace (s : State) (b : Nat) : Nat × Nat :=
  let ports := xspiPorts s
  (b / 4096 % ports, (s.fld uCfg F.cfgXspiBaseAddr + 4096 * (b / (4096 * ports)) + b % 4096) % 2 ^ 32)

/-- The image bytes that one read may bring: to the end of the header, then to the end of the 4 KiB block and of the image (R261). -/
def xspiWants (l : Load) : Nat :=
  let b := l.bytes.length
  if b < 256 then 256 - b else min (4096 - b % 4096) (imgLength l.bytes - b)

/-- The load that the burin works on: its clock runs (R410). -/
def State.loading (s : State) : Option Load := if s.clocked 154 then s.cfg.load else none

/-- XSPI_READ (R261): a read command of a configuration port answered with data. The burin takes it where it is the read it makes: the
port and the address of the next image byte, with the command code and the dummy cycles of CFG_XSPI_CFG. -/
def execXspiRead (r : XspiBurst) (s : State) : Out :=
  match s.loading with
  | none => .next s
  | some l =>
    if l.source ≠ 0 ∨ xspiPlace s l.bytes.length ≠ (r.port.val, r.addr.toNat) ∨ s.fld uCfg F.cfgXspiCfgRdOpc ≠ r.opc.toNat ∨
      s.fld uCfg F.cfgXspiCfgDummy ≠ r.dummy.toNat then .next s
    else .next (appendImage s l (r.data.take (xspiWants l)))

/-- SOURCE_TIMEOUT (R261): no DQS edge within 1 ms of a read command. -/
def execSourceTimeout (s : State) : Out :=
  match s.loading with
  | some l => if l.source = 0 then .next (failLoad s l failSource l.bytes.length) else .next s
  | none => .next s

/-! ### Frames (R75, R258, R263, R285) -/

/-- The drivers of a span frame: local channel of each tap record with OEN = 1 (R69, R81). -/
def frameDrivers (f : Frame) : List Nat :=
  (List.range 64).filterMap (fun i =>
    let r := frameBits f (32 * i) 32
    if bitOf r 31 then some (bitsOf r 30 21) else none)

/-- The first number that a list holds twice. -/
def firstTwice : List Nat → Option Nat
  | [] => none
  | x :: r => if r.contains x then some x else firstTwice r

/-- The frames and entries of a load are complete: to the initialisation data, or to verification. -/
def afterFrames (s : State) (l : Load) : State := if allFrames l.runs ≤ l.frame then setPhase s l 5 else s.setLoad (some l)

/-- A frame put on its way to the LOADING plane (R75, R258, R263): it meets the fence of the load, its CRC-32C and the span rules, and is written. -/
def landFrame (s : State) (l : Load) (n o : Nat) (f : Frame) (want : Word32) : State :=
  if !l.fence.contains n then failLoad s l failFence (farOf n o)
  else if frameCrc f ≠ want then failLoad s l failFrameCrc (farOf n o)
  else
    let s2 := s.setFrame (s.inactive n) n o f
    let l1 := { l with
      frame := l.frame + 1
      crc := SMap.store zeroFrameCrc l.crc (n * 22528 + o) want
      written := if blockOf o = 1 then NSet.add l.written n else l.written }
    match (if blockOf o = 1 then firstTwice (frameDrivers f) else none) with
    | some ch => failLoad s2 l1 failSpan (n * 1024 + ch)
    | none => afterFrames s2 l1

/-- FRAME_WRITE (R75, R258, R263, R276, R285): preparation goes on where the budget held it; then the next frame goes over the die's bus to the
LOADING plane once its bytes are in. A frame address that an upset moved to another region (`misrouted`) meets the bus fence. -/
def execFrameWrite (misrouted : Option (BitVec 7)) (s : State) : Out :=
  match s.loading with
  | none => .next s
  | some l =>
    if l.phase = 3 then .next (copyStep s l)
    else if l.phase ≠ 4 then .next s
    else
      match frameAt l.runs l.frame 0 with
      | none => .next (setPhase s l 5)
      | some (n0, o, place) =>
        let n := (misrouted.map (·.toNat)).getD n0
        let off := 256 + imgManifestLen l.bytes + 256 * place.getD 0
        if place.isSome ∧ l.bytes.length < off + 256 then .next s
        else if itemsNow s (dieOfRegion n) 8 1 = 0 then .next (s.hold 0 (dieOfRegion n))
        else
          .next (landFrame (loadCharge s (dieOfRegion n) 8) l n o
            (match place with
              | some _ => BitVec.ofNat 2048 (imgField l.bytes off 256)
              | none => 0)
            (match place with
              | some i => BitVec.ofNat 32 (imgField l.bytes (256 + 16 * (imgRuns l.bytes + imgInits l.bytes) + 4 * i) 4)
              | none => zeroFrameCrc))

/-! ### Initialisation data (R257, R264, R578) -/

/-- The data of an entry written into its memory, OM or IMEM (R257). -/
def writeTarget (s : State) (e : InitEntry) (bs : List Byte) : State :=
  if e.target = 0 then
    (List.range 1024).foldl (fun (t : State) l => t.setLine (e.region * 128 + e.index) l (lineOf (leBytes ((bs.drop (8 * l)).take 8)))) s
  else if e.target = 1 then
    let i := e.region * 64 + e.index
    s.setEngine i ((List.range 2048).foldl (fun g w => setOmWord g w (leBytes ((bs.drop (9 * w)).take 9))) (s.engine i))
  else
    (List.range 256).foldl (fun (t : State) k => setImem t (e.region * 64 + e.index) k (leBytes ((bs.drop (4 * k)).take 4))) s

/-- The CRC list of a region as bytes, in ordinal order (R578). -/
def crcListBytes (crc : SMap Word32) (n : Nat) : List Byte :=
  (List.range regionFrames).flatMap (fun o => toLeBytes 4 (SMap.get zeroFrameCrc crc (n * 22528 + o)).toNat)

/-- A load's bytes written to its bank at an offset; a write that is not OK fails the load (R264). -/
def stageBytes (s : State) (l : Load) (off : Nat) (bs : List Byte) (e : MemEnv) (next : State → State) : Option State :=
  if !l.staged then some (next s)
  else
    let b := bankOfSeq l.seq
    let s1 : State := { s with cfg := { s.cfg with bank := SMap.put s.cfg.bank b ⟨l.seq, l.entries, l.regions, imgInitLen l.bytes⟩ } }
    match burinWrite s1 (s1.bankBase b) off e (toLines ((bs.length + 63) / 64) bs) with
    | none => none
    | some (t, none) => some (next t)
    | some (t, some (st, o)) => some (failLoad t l failStage (2 ^ 31 + st.code * 2 ^ 24 + o / 4096))

/-- The end of the initialisation section (R264): its padding and the CRC lists are staged, and the lists of regions without an ACTIVE
plane go straight into the frame-check table. -/
def finishInit (s : State) (l : Load) (e : MemEnv) : Option State :=
  let bs := l.bytes
  let used := entryOff l.entries l.entries.length
  let pad := (bs.drop (imgInitOff bs + used)).take (imgInitLen bs - used)
  let direct := (l.regions.filter (fun n => (s.active n).isNone)).foldl (fun (t : State) n =>
    loadEntries t n (fun o => SMap.get zeroFrameCrc l.crc (n * 22528 + o))) s
  stageBytes direct l used (pad ++ l.regions.flatMap (crcListBytes l.crc)) e (fun t => setPhase t { l with listed := true, paid := [] } 6)

/-- A target written during a load, which the clearing after a power-on reset then keeps (R122, R264). -/
def loadTarget (s : State) (e : InitEntry) (bs : List Byte) : State :=
  let t := writeTarget s e bs
  { t with bm := { t.bm with
    loadedMem := if e.target = 0 then NSet.add t.bm.loadedMem (e.region * 128 + e.index) else t.bm.loadedMem
    loadedEng := if e.target = 0 then t.bm.loadedEng else NSet.add t.bm.loadedEng (e.region * 64 + e.index) } }

/-- INIT_DATA_WRITE (R264): the next entry, once its bytes are in, goes to its target in a region with no ACTIVE plane, and to the staging
bank; after the last, the padding and the plane CRC lists. The beats of what is written directly are items of 8 that the budget admits;
the data is written with the last of them (R424, log entry 136). -/
def execInitDataWrite (e : MemEnv) (s : State) : Out :=
  match s.loading with
  | none => .next s
  | some l =>
    if l.phase ≠ 5 then .next s
    else
      match l.entries[l.entry]? with
      | some x =>
        let off := entryOff l.entries l.entry
        if l.bytes.length < imgInitOff l.bytes + off + x.len then .next s
        else
          let data := (l.bytes.drop (imgInitOff l.bytes + off)).take x.len
          let direct := (s.active x.region).isNone
          let work := dieWork (x.len / 256) (if direct then [x.region] else [])
          let r := paced 8 work s l.paid
          if !allPaid work r.2 then .next (r.1.setLoad (some { l with paid := r.2 }))
          else
            let s1 := if direct then loadTarget r.1 x data else r.1
            .next ((stageBytes s1 l off data e (fun t => t.setLoad (some { l with entry := l.entry + 1, paid := [] }))).getD
              (r.1.setLoad (some { l with paid := r.2 })))
      | none =>
        if l.bytes.length < imgInitOff l.bytes + imgInitLen l.bytes then .next s
        else
          let work := dieWork 352 (l.regions.filter (fun n => (s.active n).isNone))
          let r := paced 8 work s l.paid
          let s1 := r.1.setLoad (some { l with paid := r.2 })
          if !allPaid work r.2 then .next s1 else .next ((finishInit r.1 l e).getD s1)

/-! ### Verification (R75, R257, R259, R265) -/

/-- The first channel with two drivers in a plane of a region, all its span frames counted (R75). -/
def spanBreach (s : State) (p n : Nat) : Option Nat :=
  (firstTwice (((List.range 384).flatMap (fun i => frameDrivers (s.frame p n (21504 + i)))).mergeSort (fun a b => decide (a ≤ b)))).map
    (fun ch => n * 1024 + ch)

/-- The targets of a region that the loaded plane marks IMAGE, in order: TARGET and INDEX (R257). -/
def imageTargets (s : State) (p n : Nat) : List (Nat × Nat) :=
  ((List.range 128).filter (fun k => bitsOf (s.memRecord p n k) 4 3 == 1)).map (fun k => (0, k)) ++
  ((List.range 64).filter (fun e => bitsOf (s.engRecord p n e) 1 0 == 1)).map (fun e => (1, e)) ++
  ((List.range 64).filter (fun e => bitsOf (s.engRecord p n e) 3 2 == 1)).map (fun e => (2, e))

/-- The detail of the first breach of R257 against the loaded records: an entry that names no IMAGE target, or a target without one. -/
def recordBreach (s : State) (l : Load) : Option Nat :=
  match (List.range l.entries.length).find? (fun i =>
    match l.entries[i]? with
    | some x => !(imageTargets s (s.inactive x.region) x.region).contains (x.target, x.index)
    | none => false) with
  | some i => some i
  | none =>
    (l.regions.flatMap (fun n => (imageTargets s (s.inactive n) n).map (fun t => (n, t)))).findSome? (fun x =>
      if l.entries.any (fun y => y.region == x.1 && y.target == x.2.1 && y.index == x.2.2) then none
      else some (2 ^ 31 + x.1 / 16 * 2 ^ 16 + x.1 % 16 * 2 ^ 12 + x.2.1 * 2 ^ 8 + x.2.2))

/-- Every LOADING plane of the load becomes VERIFIED and records SVN, IMAGE_VERSION and LOAD_SEQ (R265, R289). -/
def verified (s : State) (l : Load) : State :=
  let svn := imgField l.bytes 16 4
  let version := imgField l.bytes 20 8
  let recs := l.regions.foldl (fun m n => SMap.put m (n * 2 + s.inactive n) (PlaneRec.mk svn version l.seq)) s.cfg.plane
  let s1 := endLoad (movePlanes s l planeVerified) l
  cfgEvent ({ s1 with cfg := { s1.cfg with
    plane := recs
    version := BitVec.ofNat 64 version
    buildId := (l.bytes.drop 80).take 48
    slSet := if l.source = 2 then l.regions else s1.cfg.slSet
    bootSet := if l.boot then l.regions else s1.cfg.bootSet } }.setFld uCfg F.cfgStatusVerified 1)

/-- The signature block checked once its last byte is in; the load verifies or fails (R259, R265). -/
def judgeBlock (s : State) (l : Load) : State :=
  if l.bytes.length < imgLength l.bytes then s
  else
    match signatureFail s l.bytes with
    | some (code, info) => failLoad s l code info
    | none => verified s l

/-- The whole-plane span count, once the budget has admitted its reads, and the checks of the loaded records (R75, R257, R265). -/
def checkPlanes (s : State) (l : Load) : State :=
  let work := dieWork 384 l.written
  let r := paced 8 work s l.paid
  if !allPaid work r.2 then r.1.setLoad (some { l with paid := r.2 })
  else
    match l.written.findSome? (fun n => spanBreach s (s.inactive n) n) with
    | some ch => failLoad r.1 l failSpan ch
    | none =>
      match recordBreach s l with
      | some d => failLoad r.1 l failInit d
      | none => judgeBlock (r.1.setLoad (some { l with checked := true, paid := [] })) { l with checked := true, paid := [] }

/-- VERIFY (R265): the span count and the record checks after the last byte of the initialisation section, then the signature block. -/
def execVerify (s : State) : Out :=
  match s.loading with
  | none => .next s
  | some l => if l.phase ≠ 6 then .next s else if l.checked then .next (judgeBlock s l) else .next (checkPlanes s l)

/-! ### Flips and releases (R268-R275) -/

/-- The SVN of a plane. -/
def State.planeSvn (s : State) (n p : Nat) : Nat := ((SMap.find s.cfg.plane (n * 2 + p)).map (·.svn)).getD 0

/-- Whether a region of a set bars its flip: its inactive plane is not VERIFIED, it is still in a release, or the plane's SVN is below the
counter (R269). -/
def flipBarred (s : State) (regions : NSet) : Bool :=
  regions.any (fun n =>
    s.planeState n (s.inactive n) != planeVerified || s.inRelease n ||
    s.planeState n (s.inactive n) == planeLoading || decide (s.planeSvn n (s.inactive n) < s.fuse.svn))

/-- Whether a flip of a set is refused (R269). -/
def flipRefused (s : State) (regions : NSet) : Bool := regions.isEmpty || s.pinControl || flipBarred s regions

/-- A flip of a set accepted: regions that do not run are woken, and the flip waits for them (R269). -/
def flipSet (s : State) (regions : NSet) : State :=
  if flipRefused s regions then cfgRefuse s
  else
    let s1 := regions.foldl (fun (t : State) n => t.wakeDom n) s
    { s1 with cfg := { s1.cfg with flips := s1.cfg.flips ++ [{ regions := regions }] } }

/-- The regions of CFG_FLIP_MASK0-3. -/
def flipMaskSet (s : State) : NSet := (List.range 128).filter (fun n => bitOf (s.fld uCfg F.cfgFlipMaskRegions (n / 32)) (n % 32))

/-- FLIP (R267, R269). -/
def execFlip (icls : BitVec 3) (s : State) : Out :=
  if !cfgAccepts s icls.toNat then .next (s.answer .prot) else .next ((flipSet s (flipMaskSet s)).answer .ok)

/-- SL_OPEN (R287, R288). -/
def execSlOpen (icls : BitVec 3) (src : BitVec 11) (s : State) : Out :=
  if !slAdmitted s icls.toNat src.toNat then .next (s.answer .prot) else .next ((openFrom s 2 icls.toNat false).answer .ok)

/-- The load in progress aborted if the self-load port opened it (R288). -/
def slAbort (s : State) : State :=
  match s.cfg.load with
  | some l => if l.source = 2 then cfgAbort s else s
  | none => s

/-- SL_ABORT (R287, R288). -/
def execSlAbort (icls : BitVec 3) (src : BitVec 11) (s : State) : Out :=
  if !slAdmitted s icls.toNat src.toNat then .next (s.answer .prot) else .next ((slAbort s).answer .ok)

/-- The self-load set flipped; refused where it is empty or not wholly granted (R288). -/
def slFlip (s : State) : State :=
  if s.cfg.slSet.any (fun n => !bitOf (s.fld uCfg F.cfgSlGrantRegions (n / 32)) (n % 32)) then cfgRefuse s
  else flipSet s s.cfg.slSet

/-- SL_FLIP (R287, R288, R290): the write is answered before the flip. -/
def execSlFlip (icls : BitVec 3) (src : BitVec 11) (s : State) : Out :=
  if !slAdmitted s icls.toNat src.toNat then .next (s.answer .prot) else .next ((slFlip s).answer .ok)

/-- The flip at a place replaced. -/
def State.setFlip (s : State) (i : Nat) (f : Flip) : State := { s with cfg := { s.cfg with flips := s.cfg.flips.set i f } }

/-- A flip taken off the list. -/
def State.dropFlip (s : State) (f : Flip) : State := { s with cfg := { s.cfg with flips := s.cfg.flips.erase f } }

/-- FLIP_WAKE_TIMEOUT (R269): a named region is not running 100 µs after its wake was requested, or its wake is refused: the flip is
refused whole. -/
def execFlipWakeTimeout (i : Nat) (s : State) : Out :=
  match s.cfg.flips[i]? with
  | none => .next s
  | some f =>
    if f.phase = 0 ∧ f.regions.any (fun n => !s.regionRuns n) then .next (cfgRefuse (s.dropFlip f)) else .next s

/-- Flip-flops of a region at INIT of its ACTIVE plane (R46, R48). -/
def loadInit (s : State) (n : Nat) : State :=
  let lo := cellKey n 0 0 0
  let kept := s.fab.q.filter (fun x => !(decide (lo ≤ x.1) && decide (x.1 < lo + 393216)))
  let init := match s.active n with
    | none => []
    | some p => (configuredCols s p n).flatMap (fun col => (List.range 128).flatMap (fun row =>
        ((List.range 16).filter (fun c => cellField s n col row c 20 1 != 0)).map (fun c => cellKey n row col c)))
  { s with fab := { s.fab with q := init.foldl (fun m k => SMap.put m k true) kept } }

/-- The user pins of a region's bank held as its plane drives them at that instant: 4 × PULL + 2 × enable + level (R272, R456). Pins not
under the plane, before its OUTPUTS, stay as they are. -/
def holdPins (s : State) (n : Nat) : State :=
  match (if s.stage n = 0 then none else hostBank n) with
  | none => s
  | some b =>
    { s with pin := { s.pin with uhold := (List.range 48).foldl (fun m i =>
        SMap.put m (b * 48 + i) (4 * userPull s n i + 2 * boolNat (userDrive s n i).1 + boolNat (userDrive s n i).2)) s.pin.uhold } }

/-- The holds of a region's user pins ended (R272). -/
def releasePins (s : State) (n : Nat) : State :=
  match hostBank n with
  | none => s
  | some b => { s with pin := { s.pin with uhold := s.pin.uhold.filter (fun x => x.1 / 48 ≠ b) } }

/-- A frame-scrub or census visit to a region is to begin anew: it is placed first (R291). -/
def placeFirst (s : State) (n : Nat) : State :=
  let d := dieOfRegion n
  let g := SMap.get {} s.scb.eng d
  { s with scb := { s.scb with eng := SMap.store {} s.scb.eng d { g with first := n :: g.first.filter (fun m => m ≠ n), fregion := none, fpos := 0 } } }

/-- A scrubber's search for a frame of a region that flips: the frame was read before the flip (R300). -/
def searchFlip (s : State) (n : Nat) : State :=
  let d := dieOfRegion n
  let g := SMap.get {} s.scb.eng d
  let hand := g.hand.map (fun h => if h.region = n then { h with flipped := true } else h)
  { s with scb := { s.scb with eng := SMap.store {} s.scb.eng d { g with hand := hand } } }

/-- CNS_SCOPE0-3. -/
def cnsScope (s : State) : List Nat := (List.range 4).map (fun i => s.fld uCns F.cnsScopeRegions i)

/-- A computation that begins a region anew: its frames are read again (R302). -/
def restartRegion (r : DigestRun) (n : Nat) : DigestRun :=
  let d := dieOfRegion n
  { r with
    seen := r.seen.filter (fun x => x.1 / 22528 ≠ n)
    bad := r.bad.filter (fun k => k / 22528 ≠ n)
    pos := if n % 16 * 22528 < SMap.get 0 r.pos d then SMap.store 0 r.pos d (n % 16 * 22528) else r.pos }

/-- The computation under way after a flip of a region: the region anew, or with AUTO = 1 a new one (R302, log entry 137). -/
def flippedRun (s : State) (n : Nat) : Option DigestRun :=
  match s.cns.run with
  | some r => some (if scopeHas r.scope n then restartRegion r n else r)
  | none => if scopeHas (cnsScope s) n && s.flag uCns F.cnsCtrlAuto then some { scope := cnsScope s } else none

/-- A flip as the census sees it (R302, R308): in scope, the digest is no longer current; a computation restarts the region, and frames of
the region handed to the scrubber are so no longer. -/
def censusFlip (s : State) (n : Nat) : State :=
  let s1 := if scopeHas (cnsScope s) n then s.setFld uCns F.cnsStatusCurrent 0 else s
  let s2 : State := { s1 with
    scb := { s1.scb with handed := s1.scb.handed.filter (fun k => k / 22528 ≠ n) }
    cns := { s1.cns with unrepaired := s1.cns.unrepaired.filter (fun k => k / 22528 ≠ n), run := flippedRun s n } }
  if s2.cns.run.isSome ∧ s2.fld uCns F.cnsStatusPhase = 0 then s2.setFld uCns F.cnsStatusPhase 1 else s2

/-- One region flips at F (R270). -/
def flipRegion (s : State) (n : Nat) : State :=
  let p := s.inactive n
  let old := s.active n
  let oldRec (k : Nat) := match old with
    | some q => s.memRecord q n k
    | none => s.memRecord p n k
  let s0 := if old.isSome then holdPins s n else s
  let s1 := match old with
    | some q => (s0.setPlane n q planeVerified).setPlane n p planeActive
    | none => s0.setPlane n p planeActive
  let s2 := (s1.setFld uCfg F.cfgRegionAct p n).setFld uCfg F.cfgRegionStage 0 n
  let s3 : State := { s2 with
    cfg := { s2.cfg with left := SMap.put s2.cfg.left n (1 - p) }
    span := { s2.span with
      breaking := NSet.add s2.span.breaking n
      oldTap := match old with
        | some q => if s2.span.breaking.contains n then s2.span.oldTap else SMap.put s2.span.oldTap n q
        | none => s2.span.oldTap } }
  let seq := ((SMap.find s.cfg.plane (n * 2 + p)).map (·.seq)).getD 0
  let reused := old.isSome && (s.bankHolding seq).isNone
  let s4 := flipEngines (flipMemories (loadInit s3 n) n p reused oldRec) n p
  let s5 := flipFabricPort (tapEvents s4 (dieOfRegion n)) n
  (censusFlip (placeFirst (searchFlip s5 n) n) n).noteRecords n

/-- FLIP_EXECUTE (R269, R270, R275): once every named region runs, and the memory clearing and start-up
calibration are complete (R449), all flip in one plate cycle, if what R269 asks of them still holds, since a plane flipped to is VERIFIED
(R248). A flip of regions that another flip left HELD by an INIT_FAULT takes its place. -/
def execFlipExecute (i : Nat) (s : State) : Out :=
  match s.cfg.flips[i]? with
  | none => .next s
  | some f =>
    if f.phase ≠ 0 ∨ f.regions.any (fun n => !s.regionRuns n) ∨ s.bm.clearing ∨ !s.span.calibrated then .next s
    else if flipBarred s f.regions then .next (cfgRefuse (s.dropFlip f))
    else
      let blank := f.regions.filter (fun n => (s.active n).isNone)
      let s1 := s.setFlip i { f with phase := 1, blank := blank }
      let s2 := f.regions.foldl flipRegion s1
      let s3 : State := { s2 with cfg := { s2.cfg with
        flips := s2.cfg.flips.filter (fun g => !(g.fault && g.regions.any (fun n => f.regions.contains n))) } }
      .next (showReleasing s3)

/-- The staged data of a flip cannot be read (R273): its regions stay HELD. -/
def initFault (s : State) (i : Nat) (f : Flip) (n : Nat) : State :=
  (((s.setFlip i { f with fault := true }).setFld uCfg F.cfgStatusInitFault 1).setFld uCfg F.cfgFailInfoInfo n).raise uCfg 0x03 n

/-- The IMAGE targets of a region written from the bank of its plane's load (R270, R275); without the bank they are kept and
INIT_SKIPPED is set. The status of a read that fails is answered. -/
def initRegion (s : State) (n : Nat) (e : MemEnv) : Option (State × Stat) :=
  match s.active n with
  | none => some (s, .ok)
  | some p =>
    let seq := ((SMap.find s.cfg.plane (n * 2 + p)).map (·.seq)).getD 0
    let targets := imageTargets s p n
    match s.bankHolding seq with
    | none =>
      let s1 := if targets.isEmpty then s else s.setFld uCfg F.cfgStatusInitSkipped 1
      some (loadEntries s1 n (fun o => frameCrc (s1.frame p n o)), .ok)
    | some b =>
      let base := s.bankBase (bankOfSeq seq)
      let mine := (List.range b.entries.length).filter (fun i =>
        match b.entries[i]? with
        | some x => x.region == n && targets.contains (x.target, x.index)
        | none => false)
      let r := mine.foldl (fun (a : Option (State × Stat)) i =>
        match a, b.entries[i]? with
        | some (t, .ok), some x =>
          match burinRead t 6 (base + entryOff b.entries i) e (x.len / 64) with
          | some (u, .ok, bs) => some (writeTarget u x bs, .ok)
          | some (u, st, _) => some (u, st)
          | none => none
        | a, _ => a) (some (s, Stat.ok))
      match r with
      | some (t, .ok) =>
        match burinRead t 6 (base + b.initLen + 90112 * (b.regions.takeWhile (fun m => m ≠ n)).length) e 1408 with
        | some (u, .ok, bs) => some (loadEntries u n (fun o => BitVec.ofNat 32 (leBytes ((bs.drop (4 * o)).take 4))), .ok)
        | some (u, st, _) => some (u, st)
        | none => none
      | r => r

/-- The regions of a flip initialised one after another; the region whose data cannot be read is answered. -/
def initRegions (s : State) (e : MemEnv) : List Nat → Option (State × Option Nat)
  | [] => some (s, none)
  | n :: r =>
    match initRegion s n e with
    | none => none
    | some (t, .ok) => initRegions t e r
    | some (t, _) => some (t, some n)

/-- INIT_COMPLETE (R264, R270, R273, R275): memories, OMs and IMEMs marked IMAGE and the frame-check entries of the flipping regions are
written. A region that had no ACTIVE plane got them during its load. -/
def execInitComplete (i : Nat) (e : MemEnv) (s : State) : Out :=
  match s.cfg.flips[i]? with
  | none => .next s
  | some f =>
    if f.phase ≠ 1 ∨ f.fault then .next s
    else
      match initRegions s e (f.regions.filter (fun n => !f.blank.contains n)) with
      | none => .next s
      | some (t, none) => .next (t.setFlip i { f with phase := 2 })
      | some (t, some n) => .next (initFault t i f n)

/-- The stage of every region of a flip. -/
def setStage (s : State) (f : Flip) (v : Nat) : State := f.regions.foldl (fun (t : State) n => t.setFld uCfg F.cfgRegionStage v n) s

/-- OUTPUTS (R270, R272): boundary gates, span taps and user I/O pass the new plane. -/
def execOutputs (i : Nat) (s : State) : Out :=
  match s.cfg.flips[i]? with
  | none => .next s
  | some f =>
    if f.phase ≠ 2 ∨ f.fault then .next s
    else .next (f.regions.foldl releasePins ((setStage s f 1).setFlip i { f with phase := 3 }))

/-- ENABLES (R270): memory ports, queue controllers, engine interfaces and the fabric port's channels act. -/
def execEnables (i : Nat) (s : State) : Out :=
  match s.cfg.flips[i]? with
  | none => .next s
  | some f => if f.phase ≠ 3 then .next s else .next ((setStage s f 2).setFlip i { f with phase := 4 })

/-- RESETS (R270, R271): the hold of each track counts its edges from here, engines go to IDLE or RUN, and the release is over. -/
def execResets (i : Nat) (s : State) : Out :=
  match s.cfg.flips[i]? with
  | none => .next s
  | some f =>
    if f.phase ≠ 4 then .next s
    else
      let s1 := (setStage s f 3).dropFlip f
      let s2 : State := { s1 with fab := { s1.fab with trackEdges := s1.fab.trackEdges.filter (fun x => !f.regions.contains (x.1 / 8)) } }
      let s3 := f.regions.foldl releaseEngines s2
      .next (cfgEvent ((showReleasing s3).setFld uCfg F.cfgStatusFlipped 1))

/-- A late alarm on staged data of a flip before OUTPUTS (R273, R331): the region whose bank data holds the address stays HELD. -/
def burinAlarm (s : State) (r : AlarmRec) : State :=
  let hit := fun (n : Nat) =>
    match s.active n with
    | none => false
    | some p =>
      let seq := ((SMap.find s.cfg.plane (n * 2 + p)).map (·.seq)).getD 0
      match s.bankHolding seq with
      | none => false
      | some b =>
        let base := s.bankBase (bankOfSeq seq)
        let off := r.addr - base
        let list := b.initLen + 90112 * (b.regions.takeWhile (fun m => m ≠ n)).length
        decide (base ≤ r.addr) && ((decide (list ≤ off) && decide (off < list + 90112)) ||
          (List.range b.entries.length).any (fun i =>
            match b.entries[i]? with
            | some x => x.region == n && decide (entryOff b.entries i ≤ off) && decide (off < entryOff b.entries i + x.len)
            | none => false))
  match (List.range s.cfg.flips.length).findSome? (fun i =>
    match s.cfg.flips[i]? with
    | some f => if (f.phase = 1 ∨ f.phase = 2) ∧ !f.fault then (f.regions.find? hit).map (fun n => (i, f, n)) else none
    | none => none) with
  | some (i, f, n) => initFault s i f n
  | none => s

/-! ### Versions (R274, R279) -/

/-- CFG_CMD COMMIT_SVN (R274): the counter rises to the SVN of the ACTIVE planes; VERIFIED planes below it become STALE. -/
def commitSvn (s : State) : State :=
  let acts := (List.range 128).filterMap (fun n => (s.active n).map (fun p => s.planeSvn n p))
  match acts with
  | [] => cfgRefuse s
  | v :: r =>
    if r.any (fun w => w != v) then cfgRefuse s
    else
      let svn := max v s.fuse.svn
      let s1 : State := { s with fuse := { s.fuse with svn := svn } }
      ((List.range 128).flatMap (fun n => [(n, 0), (n, 1)])).foldl (fun (t : State) x =>
        if t.planeState x.1 x.2 = planeVerified ∧ t.planeSvn x.1 x.2 < svn then t.setPlane x.1 x.2 planeStale else t)
        (s1.setFld uCfg F.cfgSvnCounter svn)

/-- COMMIT_SVN (R267, R274): from ICLS 4 only; an accepted write of another class is refused. -/
def execCommitSvn (icls : BitVec 3) (s : State) : Out :=
  if !cfgAccepts s icls.toNat then .next (s.answer .prot)
  else if icls ≠ 4 then .next ((cfgRefuse s).answer .ok)
  else .next ((commitSvn s).answer .ok)

/-- The burin's registers that show other state (R279, R311): CFG_PLANE and CFG_SL_STATUS; none for another register. -/
def burinView (s : State) (off : Nat) : Option Nat :=
  if 0x800 ≤ off ∧ off < 0xC00 ∧ off % 4 = 0 then
    let n := (off - 0x800) / 8
    let p := (off - 0x800) / 4 % 2
    if s.planeState n p = planeVerified ∨ s.planeState n p = planeActive then
      match SMap.find s.cfg.plane (n * 2 + p) with
      | some r => some (r.svn * 2 ^ 25 + boolNat (s.bankHolding r.seq).isSome * 2 ^ 24 + r.seq % 2 ^ 24)
      | none => some 0
    else some 0
  else if off = 0x2C then some s.fuse.svn
  else if off = 0x400004 then
    let st := (s.reg uCfg 0x008).toNat
    some (bitsOf st 31 10 * 1024 + boolNat (!s.cfg.slSet.isEmpty) * 512 + boolNat s.cfg.lastSelf * 256 + st % 256)
  else none

end Sys2Proof.Machine
end

