-- ==== Sys2Proof/Machine/Scrub.lean ====
section
/-! DEFINITION. The scrubber and the census: frame checks, repairs, digests and rounds (R291-R313). -/

namespace Sys2Proof.Machine

open Sys2Proof

/-! ### Laps (R291, R298) -/

/-- The end of a die's lap; when every die has ended one the device lap ends (R298). -/
def endLap (s : State) (d lapUs : Nat) : State :=
  let s1 := s.setScrub d { s.scrub d with pos := 0, lapDone := true, lapUs := lapUs }
  if (List.range 8).all (fun i => (s1.scrub i).lapDone) then
    let longest := (List.range 8).foldl (fun m i => max m (s1.scrub i).lapUs) 0
    let s2 := (List.range 8).foldl (fun (t : State) i => t.setScrub i { t.scrub i with lapDone := false }) s1
    ((((s2.setFld uScb F.scbLapTimeLapUs longest).countWrap uScb F.scbLapsCount).setFld uScb F.scbStatusLapDone 1).edge 3)
  else s1

/-- The engine moved past the frame of a visit. -/
def passFrame (s : State) (d : Nat) (v : Visit) : State :=
  let g := s.scrub d
  match v with
  | .census k => { s with scb := { s.scb with handed := NSet.del s.scb.handed k } }
  | .first n o =>
    if 22528 ≤ o + 1 then s.setScrub d { g with first := g.first.filter (fun m => m ≠ n), fregion := none, fpos := 0 }
    else s.setScrub d { g with fregion := some n, fpos := o + 1 }
  | .lap pos => s.setScrub d { g with pos := pos + 1 }
  | _ => s

/-- The visit a search stands for, when it ends; a region that has flipped since is visited anew. -/
def searchVisit (h : Search) : Visit :=
  if h.flipped then .idle
  else if h.census then .census (h.region * 22528 + h.ordinal)
  else if h.first then .first h.region h.ordinal
  else .lap (h.region % 16 * 22528 + h.ordinal)

/-! ### Repair slots (R294, R295) -/

/-- The base of a repair slot, KID included. -/
def slotBase (s : State) (i : Nat) : Nat := (s.fld uScb F.scbRepairHiBase i * 2 ^ 32 + s.fld uScb F.scbRepairLoBase i) / 64 * 64

/-- The header and manifest of a slot, where its image's own runs are in order; none while a read must wait. -/
def slotManifest (s : State) (i : Nat) (e : MemEnv) : Option (State × Option (List Byte × List RunEntry)) :=
  let size := s.fld uScb F.scbRepairSizeUnits i
  if size < 4 then some (s, none)
  else
    match burinRead s 7 (slotBase s i) e 4 with
    | none => none
    | some (t, .ok, h) =>
      if imgField h 0 4 ≠ 0x54455453 ∨ size < 4 + imgManifestLen h / 64 then some (t, none)
      else
        (match burinRead t 7 (slotBase s i + 256) e (imgManifestLen h / 64) with
        | none => none
        | some (u, .ok, m) =>
          (match checkRuns (h ++ m) (imgRegions h) (imgRuns h) 0 0 with
          | .ok runs => some (u, some (h ++ m, runs))
          | .error _ => some (u, none))
        | some (u, _, _) => some (u, none))
    | some (t, _, _) => some (t, none)

/-- The place of a frame in a slot's runs: none absent, some none in a ZFILL run, some (some i) data frame `i`. A run that reaches
past SIZE is absent (R309). -/
def slotPlace (size : Nat) (bs : List Byte) (n o data : Nat) : List RunEntry → Option (Option Nat)
  | [] => none
  | r :: rest =>
    if r.region = n ∧ r.first ≤ o ∧ o < r.first + r.count then
      (if r.zfill then some none
       else if 64 * size < 256 + imgManifestLen bs + 256 * (data + r.count) then none
       else some (some (data + (o - r.first))))
    else slotPlace size bs n o (if r.zfill then data else data + r.count) rest

/-- The CRC a slot's manifest gives a frame. -/
def slotCrc (s : State) (i n o : Nat) (e : MemEnv) : Option (State × Option Word32) :=
  match slotManifest s i e with
  | none => none
  | some (t, none) => some (t, none)
  | some (t, some (bs, runs)) =>
    match slotPlace (s.fld uScb F.scbRepairSizeUnits i) bs n o 0 runs with
    | none => some (t, none)
    | some none => some (t, some zeroFrameCrc)
    | some (some k) =>
      some (t, some (BitVec.ofNat 32 (imgField bs (256 + 16 * (imgRuns bs + imgInits bs) + 4 * k) 4)))

/-- The frame a slot holds. -/
def slotFrame (s : State) (i n o : Nat) (e : MemEnv) : Option (State × Option Frame) :=
  match slotManifest s i e with
  | none => none
  | some (t, none) => some (t, none)
  | some (t, some (bs, runs)) =>
    match slotPlace (s.fld uScb F.scbRepairSizeUnits i) bs n o 0 runs with
    | none => some (t, none)
    | some none => some (t, some 0)
    | some (some k) =>
      match burinRead t 7 (slotBase s i + 256 + imgManifestLen bs + 256 * k) e 4 with
      | none => none
      | some (u, .ok, f) => some (u, some (BitVec.ofNat 2048 (leBytes f)))
      | some (u, _, _) => some (u, none)

/-! ### The frame-check table (R293, R294) -/

/-- The first slot that gives a CRC for a frame. -/
def anySlotCrc (s : State) (n o : Nat) (e : MemEnv) : List Nat → Option (State × Option Word32)
  | [] => some (s, none)
  | i :: r =>
    match slotCrc s i n o e with
    | none => none
    | some (t, some w) => some (t, some w)
    | some (t, none) => anySlotCrc t n o e r

/-- One entry rebuilt (R294): from the staged CRC list, a repair slot's manifest, or the frame as it stands, which leaves it
unanchored. -/
def rebuildEntry (s : State) (n o : Nat) (e : MemEnv) : Option State :=
  match s.active n with
  | none => some s
  | some p =>
    let seq := ((SMap.find s.cfg.plane (n * 2 + p)).map (·.seq)).getD 0
    let staged := match s.bankHolding seq with
      | some b =>
        let off := b.initLen + 90112 * (b.regions.takeWhile (fun m => m ≠ n)).length + 4 * o
        (match burinRead s 7 (s.bankBase (bankOfSeq seq) + off / 64 * 64) e 1 with
        | none => none
        | some (t, .ok, bs) => some (t, some (BitVec.ofNat 32 (leBytes ((bs.drop (off % 64)).take 4))))
        | some (t, _, _) => some (t, none))
      | none => some (s, (none : Option Word32))
    match staged with
    | none => none
    | some (t, some w) => some (t.setFcEntry n o w)
    | some (t, none) =>
      match anySlotCrc t n o e [0, 1, 2, 3] with
      | none => none
      | some (u, some w) => some (u.setFcEntry n o w)
      | some (u, none) =>
        some (((u.setFcEntry n o (frameCrc (u.frame p n o))).setFld uScb F.scbStatusUnanchored 1).countSat uScb F.scbUnanchCntCount)

/-- The entries of a block rebuilt one by one. -/
def rebuildEntries (s : State) (n o : Nat) (e : MemEnv) : Nat → Option State
  | 0 => some s
  | k + 1 =>
    match rebuildEntry s n o e with
    | none => none
    | some t => rebuildEntries t n (o + 1) e k

/-- The block of an entry checked before use (R293, R294): a mismatch is raised and counted, and the block rebuilt. None while the
rebuild must wait. -/
def checkBlock (s : State) (n o : Nat) (e : MemEnv) : Option State :=
  let b := n * 352 + o / 64
  if blockCrcOf s b = s.blockCrc b then some s
  else
    let s1 := ((s.raise uScb 0x07 b).setFld uScb F.scbStatusTable 1).countSat uScb F.scbTableCntCount
    (rebuildEntries s1 n (o / 64 * 64) e 64).map (fun t => freshBlock t b)

/-- A frame read and compared (R295): upsets of the stored frame and of the entry are there before it, a misread on the way. -/
def readFrame (s : State) (n p o : Nat) (upset misread : Frame) (tableUpset : Word32) (e : MemEnv) : Option (State × Frame × Bool) :=
  let s1 := if upset = 0 then s else s.setFrame p n o (s.frame p n o ^^^ upset)
  let s2 := if tableUpset = 0 then s1 else s1.setFcEntry n o (s1.fcEntry n o ^^^ tableUpset)
  match checkBlock s2 n o e with
  | none => none
  | some t =>
    let f := t.frame p n o ^^^ misread
    some (t, f, frameCrc f == t.fcEntry n o)

/-! ### Checking and repairing (R295-R300) -/

/-- Whether the load in progress has a frame for a die waiting for the bus (R276). -/
def loadWaits (s : State) (d : Nat) : Bool :=
  match s.cfg.load with
  | none => false
  | some l =>
    l.phase == 4 && s.anyActive &&
      (match frameAt l.runs l.frame 0 with
       | none => false
       | some (n, _, place) =>
         dieOfRegion n == d && (place.isNone || decide (256 + imgManifestLen l.bytes + 256 * place.getD 0 + 256 ≤ l.bytes.length)))

/-- Whether the bus of a die serves the next item of the census or the scrubber now (R424, R425). -/
def busServes (s : State) (ch d : Nat) : Bool :=
  decide ((s.meter ch d).u < busLimit s ch d (fun x => if x = 0 then loadWaits s d else busWaits s d x))

/-- SCRUB_FRAME_READ (R291, R295, R298, R302): the next frame of a die's engine is read and compared, within the scrubbing budget or, for a
frame the census handed over, the census budget; or the lap ends. -/
def execScrubFrameRead (d : Fin 8) (upset misread : Frame) (tableUpset lapUs : Word32) (e : MemEnv) (s : State) : Out :=
  let g := s.scrub d
  if g.hand.isSome ∨ !s.clocked 154 then .next s
  else
    let v := nextVisit s d
    let target : Option (Nat × Nat × Bool) := match v with
      | .census k => some (k / 22528, k % 22528, true)
      | .first n o => some (n, o, false)
      | .lap pos => some (d.val * 16 + pos / 22528, pos % 22528, false)
      | _ => none
    match target with
    | none => if v = .lapEnd then .next (endLap s d lapUs.toNat) else .next s
    | some (n, o, cen) =>
      match s.active n with
      | none => .next (passFrame s d v)
      | some p =>
        let ch := if cen then 1 else 2
        if !busServes s ch d then .next (s.hold ch d)
        else
          match readFrame (s.charge ch d 8) n p o upset misread tableUpset e with
          | none => .next s
          | some (t, _, true) => .next (passFrame t d v)
          | some (t, _, false) => .next (t.setScrub d { t.scrub d with hand := some ⟨n, p, o, t.fcEntry n o, 0, none, cen, isFirst v, false⟩ })

/-- A frame left unrepaired (R296, R302). -/
def unrepaired (s : State) (d : Nat) (h : Search) : State :=
  let far := farOf h.region h.ordinal
  let s1 := ((s.setFld uScb F.scbStatusUnrepaired 1).countSat uScb F.scbUnrepCntCount).raise uScb 0x07 far
  let s2 := if s1.flag uScb F.scbErrInfoValid then s1 else (s1.setFld uScb F.scbErrFarFar far).setFld uScb F.scbErrInfoValid 1
  let s3 := if scopeHas (cnsScope s) h.region then s2.setFld uCns F.cnsStatusCurrent 0 else s2
  let s4 : State := if h.census && !h.flipped then
      { s3 with cns := { s3.cns with unrepaired := NSet.add s3.cns.unrepaired (h.region * 22528 + h.ordinal) } } else s3
  passFrame (s4.setScrub d { s4.scrub d with hand := none }) d (searchVisit h)

/-- A source that gives no candidate: the next is tried, and after the last the frame is unrepaired. -/
def nextSource (s : State) (d : Nat) (h : Search) : State :=
  if h.source = 5 then unrepaired s d h
  else s.setScrub d { s.scrub d with hand := some { h with source := h.source + 1 } }

/-- A frame offered by a source: the candidate where its CRC equals the entry. -/
def offerFrame (s : State) (d : Nat) (h : Search) (f : Option Frame) : State :=
  match f with
  | some x =>
    if frameCrc x = h.entry then s.setScrub d { s.scrub d with hand := some { h with cand := some x } } else nextSource s d h
  | none => nextSource s d h

/-- The frame that an image read whole gives, located by walking its run entries (R295). -/
def imageFrame (bs : List Byte) (n o : Nat) : Option Frame :=
  if imgField bs 0 4 ≠ 0x54455453 then none
  else
    match checkRuns bs (imgRegions bs) (imgRuns bs) 0 0 with
    | .error _ => none
    | .ok runs =>
      (slotPlace (bs.length / 64) bs n o 0 runs).map (fun k =>
        match k with
        | some i => BitVec.ofNat 2048 (imgField bs (256 + imgManifestLen bs + 256 * i) 256)
        | none => 0)

/-- The search of a die's engine, while the scrubber's clock runs (R410). -/
def State.searching (s : State) (d : Nat) : Option Search := if s.clocked 154 then (s.scrub d).hand else none

/-- CANDIDATE_FETCH (R295): the next source in the order of R295 is tried; `xspi` is the image in xSPI memory at CFG_XSPI_BASE as R261
reads it, if the ports answer. -/
def execCandidateFetch (d : Fin 8) (xspi : Option (List Byte)) (e : MemEnv) (s : State) : Out :=
  match s.searching d with
  | none => .next s
  | some h =>
    if h.cand.isSome then .next s
    else if h.source = 0 then .next (offerFrame s d h (if s.flag uScb F.scbCtrlZeroTry then some 0 else none))
    else if h.source ≤ 4 then
      let i := h.source - 1
      if s.fld uScb F.scbRepairSizeUnits i = 0 then .next (nextSource s d h)
      else
        match slotFrame s i h.region h.ordinal e with
        | none => .next s
        | some (t, f) => .next (offerFrame t d h f)
    else
      .next (offerFrame s d h (if s.flag uScb F.scbCtrlXspiTry then xspi.bind (fun bs => imageFrame bs h.region h.ordinal) else none))

/-- A search given up because its region has flipped (R300). -/
def discardRepair (s : State) (d : Nat) (h : Search) : State :=
  let s1 := s.setScrub d { s.scrub d with hand := none }
  let s2 : State := { s1 with scb := { s1.scb with handed := NSet.del s1.scb.handed (h.region * 22528 + h.ordinal) } }
  placeFirst s2 h.region

/-- REPAIR (R296, R298, R300): the candidate is written to the ACTIVE plane and read back; where the region has flipped since the read
the write is discarded. -/
def execRepair (d : Fin 8) (readBack : Bool) (s : State) : Out :=
  match s.searching d with
  | none => .next s
  | some h =>
    match h.cand with
    | none => .next s
    | some c =>
      let ch := if h.census then 1 else 2
      if h.flipped ∨ s.active h.region ≠ some h.plane then .next (discardRepair s d h)
      else if !busServes s ch d then .next (s.hold ch d)
      else
        let s0 := s.charge ch d 16
        let finish := fun (t : State) => passFrame (t.setScrub d { t.scrub d with hand := none }) d (searchVisit h)
        if c = s.frame h.plane h.region h.ordinal then .next (finish (s0.countSat uScb F.scbFalseCntCount))
        else if !readBack then .next (unrepaired s0 d h)
        else
          let s1 := s0.setFrame h.plane h.region h.ordinal c
          let s2 : State := { s1 with cns := { s1.cns with unrepaired := NSet.del s1.cns.unrepaired (h.region * 22528 + h.ordinal) } }
          .next (finish ((s2.setFld uScb F.scbStatusCorrected 1).countSat uScb F.scbCorrCntCount))

/-- TMR_CORRECT (R299): a disagreement of the triplicated state is corrected in the cycle it appears. -/
def execTmrCorrect (s : State) : Out :=
  if !s.clocked 154 then .next s
  else .next (((s.setFld uScb F.scbStatusTmr 1).countSat uScb F.scbTmrCntCount).raise uScb 0x15)

/-! ### Digests (R301, R302) -/

/-- PHASE shows what the census does (R310). -/
def showCns (s : State) : State :=
  s.setFld uCns F.cnsStatusPhase (if s.cns.run.isSome then 1 else if (s.cns.round.map (fun r => !r.done)).getD false then 2 else 0)

/-- The computation of the digest begun anew, over the scope as it stands (R302, log entry 137). -/
def startDigest (s : State) : State := showCns { s with cns := { s.cns with run := some { scope := cnsScope s }, unrepaired := [] } }

/-- DIGEST_NOW (R302). -/
def execDigestNow (s : State) : Out := .next (startDigest s)

/-- The computation replaced. -/
def State.setRun (s : State) (r : DigestRun) : State := { s with cns := { s.cns with run := some r } }

/-- The digest being computed, while the census unit's clock runs (R410). -/
def State.computing (s : State) : Option DigestRun := if s.clocked 154 then s.cns.run else none

/-- DIGEST_FRAME_READ (R297, R301, R302): the next frame of a die in scope is read and checked within the census budget. One that fails is
handed to the scrubber and read again; one it could not repair makes the digest invalid. -/
def execDigestFrameRead (d : Fin 8) (upset misread : Frame) (tableUpset : Word32) (e : MemEnv) (s : State) : Out :=
  match s.computing with
  | none => .next s
  | some r =>
    let pos := SMap.get 0 r.pos d
    let n := d.val * 16 + pos / 22528
    let o := pos % 22528
    if 16 * 22528 ≤ pos ∨ s.scb.handed.contains (n * 22528 + o) then .next s
    else
      match (if scopeHas r.scope n then s.active n else none) with
      | none => .next (s.setRun { r with pos := SMap.put r.pos d ((pos / 22528 + 1) * 22528) })
      | some p =>
        let next := { r with pos := SMap.put r.pos d (pos + 1) }
        if dynamicFrame n o then .next (s.setRun next)
        else if s.stage n < 3 then .next s
        else if !busServes s 1 d then .next (s.hold 1 d)
        else
          match readFrame (s.charge 1 d 8) n p o upset misread tableUpset e with
          | none => .next s
          | some (t, f, ok) =>
            let key := n * 22528 + o
            if ok then .next (t.setRun { next with seen := SMap.store 0 r.seen key f })
            else if s.cns.unrepaired.contains key then
              .next (t.setRun { next with seen := SMap.store 0 r.seen key f, bad := NSet.add r.bad key })
            else .next { t with scb := { t.scb with handed := NSet.add t.scb.handed key } }

/-- The digest of a region (R301): of its 22,528 frames as read, or 48 zero bytes. -/
def regionDigest (s : State) (r : DigestRun) (n : Nat) : List Byte :=
  if (s.active n).isSome ∧ scopeHas r.scope n then
    Crypto.sha384 ((List.range regionFrames).flatMap (fun o => imgFrameBytes (SMap.get 0 r.seen (n * 22528 + o))))
  else List.replicate 48 0

/-- The device digest (R301). -/
def deviceDigest (s : State) (r : DigestRun) : List Byte :=
  Crypto.sha384 ((List.range 4).flatMap (fun i => toLeBytes 4 (r.scope.getD i 0)) ++
    (List.range 128).flatMap (regionDigest s r))

/-- The digest as CNS_DIGEST holds it, byte 0 the least significant. -/
def State.digest (s : State) : BitVec 384 :=
  BitVec.ofNat 384 (((List.range 12).map (fun k => s.fld uCns F.cnsDigestDigest k * 2 ^ (32 * k))).sum)

/-! ### Rounds (R303-R308, R210-R212) -/

/-- Whether the device takes part in rounds: EN = 1 and a valid SYSID (R303, R310). -/
def takesPart (s : State) : Bool :=
  s.flag uCns F.cnsCtrlEn && s.fld uCns F.cnsSysidSysid != 0 && s.fld uCns F.cnsSysidSysid != 0xFFFF

/-- Link ports of a role whose link is UP: role 1 UP, 2 DOWN (R211). -/
def rolePorts (s : State) (role : Nat) : NSet :=
  (List.range 16).filter (fun p => s.fld (uLnk p) F.lnkCtrlRole == role && s.linkState p == 2)

/-- A census message sent to a link port (R210): its type, SUBJECT, COUNT, DISSENTS and DIGEST. The rules give its PRI no value: a free value
(log entry 13). A device that takes no part sends none (R303). -/
def sendCmsg (s : State) (port ctype subject count dissents : Nat) (digest : BitVec 384) : State :=
  if !takesPart s then s
  else
    (s.sendReq {
      pri := BitVec.ofNat 2 s.fresh
      opc := BitVec.ofNat 6 opCmsg
      len := 1
      tag := 0
      dst := BitVec.ofNat 11 (linkCode port)
      src := BitVec.ofNat 11 (codeOf 31 8)
      label := 0
      icls := 5
      stat := 0
      addr := 0
      aux := BitVec.ofNat 32 count
      hoplim := 0
      ext := BitVec.ofNat 64 (ctype * 2 ^ 60 + s.fld uCns F.cnsRoundRound * 2 ^ 32 + s.fld uCns F.cnsSysidSysid * 2 ^ 16 + subject)
      hdata := BitVec.ofNat 256 dissents
      body := [BitVec.ofNat 512 digest.toNat] }).draw

/-- A SUBJECT of a round at the root: the first 16 are kept (R307). -/
def Round.note (r : Round) (subject : Nat) : Round := if 16 ≤ r.subjects.length then r else { r with subjects := r.subjects ++ [subject] }

/-- The SUBJECTs of a round recorded at its end: entries 2k and 2k + 1 in register k (R307, R310). -/
def logSubjects (s : State) (l : List Nat) : State :=
  (List.range l.length).foldl (fun (t : State) n =>
    let w := t.fld uCns F.cnsDlogSysid (n / 2)
    let v := l.getD n 0
    t.setFld uCns F.cnsDlogSysid (if n % 2 = 0 then w / 65536 * 65536 + v else w % 65536 + v * 65536) (n / 2))
    (s.setFld uCns F.cnsDlogNumNum l.length)

/-- The round replaced. -/
def State.setRound (s : State) (r : Round) : State := { s with cns := { s.cns with round := some r } }

/-- The round ends at this device (R306, R307): a SUMMARY goes up, or the root records the result. -/
def finishRound (s : State) (r : Round) : State :=
  let count := 1 + r.count
  let dissents := boolNat r.own + r.dissents
  let missing := ((r.down.filter (fun p => !r.got.contains p)).map (fun p => 2 ^ p)).sum
  let s1 := (s.setRound { r with done := true }).setFld uCns F.cnsMissingPorts missing
  if s.flag uCns F.cnsCtrlRoot then
    let short := s.fld uCns F.cnsExpectDevices != 0 && decide (count < s.fld uCns F.cnsExpectDevices)
    let s2 := logSubjects (((s1.setFld uCns F.cnsCountCount count).setFld uCns F.cnsDissentsCount dissents).setFld uCns
      F.cnsStatusRoundDone 1) r.subjects
    let s3 := if short then s2.setFld uCns F.cnsStatusShort 1 else s2
    showCns ((if dissents ≠ 0 ∨ short then s3.raise uCns 0x08 dissents else s3).edge 4)
  else showCns ((rolePorts s 1).foldl (fun (t : State) p => sendCmsg t p 2 (s.fld uCns F.cnsSysidSysid) count dissents r.ref) s1)

/-- The SUMMARY is sent once the own comparison is complete and every DOWN port UP at adoption has given one (R306). -/
def tryFinish (s : State) : State :=
  match s.cns.round with
  | some r => if r.compared && !r.done && r.down.all (fun p => r.got.contains p) then finishRound s r else s
  | none => s

/-- The device dissents (R305): a DISSENT goes up, or into the root's log, DISSENT is set and class 0x08 raised. -/
def dissent (s : State) (r : Round) : State :=
  let me := s.fld uCns F.cnsSysidSysid
  let r1 := { r with compared := true, own := true }
  let s1 := s.setRound (if s.flag uCns F.cnsCtrlRoot then r1.note me else r1)
  let digest := if s.flag uCns F.cnsStatusCurrent then s.digest else 0
  let s2 := if s.flag uCns F.cnsCtrlRoot then s1
    else (rolePorts s 1).foldl (fun (t : State) p => sendCmsg t p 3 me 0 0 digest) s1
  (s2.setFld uCns F.cnsStatusDissent 1).raise uCns 0x08 me

/-- The own comparison made, once the digest is current; an invalid digest dissents (R305). A device that takes no part makes none
(R303). -/
def compareOwn (s : State) : State :=
  match s.cns.round with
  | none => s
  | some r =>
    if r.compared ∨ !takesPart s then s
    else if s.flag uCns F.cnsStatusCurrent then
      tryFinish (if s.digest = r.ref then s.setRound { r with compared := true } else dissent s r)
    else if s.cns.run.isSome then s
    else if s.flag uCns F.cnsStatusInvalid then tryFinish (dissent s r)
    else s

/-- A round begins at the device (R304, R305): the REF goes down, the own digest is obtained and compared. A round that waited for the
root's digest is abandoned. -/
def adopt (s0 : State) (ref : BitVec 384) : State :=
  let s : State := { s0 with cns := { s0.cns with starting := false } }
  let down := rolePorts s 2
  let s1 := (s.setRound { ref := ref, down := down }).setFld uCns F.cnsMissingPorts 0
  let s2 := down.foldl (fun (t : State) p => sendCmsg t p 1 (s.fld uCns F.cnsSysidSysid) 0 0 ref) s1
  if s2.flag uCns F.cnsStatusCurrent then compareOwn (showCns s2)
  else if s2.cns.run.isSome then showCns s2 else startDigest s2

/-- The root starts a round (R304). -/
def startRound (s : State) : State :=
  if !takesPart s || !s.flag uCns F.cnsCtrlRoot then s
  else
    let s1 := s.setFld uCns F.cnsRoundRound (s.fld uCns F.cnsRoundRound + 1)
    if s.flag uCns F.cnsCtrlRefSrc then
      adopt s1 (BitVec.ofNat 384 (((List.range 12).map (fun k => s.fld uCns F.cnsRefRef k * 2 ^ (32 * k))).sum))
    else if s.flag uCns F.cnsStatusCurrent then adopt s1 s.digest
    else
      let s2 : State := { s1 with cns := { s1.cns with starting := true, round := none } }
      if s2.cns.run.isSome then s2 else startDigest s2

/-- CENSUS_START (R304): ignored at any device but the root. -/
def execCensusStart (s : State) : Out := .next (startRound s)

/-- ROUND_PERIOD (R304). -/
def execRoundPeriod (s : State) : Out := if s.fld uCns F.cnsCtrlPeriod = 0 ∨ !s.clocked 154 then .next s else .next (startRound s)

/-- DIGEST_DONE (R301, R302): every die has been read: the digest is recorded, a root's round that waited for it begins, and an open
comparison is made. -/
def execDigestDone (s : State) : Out :=
  match s.computing with
  | none => .next s
  | some r =>
    if !(List.range 8).all (fun d => decide (16 * 22528 ≤ SMap.get 0 r.pos d)) then .next s
    else
      let v := leBytes (deviceDigest s r)
      let s1 := (List.range 12).foldl (fun (t : State) k => t.setFld uCns F.cnsDigestDigest (v / 2 ^ (32 * k)) k) s
      let s2 := (s1.setFld uCns F.cnsStatusInvalid (boolNat (!r.bad.isEmpty))).setFld uCns F.cnsStatusCurrent (boolNat r.bad.isEmpty)
      let s3 := showCns { s2 with cns := { s2.cns with run := none } }
      if s3.cns.starting ∧ takesPart s3 ∧ s3.flag uCns F.cnsCtrlRoot then .next (adopt s3 s3.digest)
      else .next (compareOwn { s3 with cns := { s3.cns with starting := false } })

/-- A census message dropped and counted (R303-R306, R210). -/
def dropCmsg (s : State) (p : Packet) : State := (s.takeReq p).countSat uCns F.cnsDropCntCount

/-- CTYPE of a census message (R210). -/
def ctype (p : Packet) : Nat := p.ext.toNat / 2 ^ 60
/-- ROUND of a census message. -/
def cmsgRound (p : Packet) : Nat := p.ext.toNat / 2 ^ 32 % 65536
/-- The link port through which a message came. -/
def cmsgPort (p : Packet) : Nat := ((List.range 16).find? (fun i => linkCode i == p.src.toNat)).getD 16
/-- Whether a packet is a census message delivered to the census unit. -/
def forCensus (s : State) (p : Packet) : Bool :=
  p.op == opCmsg && p.dst.toNat == codeOf 31 8 && s.net.reqs.contains p && s.targetRuns p

/-- REF (R305): a REF that names another round is adopted; a duplicate, one at the root or at a device that takes no part, and a message of
a reserved CTYPE are dropped and counted. -/
def execRef (p : Packet) (s : State) : Out :=
  if !forCensus s p ∨ ctype p = 2 ∨ ctype p = 3 then .next s
  else if ctype p ≠ 1 ∨ !takesPart s ∨ s.flag uCns F.cnsCtrlRoot ∨ cmsgRound p = s.fld uCns F.cnsRoundRound then .next (dropCmsg s p)
  else
    let s1 := (s.takeReq p).setFld uCns F.cnsRoundRound (cmsgRound p)
    .next (adopt s1 (BitVec.ofNat 384 ((p.body.getD 0 0).toNat)))

/-- SUMMARY (R306): the first of the round from a port is summed; another is dropped and counted. -/
def execSummary (p : Packet) (s : State) : Out :=
  if !forCensus s p ∨ ctype p ≠ 2 then .next s
  else
    match s.cns.round with
    | none => .next (dropCmsg s p)
    | some r =>
      if !takesPart s ∨ cmsgRound p ≠ s.fld uCns F.cnsRoundRound ∨ r.got.contains (cmsgPort p) ∨ r.done then .next (dropCmsg s p)
      else
        .next (tryFinish ((s.takeReq p).setRound { r with
          got := NSet.add r.got (cmsgPort p)
          count := r.count + p.aux.toNat
          dissents := r.dissents + p.hdata.toNat % 2 ^ 32 }))

/-- DISSENT (R306, R307): sent on at once, or logged at the root; one of another round is dropped and counted. -/
def execDissent (p : Packet) (s : State) : Out :=
  if !forCensus s p ∨ ctype p ≠ 3 then .next s
  else if !takesPart s ∨ s.cns.round.isNone ∨ cmsgRound p ≠ s.fld uCns F.cnsRoundRound then .next (dropCmsg s p)
  else
    let s1 := s.takeReq p
    let subject := p.ext.toNat % 65536
    if s.flag uCns F.cnsCtrlRoot then
      .next (match s1.cns.round with
        | some r => if r.done then s1 else s1.setRound (r.note subject)
        | none => s1)
    else .next ((rolePorts s 1).foldl (fun (t : State) q => sendCmsg t q 3 subject 0 0 (BitVec.ofNat 384 (p.body.getD 0 0).toNat)) s1)

/-- CENSUS_WAIT_EXPIRE (R305, R306): CNS_WAIT µs since adoption: a device whose digest is not current dissents, and the SUMMARY goes without
the ports that gave none. -/
def execCensusWaitExpire (s : State) : Out :=
  match s.cns.round with
  | none => .next s
  | some r =>
    if r.done ∨ !takesPart s ∨ !s.clocked 154 then .next s
    else
      let s1 := if r.compared then s else dissent s r
      match s1.cns.round with
      | some r1 => .next (finishRound s1 r1)
      | none => .next s1

end Sys2Proof.Machine
end

