-- ==== Sys2Proof/Machine/Pcie.lean ====
section
/-! DEFINITION. The PCIe controllers: ports, inbound and outbound requests, DMA channels (R386-R395). -/

namespace Sys2Proof.Machine

open Sys2Proof

/-- A controller beyond its registers. -/
def State.pciCtl (s : State) (c : Nat) : PciCtl := SMap.get {} s.pci c
/-- A controller replaced. -/
def State.setPci (s : State) (c : Nat) (x : PciCtl) : State := { s with pci := SMap.store {} s.pci c x }
/-- The endpoint code of a controller's port. -/
def pciCode (c : Nat) : Nat := codeOf (pcieNode c) 2
/-- A TLP sent to the host. -/
def sendTlp (s : State) (c : Nat) (t : Tlp) : State :=
  let x := s.pciCtl c
  s.setPci c { x with sent := x.sent ++ [t] }

/-- Max Read Request Size of a function (R386). -/
def maxRead (c fn : Nat) : Nat := 128 * 2 ^ (Config.maxReadCode c fn).val

/-- Max Payload Size of a controller (R386). -/
def maxPayload (c : Nat) : Nat := 128 * 2 ^ (Config.maxPayloadCode c).val

/-- A range cut into pieces of at most `m` bytes: where each begins, and its bytes. -/
def cutFrom (m : Nat) : Nat → Nat → Nat → List (Nat × Nat)
  | 0, at_, n => [(at_, n)]
  | fuel + 1, at_, n => if n ≤ m then [(at_, n)] else (at_, m) :: cutFrom m fuel (at_ + m) (n - m)

/-- A range of at most 4 KiB cut by a size of at least 128 bytes. -/
def cut (m n : Nat) : List (Nat × Nat) := if n ≤ 128 then [(0, n)] else cutFrom m 32 0 n

/-- A memory write sent to the host, in TLPs of at most Max Payload Size (R386). -/
def hostWrite (s : State) (c : Nat) (port : Bool) (fn addr : Nat) (data : List Byte) : State :=
  (cut (maxPayload c) data.length).foldl (fun t q => sendTlp t c (.write port fn (addr + q.1) ((data.drop q.1).take q.2))) s

/-- The reads that one read of the host is split into (R391). -/
def hostReads (c fn n : Nat) : List (Nat × Nat) := cut (maxRead c fn) n

/-- Whether a controller may have `n` more non-posted requests outstanding: 768 at most (R386). -/
def hostRoom (s : State) (c n : Nat) : Bool := decide ((s.pciCtl c).ob.length + n ≤ 768)

/-- A read of the host, for a Rovis READ or a DMA channel, split to respect Max Read Request Size (R391). -/
def hostRead (s : State) (c : Nat) (port : Bool) (fn addr n : Nat) (req : Option Packet) (chan : Nat) : State :=
  let l := hostReads c fn n
  let s1 := l.foldl (fun t q => sendTlp t c (.read port fn (addr + q.1) q.2)) s
  let y := s1.pciCtl c
  s1.setPci c { y with ob := y.ob ++ l.map (fun q => { req := req, chan := chan, bytes := q.2, data := [] }) }

/-- The key of a word of a function's MSI-X table, VFs from 8 on (R388). -/
def msixKey (fn w : Nat) : Nat := fn * 8192 + w

/-- An MSI-X message of a function: its vector, and the four words of its table entry (R386, R388). -/
def sendMsix (s : State) (c fn vec : Nat) : State :=
  sendTlp s c (.msix fn vec ((List.range 4).map (fun i => SMap.get 0 (s.pciCtl c).msix (msixKey fn (4 * vec + i)))))

/-! ### Ports (R386, R387) -/

/-- Whether a port can be used: UP (R396), and the controller's clock runs (R410). -/
def portUp (s : State) (c : Nat) (b : Bool) : Bool :=
  s.clocked (148 + c) && s.flag (uPci c) (if b then F.pciStatusUpB else F.pciStatusUpA)

/-- UP, SPEED and WIDTH of a port shown. -/
def showPort (s : State) (c : Nat) (b : Bool) (up speed width : Nat) : State :=
  if b then ((s.setFld (uPci c) F.pciStatusUpB up).setFld (uPci c) F.pciStatusSpeedB speed).setFld (uPci c) F.pciStatusWidthB width
  else ((s.setFld (uPci c) F.pciStatusUpA up).setFld (uPci c) F.pciStatusSpeedA speed).setFld (uPci c) F.pciStatusWidthA width

/-- A rising edge of EN: MODE, BIFUR and TOTAL_VF take effect (R387). -/
def pcieEnable (s : State) (c : Nat) : State :=
  let u := uPci c
  if s.flag u F.pciCtrlEn then s
  else
    let x := s.pciCtl c
    (s.setFld u F.pciCtrlEn 1).setPci c { x with
      bifur := s.flag u F.pciCtrlBifur
      modeA := s.fld u F.pciCtrlModeA
      modeB := s.fld u F.pciCtrlModeB
      totalVf := (List.range 8).foldl (fun m f => SMap.store 0 m f (s.fld u F.pciPfTotalVf f)) [] }

/-- EN falls: the ports leave L0, as they are meant to. -/
def pcieDisable (s : State) (c : Nat) : State :=
  showPort (showPort (s.setFld (uPci c) F.pciCtrlEn 0) c false 0 0 0) c true 0 0 0

/-- PCIE_ENABLE (R387). -/
def execPcieEnable (c : Fin 2) (s : State) : Out := .next (pcieEnable s c)

/-- Whether a port can train to a speed and a width: 2.5 to 32.0 GT/s, and x16, or x8 with BIFUR in force, down to x1 (R386). -/
def trains (s : State) (c speed width : Nat) : Bool :=
  decide (1 ≤ speed) && decide (speed ≤ 5) && [1, 2, 4, 8, 16].contains width && (!(s.pciCtl c).bifur || decide (width ≤ 8))

/-- PCIE_LINK_UP (R386): an enabled port reaches L0; port B exists only with BIFUR in force. -/
def execPcieLinkUp (c : Fin 2) (port : Bool) (speed : BitVec 3) (width : BitVec 5) (s : State) : Out :=
  if !s.flag (uPci c) F.pciCtrlEn || (port && !(s.pciCtl c).bifur) || !s.clocked (148 + c) || !trains s c speed.toNat width.toNat then
    .next s
  else .next (showPort s c port 1 speed.toNat width.toNat)

/-- PCIE_LINK_DROP (R387): an unexpected exit from L0. -/
def execPcieLinkDrop (c : Fin 2) (port : Bool) (s : State) : Out :=
  if !s.flag (uPci c) F.pciCtrlEn || !portUp s c port then .next s
  else .next (((showPort s c port 0 0 0).setFld (uPci c) F.pciStatusLinkDrop 1).raise (uPci c) 0x09)

/-! ### Requests of a controller -/

/-- A Rovis request for `n` bytes from an address on, with the bytes a WRITE carries (R172). -/
def byteReq (op pri tag addr n : Nat) (data : List Byte) : Packet :=
  let lines := if n = 0 then 0 else (addr % 64 + n + 63) / 64
  { pri := BitVec.ofNat 2 pri, opc := BitVec.ofNat 6 op, len := BitVec.ofNat 8 lines, tag := BitVec.ofNat 16 tag, dst := 0, src := 0,
    label := 0, icls := 2, stat := 0, addr := BitVec.ofNat 56 addr,
    aux := BitVec.ofNat 32 (if n = 0 then 0 else (addr % 64 + n - 1) % 64), hoplim := 0, ext := 0, hdata := 0,
    body := if op = opWrite then toLines lines (List.replicate (addr % 64) 0 ++ data) else [] }

/-- The bytes of a READ response that the request asked for. -/
def rspBytes (p : Packet) (addr n : Nat) : List Byte := ((p.payload).drop (addr % 64)).take n

/-- The enabled bytes of a write cut in contiguous runs, with their offsets (R389). -/
def enabledRuns (off : Nat) : List (Option Byte) → List (Nat × List Byte)
  | [] => []
  | none :: r => enabledRuns (off + 1) r
  | some b :: r =>
    match enabledRuns (off + 1) r with
    | (o, bs) :: rest => if o = off + 1 then (off, b :: bs) :: rest else (off, [b]) :: (o, bs) :: rest
    | [] => [(off, [b])]

/-! ### Inbound requests (R388-R390) -/

/-- The VF number a PF's VFs begin at, and the PF of a VF. -/
def pfOfVf (x : PciCtl) (v : Nat) : Nat :=
  ((List.range 8).find? (fun f => decide (v < ((List.range (f + 1)).map (fun g => SMap.get 0 x.totalVf g)).sum))).getD 7

/-- The number of a VF within its PF, from its number within the controller (R389, log 16). -/
def vfOfPf (x : PciCtl) (v : Nat) : Nat := v - ((List.range (pfOfVf x v)).map (fun g => SMap.get 0 x.totalVf g)).sum

/-- The Rovis address of an inbound request (R389). -/
def inboundAddr (s : State) (c : Nat) (r : PciReq) : Nat :=
  let u := uPci c
  if r.vf then
    let f := pfOfVf (s.pciCtl c) r.func.toNat
    let size := 2 ^ s.fld u F.pciPfVfLog2 f
    let base := (s.fld u F.pciPfVfxlatHiBase f * 2 ^ 32 + s.fld u F.pciPfVfxlatLoBase f) / size * size
    base + vfOfPf (s.pciCtl c) r.func.toNat * size + r.off.toNat
  else
    let f := r.func.toNat % 8
    let size := 2 ^ s.fld u F.pciPfBar0Log2 f
    (s.fld u F.pciPfXlatHiBase f * 2 ^ 32 + s.fld u F.pciPfXlatLoBase f) / size * size + r.off.toNat

/-- Whether a request names a function there is, and an offset of its BAR0 (R388). -/
def inBar0 (s : State) (c : Nat) (r : PciReq) : Bool :=
  if r.vf then decide (r.off.toNat < 2 ^ s.fld (uPci c) F.pciPfVfLog2 (pfOfVf (s.pciCtl c) r.func.toNat))
  else decide (r.off.toNat < 2 ^ s.fld (uPci c) F.pciPfBar0Log2 r.func.toNat)

/-- Whether a function of a controller exists: PF 0 to 7, and the VFs that TOTAL_VF in force gives (R386, R388). -/
def hasFunc (s : State) (c : Nat) (vf : Bool) (func : Nat) : Bool :=
  if vf then decide (func < ((List.range 8).map (fun g => SMap.get 0 (s.pciCtl c).totalVf g)).sum) else decide (func < 8)

/-- The Rovis requests of an inbound request: address, bytes, data. -/
def inboundPieces (addr : Nat) (r : PciReq) : List (Nat × Nat × List Byte) :=
  if r.write then (enabledRuns 0 r.data).map (fun x => (addr + x.1, x.2.length, x.2)) else [(addr, r.count, [])]

/-- The status of a set of answers: the first that is not OK. -/
def worstStat (l : List PciPart) : Stat := ((l.filterMap (·.stat)).find? (fun x => x != .ok)).getD .ok

/-- The number of a function as a requester or completer: VFs from 8 on. -/
def funcNo (r : PciReq) : Nat := if r.vf then 8 + r.func.toNat else r.func.toNat

/-- An inbound request answered in full (R389): a read gets its completion, a failed posted write is counted and
reported under AER. -/
def finishInbound (s : State) (c : Nat) (i : PciIn) : State :=
  let st := worstStat i.parts
  let r := i.req
  let fn := funcNo r
  if r.write then
    (if st = .ok then s
     else sendTlp (s.countSat (uPci c) F.pciInErrCntCount) c (.aer r.port fn (st != .decode && st != .noRoute)))
  else
    let data := if r.count = 0 then [0, 0, 0, 0] else i.parts.flatMap (·.data)
    match st with
    | .ok => sendTlp s c (.completion r.port fn r.tag.toNat 0 false data)
    | .poison => sendTlp s c (.completion r.port fn r.tag.toNat 0 true data)
    | .decode => sendTlp (s.countSat (uPci c) F.pciInErrCntCount) c (.completion r.port fn r.tag.toNat 1 false [])
    | .noRoute => sendTlp (s.countSat (uPci c) F.pciInErrCntCount) c (.completion r.port fn r.tag.toNat 1 false [])
    | _ => sendTlp (s.countSat (uPci c) F.pciInErrCntCount) c (.completion r.port fn r.tag.toNat 4 false [])

/-- Inbound requests whose answers are complete leave the controller. -/
def reapInbound (s : State) (c : Nat) : State :=
  let x := s.pciCtl c
  let done := fun (i : PciIn) => i.issued && i.parts.all (fun p => p.stat.isSome)
  (x.inq.filter done).foldl (fun (t : State) i => finishInbound t c i) (s.setPci c { x with inq := x.inq.filter (fun i => !done i) })

/-- Whether an inbound request may be issued after those before it (R390). -/
def mayIssue (r : PciReq) (before : List PciIn) : Bool :=
  (r.write && r.relaxed) || before.all (fun i => !(i.req.write && i.req.port == r.port))

/-- The first inbound request that may be issued, with its place. -/
def firstIssuable : List PciIn → List PciIn → Option (Nat × PciIn)
  | _, [] => none
  | before, i :: r => if !i.issued && mayIssue i.req before then some (before.length, i) else firstIssuable (before ++ [i]) r

/-- One inbound request issued: each piece enters the mesh at the controller's port under a TAG of the controller. -/
def issueInbound (s : State) (c k : Nat) (i : PciIn) : State :=
  let x := s.pciCtl c
  let pieces := inboundPieces (inboundAddr s c i.req) i.req
  let tagged := (List.range pieces.length).map (fun j => ((x.nextTag + j) % 65536, pieces.getD j (0, 0, [])))
  let s1 := s.setPci c { x with
    nextTag := (x.nextTag + pieces.length) % 65536
    inq := x.inq.set k { i with issued := true, parts := tagged.map (fun t => ⟨t.1, none, []⟩) } }
  tagged.foldl (fun (t : State) q =>
    ingress t (pciCode c) (byteReq (if i.req.write then opWrite else opRead) (s.fld (uPci c) F.pciCtrlInPri) q.1 q.2.1 q.2.2.1 q.2.2.2)) s1

/-! ### DMA moves (R392-R394) -/

/-- The key of a DMA field. -/
def dmaFld (s : State) (c k : Nat) (f : Fld) : Nat := s.fld (uPci c) f k

/-- The descriptors in flight of a channel. -/
def State.flight (s : State) (c k : Nat) : List DmaDesc := SMap.get [] (s.pciCtl c).dma k

/-- The descriptors in flight replaced. -/
def State.setFlight (s : State) (c k : Nat) (l : List DmaDesc) : State :=
  let x := s.pciCtl c
  s.setPci c { x with dma := SMap.store [] x.dma k l }

/-- Whether an address lies in the token window of a dispatcher slice (R227). -/
def inTokenWindow (a : Nat) : Bool :=
  match mapAddr a with
  | .csr u off => unitKind u == .dsp && decide (0x600000 ≤ off) && decide (off < 0x610000)
  | _ => false

/-- Whether a descriptor sends tokens: its device-side destination lies in a token window (R227). -/
def sendsTokens (d : DmaDesc) : Bool := !bitOf d.flags 1 && inTokenWindow d.dst

/-- The bytes of the next chunk: one token record, or up to the next 4 KiB boundary of either address. -/
def chunkLen (d : DmaDesc) : Nat :=
  if sendsTokens d then 64 else min (d.len - d.moved) (min (4096 - (d.src + d.moved) % 4096) (4096 - (d.dst + d.moved) % 4096))

/-- Where the next read of a chunk begins. -/
def readAt (d : DmaDesc) : Nat := d.src + d.moved + d.held.length

/-- The bytes of the next read of a chunk, which stays within a 4 KiB block. -/
def readLen (d : DmaDesc) : Nat := min (chunkLen d - d.held.length) (4096 - readAt d % 4096)

/-- The requester function of a channel, VFs from 8 on. -/
def dmaFunc (s : State) (c k : Nat) : Nat :=
  if dmaFld s c k F.pciDmaCtrlVf = 1 then 8 + dmaFld s c k F.pciDmaCtrlFunc else dmaFld s c k F.pciDmaCtrlFunc

/-- A TAG of the controller taken. -/
def takeTag (s : State) (c : Nat) : Nat × State :=
  let x := s.pciCtl c
  (x.nextTag, s.setPci c { x with nextTag := (x.nextTag + 1) % 65536 })

/-- A descriptor in flight replaced. -/
def State.putFlight (s : State) (c k i : Nat) (d : DmaDesc) : State := s.setFlight c k ((s.flight c k).set i d)

/-- The next chunk of a descriptor read: from the host, once its requests may be outstanding, or by a Rovis READ, whose PRI no rule states: a
free value (log 13). -/
def dmaRead (s : State) (c k i : Nat) (d : DmaDesc) : State :=
  let n := readLen d
  if bitOf d.flags 0 then
    if hostRoom s c (hostReads c (dmaFunc s c k) n).length then
      (hostRead s c false (dmaFunc s c k) (readAt d) n none (k * 4 + i)).putFlight c k i { d with tag := none, chunk := 0, stage := .run }
    else s.putFlight c k i { d with tag := none, chunk := 0, stage := .room }
  else
    let t := takeTag s c
    let s1 := t.2.putFlight c k i { d with tag := some t.1, chunk := 0, stage := .run }
    ingress s1.draw (pciCode c) (byteReq opRead (s1.fresh % 3) t.1 (readAt d) n [])

/-- A chunk written: `n` more bytes are moved; the descriptor goes on, or ends OK. -/
def dmaMoved (s : State) (c k i : Nat) (d : DmaDesc) (n : Nat) : State :=
  let d1 := { d with moved := d.moved + n, tag := none, chunk := 0, held := [] }
  let s1 := s.countWrap (uPci c) F.pciDmaBytesCount n k
  if d.len ≤ d1.moved then s1.putFlight c k i { d1 with status := 1 } else dmaRead s1 c k i d1

/-- A chunk read is written: to the host, accepted at once, or by a Rovis WRITE. -/
def dmaWrite (s : State) (c k i : Nat) (d : DmaDesc) (data : List Byte) : State :=
  if bitOf d.flags 1 then dmaMoved (hostWrite s c false (dmaFunc s c k) (d.dst + d.moved) data) c k i d data.length
  else
    let t := takeTag s c
    let s1 := t.2.putFlight c k i { d with tag := some t.1, chunk := data.length }
    ingress s1.draw (pciCode c) (byteReq opWrite (s1.fresh % 3) t.1 (d.dst + d.moved) data.length data)

/-- Bytes of a chunk read: the rest of it is read too, or the chunk is written. -/
def dmaHave (s : State) (c k i : Nat) (d : DmaDesc) (data : List Byte) : State :=
  let got := d.held ++ data
  if got.length < chunkLen d then dmaRead s c k i { d with held := got, tag := none } else dmaWrite s c k i { d with held := got } got

/-- A request of a descriptor fails: the transfer stops with READ_ERR or WRITE_ERR (R393). -/
def dmaFail (s : State) (c k i : Nat) (d : DmaDesc) (status : Nat) : State :=
  s.putFlight c k i { d with tag := none, status := status, stage := .run }

/-- The channel and place of the descriptor that waits for a TAG. -/
def dmaWaiting (x : PciCtl) (tag : Nat) : Option (Nat × Nat × DmaDesc) :=
  x.dma.findSome? (fun e =>
    ((List.range e.2.length).findSome? (fun i =>
      match e.2[i]? with
      | some d => if d.tag = some tag then some (e.1, i, d) else none
      | none => none)))

/-- Whether a device range lies wholly within one range of R22, or installed DRAM, with KID 0 (R393). -/
def deviceRange (s : State) (a n : Nat) : Bool :=
  decide (a + n ≤ 2 ^ 48) &&
  (match mapAddr a with
   | .dram => decide (a + n ≤ s.ddr.installed)
   | .fabric _ _ => decide (a + n ≤ 0x088000000000)
   | .sram _ => decide (a + n ≤ 0x0C0006000000)
   | .csr _ _ => decide (a + n ≤ 0x0E0100000000)
   | .pcie _ _ => decide (a + n ≤ 0x100000000000)
   | .none => false)

/-- The status of a descriptor that moves no data; 0 where it is sound (R227, R393). -/
def descStatus (s : State) (d : DmaDesc) : Nat :=
  if d.len = 0 then 2
  else if 16 ≤ d.flags then 6
  else if bitOf d.flags 0 ∧ bitOf d.flags 1 then 3
  else if (!bitOf d.flags 0 && !deviceRange s d.src d.len) || (!bitOf d.flags 1 && !deviceRange s d.dst d.len) ||
      (sendsTokens d && (d.len % 64 != 0 || d.dst % 64 != 0)) then 3
  else 0

/-- The descriptor in 32 bytes (R392). -/
def parseDesc (v : Nat) : DmaDesc :=
  { src := bitsOf v 63 0, dst := bitsOf v 127 64, len := bitsOf v 151 128, flags := bitsOf v 159 152, moved := 0, tag := none, chunk := 0, status := 0 }

/-- A descriptor checked before any data moves (R393): it has ended, waits at its FENCE for those before it, or starts. -/
def dmaBegin (s : State) (c k i : Nat) (d : DmaDesc) : State :=
  if descStatus s d ≠ 0 then s.putFlight c k i { d with status := descStatus s d }
  else if bitOf d.flags 3 && i != 0 then s.putFlight c k i { d with stage := .fence }
  else dmaRead s c k i d

/-- Where the entry `i` places after CI of a channel's ring lies (R394, R396). -/
def ringEntry (s : State) (c k i : Nat) : Nat :=
  (dmaFld s c k F.pciDmaRingHiAddr * 2 ^ 32 + dmaFld s c k F.pciDmaRingLoAddr) / 32 * 32 +
    32 * ((dmaFld s c k F.pciDmaCiCi + i) % 2 ^ dmaFld s c k F.pciDmaCtrlSize)

/-- One answer at a controller's port: it belongs to a DMA descriptor, or to an inbound request; any other is discarded (R395). -/
def absorbOne (s : State) (c : Nat) (p : Packet) : State :=
  let x := s.pciCtl c
  let st : Stat := ([Stat.ok, .timeout, .noRoute, .decode, .prot, .poison, .tooLong, .wakeFail, .hopLim, .malformed, .retryExhausted, .busy,
    .fenced].find? (fun t => t.code == p.stat.toNat)).getD .ok
  match dmaWaiting x p.tag.toNat with
  | some (k, i, d) =>
    if d.stage = .fetch then
      (if st = .ok then dmaBegin s c k i (parseDesc (leBytes (rspBytes p d.src 32))) else dmaFail s c k i d 4)
    else if p.op = 0x21 then
      (if st = .ok then dmaHave s c k i d (rspBytes p (readAt d) (readLen d)) else dmaFail s c k i d 4)
    else if st = .ok then dmaMoved s c k i d d.chunk else dmaFail s c k i d 5
  | none =>
    s.setPci c { x with inq := x.inq.map (fun q => { q with parts := q.parts.map (fun r =>
      if r.tag = p.tag.toNat ∧ r.stat.isNone then
        { r with stat := some st, data := rspBytes p (inboundAddr s c q.req) q.req.count } else r) }) }

/-- The first descriptor that waits for room among the requests outstanding at the host, with its channel and place. -/
def dmaWantsRoom (x : PciCtl) : Option (Nat × Nat × DmaDesc) :=
  x.dma.findSome? (fun e =>
    (List.range e.2.length).findSome? (fun i => (e.2[i]?).bind (fun d => if d.stage = .room then some (e.1, i, d) else none)))

/-- The descriptor that waited for room, whose read may now go out (R386). -/
def dmaRoomy (s : State) (c : Nat) : Option (Nat × Nat × DmaDesc) :=
  (dmaWantsRoom (s.pciCtl c)).filter (fun w => hostRoom s c (hostReads c (dmaFunc s c w.1) (readLen w.2.2)).length)

/-- Answers at a controller's port taken, one after another, inbound requests issued as their turn comes (R390), and reads of the host as
there is room for them. -/
def absorbPci (s : State) (c : Nat) : Nat → State
  | 0 => s
  | fuel + 1 =>
    let np := s.netPort (pciCode c)
    match np.delivered with
    | p :: r => absorbPci (absorbOne (s.setNetPort (pciCode c) { np with delivered := r }) c p) c fuel
    | [] =>
      let s1 := reapInbound s c
      match firstIssuable [] (s1.pciCtl c).inq with
      | some (k, i) => absorbPci (issueInbound s1 c k i) c fuel
      | none =>
        match dmaRoomy s1 c with
        | some w => absorbPci (dmaRead s1 c w.1 w.2.1 w.2.2) c fuel
        | none => s1

/-- Steps that the answers and requests of a controller can take at most. -/
def pciFuel (s : State) (c : Nat) : Nat :=
  let x := s.pciCtl c
  16384 + 4 * ((s.netPort (pciCode c)).delivered.length + (x.inq.map (fun i => i.req.data.length + 2)).sum)

/-- What a controller does with what its port has. -/
def pciRun (s : State) (c : Nat) : State := absorbPci s c (pciFuel s c)

/-! ### The mailbox in BAR2 of PF 0 (R478) -/

/-- A mailbox. -/
def State.mailbox (s : State) (c : Nat) : Mailbox := SMap.get {} s.dict.mailbox c

/-- A mailbox replaced. -/
def State.setMailbox (s : State) (c : Nat) (m : Mailbox) : State :=
  { s with dict := { s.dict with mailbox := SMap.store {} s.dict.mailbox c m } }

/-- The bytes of a record's area, zeros where nothing has been written. -/
def recordArea (bs : List Byte) : List Byte := (bs ++ List.replicate 4096 0).take 4096

/-- A doorbell write: the request record is submitted, unless one is being served. -/
def mailboxDoorbell (s : State) (c seq : Nat) : State :=
  let m := s.mailbox c
  if m.busy then s.setMailbox c { m with overrun := true }
  else
    let s1 := s.setMailbox c { m with busy := true, ready := false }
    { s1 with dict := { s1.dict with queue := s1.dict.queue ++ [⟨2 + c, seq, .mailbox c, recordArea m.request⟩] } }

/-- A register of a mailbox as it reads. -/
def mailboxReg (m : Mailbox) (off : Nat) : Nat :=
  if off = 4 then boolNat m.busy * 2 ^ 31 + boolNat m.ready * 2 ^ 30 + boolNat m.overrun * 2 ^ 29 + m.seq
  else if off = 8 then boolNat m.irqEn * 2 ^ 31 + m.irqVec
  else 0

/-- The value a write with byte enables leaves in a word, from its bits before. -/
def mergeBytes (old : Nat) (bs : List (Option Byte)) : Nat :=
  leBytes ((List.range 4).map (fun i => (bs.getD i none).getD (BitVec.ofNat 8 (old / 256 ^ i))))

/-- A register of a mailbox written. -/
def mailboxRegWrite (c : Nat) (s : State) (w : Nat × List (Option Byte)) : State :=
  let m := s.mailbox c
  if w.2.all (·.isNone) then s
  else if w.1 = 0 then mailboxDoorbell s c (mergeBytes 0 w.2 % 65536)
  else if w.1 = 4 then s.setMailbox c { m with overrun := m.overrun && !bitOf (mergeBytes 0 w.2) 29 }
  else
    let v := mergeBytes (mailboxReg m 8) w.2
    s.setMailbox c { m with irqEn := bitOf v 31, irqVec := v % 2048 }

/-- Whether an access lies in the mailbox's registers, its request record or its response record. -/
def mailboxPart (off n : Nat) : Nat :=
  if off + n ≤ 12 then 1 else if 0x1000 ≤ off ∧ off + n ≤ 0x2000 then 2 else if 0x2000 ≤ off ∧ off + n ≤ 0x3000 then 3 else 0

/-- A write to the mailbox through a port: an offset that holds nothing is an Unsupported Request, which a posted write has counted and
reported under AER. -/
def mailboxWrite (s : State) (c : Nat) (port : Bool) (off : Nat) (data : List (Option Byte)) : State :=
  let m := s.mailbox c
  match mailboxPart off data.length with
  | 0 => sendTlp (s.countSat (uPci c) F.pciInErrCntCount) c (.aer port 0 false)
  | 1 => [0, 4, 8].foldl (fun (t : State) r =>
      mailboxRegWrite c t (r, (List.range 4).map (fun i => if off ≤ r + i then data.getD (r + i - off) none else none))) s
  | 2 =>
    if m.busy then s
    else s.setMailbox c { m with request := (List.range 4096).map (fun i =>
      (if 0x1000 + i < off then none else data.getD (0x1000 + i - off) none).getD (m.request.getD i 0)) }
  | _ => s

/-- A request to a mailbox (R478): a read is answered with its bytes or as Unsupported Request. -/
def mailboxRequest (s : State) (c : Nat) (r : PciReq) : State :=
  let m := s.mailbox c
  let off := r.off.toNat
  if r.write then mailboxWrite s c r.port off r.data
  else
    match mailboxPart off r.count with
    | 0 => sendTlp (s.countSat (uPci c) F.pciInErrCntCount) c (.completion r.port 0 r.tag.toNat 1 false [])
    | 1 => sendTlp s c (.completion r.port 0 r.tag.toNat 0 false
        ((([0, 4, 8].flatMap (fun k => toLeBytes 4 (mailboxReg m k))).drop off).take r.count))
    | 2 => sendTlp s c (.completion r.port 0 r.tag.toNat 0 false (((recordArea m.request).drop (off - 0x1000)).take r.count))
    | _ => sendTlp s c (.completion r.port 0 r.tag.toNat 0 false (((recordArea m.response).drop (off - 0x2000)).take r.count))

/-! ### BAR4: the MSI-X table and the doorbells (R388, R394) -/

/-- PI written (R394): ignored with PI_ERR where more than 2^SIZE entries would lie between CI and PI. -/
def writePi (s : State) (c k pi : Nat) : State :=
  if 2 ^ dmaFld s c k F.pciDmaCtrlSize < (pi + 65536 - dmaFld s c k F.pciDmaCiCi) % 65536 then s.setFld (uPci c) F.pciDmaStatPiErr 1 k
  else s.setFld (uPci c) F.pciDmaPiPi pi k

/-- A doorbell of a function: that of another function than the channel's is discarded and counted (R394). -/
def doorbell (s : State) (c k pi : Nat) (vf : Bool) (func : Nat) : State :=
  if boolNat vf = dmaFld s c k F.pciDmaCtrlVf ∧ func = dmaFld s c k F.pciDmaCtrlFunc then writePi s c k pi
  else s.countSat (uPci c) F.pciDbDropCntCount

/-- MSI-X vectors of a function: 2,048 of a PF, 64 of a VF (R386). -/
def msixVectors (r : PciReq) : Nat := if r.vf then 64 else 2048

/-- What an access to a BAR4 reaches: 1 the MSI-X table, 2 its PBA, 3 a doorbell; 0 nothing (R388). -/
def bar4Part (r : PciReq) (n : Nat) : Nat :=
  let off := r.off.toNat
  if off + n ≤ 16 * msixVectors r then 1
  else if 0x40000 ≤ off ∧ off + n ≤ 0x40000 + msixVectors r / 8 then 2
  else if 0x80000 ≤ off ∧ off + n ≤ 0x80800 ∧ off % 8 + n ≤ 4 then 3
  else 0

/-- Written bytes merged into a word of a function's MSI-X table. -/
def msixMerge (c fn off : Nat) (data : List (Option Byte)) (s : State) (w : Nat) : State :=
  let x := s.pciCtl c
  let old := SMap.get 0 x.msix (msixKey fn w)
  let bs := (List.range 4).map (fun i => if off ≤ 4 * w + i then data.getD (4 * w + i - off) none else none)
  s.setPci c { x with msix := SMap.store 0 x.msix (msixKey fn w) (mergeBytes old bs) }

/-- A request to a BAR4 (R388, log 165): the MSI-X table is read and written as it is held, the PBA reads zeros, and a write to a doorbell is a
PI write of its function. An offset that holds nothing is an Unsupported Request. -/
def bar4Request (s : State) (c : Nat) (r : PciReq) : State :=
  let off := r.off.toNat
  let fn := funcNo r
  let words := (List.range ((off % 4 + r.data.length + 3) / 4)).map (off / 4 + ·)
  if r.write then
    match bar4Part r r.data.length with
    | 1 => words.foldl (msixMerge c fn off r.data) s
    | 2 => s
    | 3 =>
      let bs := (List.range 4).map (fun i => if off % 8 ≤ i then r.data.getD (i - off % 8) none else none)
      if bs.all (·.isNone) then s
      else doorbell s c (off / 8 % 256) (mergeBytes (dmaFld s c (off / 8 % 256) F.pciDmaPiPi) bs % 65536) r.vf r.func.toNat
    | _ => sendTlp (s.countSat (uPci c) F.pciInErrCntCount) c (.aer r.port fn false)
  else
    match bar4Part r r.count with
    | 0 => sendTlp (s.countSat (uPci c) F.pciInErrCntCount) c (.completion r.port fn r.tag.toNat 1 false [])
    | 1 => sendTlp s c (.completion r.port fn r.tag.toNat 0 false ((List.range r.count).map (fun i =>
        BitVec.ofNat 8 (SMap.get 0 (s.pciCtl c).msix (msixKey fn ((off + i) / 4)) / 256 ^ ((off + i) % 4)))))
    | _ => sendTlp s c (.completion r.port fn r.tag.toNat 0 false (List.replicate r.count 0))

/-- INBOUND_REQUEST (R388-R390, R478): a memory request to a function of an endpoint port in L0: to the mailbox, to a BAR4, or to a BAR0, where
it is issued when the order of its port lets it. -/
def execInboundRequest (c : Fin 2) (r : PciReq) (s : State) : Out :=
  let x := s.pciCtl c
  if !s.flag (uPci c) F.pciCtrlEn || !portUp s c r.port || (if r.port then x.modeB else x.modeA) != 0 then .next s
  else if !hasFunc s c r.vf r.func.toNat then .next s
  else
    match r.bar with
    | .bar0 => if inBar0 s c r then .next (pciRun (s.setPci c { x with inq := x.inq ++ [⟨r, false, []⟩] }) c) else .next s
    | .bar2 => if r.vf || r.func != 0 then .next s else .next (mailboxRequest s c r)
    | .bar4 => .next (bar4Request s c r)

/-- MAILBOX_DOORBELL (R478): the host of an endpoint in L0 writes MGT_MB_DOORBELL. -/
def execMailboxDoorbell (c : Fin 2) (seq : BitVec 16) (s : State) : Out :=
  if !s.flag (uPci c) F.pciCtrlEn || !portUp s c false || (s.pciCtl c).modeA != 0 then .next s
  else .next (mailboxDoorbell s c seq.toNat)

/-! ### The outbound window (R391) -/

/-- The controller a packet's DST names. -/
def pciOf (p : Packet) : Option Nat := (List.range 2).find? (fun c => pciCode c == p.dst.toNat)

/-- The host address of a region. -/
def obHost (s : State) (c r : Nat) : Nat :=
  (s.fld (uPci c) F.pciObHostHiHost r * 2 ^ 32 + s.fld (uPci c) F.pciObHostLoHost r) / 4096 * 4096

/-- A request to the outbound window (R391). A request that would go beyond the 768 outstanding at the host waits (R386). -/
def outbound (s : State) (c off : Nat) (p : Packet) : State :=
  let r := off / 2 ^ 36
  let o := off % 2 ^ 36
  let u := uPci c
  let port := s.flag u F.pciObPort r
  let x := s.pciCtl c
  let root := (if port then x.modeB else x.modeA) == 1
  let type := s.fld u F.pciObType r
  if p.op = opAtomic ∨ type = 0 ∨ type = 3 then s.reply p .decode
  else if type = 2 ∧ (!root ∨ p.rangeLen = 0 ∨ 4 < o % 4 + p.rangeLen) then s.reply p .decode
  else if !portUp s c port then s.reply p .noRoute
  else if type = 1 then
    if p.op = opWrite then (hostWrite s c port (s.fld u F.pciObFunc r) (obHost s c r + o) p.writeBytes).reply p .ok
    else if !hostRoom s c (hostReads c (s.fld u F.pciObFunc r) p.rangeLen).length then s
    else hostRead (s.takeReq p) c port (s.fld u F.pciObFunc r) (obHost s c r + o) p.rangeLen (some p) 0
  else if !hostRoom s c 1 then s
  else
    let s1 := sendTlp (s.takeReq p) c (.cfg port (bitsOf o 27 20) (bitsOf o 19 15) (bitsOf o 14 12) (bitsOf o 11 0)
      (if p.op = opWrite then some p.writeBytes else none))
    let y := s1.pciCtl c
    s1.setPci c { y with ob := y.ob ++ [{ req := some p, chan := 0, bytes := if p.op = opRead then p.rangeLen else 0, data := [] }] }

/-- OUTBOUND_REQUEST (R391): a request that reached a controller for its outbound window. -/
def execOutboundRequest (p : Packet) (s : State) : Out :=
  match pciOf p with
  | none => .next s
  | some c =>
    if !isRequest p.op || !s.arrived p then .next s
    else
      match mapAddr p.a48 with
      | .pcie c' off => if c' = c then .next (outbound s c off p) else .next s
      | _ => .next s

/-- The answer to a request to the host: to the Rovis request it served, or to its DMA channel. -/
def answerOb (s : State) (c : Nat) (o : PciOb) (st : Stat) (data : List Byte) : State :=
  match o.req with
  | some p =>
    if st = .ok ∨ st = .poison then s.sendRsp (p.respond st (if p.op = opRead then p.readBody data else []))
    else s.sendRsp (p.respond st)
  | none =>
    match (s.flight c (o.chan / 4))[o.chan % 4]? with
    | some d => if st = .ok then dmaHave s c (o.chan / 4) (o.chan % 4) d data else dmaFail s c (o.chan / 4) (o.chan % 4) d 4
    | none => s

/-- Whether two requests outstanding at the host serve the same request or channel read. -/
def sameOb (a b : PciOb) : Bool := a.req == b.req && a.chan == b.chan

/-- A request outstanding at the host has its outcome; with the last of those that serve one request, that request is answered: by the first
outcome in address order that is not OK, else with the bytes in address order (R391). -/
def obDone (s : State) (c i : Nat) (o : PciOb) (st : Stat) (data : List Byte) : State :=
  let x := s.pciCtl c
  let l := x.ob.set i { o with stat := some st, data := data }
  let mine := l.filter (sameOb o)
  if mine.all (·.stat.isSome) then
    answerOb (s.setPci c { x with ob := l.filter (fun q => !sameOb o q) }) c o
      (((mine.filterMap (·.stat)).find? (fun x => x != .ok)).getD .ok) (mine.flatMap (·.data))
  else s.setPci c { x with ob := l }

/-- The request outstanding at a place of a controller whose clock runs, unless it has its outcome. -/
def obOpen (s : State) (c i : Nat) : Option PciOb := if s.clocked (148 + c) then ((s.pciCtl c).ob[i]?).filter (·.stat.isNone) else none

/-- OUTBOUND_COMPLETION (R391): a completion from the host; a read is answered with its last. -/
def execOutboundCompletion (c : Fin 2) (i : Nat) (outcome : CplOutcome) (data : List Byte) (s : State) : Out :=
  let x := s.pciCtl c
  match obOpen s c i with
  | none => .next s
  | some o =>
    let got := o.data ++ data
    let bad (st : Stat) : State := obDone (s.countSat (uPci c) F.pciObErrCntCount) c i o st got
    let out : State := match outcome with
      | .success => if o.bytes ≤ got.length then obDone s c i o .ok got else s.setPci c { x with ob := x.ob.set i { o with data := got } }
      | .unsupported => bad .decode
      | .abort => bad .prot
      | .retry => bad .busy
      | .poisoned => bad .poison
    .next (pciRun out c)

/-- COMPLETION_TIMEOUT (R391). -/
def execCompletionTimeout (c : Fin 2) (i : Nat) (s : State) : Out :=
  match obOpen s c i with
  | none => .next s
  | some o => .next (pciRun (obDone ((s.setFld (uPci c) F.pciStatusCplTmo 1).countSat (uPci c) F.pciCplTmoCntCount) c i o .busy []) c)

/-! ### DMA rings (R394, R395) -/

/-- DMA_DOORBELL (R394): a PI write, through PCI_DMA_PI or the BAR4 doorbell of a function; the doorbell of another function is counted. -/
def execDmaDoorbell (c : Fin 2) (k : BitVec 8) (pi : BitVec 16) (fn : Option (Bool × BitVec 9)) (s : State) : Out :=
  if !s.clocked (148 + c) then .next s
  else
    match fn with
    | some (vf, f) => .next (doorbell s c k.toNat pi.toNat vf f.toNat)
    | none => .next (writePi s c k.toNat pi.toNat)

/-- EN of a channel set: from 0 it clears HALTED, and the channel resumes at CI (R394). -/
def dmaEnable (s : State) (c k : Nat) : State :=
  if dmaFld s c k F.pciDmaCtrlEn = 1 then s
  else (s.setFld (uPci c) F.pciDmaCtrlEn 1 k).setFld (uPci c) F.pciDmaStatHalted 0 k

/-- DMA_ENABLE (R394). -/
def execDmaEnable (c : Fin 2) (k : BitVec 8) (s : State) : Out := .next (dmaEnable s c k.toNat)

/-- DMA_DESCRIPTOR_CHECK (R393, R394): the next descriptor of the ring, as the ring read brought it from host memory, is checked, and its
transfer starts or it has ended; from a ring in device memory the channel reads it first. Up to four are in flight; one with FENCE waits for
those before it. -/
def execDmaDescriptorCheck (c : Fin 2) (k : BitVec 8) (desc : BitVec 256) (s : State) : Out :=
  let ch := k.toNat
  let l := s.flight c ch
  if !s.clocked (148 + c) ∨ dmaFld s c ch F.pciDmaCtrlEn = 0 ∨ dmaFld s c ch F.pciDmaStatHalted = 1 ∨ 4 ≤ l.length ∨
      (dmaFld s c ch F.pciDmaCiCi + l.length) % 65536 = dmaFld s c ch F.pciDmaPiPi ∨ l.any (fun x => decide (1 < x.status)) then .next s
  else if dmaFld s c ch F.pciDmaCtrlRingHost = 1 then
    let d := parseDesc desc.toNat
    .next (pciRun (dmaBegin (s.setFlight c ch (l ++ [d])) c ch l.length d) c)
  else
    let t := takeTag s c
    let at_ := ringEntry s c ch l.length
    let s1 := t.2.setFlight c ch (l ++ [{ parseDesc 0 with src := at_, tag := some t.1, stage := .fetch }])
    .next (pciRun (ingress s1.draw (pciCode c) (byteReq opRead (s1.fresh % 3) t.1 at_ 32 [])) c)

/-- Host reads of a channel's descriptors dropped with them (R394, R395). -/
def dropReads (s : State) (c k : Nat) : State :=
  let x := s.pciCtl c
  s.setPci c { x with ob := x.ob.filter (fun o => o.req.isSome || o.chan / 4 != k) }

/-- Host reads of a channel follow their descriptors, which move up as the oldest leaves. -/
def shiftReads (s : State) (c k : Nat) : State :=
  let x := s.pciCtl c
  s.setPci c { x with ob := x.ob.map (fun o => if o.req.isNone && o.chan / 4 == k && decide (0 < o.chan % 4) then { o with chan := o.chan - 1 } else o) }

/-- Bytes written into a ring: in host memory, or by a Rovis WRITE. -/
def ringWrite (s : State) (c k addr : Nat) (data : List Byte) : State :=
  if dmaFld s c k F.pciDmaCtrlRingHost = 1 then hostWrite s c false (dmaFunc s c k) addr data
  else
    let t := takeTag s c
    ingress t.2.draw (pciCode c) (byteReq opWrite (t.2.fresh % 3) t.1 addr data.length data)

/-- The interrupt of a descriptor: an MSI-X message as an endpoint, the channel's event source as a root port (R394). -/
def dmaInterrupt (s : State) (c k : Nat) : State :=
  if (s.pciCtl c).modeA = 0 then sendMsix s c (dmaFunc s c k) (dmaFld s c k F.pciDmaVecVec) else s.edge (512 + 256 * c + k)

/-- The oldest descriptor in flight starts, where it waited at its FENCE (R392). -/
def passFence (s : State) (c k : Nat) : State :=
  match s.flight c k with
  | d :: _ => if d.stage = .fence then dmaRead s c k 0 d else s
  | [] => s

/-- DMA_WRITE_BACK (R394): the oldest descriptor in flight has ended: STATUS and DONE are written into it, CI advances, and its interrupt
goes out. A status other than OK halts the channel. -/
def execDmaWriteBack (c : Fin 2) (k : BitVec 8) (s : State) : Out :=
  let ch := k.toNat
  let u := uPci c
  match s.flight c ch with
  | [] => .next s
  | d :: rest =>
    if d.status = 0 ∨ !s.clocked (148 + c) then .next s
    else
      let at_ := ringEntry s c ch 0
      let s1 := if d.status = 1 then (shiftReads s c ch).setFlight c ch rest else (dropReads s c ch).setFlight c ch []
      let s2 := ringWrite (ringWrite s1 c ch (at_ + 24) [BitVec.ofNat 8 d.status]) c ch (at_ + 28) (toLeBytes 4 d.moved)
      let s3 := s2.setFld u F.pciDmaCiCi (dmaFld s c ch F.pciDmaCiCi + 1) ch
      let s4 := if bitOf d.flags 2 then dmaInterrupt s3 c ch else s3
      .next (pciRun (if d.status = 1 then passFence s4 c ch
        else (s4.setFld u F.pciDmaStatHalted 1 ch).setFld u F.pciDmaStatLast d.status ch) c)

/-- Whether a channel belongs to a function under reset; a PF's reset takes its VFs with it (R395). -/
def resets (s : State) (c k : Nat) (vf : Bool) (func : Nat) : Bool :=
  let cvf := dmaFld s c k F.pciDmaCtrlVf == 1
  let cf := dmaFld s c k F.pciDmaCtrlFunc
  if vf then cvf && cf == func
  else (!cvf && cf == func) || (cvf && pfOfVf (s.pciCtl c) cf == func)

/-- FUNCTION_LEVEL_RESET (R395): channels of the function halt; descriptors in flight stop without write-back. -/
def execFunctionLevelReset (c : Fin 2) (vf : Bool) (func : BitVec 9) (s : State) : Out :=
  .next ((List.range 256).foldl (fun (t : State) k =>
    if resets s c k vf func.toNat then
      dropReads ((t.setFlight c k []).setFld (uPci c) F.pciDmaStatHalted 1 k) c k
    else t) s)

end Sys2Proof.Machine
end

