-- ==== Sys2Proof/Machine/Pin.lean ====
section
/-! DEFINITION. Service and always-on pins: claimants, functions in force, switches, conflicts, GPIO ownership, pattern-match units,
the monitor ADC and sleep (R540-R553). -/

namespace Sys2Proof.Machine

open Sys2Proof

/-! ### Functions (R541, R543, R545) -/

/-- The unit that holds a pin's configuration, and its place there: pins 0-159 are service pins, 160-191 always-on pins. -/
def pinUnit (i : Nat) : Nat × Nat := if i < 160 then (uPin, i) else (uAo, i - 160)

/-- A field of a pin's configuration. -/
def State.pinFld (s : State) (i : Nat) (f : Fld) : Nat := s.fld (pinUnit i).1 f (pinUnit i).2

/-- Whether a CAN FD controller claims its pins (R543). -/
def canClaims (s : State) (c : Nat) : Bool := s.flag uCan F.mgtCanCtrlEn c && s.fld uMgt F.mgtStrapNodeId != 0

/-- The function an always-on pin is to have: 0 GPIO, 1 peripheral, 2 analogue, 3 strap window (R543, R553). -/
def aoWanted (s : State) (i : Nat) : Nat :=
  let an := s.reg uAo (4 * i) |>.getLsbD 31
  let pmb := s.flag uAo F.pinAoEnPmbEn
  let alt := s.flag uAo F.pinAoEnPmbAlt
  if i < 7 ∧ s.mode.strapWindow then 3
  else if (i = 8 ∨ i = 9) ∧ canClaims s 0 then 1
  else if (i = 10 ∨ i = 11) ∧ (canClaims s 1 ∨ (pmb ∧ alt)) then 1
  else if (i = 12 ∨ i = 13 ∨ i = 14) ∧ pmb ∧ !alt then 1
  else if an then 2 else 0

/-- The function a pin is to have: FUNC of a service pin, the claimant of an always-on pin. -/
def State.wantedFunc (s : State) (i : Nat) : Nat := if i < 160 then s.fld uPin F.pinCfgFunc i else aoWanted s (i - 160)

/-- The function in force at a pin: the old one until a switch takes effect (R545). -/
def State.funcOf (s : State) (i : Nat) : Nat := (SMap.find s.pin.func i).getD (s.wantedFunc i)

/-- Whether a pin is in its analogue function. -/
def State.analog (s : State) (i : Nat) : Bool := s.funcOf i == 2

/-- The functions in force before a change of configuration kept until each pin switches (R545). -/
def keepFuncs (s0 s : State) : State :=
  (List.range 192).foldl (fun (t : State) i =>
    if (SMap.find t.pin.func i).isNone && s0.funcOf i != t.wantedFunc i then
      { t with pin := { t.pin with func := SMap.put t.pin.func i (s0.funcOf i) } }
    else t) s

/-- PIN_DIN of a bank: the synchronised pads, 0 in analogue mode (R544, R552); bank 5 is the always-on bank. -/
def dinOf (s : State) (b : Nat) : Nat :=
  ((List.range 32).map (fun t => boolNat (s.pin.pads.contains (b * 32 + t) && !s.analog (b * 32 + t)) * 2 ^ t)).sum

/-- PIN_AO_FUNC of a register (R553). -/
def aoFuncOf (s : State) (m : Nat) : Nat := ((List.range 16).map (fun t => s.funcOf (160 + 16 * m + t) * 4 ^ t)).sum

/-- A bank clock: the synchronised pads of every service and always-on pin, and the end of a TICK pulse (R540, R541). -/
def setPinPads (s : State) (v : BitVec 192) : State :=
  { s with pin := { s.pin with pads := (List.range 192).filter (fun i => v.getLsbD i), tick := false } }

/-! ### Input signals and conflicts (R546) -/

/-- The pins that select an input signal: 0-159 the SV_IN lines, 160-175 the ADC channels. -/
def signalPins (s : State) (sig : Nat) : List Nat :=
  if sig < 160 then lineSelectors s (sig / 32) (sig % 32)
  else (List.range 192).filter (fun i => (SMap.find s.pin.hold i).isNone && s.analog i && s.pinFld i F.pinCfgChan == sig - 160)

/-- A conflict that begins is recorded, counted and raised; one whose signal has one pin left ends (R546). -/
def noteConflict (s : State) (sig : Nat) : State :=
  match signalPins s sig with
  | a :: b :: _ =>
    if s.pin.conflict.contains sig then s
    else
      let s1 := (({ s with pin := { s.pin with conflict := NSet.add s.pin.conflict sig } }).countSat uPin F.pinConflictCntCount).raise
        uPin 0x10 sig
      if s.flag uPin F.pinConflictValid then s1
      else (((s1.setFld uPin F.pinConflictValid 1).setFld uPin F.pinConflictSig sig).setFld uPin F.pinConflictPinA a).setFld uPin
        F.pinConflictPinB b
  | _ => { s with pin := { s.pin with conflict := NSet.del s.pin.conflict sig } }

/-- Every input signal judged (R546). -/
def noteConflicts (s : State) : State := (List.range 176).foldl noteConflict s

/-! ### What a pin drives (R541-R543, R550, R453) -/

/-- A line of SV_OUT (`oe` false) or SV_OE of a service bank: 0 where no acting port is named (R542). -/
def svOut (s : State) (b j : Nat) (oe : Bool) : Bool :=
  let n := s.fld uPin F.pinSbPortPort b
  s.flag uPin F.pinSbPortEn b &&
    (match s.active n with
     | some p => s.regionBits p n 144 1 == 1 && decide (s.stage n = 3) && fpInput s n ((if oe then 1092 else 1060) + j)
     | none => false)

/-- Whether a pin is open-drain by its OD (R544); PMBus pins, which always are, drive nothing while idle (R543). -/
def openDrain (s : State) (i : Nat) : Bool := s.pinFld i F.pinCfgOd == 1

/-- An open-drain pin drives no 1 (R544). -/
def drained (od : Bool) (d : Bool × Bool) : Bool × Bool := if od then (d.1 && !d.2, d.2) else d

/-- What a function drives at a pin before OD: enable and level. TICK is high for the bank clock after an increment of DSP_NOW; the CAN FD and
PMBus pins are idle high between frames and transactions. -/
def funcDrive (s : State) (i : Nat) : Bool × Bool :=
  let b := i / 32
  let j := i % 32
  let gpio := (bitOf (if i < 160 then s.fld uPin F.pinOeOe b else s.fld uAo F.pinAoOeOe) j,
    bitOf (if i < 160 then s.fld uPin F.pinDoutDout b else s.fld uAo F.pinAoDoutDout) j)
  if i < 160 then
    match s.funcOf i with
    | 1 => gpio
    | 3 => (svOut s b j true, svOut s b j false)
    | 4 => (svOut s b ((j + 16) % 32) true, svOut s b ((j + 16) % 32) false)
    | 5 => (true, s.pin.tick)
    | _ => (false, false)
  else
    match s.funcOf i with
    | 0 => gpio
    | 1 => (i == 168 || (i == 170 && canClaims s 1), true)
    | _ => (false, false)

/-- Whether the pins are released with the HOLD_PULL pull (R453, R455, R456). -/
def State.released (s : State) : Bool := s.mode.dormant || s.mode.overlay == .contain || s.mode.overlay == .service

/-- Whether a pin's bank has its supply: VCCIO_AON is a rail of group A (R437). -/
def State.bankGood (s : State) (i : Nat) : Bool := decide (160 ≤ i) || bitOf (s.fld uMgt F.mgtSupplyVccioS) (i / 32)

/-- Whether a pin's bank is in its sleep states (R550). -/
def State.bankAsleep (s : State) (i : Nat) : Bool := if i < 160 then s.dom 158 != domRun else s.mode.dormant

/-- The drive of a pin's sleep state (R550). -/
def sleepDrive (s : State) (i : Nat) : Bool × Bool :=
  match s.pinFld i F.pinCfgSleep with
  | 3 => (true, false)
  | 4 => (true, true)
  | 5 => (match SMap.find s.pin.slept i with
    | some v => (bitOf v 1, bitOf v 0)
    | none => (false, false))
  | _ => (false, false)

/-- What the boundary register drives at a pin: its output and enable cells lie where the BSDL file puts them (R569). -/
def scanDrive (s : State) (i : Nat) : Bool × Bool :=
  if s.scan.highz then (false, false)
  else (s.scan.boundary.getD (Config.boundaryCell i 1) false, s.scan.boundary.getD (Config.boundaryCell i 0) false)

/-- What a pin drives: enable and level (R541-R550, R453, R456). Always-on pins whose peripheral is enabled keep their function. -/
def padDrive (s : State) (i : Nat) : Bool × Bool :=
  if !s.bankGood i then (false, false)
  else if s.pinControl then scanDrive s i
  else if s.released && !s.mode.dormant && !(decide (160 ≤ i) && s.funcOf i == 1) then (false, false)
  else if s.bankAsleep i then sleepDrive s i
  else
    match SMap.find s.pin.hold i with
    | some v => (bitOf v 1, bitOf v 0)
    | none => drained (openDrain s i) (funcDrive s i)

/-- The weak pull of a service or always-on pin: 0 none, 1 down, 2 up, 3 keeper (R453, R541, R544, R550). -/
def padPull (s : State) (i : Nat) : Nat :=
  if !s.bankGood i || s.pinControl then 0
  else if s.released && !s.mode.dormant && !(decide (160 ≤ i) && s.funcOf i == 1) then s.fld uMgt F.mgtStrapHoldPull
  else if s.bankAsleep i then (match s.pinFld i F.pinCfgSleep with
    | 1 => 1
    | 2 => 2
    | _ => 0)
  else s.pinFld i F.pinCfgPull

/-- A drive as held: 2 × enable + level. -/
def driveCode (d : Bool × Bool) : Nat := 2 * boolNat d.1 + boolNat d.2

/-- What a user pin shows the board (R272, R456): output enable, level and weak pull (0 none, 1 down, 2 up, 3 keeper). Without VCCIO it
floats; where no plane drives it, or its region has none before OUTPUTS, it is at high impedance with the HOLD_PULL pull; a held pin
keeps its level and enable; else the plane drives it. -/
def userPad (s : State) (b i : Nat) : (Bool × Bool) × Nat :=
  let n := hostOf b
  let free := ((false, false), s.fld uMgt F.mgtStrapHoldPull)
  if !bitOf (s.fld uMgt F.mgtSupplyIoVccioU) b then ((false, false), 0)
  else if s.pinControl then (scanDrive s (192 + 48 * b + i), 0)
  else if s.released || (s.active n).isNone then free
  else
    match SMap.find s.pin.uhold (b * 48 + i) with
    | some v => ((bitOf v 1, bitOf v 0), v / 4)
    | none => if s.stage n = 0 then free else (userDrive s n i, userPull s n i)

/-- The sleep states of the pins from `lo` on applied: code 5 keeps the output level and enable in force (R550). -/
def sleepPins (s : State) (lo n : Nat) : State :=
  { s with pin := { s.pin with slept := (List.range n).foldl (fun m k =>
      if s.pinFld (lo + k) F.pinCfgSleep = 5 then SMap.put m (lo + k) (driveCode (padDrive s (lo + k))) else m) s.pin.slept } }

/-- The sleep of the pins from `lo` on ended (R550). -/
def wakePins (s : State) (lo n : Nat) : State :=
  { s with pin := { s.pin with slept := s.pin.slept.filter (fun e => !(decide (lo ≤ e.1) && decide (e.1 < lo + n))) } }

/-- FUNCTION_SWITCH (R545): the bank clock edge E at which a change is seen holds the pad as it is; two bank clocks later, at the
`second` instant, the new function drives. The synchronised pads are those of that clock. -/
def execFunctionSwitch (i : Fin 192) (second : Bool) (pads : BitVec 192) (s : State) : Out :=
  if s.bankAsleep i then .next s
  else
    let s1 := setPinPads s pads
    if second then
      (if (SMap.find s1.pin.hold i).isNone then .next (noteConflicts s1)
       else .next (noteConflicts { s1 with pin := { s1.pin with hold := SMap.erase s1.pin.hold i, func := SMap.erase s1.pin.func i } }))
    else if (SMap.find s1.pin.func i).isSome && (SMap.find s1.pin.hold i).isNone then
      .next (noteConflicts { s1 with pin := { s1.pin with hold := SMap.put s1.pin.hold i (driveCode (padDrive s1 i)) } })
    else .next (noteConflicts s1)

/-! ### GPIO (R547, R548) -/

/-- Whether a writer owns a pin (R547). -/
def ownsPin (s : State) (i icls src : Nat) : Bool :=
  match s.pinFld i F.pinCfgOwner with
  | 0 => icls == 4
  | 5 => decide (i < 160) && icls == 1 && s.flag uPin F.pinSbPortEn (i / 32) && src == s.fld uPin F.pinSbPortPort (i / 32) * 16
  | 6 => icls == 2
  | 7 => false
  | o => icls == 0 && src == coreNode (o - 1) * 16 + 4

/-- PIN_DOUT or PIN_OE of a bank written: only the bits of pins the writer owns change; a write that would have changed another's bit is
counted once (R548). -/
def gpioWrite (s : State) (b : Nat) (oe : Bool) (v icls src : Nat) : State :=
  let u := if b < 5 then uPin else uAo
  let f := if b < 5 then (if oe then F.pinOeOe else F.pinDoutDout) else if oe then F.pinAoOeOe else F.pinAoDoutDout
  let k := if b < 5 then b else 0
  let old := s.fld u f k
  let new := ((List.range 32).map (fun t => boolNat (bitOf (if ownsPin s (b * 32 + t) icls src then v else old) t) * 2 ^ t)).sum
  let s1 := s.setFld u f new k
  if new = v % 2 ^ 32 then s1 else s1.countSat uPin F.pinDenyCntCount

/-- GPIO_WRITE (R548): the write is applied at a bank clock and answered OK. -/
def execGpioWrite (bank : Fin 6) (oe : Bool) (value : Word32) (icls : BitVec 3) (src : BitVec 11) (s : State) : Out :=
  .next ((gpioWrite s bank oe value.toNat icls.toNat src.toNat).answer .ok)

/-! ### Pattern-match units (R549) and the ADC (R544) -/

/-- The condition of a unit. -/
def pmCondition (s : State) (b k : Nat) : Bool :=
  (dinOf s b &&& s.fld uPin F.pinPmMaskMask b k) == (s.fld uPin F.pinPmValVal b k &&& s.fld uPin F.pinPmMaskMask b k)

/-- The settled condition of a unit taken as it is: at the moment EN is set (R549). -/
def pmStart (s : State) (b k : Nat) : State :=
  { s with pin := { s.pin with cond := if pmCondition s b k then NSet.add s.pin.cond (b * 8 + k) else NSet.del s.pin.cond (b * 8 + k) } }

/-- The port of the pattern-match units: node 96, port 9 (R33, R549). -/
def pmCode : Nat := codeOf 96 9

/-- The write of a unit that fires: EVT_SWSET with its SWNUM, ICLS 4, under a TAG of its own; none while its previous one is outstanding
(R549). -/
def pmSwset (s : State) (b k : Nat) : State :=
  if (s.netPort pmCode).outst.any (fun o => o.req.tag.toNat == b * 8 + k) then s
  else ingress s.draw pmCode { byteReq opWrite (s.fresh % 3) (b * 8 + k) 0x0E0024004400 4 (toLeBytes 4 (s.fld uPin F.pinPmCtrlSwnum b k)) with icls := 4 }

/-- PATTERN_FIRE (R549): with the bank's pads as given, an enabled unit's condition has held a new state for FILTER further clocks; it fires
subject to MODE, and may write EVT_SWSET. -/
def execPatternFire (b : Fin 5) (k : Fin 8) (pads : Word32) (s : State) : Out :=
  if s.dom 158 ≠ domRun ∨ !s.flag uPin F.pinPmCtrlEn b k then .next s
  else
    let kept := s.pin.pads.filter (fun i => i / 32 ≠ b.val)
    let s1 : State := { s with pin := { s.pin with
      pads := ((List.range 32).filter (fun t => pads.getLsbD t)).foldl (fun l t => NSet.add l (b * 32 + t)) kept
      tick := false } }
    let was := s1.pin.cond.contains (b * 8 + k)
    let now := pmCondition s1 b k
    if now = was then .next s1
    else
      let s2 := pmStart s1 b k
      let mode := s2.fld uPin F.pinPmCtrlMode b k
      if mode = 2 ∨ (mode = 1 ∧ !now) ∨ (mode ≠ 1 ∧ now) then
        let s3 := s2.setFld uPin F.pinPmStatFired (withBit (s2.fld uPin F.pinPmStatFired b) k true) b
        if s3.flag uPin F.pinPmCtrlSwen b k then .next (pmSwset s3 b k) else .next s3
      else .next s2

/-- ADC_CONVERSION (R544, R546): the next channel is converted; one with no pin connected, or with two, reads code 0. -/
def execAdcConversion (code : BitVec 12) (s : State) : Out :=
  let k := s.pin.adcNext % 16
  let s1 : State := { s with pin := { s.pin with adcNext := (k + 1) % 16 } }
  let v := match signalPins s (160 + k) with
    | [_] => code.toNat
    | _ => 0
  .next ((s1.setFld uPin F.pinAdcResValid 1 k).setFld uPin F.pinAdcResCode v k)

end Sys2Proof.Machine
end

