-- ==== Sys2Proof/Machine/Span.lean ====
section
/-! DEFINITION. Span channels, driver guards and fences, bridge calibration and repair (R66-R93). -/

namespace Sys2Proof.Machine

open Sys2Proof

/-! ### Channels and the span edge (R67-R71, R77-R80) -/

/-- The clusters of a region, by region-local column and row. -/
def regionClusters : List (Nat × Nat) := (List.range 192).flatMap (fun col => (List.range 128).map (fun row => (col, row)))

/-- Whether a region's plane holds any span frame that is not all zeros. -/
def hasSpanFrames (s : State) (p n : Nat) : Bool :=
  s.fab.frames.any (fun e => decide (frameKey p n 21504 ≤ e.1) && decide (e.1 < frameKey p n 21888))

/-- The taps of a region that drive a channel in a plane, with the local channel number: OEN = 1, whatever the outbound
select (R68, R69). -/
def drivers (s : State) (p n : Nat) : List (Nat × Nat × Nat) :=
  if hasSpanFrames s p n then
    regionClusters.filterMap (fun c =>
      let r := s.tapRecord p n (regionX0 n + c.1) (regionY0 n + c.2)
      if bitOf r 31 then some (bitsOf r 30 21, c.1, c.2) else none)
  else []

/-- The drivers of one channel in a plane of its home region (R74). -/
def channelDrivers (s : State) (p c : Nat) : List (Nat × Nat × Nat) :=
  (drivers s p (channelHome c)).filter (fun t => t.1 = c % 1024)

/-- The number of active drive enables of a channel (R77). -/
def activeDrivers (s : State) (c : Nat) : Nat :=
  match s.active (channelHome c) with
  | some p => (channelDrivers s p c).length
  | none => 0

/-- The value a channel captures at a span edge: its one driver's outbound tap; 0 while fenced, with no enabled driver, while the
region breaks or has not reached OUTPUTS, or through a LOST wire (R70, R71, R77, R79, R88). -/
def captured (s : State) (n : Nat) (t : Nat × Nat × Nat) : Bool :=
  !s.span.fenced.contains (n * 1024 + t.1) && !s.span.breaking.contains n && s.outputsOn n &&
    (let x := regionX0 n + t.2.1
     let y := regionY0 n + t.2.2
     !s.wireLost (n / 16) (siteOf x y) (tapOf x y)) && outboundTap s n t.2.1 t.2.2

/-- The captures of the span edge: one entry for each driver. -/
def spanCaptures (s : State) : List (Nat × Bool) :=
  (List.range 128).flatMap (fun n =>
    match s.active n with
    | some p => (drivers s p n).map (fun t => (n * 1024 + t.1, captured s n t))
    | none => [])

/-- A channel fenced: its drivers are disabled, it carries 0, and class 0x12 is raised against the home die (R77). -/
def fenceChannel (s : State) (c : Nat) : State :=
  (({ s with span := { s.span with fenced := NSet.add s.span.fenced c } }).setFld (uDie (channelDie c)) F.spnStatusFault 1).raise
    (uDie (channelDie c)) 0x12 c

/-- SPAN_FENCE (R77, R92): the guard of a channel with more than one active drive enable fences it. -/
def execSpanFence (c : Fin 131072) (s : State) : Out :=
  if s.span.fenced.contains c.val || decide (activeDrivers s c ≤ 1) then .next s
  else .next (fenceChannel s c)

/-- A clear of one fence of the die asked for (R78). -/
def fenceClearChannel (s : State) (d c : Nat) : State :=
  if channelDie c = d ∧ s.span.fenced.contains c then
    { s with span := { s.span with clearing := NSet.add s.span.clearing c } }
  else s

/-- A clear of every fence of the die asked for (R78). -/
def fenceClearAll (s : State) (d : Nat) : State :=
  { s with span := { s.span with
    clearing := (s.span.fenced.filter (fun c => channelDie c = d)).foldl NSet.add s.span.clearing } }

/-- FENCE_CLEAR_CHANNEL (R78, R92): the clear of a channel homed in the die is set to take effect at the next span edge. -/
def execFenceClearChannel (d : Fin 8) (c : BitVec 17) (s : State) : Out := .next (fenceClearChannel s d c.toNat)

/-- FENCE_CLEAR_ALL (R78, R92): the clear of every fenced channel of the die is attempted at the next span edge. -/
def execFenceClearAll (d : Fin 8) (s : State) : Out := .next (fenceClearAll s d)

/-- Whether the active enables of a region are span-clean: no channel of it has two drivers (R74). -/
def spanClean (s : State) (n : Nat) : Bool :=
  match s.active n with
  | some p => ((drivers s p n).map (·.1)).dedup.length == (drivers s p n).length
  | none => true

/-- A fence clear at a span edge: it succeeds where the active enables of the home region are span-clean, and raises class 0x12 again where
not (R74, R78). -/
def clearFence (s : State) (c : Nat) : State :=
  if spanClean s (channelHome c) then { s with span := { s.span with fenced := NSet.del s.span.fenced c } }
  else s.raise (uDie (channelDie c)) 0x12 c

/-- Whether drivers of a channel drive together at this edge: more than one is enabled, the channel is not fenced, and its home region
does not break (R77, R79). -/
def contends (s : State) (caps : List (Nat × Bool)) (c : Nat) : Bool :=
  decide (1 < (caps.filter (fun f => f.1 = c)).length) && !s.span.fenced.contains c && !s.span.breaking.contains (channelHome c)

/-- The value a channel with several entries captures in the one cycle before its guard acts: its drivers drive together and the spec
states no value, so it is free (R77, log entry 12). -/
def contendedValue (s : State) (caps : List (Nat × Bool)) (e : Nat × Bool) : Bool :=
  if contends s caps e.1 then bitOf (s.freshAt (e.1 / 64)) (e.1 % 64) else e.2

/-- The guards act before the edge that follows the contention (R77). -/
def guardAct (s : State) (c : Nat) : State :=
  if s.span.fenced.contains c || decide (activeDrivers s c ≤ 1) then s else fenceChannel s c

/-- One span edge of the channels: guards and fence clears take effect, every channel takes the value at its driver, and the
region's drivers enabled by the break-before-make of R79 drive from the next edge. -/
def spanEdge (s : State) : State :=
  let s0 := s.span.contended.foldl guardAct s
  let s1 := s0.span.clearing.foldl clearFence { s0 with span := { s0.span with clearing := [] } }
  let caps := spanCaptures s1
  let shifted : SMap (BitVec 5) := s1.span.hist.filterMap (fun (e : Nat × BitVec 5) =>
    if e.2 <<< 1 = 0#5 then none else some (e.1, e.2 <<< 1))
  let hist := caps.foldl (fun m e =>
    if contendedValue s1 caps e then SMap.store 0 m e.1 (SMap.get 0 m e.1 ||| 1) else m) shifted
  { s1 with
    free := s1.free + 2048
    span := { s1.span with
      hist := hist
      breaking := []
      oldTap := []
      contended := ((caps.map (·.1)).filter (fun c => contends s1 caps c)).foldl NSet.add [] } }

/-! ### Bridge sites (R66, R83-R89) -/

/-- The key of a site. -/
def siteKey (d site : Nat) : Nat := d * 24576 + site
/-- The key of a wire of a site. -/
def wireKey (d site w : Nat) : Nat := siteKey d site * 34 + w

/-- A wire's record. -/
def State.wire (s : State) (d site w : Nat) : WireRec := SMap.get {} s.span.wire (wireKey d site w)

/-- A wire's record replaced. -/
def State.setWire (s : State) (d site w : Nat) (r : WireRec) : State :=
  { s with span := { s.span with wire := SMap.store {} s.span.wire (wireKey d site w) r } }

/-- A site's state: 0 NORMAL, 1 REPAIRED, 2 DEGRADED, 3 LOST (R88). -/
def State.site (s : State) (d site : Nat) : Nat := SMap.get 0 s.span.site (siteKey d site)

/-- A site's state set. -/
def State.setSite (s : State) (d site v : Nat) : State :=
  { s with span := { s.span with site := SMap.store 0 s.span.site (siteKey d site) v } }

/-- A rotation set or ended. -/
def State.setRot (s : State) (d site : Nat) (r : Option Rotation) : State :=
  { s with span := { s.span with rot := match r with
    | some x => SMap.put s.span.rot (siteKey d site) x
    | none => SMap.erase s.span.rot (siteKey d site) } }

/-- Whether a site lies in a power-gated region (R85). -/
def State.siteOff (s : State) (d site : Nat) : Bool := s.dom (regionOfSite d site) == domOff

/-- A FAILED logical wire moved to a spare under R88, by the site's state; with REPAIR_EN = 0 it stays where it is. At a site that becomes
DEGRADED, where S0 carries the wire, rotation stops. -/
def repairWire (s : State) (d site w : Nat) (repairEn : Bool) : State :=
  let r := s.wire d site w
  if !repairEn then (s.setWire d site w { r with state := max r.state 2 }).raise (uDie d) 0x03
  else
    match s.site d site with
    | 0 => (s.setWire d site w { r with state := 2, carrier := 2 }).setSite d site 1
    | 1 => (((s.setRot d site none).setWire d site w { r with state := 2, carrier := 1 }).setSite d site 2).raise (uDie d) 0x03
    | 2 => ((s.setWire d site w { r with state := 3 }).setSite d site 3).raise (uDie d) 0x03
    | _ => (s.setWire d site w { r with state := 3 }).raise (uDie d) 0x03

/-- The centre of a passing window of trim codes; where the window has an even width the spec does not state which of the two
middle codes is taken, and a free value chooses (R83, log entry 5). -/
def windowCentre (s : State) (lo width : Nat) : Nat :=
  (lo + (width - 1) / 2 + (if width % 2 = 0 then s.fresh % 2 else 0)) % 64

/-- A wire calibrated: DLY centred, the eye recorded, the wire judged by its eye (R83, R87). Answers whether it is FAILED. -/
def judgeWire (s : State) (d site w lo width drv minEye : Nat) : State × Bool :=
  let r := s.wire d site w
  let marg := decide (width < minEye)
  let run := if marg then min (r.margRun + 1) 3 else 0
  let failed := width == 0 || (marg && run == 3)
  let r1 : WireRec := { r with
    dly := if width = 0 then r.dly else windowCentre s lo width
    drv := drv
    eye := min width 63
    margRun := run
    state := if failed then 2 else if r.carrier ≠ 0 then r.state else if marg then 1 else 0 }
  (((s.setWire d site w r1).draw), failed)

/-- Sites of a die with a rotation in progress (R84). -/
def rotating (s : State) (d : Nat) : Nat := (s.span.rot.filter (fun e => e.1 / 24576 = d)).length

/-- Whether a site of a die can rotate: it is not DEGRADED, LOST or power-gated, and its S0 waits for no recalibration (R85, R87, R88). -/
def canRotate (s : State) (d site : Nat) : Bool :=
  decide (s.site d site < 2) && !s.siteOff d site && !s.span.s0Bad.contains (siteKey d site)

/-- The rotation order admits a site: no site of the die placed first that can rotate waits before it (R85, R93). -/
def inOrder (s : State) (d site : Nat) : Bool :=
  match s.span.first.find? (fun k => k / 24576 == d && (SMap.find s.span.rot k).isNone && canRotate s d (k % 24576)) with
  | some k => k == siteKey d site
  | none => true

/-- ROTATION (R83-R85, R91, R424): a rotation of a logical wire begins, under the settings of SPN_CTRL at its start. It needs CAL_EN,
a site that is not rotating, DEGRADED, LOST or power-gated, fewer than CAL_PAR rotations on the die, and the budget. -/
def execRotation (d : Fin 8) (site : Fin 24576) (wire : Fin 32) (s : State) : Out :=
  if !s.flag (uDie d) F.spnCtrlCalEn || (SMap.find s.span.rot (siteKey d site)).isSome ||
      !canRotate s d site || decide (s.fld (uDie d) F.spnCtrlCalPar ≤ rotating s d) || !inOrder s d site then .next s
  else
    .next (s.budgeted 3 d 1059 (fun t =>
      ({ t with span := { t.span with first := t.span.first.filter (fun k => k != siteKey d site) } }).setRot d site
        (some ⟨wire, 0, t.fld (uDie d) F.spnCtrlMinEye, t.flag (uDie d) F.spnCtrlRepairEn⟩)))

/-- The logical wires a lap of a die visits: every one of every site that is neither power-gated nor DEGRADED or LOST (R84, R85, R88). -/
def lapWires (s : State) (d : Nat) : Nat :=
  let offRegions := ((List.range 16).filter (fun r => s.dom (d * 16 + r) == domOff)).length
  let bad := (s.span.site.filter (fun e => e.1 / 24576 = d && decide (2 ≤ e.2) && !s.siteOff d (e.1 % 24576))).length
  (24576 - 1536 * offRegions - bad) * 32

/-- The wires visited so far in a die's lap that count toward it. -/
def lapVisited (s : State) (d : Nat) : Nat :=
  (s.span.visited.filter (fun k => k / 34 / 24576 = d &&
    !s.siteOff d (k / 34 % 24576) && decide (s.site d (k / 34 % 24576) < 2))).length

/-- A wire visited, with the lap ended when it was the last: LAP_DONE is set and SPN_LAP_TIME updated, and the sites of woken regions come
first in the next lap (R84, R85, R92). -/
def visitWire (s : State) (d site w lapUs : Nat) : State :=
  let s1 : State := { s with span := { s.span with visited := NSet.add s.span.visited (wireKey d site w) } }
  if lapWires s1 d ≤ lapVisited s1 d then
    (({ s1 with span := { s1.span with
        visited := s1.span.visited.filter (fun k => k / 34 / 24576 ≠ d)
        first := s1.span.first ++ s1.span.nextLap.filter (fun k => k / 24576 = d)
        nextLap := s1.span.nextLap.filter (fun k => k / 24576 ≠ d) } }).setFld (uDie d) F.spnStatusLapDone 1).setFld (uDie d)
      F.spnLapTimeLapUs lapUs
  else s1

/-- ROTATION_SELECT_SPARE (R83, R87): the first compare window ends. A match switches the receiver onto S0. A mismatch tests S0: if
S0 passes, the wire is FAILED and moved under R88, and the lap has visited it (log entry 127); if not, the rotation is abandoned and S0 must
be recalibrated. -/
def execRotationSelectSpare (d : Fin 8) (site : Fin 24576) (matched s0Pass : Bool) (s : State)
    (lapUs : Word32 := 0) : Out :=
  match SMap.find s.span.rot (siteKey d site) with
  | none => .next s
  | some r =>
    if r.phase ≠ 0 then .next s
    else if matched then .next (s.setRot d site (some { r with phase := 1 }))
    else if s0Pass then
      .next (visitWire (repairWire (s.setRot d site none) d site r.wire r.repairEn) d site r.wire lapUs.toNat)
    else
      .next { s.setRot d site none with
        span := { (s.setRot d site none).span with s0Bad := NSet.add s.span.s0Bad (siteKey d site) } }

/-- ROTATION_SWEEP_DONE (R83, R87, R88): the sweep of the freed vertical wire ends. DLY is set to the centre of the passing window
(codes lo to lo + width − 1), the wire is judged by its eye, and a FAILED wire is repaired, its visit over. The record is the logical
wire's, whichever vertical wire carries it (log entry 128). -/
def execRotationSweepDone (d : Fin 8) (site : Fin 24576) (lo : BitVec 6) (width : Fin 65) (drv : BitVec 2)
    (s : State) (lapUs : Word32 := 0) : Out :=
  match SMap.find s.span.rot (siteKey d site) with
  | none => .next s
  | some r =>
    if r.phase ≠ 1 then .next s
    else
      let j := judgeWire s d site r.wire lo.toNat width drv.toNat r.minEye
      if j.2 then .next (visitWire (repairWire (j.1.setRot d site none) d site r.wire r.repairEn) d site r.wire lapUs.toNat)
      else .next (j.1.setRot d site (some { r with phase := 2 }))

/-- ROTATION_RETURN (R83, R84): the receiver selects the own wire again, S0 is released, and the rotation is counted toward the lap,
whose measured duration is `lapUs`. -/
def execRotationReturn (d : Fin 8) (site : Fin 24576) (lapUs : Word32) (s : State) : Out :=
  match SMap.find s.span.rot (siteKey d site) with
  | none => .next s
  | some r =>
    if r.phase ≠ 2 then .next s
    else .next (visitWire ((s.setRot d site none).countWrap (uDie d) F.spnRotCountRotations) d site r.wire lapUs.toNat)

/-- Whether a spare is free: S0 while it carries no rotation and no repaired wire, S1 while it carries no repaired wire (R83, R88). -/
def spareFree (s : State) (d site spare : Nat) : Bool :=
  if spare = 0 then (SMap.find s.span.rot (siteKey d site)).isNone && decide (s.site d site < 2)
  else s.site d site == 0

/-- SPARE_CALIBRATION (R83, R424): the tuner calibrates a free spare directly, charged 1,024 span cycles. -/
def execSpareCalibration (d : Fin 8) (site : Fin 24576) (spare : Fin 2) (lo : BitVec 6) (width : Fin 65) (drv : BitVec 2)
    (s : State) : Out :=
  if !s.flag (uDie d) F.spnCtrlCalEn || !spareFree s d site spare || s.siteOff d site then .next s
  else
    .next (s.budgeted 3 d 1024 (fun t =>
      let j := judgeWire t d site (32 + spare.val) lo.toNat width drv.toNat (t.fld (uDie d) F.spnCtrlMinEye)
      if spare.val = 0 then
        { j.1 with span := { j.1.span with s0Bad := NSet.del j.1.span.s0Bad (siteKey d site) } }
      else j.1))

/-- The wires of every bridge site of the device. -/
def allWires : Nat := 8 * 24576 * 34

/-- A wire calibrated at start-up; the calibration is over once every wire of every site has been (R86). -/
def startWire (s : State) (k : Nat) : State :=
  let l := NSet.add s.span.started k
  { s with span := { s.span with started := l, calibrated := decide (allWires ≤ l.length) } }

/-- The sites of a woken region, placed first in the next lap of its die (R85). -/
def wakeSites (s : State) (n : Nat) : State :=
  let d := n / 16
  let keys := ((List.range 24576).filter (fun site => regionOfSite d site == n)).map (siteKey d)
  { s with span := { s.span with nextLap := s.span.nextLap ++ keys.filter (fun k => !s.span.nextLap.contains k) } }

/-- A site as the start-up calibration takes it up: NORMAL, every wire on its own wire, unless one of its wires has been calibrated in this
start-up (R86, R89). -/
def startSite (s : State) (d site : Nat) : State :=
  let k := siteKey d site
  if (List.range 34).any (fun w => s.span.started.contains (k * 34 + w)) then s
  else { s.setSite d site 0 with span := { (s.setSite d site 0).span with wire := s.span.wire.filter (fun x => x.1 / 34 ≠ k) } }

/-- What a pin or system reset leaves of the bridges: repairs last until power-on reset (R89). -/
def keptRepairs (s : State) (t : SpanState) : SpanState :=
  { t with
    site := s.span.site
    wire := (s.span.wire.filter (fun x => x.2.state ≠ 0 || x.2.carrier ≠ 0)).map
      (fun x => (x.1, { state := x.2.state, carrier := x.2.carrier })) }

/-- STARTUP_CALIBRATION (R86, R89): at start-up a wire of a site is calibrated, with no traffic and no budget, before the burin's first
flip; a FAILED wire is repaired under R88. -/
def execStartupCalibration (d : Fin 8) (site : Fin 24576) (wire : Fin 34) (lo : BitVec 6) (width : Fin 65) (drv : BitVec 2)
    (s : State) : Out :=
  if s.span.calibrated || (List.range 128).any (fun n => (s.active n).isSome) then .next s
  else
    let j := judgeWire (startWire (startSite s d site) (wireKey d site wire)) d site wire lo.toNat width drv.toNat
      (s.fld (uDie d) F.spnCtrlMinEye)
    if j.2 && decide (wire.val < 32) then .next (repairWire j.1 d site wire (s.flag (uDie d) F.spnCtrlRepairEn))
    else .next j.1

/-- The site SPN_SITE_SEL selects (R93). -/
def selSite (s : State) (d : Nat) : Nat := s.fld (uDie d) F.spnSiteSelSite
/-- The wire SPN_SITE_SEL selects (R93). -/
def selWire (s : State) (d : Nat) : Nat := s.fld (uDie d) F.spnSiteSelWire

/-- The selected logical wire is marked FAILED and R88 applied; a selected spare is no logical wire (R93). -/
def forceRepair (s : State) (d : Nat) : State :=
  if selWire s d < 32 then
    repairWire { s with span := { s.span with rot :=
        (match SMap.find s.span.rot (siteKey d (selSite s d)) with
          | some r => if r.wire = selWire s d then SMap.erase s.span.rot (siteKey d (selSite s d)) else s.span.rot
          | none => s.span.rot) } }
      d (selSite s d) (selWire s d) (s.flag (uDie d) F.spnCtrlRepairEn)
  else s

/-- FORCE_REPAIR (R88, R93). -/
def execForceRepair (d : Fin 8) (s : State) : Out := .next (forceRepair s d)

/-- The selected site placed first in the rotation order (R93). -/
def calNow (s : State) (d : Nat) : State :=
  let k := siteKey d (selSite s d)
  { s with span := { s.span with first := k :: s.span.first.filter (fun j => j != k) } }

/-- CAL_NOW (R93). -/
def execCalNow (d : Fin 8) (s : State) : Out := .next (calNow s d)

/-! ### Views of the span registers (R92, R93) -/

/-- SPN_STATUS, SPN_REPAIRS, SPN_FENCE_CH, SPN_FENCE_NUM and SPN_SITE_DATA as read; none for another register. -/
def spanView (s : State) (d off : Nat) : Option Nat :=
  let sites := s.span.site.filter (fun e => e.1 / 24576 = d)
  let fenced := s.span.fenced.filter (fun c => channelDie c = d)
  if off = 0x200004 then
    some ((s.reg (uDie d) off).toNat % 4 + 4 * boolNat (sites.any (fun e => decide (2 ≤ e.2))))
  else if off = 0x200010 then
    some ((sites.filter (fun e => decide (2 ≤ e.2))).length * 65536 + (sites.filter (fun e => e.2 = 1)).length)
  else if off = 0x200014 then
    some (match fenced with | c :: _ => 0x80000000 + c | [] => 0)
  else if off = 0x200018 then some fenced.length
  else if off = 0x200024 then
    let r := s.wire d (selSite s d) (selWire s d)
    some (s.site d (selSite s d) * 2 ^ 24 + r.margRun * 2 ^ 20 +
      (if selWire s d < 32 then r.carrier else 0) * 2 ^ 18 + r.state * 2 ^ 16 + r.eye * 2 ^ 8 + r.drv * 2 ^ 6 + r.dly)
  else none

end Sys2Proof.Machine
end

