-- ==== Sys2Proof/Machine/Clock.lean ====
section
/-! DEFINITION. Clocks and power: oscillators and trim, PLLs, clock domains, performance points (R398-R420). The fallbacks that enter
CONTAIN are with the modes. -/

namespace Sys2Proof.Machine

open Sys2Proof

/-! ### Oscillators and SREF (R398-R400) -/

/-- SREF and the HF oscillator as their controls ask: SREF is the crystal while it is qualified and XTAL_USE = 1; it leaves the crystal only
for a settled HF oscillator, which is started for it; with HF_SLEEP = 1 on the crystal the HF oscillator is stopped (R399, R400). -/
def settleOsc (s : State) : State :=
  let xtal := s.flag uClk F.clkOscStatusXtalQual && s.flag uClk F.clkOscCtrlXtalUse
  let hf := s.flag uClk F.clkOscStatusHfRun
  let s1 :=
    if xtal then
      let t := s.setFld uClk F.clkOscStatusSref 1
      if s.flag uClk F.clkOscCtrlHfSleep then { t.setFld uClk F.clkOscStatusHfRun 0 with clk := { t.clk with hfStart := false } }
      else if hf || s.clk.hfBarred then t
      else { t with clk := { t.clk with hfStart := true } }
    else if hf then s.setFld uClk F.clkOscStatusSref 0
    else { s with clk := { s.clk with hfStart := true } }
  showQual s1

/-- XTAL_QUALIFY (R399): 1 ms within ±2 % of the running HF oscillator qualifies the crystal. -/
def execXtalQualify (s : State) : Out :=
  if !s.flag uClk F.clkOscStatusHfRun || s.clk.fallback || s.mode.dormant then .next s
  else .next (settleOsc (s.setFld uClk F.clkOscStatusXtalQual 1))

/-! ### Trimming the HF oscillator (R404, R405, R214) -/

/-- The HF cycles a measurement is expected to count; none where the source cannot give one (R404, R214). From a link the interval is that
between the last two marks admitted. -/
def trimExpected (s : State) : Option Nat :=
  let p := s.fld uClk F.clkOscCtrlTrimPort
  match s.fld uClk F.clkOscCtrlTrimSrc with
  | 1 => if s.flag uClk F.clkOscStatusXtalQual then some 1048576 else none
  | 2 => some 100000000
  | 3 => if s.flag (uLnk p) F.lnkCtrlMarkTrust && s.flag (uLnk p) F.lnkPeerValid && s.fld (uLnk p) F.lnkPeerQual != 0 &&
      decide (s.fld (uLnk p) F.lnkPeerDepth < 15) && (s.lnk p).markGap != 0 then
      some (2 * s.fld (uLnk p) F.lnkMarkDivCycles * (s.lnk p).markGap) else none
  | _ => none

/-- The nearest integer of a quotient; on a tie either of the two, chosen by a free value (log entry 10). -/
def nearest (s : State) (a : Int) (d : Nat) : Int × State :=
  let q := a.fdiv d
  let r := a - q * d
  if 2 * r < d then (q, s) else if 2 * r = d then (if bitOf s.fresh 0 then (q + 1, s.draw) else (q, s.draw)) else (q + 1, s)

/-- A measurement that is kept: ERR, CODE and LOCKED follow (R404, R405). -/
def keepMeasure (s : State) (ppm : Int) (s1 : State) : State :=
  let step : Int := s.fld uClk F.clkOscCtrlTrimStep
  let code : Int := signedOf 14 (s.fld uClk F.clkHfTrimCode)
  let d := nearest s1 (-ppm) 4
  let delta := max (-step) (min step d.1)
  let code' := clampSigned 14 (code + delta)
  let s2 := ((d.2.setFld uClk F.clkHfTrimErr (unsignedOf 16 (clampSigned 16 ppm))).setFld uClk F.clkHfTrimCode (unsignedOf 14 code')).countSat
    uClk F.clkTrimCntUpdates
  let atEnd := code' = -8192 ∨ code' = 8191
  let run := if ppm.natAbs ≤ 10 ∧ ¬ atEnd then s.clk.goodRun + 1 else 0
  let s3 : State := { s2 with clk := { s2.clk with goodRun := run } }
  showQual (if 50 < ppm.natAbs then s3.setFld uClk F.clkOscStatusLocked 0
    else if 4 ≤ run then s3.setFld uClk F.clkOscStatusLocked 1 else s3)

/-- The interval between two marks taken: one measurement for each (R404). -/
def takeMark (s : State) : State :=
  let p := s.fld uClk F.clkOscCtrlTrimPort
  if s.fld uClk F.clkOscCtrlTrimSrc = 3 then s.setLnk p { s.lnk p with markGap := 0 } else s

/-- TRIM_MEASUREMENT (R404): `count` HF cycles over an interval of the source in which `expected` are due; more than ±2 % off it is discarded. -/
def execTrimMeasurement (count expected : Nat) (s : State) : Out :=
  match trimExpected s with
  | none => .next s
  | some e =>
    if !s.flag uClk F.clkOscStatusHfRun || e = 0 || e != expected then .next s
    else
      let t := takeMark s
      let dev : Int := (count : Int) - e
      if e < 50 * dev.natAbs then .next (t.countSat uClk F.clkTrimCntDiscard)
      else
        let n := nearest t (dev * 1000000) e
        .next (keepMeasure t n.1 n.2)

/-! ### PLLs (R406-R408) -/

/-- Whether firmware programs a PLL: a die PLL or PLL 52 (R407). -/
def pllByFirmware (k : Nat) : Bool := decide (k < 48) || k == 52

/-- Whether a PLL's VCO lies between 4,000 and 8,000 MHz (R406). -/
def State.vcoInRange (s : State) (k : Nat) : Bool :=
  decide (4000 * (s.vco k).2 ≤ (s.vco k).1) && decide ((s.vco k).1 ≤ 8000 * (s.vco k).2)

/-- The records of ACTIVE planes that select a PLL: region, output, divider, and whether for an engine clock. -/
def pllConsumers (s : State) (k : Nat) : List (Nat × Nat × Nat × Bool) :=
  (List.range 128).flatMap (fun n =>
    match s.active n with
    | none => []
    | some p => (List.range 9).filterMap (fun t =>
        let r := s.trackRec p n t
        let src := recSource n r
        if bitsOf r 15 14 != 0 && src.1 == k then some (n, src.2.1, src.2.2, t == 8) else none))

/-- Whether every consumer of one output of a PLL permits it at a point of the fabric group; output 0 of PLL 52 drives the span clock
(R60, R72, R134, R406). -/
def State.outputFits (s : State) (k out point : Nat) : Bool :=
  (pllConsumers s k).all (fun c => c.2.1 != out || s.withinMhz k c.2.1 c.2.2.1 (if c.2.2.2 then engMhz else trackMhz) point) &&
    (k != 52 || out != 0 || s.withinMhz 52 0 1 spanMhz point)

/-- Whether every consumer of a PLL permits its outputs at a point of the fabric group (R406). -/
def State.consumersFit (s : State) (k point : Nat) : Bool := s.outputFits k 0 point && s.outputFits k 1 point

/-- EN of a PLL set or cleared (R406): setting it is a reserved encoding where the VCO or an output would be out of range. -/
def pllEnable (s : State) (k : Nat) (en : Bool) : State :=
  if !pllByFirmware k then s
  else if en then
    (if s.flag uClk F.clkPllCfgEn k || !s.vcoInRange k || !s.consumersFit k (s.vfCur 2) then s
     else (s.setFld uClk F.clkPllCfgEn 1 k).noteAllRecords)
  else ((s.setFld uClk F.clkPllCfgEn 0 k).setFld uClk F.clkPllCfgLock 0 k).setFld uClk F.clkPllOutStandby 0 k

/-- PLL_ENABLE (R406). -/
def execPllEnable (k : Fin 64) (en : Bool) (s : State) : Out := .next (pllEnable s k en)

/-- PLL_LOCK (R406): an enabled PLL locks. -/
def execPllLock (k : Fin 64) (s : State) : Out :=
  if s.flag uClk F.clkPllCfgEn k then .next (s.setFld uClk F.clkPllCfgLock 1 k) else .next s

/-- PLL_STANDBY (R408): a die PLL or PLL 52 whose outputs feed no running domain. -/
def execPllStandby (k : Fin 64) (s : State) : Out :=
  let feeds := (pllConsumers s k).any (fun c => s.regionRuns c.1) || (k.val == 52 && !s.clk.spanOff)
  if !pllByFirmware k || s.fld uClk F.clkPllIdleUs = 0 || !s.flag uClk F.clkPllCfgEn k || feeds then .next s
  else .next (s.setFld uClk F.clkPllOutStandby 1 k)

/-- PLLs in STANDBY that a region's clocks need are restarted (R408). -/
def unStandby (s : State) (n : Nat) : State :=
  (List.range 64).foldl (fun (t : State) k =>
    if t.flag uClk F.clkPllOutStandby k && (pllConsumers t k).any (fun c => c.1 == n) then t.setFld uClk F.clkPllOutStandby 0 k else t) s

/-- A PLL programmed by hardware for an output 0 of `mhz`: a divider and REFDIV that put the VCO in range, chosen by a free value; the other
output's divider is free (R406, R407, log entry 11). -/
def hwPll (s : State) (k mhz : Nat) : State :=
  let r := s.fresh % 8 + 1
  let lo := (4000 + mhz - 1) / mhz
  let o := lo + s.fresh / 8 % (8000 / mhz + 1 - lo)
  let o1 := 2 + s.fresh / 4096 % 62
  let s1 := s.setReg uClk (F.clkPllCfgEn.at k 0) (BitVec.ofNat 32 (2 ^ 31 + 2 ^ 30 + (r - 1) * 2 ^ 27 + mhz / 50 * o * r * 2 ^ 16))
  (s1.setReg uClk (F.clkPllOutOdiv0.at k 0) (BitVec.ofNat 32 (o1 * 2 ^ 16 + o))).draw

/-- A PLL that hardware or DRAM training has set to values the spec does not give (R407, log entry 11). -/
def freePll (s : State) (k : Nat) : State :=
  let s1 := s.setReg uClk (F.clkPllCfgEn.at k 0) (BitVec.ofNat 32 (2 ^ 31 + 2 ^ 30 + s.fresh % 2 ^ 30))
  (s1.setReg uClk (F.clkPllOutOdiv0.at k 0)
    (BitVec.ofNat 32 ((2 + s.fresh / 2 ^ 30 % 62) * 2 ^ 16 + (2 + s.fresh / 2 ^ 36 % 62)))).draw

/-! ### Clock domains (R410-R413) -/

/-- A close begun: CLOSE_ASK rises (R411). -/
def beginClose (s : State) (i : Nat) (off : Bool) : State :=
  if i = 156 ∨ i = 157 ∨ s.dom i ≠ domRun then s
  else
    let s1 := s.setDom i domClosing
    { s1 with clk := { s1.clk with offs := if off then NSet.add s1.clk.offs i else NSet.del s1.clk.offs i } }

/-- Domains and groups whose part of a transition is over are struck off; an exit with nothing left shows the configuration mode (R450). -/
def settleMoves (s : State) : State :=
  let left := s.mode.moving.filter (fun i =>
    if i < 160 then s.dom i == domClosing || s.dom i == domWaking else s.flag uClk F.clkVfStatusBusy (i - 160))
  let done := left.isEmpty && s.mode.exiting
  { s with mode := { s.mode with
    moving := left
    exiting := s.mode.exiting && !done
    overlay := if done then .none else s.mode.overlay } }

/-- A close refused: the clock stays on, or a gated region stays gated; DENIED is set and the event counted (R411, R412). A wake that waited
for the close finds the domain running. -/
def denyClose (s : State) (i : Nat) : State :=
  let s1 := if s.dom i = domClosing then s.setDom i domRun else s
  let s2 : State := { s1 with clk := { s1.clk with offs := NSet.del s1.clk.offs i, wakes := NSet.del s1.clk.wakes i } }
  (s2.setFld uClk F.clkDomDenied 1 i).countSat uClk F.clkDenyCntCount

/-- A write of GATE to REQ (R411, R420). -/
def domGate (s : State) (i : Nat) : State :=
  if i = 156 ∨ i = 157 then s else beginClose (s.setFld uClk F.clkDomReq 1 i) i false

/-- Whether a region refuses to be powered off: it is LOADING, or between F and RESETS (R411, R413). -/
def refusesOff (s : State) (n : Nat) : Bool :=
  s.planeState n 0 == planeLoading || s.planeState n 1 == planeLoading || s.releasing n

/-- A write of OFF to REQ of a region's domain (R411): a gated region is powered off without a wake, one that is closing once it has closed. -/
def domOffReq (s : State) (n : Nat) : State :=
  let s1 := s.setFld uClk F.clkDomReq 2 n
  if s.dom n = domGated then (if refusesOff s n then denyClose s1 n else s1.setDom n domOff)
  else if s.dom n = domClosing then { s1 with clk := { s1.clk with offs := NSet.add s1.clk.offs n } }
  else beginClose s1 n true

/-- A write of RUN to REQ (R412). -/
def domRunReq (s : State) (i : Nat) : State := if i = 156 ∨ i = 157 then s else (s.setFld uClk F.clkDomReq 0 i).wakeDom i

/-- DOMAIN_GATE (R411). -/
def execDomainGate (i : Fin 160) (s : State) : Out := .next (domGate s i)

/-- DOMAIN_OFF (R411). -/
def execDomainOff (n : Fin 128) (s : State) : Out := .next (domOffReq s n)

/-- DOMAIN_RUN (R412). -/
def execDomainRun (i : Fin 160) (s : State) : Out := .next (domRunReq s i)

/-- AUTO_CLOSE (R411): a domain with AUTO = 1 had no request for CLK_IDLE plate cycles. -/
def execAutoClose (i : Fin 160) (s : State) : Out :=
  if s.flag uClk F.clkDomAuto i && s.fld uClk F.clkIdleCycles != 0 then .next (beginClose s i false) else .next s

/-- The wake of a domain that has just closed: one that a wake, or a packet held while it closed, waited for; with WAKE_EN = 0 at their
router the packets held fail instead (R185, R412). -/
def wakeClosed (s0 : State) (i : Nat) : State :=
  let all := ((s0.net.held.filter (fun h => h.dom == i)).map (fun h => h.pkt.dst.toNat / 16)).dedup
  let nodes := all.filter (fun n => s0.flag (uNoc n) F.nocRtCtrlWakeEn)
  let s := (all.filter (fun n => !s0.flag (uNoc n) F.nocRtCtrlWakeEn)).foldl (fun t n => failHeldAt t n i) s0
  let s1 := nodes.foldl (fun (t : State) n => t.countSat (uNoc n) F.nocWakeCntCount) s
  if s.clk.wakes.contains i || !nodes.isEmpty then
    ({ s1 with clk := { s1.clk with wakes := NSet.del s1.clk.wakes i } }).wakeDom i
  else s1

/-- What stops with a domain's clock: a region's flip-flops hold (R37, R271); a DRAM channel goes to self-refresh (R365), the service banks to sleep (R550), a region's user pins
are held (R456). -/
def domStops (s : State) (i : Nat) : State :=
  if i < 128 then holdPins (s.stopRegion i) i
  else if 136 ≤ i ∧ i < 144 then selfRefresh s (i - 136)
  else if i = 158 then sleepPins s 0 160
  else s

/-- The domain of the attachment of an ingress port. -/
def portDomain (code : Nat) : Option Nat :=
  dstDomain { pri := 0, opc := 0, len := 0, tag := 0, dst := BitVec.ofNat 11 code, src := 0, label := 0, icls := 0, stat := 0, addr := 0, aux := 0,
              hoplim := 0, ext := 0, hdata := 0, body := [] }

/-- Whether a domain's interface holds no outstanding request in either direction (R411): none of its own at its ports, none accepted and
unanswered at a design, a DRAM channel or a PCIe controller. -/
def answersReady (s : State) (i : Nat) : Bool :=
  s.net.port.all (fun e => portDomain e.1 != some i || (e.2.outst.isEmpty && e.2.waiting.isEmpty)) &&
    (decide (128 ≤ i) || (SMap.get [] s.net.tq i).isEmpty) &&
    (!(decide (136 ≤ i) && decide (i < 144)) || (s.chan (i - 136)).jobs.isEmpty) &&
    (!(i == 148 || i == 149) || ((s.pciCtl (i - 148)).inq.isEmpty && (s.pciCtl (i - 148)).ob.isEmpty))

/-- CLOSE_READY (R411): the interface, which holds no outstanding request, answers READY and the clock stops; the domain is GATED, or OFF. -/
def execCloseReady (i : Fin 160) (s : State) : Out :=
  if s.dom i ≠ domClosing ∨ !answersReady s i then .next s
  else if s.clk.offs.contains i.val && refusesOff s i then .next (settleMoves (denyClose s i))
  else
    let s1 := domStops s i
    let s2 := s1.setDom i (if s.clk.offs.contains i.val then domOff else domGated)
    .next (settleMoves (wakeClosed { s2 with clk := { s2.clk with offs := NSet.del s2.clk.offs i } } i))

/-- CLOSE_REFUSE (R411). -/
def execCloseRefuse (i : Fin 160) (s : State) : Out := if s.dom i ≠ domClosing then .next s else .next (settleMoves (denyClose s i))

/-- CLOSE_TIMEOUT (R412): no answer in 4,096 SREF cycles: treated as refused, recorded in CLK_DENY, class 0x0F. -/
def execCloseTimeout (i : Fin 160) (s : State) : Out :=
  if s.dom i ≠ domClosing ∨ s.clk.fallback then .next s
  else
    let s1 := denyClose s i
    let s2 := if s1.flag uClk F.clkDenyValid then s1 else (s1.setFld uClk F.clkDenyValid 1).setFld uClk F.clkDenyDomain i
    .next (settleMoves (s2.raise uClk 0x0F i))

/-- What starts again with a domain's clock. -/
def domStarts (s : State) (i : Nat) : State :=
  if i < 128 then
    let s0 := unStandby { s with clk := { s.clk with spanOff := false, fromOff := NSet.del s.clk.fromOff i } } i
    let s1 := if s.clk.fromOff.contains i then placeFirst (wakeSites s0 i) i else s0
    if s1.stage i = 0 ∧ (s1.active i).isSome then s1 else releasePins s1 i
  else if i = 155 then s.unlatch
  else if i = 158 then wakePins s 0 160
  else s

/-- WAKE_DONE (R412, R413): a woken domain runs again, with every flip-flop and memory as it was. -/
def execWakeDone (i : Fin 160) (s : State) : Out :=
  if s.dom i ≠ domWaking then .next s else .next (settleMoves (domStarts (s.setDom i domRun) i))

/-- Every numbered domain of a list stopped: what it was is kept (R402, R453, R455). -/
def stopDomains (s : State) (l : List Nat) : State :=
  l.foldl (fun (t : State) i =>
    if i = 156 ∨ i = 157 ∨ t.dom i = domStopped then t
    else
      let was := t.dom i
      { t.setDom i domStopped with clk := { t.clk with stopped := SMap.put t.clk.stopped i was } }) s.latchAsync

/-- The stop of domains ended: each returns to its previous state; packets held for one that is gated wake it (R185, R402). -/
def restoreDomains (s : State) : State :=
  let s1 := s.clk.stopped.foldl (fun (t : State) e => t.setDom e.1 e.2) s
  let s2 : State := { s1 with clk := { s1.clk with stopped := [], halted := false } }
  s.clk.stopped.foldl (fun (t : State) e => if e.2 = domGated ∨ e.2 = domOff then wakeClosed t e.1 else t) s2

/-! ### Performance points (R414-R416) -/

/-- The clock of a group at a point in MHz (R415). -/
def pointMhz (k : Nat) : Nat := [2000, 1800, 1600, 1400, 1200, 1000, 750, 500].getD k 500

/-- The PLL of a group's pair that runs, and the idle one (R407). -/
def pllPair (s : State) (g : Nat) : Nat × Nat := if s.flag uClk F.clkPllCfgEn (49 + 2 * g) then (49 + 2 * g, 48 + 2 * g) else (48 + 2 * g, 49 + 2 * g)

/-- A group's frequency switched to a point: the idle PLL of the pair is programmed, locked and taken; the fabric group changes none (R416). -/
def switchPoint (s : State) (g k : Nat) : State :=
  let s1 := s.setFld uClk F.clkVfStatusCur k g
  if g = 2 then s1.noteAllRecords
  else
    let pp := pllPair s g
    let s2 := hwPll s1 pp.2 (pointMhz k)
    (s2.setFld uClk F.clkPllCfgEn 0 pp.1).setFld uClk F.clkPllCfgLock 0 pp.1

/-- A sequence begun (R416): a raise sets the voltage first; a lower switches the frequency first, and for the fabric group is REFUSED where
a die PLL or PLL 52 exceeds the new limits. -/
def startVf (s : State) (g : Nat) : State :=
  let target := s.fld uClk F.clkVfCtrlTarget g
  let raise := decide (target < s.vfCur g)
  if !raise && g == 2 && (List.range 53).any (fun k => pllByFirmware k && s.flag uClk F.clkPllCfgEn k && !s.consumersFit k target) then
    s.setFld uClk F.clkVfStatusRefused 1 g
  else
    let s1 := if raise || target == s.vfCur g then s else switchPoint s g target
    { s1.setFld uClk F.clkVfStatusBusy 1 g with clk := { s1.clk with vf := SMap.put s1.clk.vf g { target := target, raise := raise } } }

/-- A write to TARGET (R416): it starts a sequence, or is taken up when the one that runs completes. -/
def vfTarget (s : State) (g target : Nat) : State :=
  let s1 := s.setFld uClk F.clkVfCtrlTarget target g
  if s.flag uClk F.clkVfStatusBusy g then s1 else startVf s1 g

/-- VF_TARGET (R416). -/
def execVfTarget (g : Fin 3) (target : Fin 8) (s : State) : Out := .next (vfTarget s g target)

/-- A sequence replaced. -/
def State.setVf (s : State) (g : Nat) (v : VfSeq) : State := { s with clk := { s.clk with vf := SMap.put s.clk.vf g v } }

/-- Whether the PMBus has its pins (R543). -/
def pmbPins (s : State) : Bool := s.funcOf 172 == 1 || (s.funcOf 170 == 1 && !canClaims s 1)

/-- VF_SETTLE (R416): READ_VOUT must lie within 10 mV of the target, one retry is allowed; a regulator fault, or PMBus without pins,
ends it. -/
def execVfSettle (g : Fin 3) (millivolt : BitVec 16) (fault : Bool) (s : State) : Out :=
  match SMap.find s.clk.vf g with
  | none => .next s
  | some v =>
    if v.settled then .next s
    else
      let want := (Config.avsMillivolt g v.target).toNat
      let close := decide (millivolt.toNat ≤ want + 10) && decide (want ≤ millivolt.toNat + 10)
      if fault || !pmbPins s then .next (s.setVf g { v with settled := true, failed := true })
      else if close then .next (s.setVf g { v with settled := true })
      else if v.retried then .next (s.setVf g { v with settled := true, failed := true })
      else .next (s.setVf g { v with retried := true })

/-- VF_DONE (R416): the sequence completes, a raise with its frequency, or fails; a TARGET written meanwhile is taken up. -/
def execVfDone (g : Fin 3) (s : State) : Out :=
  match SMap.find s.clk.vf g with
  | none => .next s
  | some v =>
    if !v.settled then .next s
    else
      let s1 : State := { s.setFld uClk F.clkVfStatusBusy 0 g with clk := { s.clk with vf := SMap.erase s.clk.vf g } }
      let s2 :=
        if v.failed then
          ((if v.raise then s1 else s1.setFld uClk F.clkVfStatusVfail 1 g).setFld uClk F.clkVfStatusFail 1 g).edge (8 + g.val)
        else ((if v.raise then switchPoint s1 g v.target else s1).setFld uClk F.clkVfStatusVfail 0 g).edge (5 + g.val)
      if s2.fld uClk F.clkVfCtrlTarget g = v.target then .next (settleMoves s2) else .next (settleMoves (startVf s2 g))

end Sys2Proof.Machine
end

