-- ==== Sys2Proof/Machine/Budget.lean ====
section
/-! DEFINITION. Frets and budgets: the boundary, debt, CAP and FLOOR taking effect, starvation (R422-R428). -/

namespace Sys2Proof.Machine

open Sys2Proof

/-- The highest instance of a channel plus one (R423). -/
def budInstances (c : Nat) : Nat := if c = 4 ∨ c = 5 then 4 else if 8 ≤ c then 1 else 8

/-- A meter at a fret boundary: U carries its excess over CAP as debt (R424); what the fret charged, and whether work was held (R427). -/
def BudInst.boundary (m : BudInst) (cap : Nat) : BudInst :=
  { u := m.u - cap
    used := m.u - m.debt
    debt := m.u - cap
    starveRun := if m.waiting && !m.admitted then m.starveRun + 1 else 0
    heldCnt := if m.held then addSat 32 m.heldCnt 1 else m.heldCnt }

/-- An instance at a fret boundary; STARVED where it has waited through BUD_STARVE frets (R427). -/
def meterBoundary (s : State) (c i : Nat) : State :=
  let m := (s.meter c i).boundary (s.capOf c)
  let s1 := s.setMeter c i m
  if m.starveRun ≠ 0 ∧ s.fld uBud F.budStarveFrets ≤ m.starveRun then
    s1.setFld uBud F.budStatusStarved (withBit (s1.fld uBud F.budStatusStarved) c true)
  else s1

/-- The accumulator after the boundary: 20 ns for each SREF cycle, less FRET_NS (R422). -/
def accAfter (acc fret : Nat) : Nat := acc + 20 * ((fret - acc + 19) / 20) - fret

/-- A fret boundary (R422-R427): every meter carries its debt; FRET_NS, CAP and FLOOR as written take effect; counter-tree maintenance that
waited goes on, and the throttles of the DRAM controllers count the fret's time (R360, log entry 144). While SREF is stopped no boundary
occurs. -/
def fretBoundary (s : State) : State :=
  if s.clk.fallback || s.mode.dormant then s
  else
    let s1 := (List.range 10).foldl (fun (t : State) c =>
      (List.range (budInstances c)).foldl (fun (t : State) i => meterBoundary t c i) t) s
    let s2 : State := { s1 with bud := { s1.bud with
      acc := accAfter s.bud.acc s.bud.fretNs
      fretNs := s.fld uBud F.budCtrlFretNs
      caps := (List.range 10).foldl (fun m c => SMap.store (budCapReset c) m c (s.fld uBud F.budCapUnits c)) s.bud.caps
      floors := (List.range 10).foldl (fun m c => SMap.store (budFloorReset c) m c (s.fld uBud F.budFloorUnits c)) s.bud.floors } }
    initAdvance ((List.range 8).foldl (fun (t : State) c => throttleTick t c s.bud.fretNs) (s2.countWrap uBud F.budFretsCount))

end Sys2Proof.Machine
end

