-- ==== Sys2Proof/Machine/Mode.lean ====
section
/-! DEFINITION. Operating modes: CONTAIN, DROWSE, DORMANT, SERVICE, the clock fallbacks, supplies, resets and the boot ROM (R400-R403,
R432-R458). -/

namespace Sys2Proof.Machine

open Sys2Proof

/-! ### The mode (R433) -/

/-- MGT_MODE.BUSY: a transition into or out of DROWSE is in progress (R436, R457). -/
def State.modeBusy (s : State) : Bool := !s.mode.moving.isEmpty

/-- A refused mode command (R435). -/
def modeRefuse (s : State) : State := s.setFld uMgt F.mgtModeStatusRefused 1

/-! ### Lanes, PCIe, DRAM across CONTAIN (R453, R454) -/

/-- Lane transmitters idle: links leave UP without class 0x09, their lanes are OFF (R453). -/
def idleLanes (s : State) : State :=
  (List.range 16).foldl (fun (t : State) p =>
    if t.linkState p = 1 ∨ t.linkState p = 2 then
      (t.linkLanes p).foldl (fun (u : State) kj => u.setLaneState kj.1 kj.2 0) (linkLeave t p .noRoute 1)
    else t) s

/-- Lanes whose links have EN = 1 restart from DETECT (R454, R571). -/
def restartLanes (s : State) : State :=
  (List.range 16).foldl (fun (t : State) p => if t.flag (uLnk p) F.lnkCtrlEn then linkBringUp t p else t) s

/-- PCIe ports held in Detect.Quiet (R453). -/
def idlePcie (s : State) : State :=
  (List.range 2).foldl (fun (t : State) c => showPort (showPort t c false 0 0 0) c true 0 0 0) s

/-- DRAM ranks whose clocks run enter self-refresh; those of a gated channel are in it (R365, R453). -/
def restDram (s : State) : State :=
  (List.range 8).foldl (fun (t : State) c =>
    let was := SMap.get (t.dom (136 + c)) t.clk.stopped (136 + c)
    if t.chanAwake c then { selfRefresh t c with mode := { t.mode with selfRefresh := NSet.add t.mode.selfRefresh c } }
    else if was = domGated ∨ was = domWaking then { t with mode := { t.mode with selfRefresh := NSet.add t.mode.selfRefresh c } }
    else t) s

/-- The numbered domains. -/
def allDomains : List Nat := List.range 160
/-- The region domains. -/
def regionDomains : List Nat := List.range 128

/-! ### CONTAIN (R452-R454) -/

/-- CONTAIN entered for a cause; not from DORMANT or CONTAIN. A transition under way is abandoned: the device is to return to the mode it
had before (R434, R436, R453). -/
def enterContain (s : State) (cause : Nat) : State :=
  if s.mode.dormant ∨ s.mode.overlay = .contain then s
  else
    let under := if s.mode.overlay = .drowse ∧ !s.mode.moving.isEmpty ∧ !s.mode.exiting then .none else s.mode.overlay
    let prev := ({ s with mode := { s.mode with overlay := under } } : State).modeNo
    let s1 := (((s.setFld uMgt F.mgtModePrev prev).setFld uMgt F.mgtModeStatusCause cause).setFld uMgt F.mgtModeStatusContained 1).setFld
      uMgt F.mgtModeStatusResumable (boolNat ((cause == 5 || cause == 6) && !s.mode.never))
    let s2 := cfgAbort (restDram (idlePcie (idleLanes s1)))
    let s3 := stopDomains s2 allDomains
    { s3 with
      clk := { s3.clk with halted := true }
      mode := { s3.mode with overlay := .contain, under := under, moving := [], exiting := false } }

/-- The device leaves its stop: SREF runs, domains, DRAM and lanes start again (R454). -/
def restart (s : State) : State :=
  let s1 : State := { s with clk := { s.clk with fallback := false }, mode := { s.mode with selfRefresh := [] } }
  restartLanes (restoreDomains (settleOsc s1))

/-- RESUME (R435, R454): accepted while RESUMABLE is 1, in the order of R454. A device that was in SERVICE has its regions stopped again. -/
def resumeMode (s : State) : State :=
  if s.mode.overlay ≠ .contain ∨ s.mode.dormant ∨ !s.flag uMgt F.mgtModeStatusResumable then modeRefuse s
  else
    let s1 := (restart s).setFld uMgt F.mgtModeStatusResumable 0
    let s2 : State := { s1 with mode := { s1.mode with overlay := s1.mode.under, under := .none } }
    if s2.mode.overlay = .service then stopDomains s2 regionDomains else s2

/-- CONTAIN commanded (R434, R435). -/
def commandContain (s : State) : State :=
  if s.mode.dormant ∨ s.mode.overlay = .contain ∨ s.modeBusy then modeRefuse s else enterContain s 5

/-- Whether MGT_MODE_CMD accepts a write: only from ICLS 4 (R458). -/
def modeWriter (icls : Nat) : Bool := icls == 4

/-- CONTAIN (R453). -/
def execContain (icls : BitVec 3) (s : State) : Out :=
  if modeWriter icls.toNat then .next ((commandContain s).answer .ok) else .next (s.answer .prot)

/-- RESUME (R454). -/
def execResume (icls : BitVec 3) (s : State) : Out :=
  if modeWriter icls.toNat then .next ((resumeMode s).answer .ok) else .next (s.answer .prot)

/-- CONTAIN_CAUSE (R452): the hottest sensor at or above CRIT, with class 0x0C; a group B core rail lost while PWR_REQ is high. -/
def execContainCause (cause : ContainCause) (s : State) : Out :=
  if s.mode.dormant then .next s
  else
    match cause with
    | .thermal c =>
      if c.toNat < s.fld uMgt F.mgtThermCrit ∨ s.mode.overlay = .contain then .next s
      else .next (enterContain (s.raise uMgt 0x0C c.toNat) 3)
    | .supply rails =>
      if rails = 0 ∨ !s.mode.pwrReq then .next s
      else
        let lost := ((List.range 7).filter (fun i => rails.getLsbD i)).foldl NSet.add s.mode.lost
        let good := s.fld uMgt F.mgtSupplyCore &&& (127 - rails.toNat)
        let s1 : State := { s.setFld uMgt F.mgtSupplyCore good with mode := { s.mode with
          lost := lost, never := s.mode.never || lost.any (fun i => i < 5) } }
        let s2 := if s1.mode.never then s1.setFld uMgt F.mgtModeStatusResumable 0 else s1
        .next (enterContain s2 4)

/-- RESUMABLE (R452): the condition of the cause holds: the HF oscillator settled and SREF valid for 1 ms; the hottest sensor 10 °C below
CRIT; the lost rails, VCCL or VDDQ only, all good for 10 ms. -/
def execResumable (celsius : BitVec 8) (s : State) : Out :=
  if s.mode.overlay ≠ .contain ∨ s.mode.never then .next s
  else
    let ok := match s.fld uMgt F.mgtModeStatusCause with
      | 1 => s.flag uClk F.clkOscStatusHfRun
      | 2 => s.flag uClk F.clkOscStatusHfRun
      | 3 => decide (celsius.toNat + 10 ≤ s.fld uMgt F.mgtThermCrit)
      | _ => true
    if !ok then .next s
    else
      let s1 := s.setFld uMgt F.mgtModeStatusResumable 1
      if s.fld uMgt F.mgtModeStatusCause = 4 then
        .next { s1.setFld uMgt F.mgtSupplyCore 127 with mode := { s1.mode with lost := [] } }
      else .next { s1 with clk := { s1.clk with hfBarred := false } }

/-- CONTENT_LOST (R453): a channel that is not in self-refresh passes tREFI × 4 in CONTAIN. -/
def execContentLost (c : Fin 8) (s : State) : Out :=
  if s.mode.overlay ≠ .contain ∨ s.mode.selfRefresh.contains c.val then .next s else .next (s.loseContents c)

/-! ### Clock fallbacks (R400-R403) -/

/-- HF_SETTLE (R400, R402): a starting oscillator settles; after a trip SREF switches to it, the PLLs retrack and every domain returns. -/
def execHfSettle (s : State) : Out :=
  if !s.clk.hfStart || s.flag uClk F.clkOscStatusHfRun then .next s
  else
    let s1 : State := { s.setFld uClk F.clkOscStatusHfRun 1 with clk := { s.clk with hfStart := false } }
    if s.clk.fallback && !s.clk.hfBarred && s.mode.overlay != .contain then
      let s2 : State := { s1.setFld uClk F.clkOscStatusSref 0 with clk := { s1.clk with fallback := false } }
      .next (showQual (restoreDomains s2))
    else if s.clk.fallback then .next s1
    else .next (settleOsc { s1 with clk := { s1.clk with hfBarred := false } })

/-- Whether the monitor trips: on missing edges, or on a count outside ±TOL of 500 crystal cycles in 10 µs of the HF oscillator, or of 1,526 in an
LF cycle while that is stopped (R401). -/
def monitorTrips (s : State) (count : Option Nat) : Bool :=
  match count with
  | none => true
  | some n =>
    let e := if s.flag uClk F.clkOscStatusHfRun then 500 else 1526
    decide (s.fld uClk F.clkMonTol * e < 1000 * ((n : Int) - e).natAbs)

/-- MONITOR_TRIP (R401, R402): a count of crystal cycles, or none for a crystal without edges. On a trip the crystal loses its qualification, TRIP, class 0x0B; with a settled HF oscillator SREF switches to it and
no domain stops; else every domain is STOPPED and the oscillator is started. -/
def execMonitorTrip (s : State) (count : Option Nat := none) : Out :=
  if !s.flag uClk F.clkOscCtrlMonEn || !s.flag uClk F.clkOscStatusXtalQual || !monitorTrips s count then .next s
  else
    let s1 := ((s.setFld uClk F.clkOscStatusXtalQual 0).setFld uClk F.clkOscStatusTrip 1).raise uClk 0x0B
    let s2 := if s.fld uClk F.clkOscCtrlTrimSrc = 1 then loseLock s1 else s1
    if !s.srefXtal || s.flag uClk F.clkOscStatusHfRun then .next (showQual (s2.setFld uClk F.clkOscStatusSref 0))
    else
      let s3 := stopDomains s2 allDomains
      .next (showQual { s3 with clk := { s3.clk with fallback := true, hfStart := true, halted := true } })

/-- FALLBACK_TIMEOUT (R402): the HF oscillator is not settled 100 µs after the trip: FBFAIL, and CONTAIN. -/
def execFallbackTimeout (s : State) : Out :=
  if !s.clk.fallback then .next s else .next (enterContain (s.setFld uClk F.clkOscStatusFbfail 1) 1)

/-- HF_CHECK_FAIL (R403): a count of HF cycles in an LF cycle more than ±5 % off 3,052: HFFAIL, class 0x0B; the oscillator is stopped and no
fallback where SREF is the crystal, else CONTAIN. -/
def execHfCheckFail (s : State) (count : Nat := 0) : Out :=
  if !s.flag uClk F.clkOscStatusHfRun || decide (20 * ((count : Int) - 3052).natAbs ≤ 3052) then .next s
  else
    let s1 := (s.setFld uClk F.clkOscStatusHffail 1).raise uClk 0x0B
    if s.srefXtal then .next { s1.setFld uClk F.clkOscStatusHfRun 0 with clk := { s1.clk with hfBarred := true, hfStart := false } }
    else .next (enterContain s1 2)

/-! ### DROWSE (R450) -/

/-- Whether a domain is kept in DROWSE. -/
def drowseKeeps (s : State) (i : Nat) : Bool := i == 156 || i == 157 || bitOf (s.fld uMgt F.mgtDrowseKeepDomains (i / 32)) (i % 32)

/-- Whether a region is closed to OFF. -/
def drowseOff (s : State) (i : Nat) : Bool := decide (i < 128) && bitOf (s.fld uMgt F.mgtDrowseOffRegions (i / 32)) (i % 32)

/-- The point of a group in MGT_DROWSE_PP. -/
def drowsePoint (s : State) (g : Nat) : Nat :=
  if g = 0 then s.fld uMgt F.mgtDrowsePpPlate else if g = 1 then s.fld uMgt F.mgtDrowsePpCore else s.fld uMgt F.mgtDrowsePpFabric

/-- Whether the command DROWSE is refused: from another mode than MANAGE, STAGED or RUN, in a transition, with a load in progress or a region
releasing, or under a pin-control instruction (R434, R435, R571). -/
def drowseRefused (s : State) : Bool :=
  !(s.modeNo == 1 || s.modeNo == 3 || s.modeNo == 4) || s.modeBusy || s.cfg.load.isSome || (List.range 128).any s.releasing || s.pinControl

/-- DROWSE entered (R450): domains without KEEP are closed, groups move to their points, HF_SLEEP takes effect. -/
def enterDrowse (s : State) : State :=
  let closing := (List.range 160).filter (fun i => !drowseKeeps s i)
  let ran := closing.filter (fun i => s.dom i == domRun)
  let s1 := closing.foldl (fun (t : State) i =>
    if drowseOff t i then (if t.dom i = domRun ∨ t.dom i = domGated then domOffReq t i else t)
    else if t.dom i = domRun then domGate t i else t) s
  let groups := (List.range 3).filter (fun g => drowsePoint s g != s.vfCur g)
  let s2 := groups.foldl (fun (t : State) g => vfTarget t g (drowsePoint s g)) s1
  let s3 : State := { s2 with
    clk := { s2.clk with spanOff := (List.range 128).all (fun n => !drowseKeeps s n) }
    mode := { s2.mode with overlay := .drowse, slept := ran, points := (List.range 3).map s.vfCur, moving := ran ++ groups.map (· + 160) } }
  settleMoves (settleOsc s3)

/-- DROWSE (R450). -/
def execDrowse (icls : BitVec 3) (s : State) : Out :=
  if !modeWriter icls.toNat then .next (s.answer .prot)
  else if drowseRefused s then .next ((modeRefuse s).answer .ok)
  else .next ((enterDrowse s).answer .ok)

/-- DROWSE left (R450): groups return to the points held at entry, and the domains it closed that ran are woken. -/
def leaveDrowse (s : State) : State :=
  let groups := (List.range 3).filter (fun g => s.mode.points.getD g (s.vfCur g) != s.vfCur g)
  let s1 := groups.foldl (fun (t : State) g => vfTarget t g (s.mode.points.getD g 0)) s
  let s2 := s.mode.slept.foldl (fun (t : State) i => t.wakeDom i) s1
  settleMoves { s2 with
    clk := { s2.clk with spanOff := false }
    mode := { s2.mode with exiting := true, moving := s.mode.slept ++ groups.map (· + 160) } }

/-- Whether DROWSE can be left: it is held and no exit is under way. -/
def State.drowsing (s : State) : Bool := !s.mode.dormant && s.mode.overlay == .drowse && !s.mode.exiting

/-- WAKE commanded (R434, R435). -/
def commandWake (s : State) : State := if !s.drowsing || s.modeBusy then modeRefuse s else leaveDrowse s

/-- WAKE (R450). -/
def execWake (icls : BitVec 3) (s : State) : Out :=
  if modeWriter icls.toNat then .next ((commandWake s).answer .ok) else .next (s.answer .prot)

/-! ### Resets (R440-R442) -/

/-- A register carried over a reset. -/
def keepReg (old : State) (t : State) (x : Nat × Nat) : State := t.setReg x.1 x.2 (old.reg x.1 x.2)

/-- Offsets in unit 0x00 (R457, R484). -/
def mgtOff (f : Fld) : Nat × Nat := (uMgt, f.off)

/-- What every reset leaves: fuses, the queue, the count of free values, the levels that stand at the pads, and tree keys drawn anew (R324,
log entry 142). -/
def afterReset (s : State) : State :=
  drawTreeKeys { State.reset with
    fuse := s.fuse
    pending := s.pending
    free := s.free
    pin := { State.reset.pin with upad := s.pin.upad, pads := s.pin.pads } }

/-- What a pin or system reset leaves: bridge repairs last until a power-on reset (R89). -/
def afterWarmReset (s : State) : State := { afterReset s with span := keptRepairs s State.reset.span }

/-- DRAM as a reset that stops its refresh leaves it: contents unknown (log entry 9). -/
def forgetDram (s t : State) : State :=
  (List.range 8).foldl (fun (u : State) c => (u.loseContents c).setFld (uDdr c) F.ddrStatusContentLost 0)
    { t with ddr := { t.ddr with losses := s.ddr.losses } }

/-- SEAL_INTACT, SEAL_BROKEN and SEAL_EVENTS at a power-on reset (R482, R484). -/
def showSeal (s old : State) (intact : Bool) : State :=
  ((s.setFld uMgt F.mgtPresStatusSealIntact (boolNat intact)).setFld uMgt F.mgtPresStatusSealBroken
    (boolNat (old.flag uMgt F.mgtPresStatusSealBroken && !intact))).setFld uMgt F.mgtPresStatusSealEvents s.fuse.sealEvents

/-- A power-on reset (R440): everything but fuses. -/
def powerOnReset (s : State) (intact : Bool) : State :=
  showSeal (forgetDram s (afterReset s)) s intact

/-- POWER_ON_RESET (R440): group A good rising, or a brownout. -/
def execPowerOnReset (sealIntact : Bool) (s : State) : Out := .next (powerOnReset s sealIntact)

/-- What pin and system resets keep of presence, seal and oscillators (R440, R482). -/
def keptAlways : List (Nat × Nat) :=
  [mgtOff F.mgtPresStatusSealIntact, mgtOff F.mgtResetCausePor, (uClk, F.clkOscStatusSref.off)]

/-- A pin reset (R440, R441): as power-on, with the oscillators running on and MGT_RESET_CAUSE kept. -/
def pinReset (s : State) : State :=
  let t := keptAlways.foldl (keepReg s) (forgetDram s (afterWarmReset s))
  let u : State := { t with clk := { t.clk with hfStart := s.clk.hfStart, hfBarred := s.clk.hfBarred }, scan := s.scan, dict := { t.dict with attested := s.dict.attested } }
  (showQual (loseLock u)).setFld uMgt F.mgtResetCausePin 1

/-- PIN_RESET (R441): a low of 10 µs or longer is a reset, one of 8 µs or shorter never; between them it may or may not be, a free value. -/
def execPinReset (lowNs : Nat) (s : State) : Out :=
  if lowNs ≤ 8000 then .next s
  else if 10000 ≤ lowNs then .next (pinReset s)
  else if bitOf s.fresh 0 then .next (pinReset s).draw else .next s.draw

/-- A system reset (R440, R465): everything but straps, oscillator state and trims, MGT_RESET_CAUSE, the MGT_WAKE_ registers and fuses. The
device waits for group B again. -/
def systemReset (s : State) (cause : Fld) : State :=
  let kept := keptAlways ++ [mgtOff F.mgtStrapBootsrc, mgtOff F.mgtWakeEnSrc, mgtOff F.mgtWakeTmrLfCycles, mgtOff F.mgtWakeSrcSrc,
    (uClk, F.clkHfTrimCode.off), (uClk, F.clkOscCtrlXtalUse.off)]
  let t := kept.foldl (keepReg s) (forgetDram s (afterWarmReset s))
  let u : State := { t with
    clk := { t.clk with hfStart := s.clk.hfStart, hfBarred := s.clk.hfBarred, goodRun := s.clk.goodRun }
    scan := s.scan
    dict := { t.dict with attested := s.dict.attested }
    mode := { t.mode with strapWindow := false, pwrReq := true } }
  u.setFld uMgt cause 1

/-- RESET_SYSTEM_CMD (R457, R458): TYPE 2 with KEY 0xA5 schedules a system reset, 1 ms after the write's response. -/
def execResetSystemCmd (key : Byte) (icls : BitVec 3) (s : State) : Out :=
  if icls ≠ 4 then .next (s.answer .prot)
  else if key ≠ 0xA5 then .next (s.answer .ok)
  else .next ({ s with mode := { s.mode with reset := 2 } }.answer .ok)

/-- RESET_MANAGEMENT_CMD (R457, R458). -/
def execResetManagementCmd (key : Byte) (icls : BitVec 3) (s : State) : Out :=
  if icls ≠ 4 then .next (s.answer .prot)
  else if key ≠ 0xA5 then .next (s.answer .ok)
  else .next ({ s with mode := { s.mode with reset := 1 } }.answer .ok)

/-- SYSTEM_RESET (R440): the scheduled reset takes effect; from SERVICE it is the exit from it. -/
def execSystemReset (s : State) : Out :=
  if s.mode.reset ≠ 2 then .next s
  else
    let t := systemReset s F.mgtResetCauseSysCmd
    if s.mode.overlay = .service then .next (t.setFld uMgt F.mgtResetCauseServiceExit 1) else .next t

/-! ### The boot ROM (R443-R449) -/

/-- The boot ROM opens the host's path (R443, R446): EXT_CMD, BAR0 of PF 0 of controller 0 on the CSR ranges; its writes wake the controller
(R185, log entry 67). -/
def openHost (s : State) : State :=
  pcieEnable (((((s.wakeDom 148).setFld uCfg F.cfgCtrlExtCmd 1).setFld (uPci 0) F.pciPfBar0Log2 32).setFld (uPci 0) F.pciPfXlatLoBase 0).setFld (uPci 0)
    F.pciPfXlatHiBase 0x0E00) 0

/-- PHASE of MGT_BOOT. -/
def State.bootPhase (s : State) : Nat := s.fld uMgt F.mgtBootPhase

/-- BOOTSRC as it acts: reserved values as 1 (R443). -/
def State.bootSrc (s : State) : Nat := if 4 ≤ s.fld uMgt F.mgtStrapBootsrc then 1 else s.fld uMgt F.mgtStrapBootsrc

/-- The boot ROM at its fetch (R443, R448): from xSPI, or, for BOOTSRC 3, waiting at the boot window. A device whose return preparation has
begun or is complete fetches nothing (R574, R575). -/
def bootFetch (s : State) : State :=
  if s.fuse.returnStarted || s.fuse.returned then s
  else
    let s1 := if 4 ≤ s.fld uMgt F.mgtStrapBootsrc then s.setFld uMgt F.mgtBootStrapErr 1 else s
    let s2 := if 2 ≤ s.bootSrc then openHost s1 else s1
    s2.setFld uMgt F.mgtBootPhase (if s.bootSrc = 3 then 4 else 2)

/-- Steps 1 to 3 of the boot ROM after a reset (R448): AVS voltages, points PP0, PLLs, and a fetch. -/
def bootStart (s : State) : State :=
  let s1 := (List.range 3).foldl (fun (t : State) g => (List.range 8).foldl (fun (t : State) k =>
    t.setFld uClk F.clkAvsMv (Config.avsMillivolt g k).toNat g k) t) s
  let s2 := if s.fuse.returned then { s1 with sram := {} }
    else [54, 55, 56, 57, 58, 59, 60, 61, 62].foldl freePll (hwPll (hwPll (hwPll s1 48 2000) 50 2000) 52 spanMhz)
  bootFetch s2

/-- GROUP_B_GOOD (R434, R438, R448): all seven rails are good after PWR_REQ rose: MANAGE, and the boot ROM starts. -/
def execGroupBGood (s : State) : Out :=
  if !s.mode.dormant || !s.mode.pwrReq then .next s
  else .next (bootStart { s.setFld uMgt F.mgtSupplyCore 127 with mode := { s.mode with dormant := false } })

/-- SUPPLY_TIMEOUT (R438): group B is not good within 500 ms. -/
def execSupplyTimeout (s : State) : Out :=
  if !s.mode.dormant || !s.mode.pwrReq then .next s
  else .next { s.setFld uMgt F.mgtResetCauseSupplyTmo 1 with mode := { s.mode with pwrReq := false } }

/-- STRAP_SAMPLE (R438, R439, R543): the strap window closes, the straps are latched, PWR_REQ rises; always-on pins 0-6 switch. -/
def execStrapSample (bootsrc : Fin 8) (pull : Fin 3) (node : BitVec 7) (s : State) : Out :=
  if !s.mode.strapWindow then .next s
  else
    let s1 := ((s.setFld uMgt F.mgtStrapBootsrc bootsrc).setFld uMgt F.mgtStrapHoldPull pull).setFld uMgt F.mgtStrapNodeId node.toNat
    .next (keepFuncs s { s1 with mode := { s1.mode with strapWindow := false, pwrReq := true } })

/-- A field of a firmware container (R444). -/
def fwField (bs : List Byte) (off n : Nat) : Nat := leBytes ((bs.drop off).take n)

/-- CODE_LEN of a container, where it is valid (R444). -/
def fwCodeLen (bs : List Byte) : Option Nat :=
  let n := fwField bs 4 4
  if 4 ≤ n ∧ n ≤ 1048576 ∧ n % 4 = 0 then some n else none

/-- Whether a container passes the checks of R444. -/
def fwValid (s : State) (bs : List Byte) : Bool :=
  match fwCodeLen bs with
  | none => false
  | some n =>
    fwField bs 0 4 == 0x31574653 && decide (fwField bs 8 4 < n) && ((bs.drop 24).take 40).all (· == 0) &&
      decide (64 + n + 256 ≤ bs.length) && (blockFail s (bs.take (320 + n)) (64 + n)).isNone

/-- A measurement slot. -/
def State.measOf (s : State) (i : Nat) : BitVec 384 := SMap.get 0 s.mode.meas i

/-- A slot extended with a value (R447). -/
def extendMeas (s : State) (i : Nat) (v : List Byte) : State :=
  let w := BitVec.ofNat 384 (beBytes (Crypto.sha384 (toBeBytes 48 (s.measOf i).toNat ++ v)))
  { s with mode := { s.mode with meas := SMap.store 0 s.mode.meas i w } }

/-- The three extensions of the boot ROM (R447). -/
def measureFw (s : State) (bs : List Byte) (n : Nat) : State :=
  let sig := bs.drop (64 + n)
  let rec4 := fun (v : Nat) => toLeBytes 4 v
  let s1 := extendMeas s 0 ((sig.drop 8).take 48)
  let s2 := extendMeas s1 1 (Crypto.sha384 ((sig.drop 152).take 97))
  extendMeas s2 1 (rec4 (s.reg uMgt F.mgtStrapBootsrc.off).toNat ++ rec4 (s.reg uMgt F.mgtResetCausePor.off).toNat ++
    rec4 (fwField sig 5 1) ++ rec4 (s.fld uMgt F.mgtStrapBootsrc))

/-- A container that passed its checks handed over to (R443, R447, R448): loaded, measured; for BOOTSRC 0 with no region ACTIVE, an xSPI load
is opened; PHASE is RUNNING. -/
def handOver (s : State) (bs : List Byte) : State :=
  match fwCodeLen bs with
  | none => s
  | some n =>
    let s1 : State := { s with mode := { s.mode with code := (bs.drop 64).take n, container := [] } }
    let s2 := measureFw ((s1.setFld uMgt F.mgtFwVersionLoVersion (fwField bs 16 4)).setFld uMgt F.mgtFwVersionHiVersion (fwField bs 20 4)) bs n
    let s3 := if s.bootSrc = 0 ∧ s.bootPhase ≠ 4 ∧ !s.anyActive then
        openFrom (((s2.wakeDom 154).setFld uCfg F.cfgXspiBaseAddr (fwField bs 12 4)).setFld uMgt F.mgtBootAutoload 1) 0 4 true
      else s2
    s3.setFld uMgt F.mgtBootPhase 5

/-- A firmware failure (R443, R445): FW_FAIL, and the boot ROM waits at the boot window as for BOOTSRC 3. -/
def fwFailed (s : State) : State :=
  let s1 : State := { s.setFld uMgt F.mgtBootFwFail 1 with mode := { s.mode with container := [] } }
  (openHost s1).setFld uMgt F.mgtBootPhase 4

/-- HANDOVER (R443, R444, R447, R448): the container fetched from xSPI, or the one complete in the boot window, passes its checks. -/
def execHandover (container : List Byte) (s : State) : Out :=
  if s.mode.dormant then .next s
  else
    let bs := if s.bootPhase = 4 then s.mode.container else container
    if (s.bootPhase = 2 ∨ s.bootPhase = 4) ∧ fwValid s bs then .next (handOver s bs) else .next s

/-- The most bytes a container may have, once its CODE_LEN is known: rounded up to 64 (R445). -/
def fwRoom (bs : List Byte) : Option Nat := (fwCodeLen bs).map (fun n => (64 + n + 256 + 63) / 64 * 64)

/-- Whether the boot window has a whole container, or a head whose CODE_LEN is invalid (R444, R445). -/
def fwComplete (bs : List Byte) : Bool := decide (8 ≤ bs.length) && decide ((fwRoom bs).getD 0 ≤ bs.length)

/-- FW_FAIL (R443-R445): xSPI port 0 returns no data, or the container, complete in the boot window, fails a check. -/
def execFwFail (container : Option (List Byte)) (s : State) : Out :=
  if s.mode.dormant ∨ (s.bootPhase ≠ 2 ∧ s.bootPhase ≠ 4) then .next s
  else
    match container with
    | none => if s.bootPhase = 2 then .next (fwFailed s) else .next s
    | some bs =>
      let bs' := if s.bootPhase = 4 then s.mode.container else bs
      if fwValid s bs' || (s.bootPhase == 4 && !fwComplete bs') then .next s else .next (fwFailed s)

/-- SELFTEST_FAIL (R448, R452): CONTAIN with cause COMMAND, never resumable. -/
def execSelftestFail (s : State) : Out :=
  if s.mode.dormant ∨ s.bootPhase = 5 then .next s
  else
    let s1 : State := { s.setFld uMgt F.mgtBootSelftestFail 1 with mode := { s.mode with never := true } }
    .next (enterContain s1 5)

/-- A request to the boot window (R445). -/
def bootWindow (s : State) (p : Packet) : State :=
  if p.op ≠ opWrite ∨ (p.len ≠ 0 ∧ !p.fullEnables) ∨ p.icls ≠ 2 ∨ s.bootPhase ≠ 4 then s.reply p .prot
  else
    let bs := s.mode.container ++ p.payload
    match (if 8 ≤ bs.length then fwRoom bs else none) with
    | some room => if room < bs.length then s.reply p .tooLong else ({ s with mode := { s.mode with container := bs } }).reply p .ok
    | none => ({ s with mode := { s.mode with container := bs } }).reply p .ok

/-- BOOT_WINDOW_WRITE (R445). -/
def execBootWindowWrite (p : Packet) (s : State) : Out :=
  if !isRequest p.op || !s.arrived p then .next s
  else
    match mapAddr p.a48 with
    | .csr u off => if u = uMgt ∧ 0x800000 ≤ off ∧ off < 0xA00000 then .next (bootWindow s p) else .next s
    | _ => .next s

/-- AUTOFLIP (R449): the boot ROM's load has verified and step 3 is complete: its region set is flipped. -/
def execAutoflip (s : State) : Out :=
  if !s.flag uMgt F.mgtBootAutoflip || s.cfg.bootSet.isEmpty || s.bm.clearing || !s.span.calibrated || s.mode.overlay == .contain then .next s
  else .next (flipSet { s with cfg := { s.cfg with bootSet := [] } } s.cfg.bootSet)

/-- A management reset (R440, R442, R521): the core, its memory and the measurement slots start anew with the boot ROM; a management debug
session ends (log 75); all else stays. The fifth
within 10 s enters CONTAIN with cause MGTLOOP. `recent` are those of the last 10 s. -/
def managementReset (s : State) (recent : Nat) : State :=
  if 4 ≤ min recent s.mode.mgmtResets then
    enterContain { s.setFld uMgt F.mgtResetCauseMgtloop 1 with mode := { s.mode with reset := 0, mgmtResets := 0 } } 6
  else
    let s1 : State := { s with
      mode := { s.mode with code := [], meas := [], container := [], reset := 0, mgmtResets := s.mode.mgmtResets + 1 }
      dict := { s.dict with queue := [], session := [], wrong := false }
      dbg := { s.dbg with mgmtRegs := [] } }
    let s2 := [F.mgtBootPhase, F.mgtBootStrapErr, F.mgtBootSelftestFail, F.mgtBootFwFail, F.mgtBootAutoload].foldl
      (fun (t : State) f => t.setFld uMgt f 0) s1
    bootFetch (((s2.setFld uDbg F.dbgHstatHalted 0 32).setFld uDbg F.dbgHstatCause 0 32).setFld uDbg F.dbgStatusSession 0)

/-- MANAGEMENT_RESET (R440, R442): the scheduled reset takes effect. -/
def execManagementReset (recent : Nat) (s : State) : Out :=
  if s.mode.reset ≠ 1 ∨ s.mode.dormant then .next s else .next (managementReset (s.setFld uMgt F.mgtResetCauseMgtCmd 1) recent)

/-! ### DORMANT, wake sources, SERVICE, supplies (R437, R438, R450, R451, R455) -/

/-- Whether the command DORMANT is refused (R434, R435). -/
def dormantRefused (s : State) : Bool := s.mode.dormant || s.modeBusy || s.cfg.load.isSome || (List.range 128).any s.releasing

/-- DORMANT entered (R451). -/
def enterDormant (s : State) : State :=
  let s0 := zeroiseKeys (restDram (idlePcie (idleLanes s)))
  let s1 := sleepPins (if s.bankAsleep 0 then s0 else sleepPins s0 0 160) 160 32
  let s2 := stopDomains s1 allDomains
  let s3 := ((s2.setFld uClk F.clkOscStatusXtalQual 0).setFld uClk F.clkOscStatusHfRun 0).setFld uClk F.clkOscStatusSref 0
  showQual (loseLock { s3 with
    clk := { s3.clk with hfStart := false, halted := true }
    mode := { s3.mode with dormant := true, overlay := .none, under := .none, moving := [], exiting := false, pwrReq := false, reset := 0 } })

/-- DORMANT (R451). -/
def execDormant (icls : BitVec 3) (s : State) : Out :=
  if !modeWriter icls.toNat then .next (s.answer .prot)
  else if dormantRefused s then .next ((modeRefuse s).answer .ok)
  else .next ((enterDormant s).answer .ok)

/-- Whether a wake source can occur: the timer runs, or an interrupt is delivered to the management core (R450, R457, R506). -/
def wakeOccurs (s : State) (src : Nat) : Bool :=
  match src with
  | 0 => s.fld uMgt F.mgtWakeTmrLfCycles != 0
  | 4 => s.evt.assigned.any (fun e => e.2 == 64)
  | _ => true

/-- WAKE_SOURCE (R450, R451): an enabled source leaves DROWSE; sources 0-3 leave DORMANT at rest through a system reset, PWR_REQ high. -/
def execWakeSource (src : Fin 5) (s : State) : Out :=
  if !bitOf (s.fld uMgt F.mgtWakeEnSrc) src || !wakeOccurs s src then .next s
  else
    let noted := s.setFld uMgt F.mgtWakeSrcSrc (withBit (s.fld uMgt F.mgtWakeSrcSrc) src true)
    if s.mode.dormant then
      (if s.mode.pwrReq || s.mode.strapWindow || src.val == 4 then .next s
       else
        let t := systemReset noted F.mgtResetCauseDormantExit
        .next { t.setFld uClk F.clkOscStatusHfRun 1 with clk := { t.clk with hfStart := false } })
    else if s.drowsing then .next (leaveDrowse noted)
    else .next s

/-- SERVICE entered (R434, R435, R455): from MANAGE, STAGED or CONTAIN; pins released, region domains stopped, the rest running. -/
def enterService (s : State) : State :=
  if !(s.modeNo == 1 || s.modeNo == 3 || s.modeNo == 6) || s.modeBusy then modeRefuse s
  else
    let prev := s.modeNo
    let s1 := if s.mode.overlay = .contain then restart s else s
    let s2 := stopDomains (s1.setFld uMgt F.mgtModePrev prev) regionDomains
    { s2 with mode := { s2.mode with overlay := .service, under := .none } }

/-- Whether physical presence holds (R481). -/
def State.present (s : State) : Bool := s.flag uMgt F.mgtPresStatusPresent

/-- SERVICE_ENTER (R455): the presence object of function 0x00. -/
def execServiceEnter (s : State) : Out :=
  if s.present && !s.flag uMgt F.mgtPresStatusSealBroken && !s.mode.dormant then .next (enterService s) else .next s

/-- VCCIO_CHANGE (R437, R438): a VCCIO rail of user bank 0-23 or service bank 24-28 appears or disappears; bank 29 is the always-on bank, whose
rail is of group A: its fall is a power-on reset. -/
def execVccioChange (bank : Fin 30) (good : Bool) (s : State) : Out :=
  let b := bank.val
  if b < 24 then .next (s.setFld uMgt F.mgtSupplyIoVccioU (withBit (s.fld uMgt F.mgtSupplyIoVccioU) b good))
  else if b < 29 then .next (s.setFld uMgt F.mgtSupplyVccioS (withBit (s.fld uMgt F.mgtSupplyVccioS) (b - 24) good))
  else if good then .next s else .next (powerOnReset s (s.flag uMgt F.mgtPresStatusSealIntact))

end Sys2Proof.Machine
end

