-- ==== Sys2Proof/Machine/ErrColl.lean ====
section
/-! DEFINITION. The error path and the error collector (R39, R40, R493-R497). -/

namespace Sys2Proof.Machine

open Sys2Proof

/-- ERROR_REPORT_SEND (R39): a unit sends its oldest unreported report over the error path. -/
def execErrorReportSend (u : BitVec 8) (s : State) : Out :=
  match s.reports.find? (fun r => r.unit == u.toNat) with
  | none => .next s
  | some r => .next { s with reports := s.reports.erase r, path := s.path ++ [r] }

/-- The number of the overflow entry (R494). -/
def overflowEntry : Nat := 512

/-- An entry as a record with its FLAGS, COUNT and SYSID (R496). -/
def recordOf (n : Nat) (e : ErrEntry) (flags count sysid : Nat) : List Byte :=
  toLeBytes 1 e.unit ++ toLeBytes 1 e.cls ++ toLeBytes 1 flags ++ [0] ++ toLeBytes 4 (min count (2 ^ 32 - 1)) ++ toLeBytes 8 e.first ++
    toLeBytes 8 e.last ++ toLeBytes 4 e.detail ++ toLeBytes 2 sysid ++ toLeBytes 2 n

/-- REMOTE and OVERFLOW of a record (R496). -/
def entryFlags (n : Nat) (e : ErrEntry) : Nat := 4 * boolNat e.remote + 8 * boolNat (n == overflowEntry)

/-- SYSID of a record (R493, R496). -/
def entrySysid (e : ErrEntry) : Nat := if e.remote then e.sysid else 0

/-- An entry of the table replaced. -/
def State.setErr (s : State) (n : Nat) (e : ErrEntry) : State := { s with err := { s.err with entry := SMap.put s.err.entry n e } }

/-- ERR, source 1, follows the queue (R495, R507). -/
def showErr (s : State) : State := s.level 1 (!s.err.queue.isEmpty)

/-- A forwarded copy (R495): an LMSG of MTYPE 3 on FWD_PORT. The spec gives no PRI for it: a free value. -/
def forwardErr (s : State) (rec : List Byte) : State :=
  if !s.flag uErr F.mgtErrCtrlFwdEn then s
  else
    (s.sendReq { pri := BitVec.ofNat 2 s.fresh, opc := BitVec.ofNat 6 opLmsg, len := 1, tag := 0,
                 dst := BitVec.ofNat 11 (linkCode (s.fld uErr F.mgtErrCtrlFwdPort)), src := BitVec.ofNat 11 (codeOf 96 6),
                 label := BitVec.ofNat 16 (s.fld uErr F.mgtErrFwdLabel), icls := 4, stat := 0, addr := 0, aux := 0,
                 hoplim := BitVec.ofNat 8 (s.fld uErr F.mgtErrFwdHoplim), ext := 0x3000000000000000, hdata := 0,
                 body := toLines 1 rec }).draw

/-- A delivery queued, and forwarded with the errors added since the entry's previous delivery (R495). -/
def queueErr (s : State) (n flags : Nat) : State :=
  match SMap.find s.err.entry n with
  | none => s
  | some e =>
    let f := flags + entryFlags n e
    let s1 := s.setErr n { e with delivered := e.count }
    let s2 : State := { s1 with err := { s1.err with queue := s1.err.queue ++ [recordOf n e f e.count (entrySysid e)] } }
    let from_ := if e.remote then e.sysid else s.fld uCns F.cnsSysidSysid
    showErr (forwardErr s2 (recordOf n e f (e.count - e.delivered) from_))

/-- A delivery (R495): queued, or left pending behind a full queue. -/
def deliverErr (s : State) (n flags : Nat) : State :=
  if s.err.queue.length < 64 ∧ s.err.waiting.isEmpty then queueErr s n flags
  else { s with err := { s.err with waiting := s.err.waiting ++ [(n, flags)] } }

/-- Pending deliveries queued while there is space, oldest first (R495). -/
def drainErr : List (Nat × Nat) → State → State
  | [], s => s
  | (n, f) :: r, s =>
    if s.err.queue.length < 64 then drainErr r (queueErr { s with err := { s.err with waiting := r } } n f) else s

/-- A window of 0 µs (R493): every report is delivered. -/
def noWindow (s : State) : Bool := s.fld uErr F.mgtErrWindowUs == 0

/-- An entry created for a key (R493): delivered with NEW, its window opened. -/
def createErr (s : State) (n : Nat) (e : ErrEntry) : State := deliverErr (s.setErr n { e with isOpen := !noWindow s }) n 1

/-- A report added to an entry that exists (R493): an open one only counts it, a closed one is reopened and delivered with NEW. -/
def addErr (s : State) (n : Nat) (e : ErrEntry) (count now sysid : Nat) : State :=
  let e1 := { e with count := e.count + count, last := now, sysid := sysid }
  if e.isOpen && !noWindow s then s.setErr n { e1 with dirty := true }
  else deliverErr (s.setErr n { e1 with isOpen := !noWindow s, dirty := false }) n 1

/-- Entries of the table that no report uses. -/
def unusedErr (s : State) : List Nat := (List.range 512).filter (fun n => (SMap.find s.err.entry n).isNone)

/-- Closed entries without a pending delivery, those with the oldest LAST alone (R494). -/
def eligibleErr (s : State) : List Nat :=
  let l := s.err.entry.filter (fun x => x.1 != overflowEntry && !x.2.isOpen && !s.err.waiting.any (fun w => w.1 == x.1))
  let oldest := (l.map (fun x => x.2.last)).foldl min ((l.map (fun x => x.2.last)).headD 0)
  (l.filter (fun x => x.2.last == oldest)).map (·.1)

/-- One of a list, by a free value where it holds more than one. -/
def State.pick (s : State) (l : List Nat) : Nat := l.getD (s.fresh % l.length) 0

/-- A report with a new key takes an entry (R494): an unused one, else the closed one with the oldest LAST, else the overflow entry. Which of
several is free. -/
def newErr (s : State) (e : ErrEntry) : State :=
  match unusedErr s, eligibleErr s with
  | a :: l, _ => createErr s.draw (s.pick (a :: l)) e
  | [], a :: l => createErr s.draw (s.pick (a :: l)) e
  | [], [] =>
    let s1 := (s.setFld uErr F.mgtErrStatusOvf 1).countSat uErr F.mgtErrOvfCntCount e.count
    match SMap.find s1.err.entry overflowEntry with
    | some o => addErr s1 overflowEntry o e.count e.last 0
    | none => createErr s1 overflowEntry { e with unit := 0xFF, cls := 0, remote := false, sysid := 0 }

/-- A report received (R493), at a time in LF cycles since power-on reset. -/
def collect (s : State) (r : Report) (remote : Bool) (sysid now : Nat) : State :=
  let s1 := s.countSat uErr F.mgtErrTotalCount r.count
  match s1.err.entry.find? (fun x => x.1 != overflowEntry && x.2.unit == r.unit && x.2.cls == r.cls && x.2.remote == remote) with
  | some x => addErr s1 x.1 x.2 r.count now sysid
  | none =>
    newErr s1 { unit := r.unit, cls := r.cls, remote := remote, count := r.count, first := now, last := now, detail := r.detail, sysid := sysid }

/-- ERROR_REPORT_RECEIVE (R493): the oldest report on the error path, or the oldest that came over a link. -/
def execErrorReportReceive (remote : Bool) (now : Word64) (s : State) : Out :=
  if remote then
    match s.err.remote with
    | [] => .next s
    | (r, origin) :: l => .next (collect { s with err := { s.err with remote := l } } r true origin now.toNat)
  else
    match s.path with
    | [] => .next s
    | r :: l => .next (collect { s with path := l } r false 0 now.toNat)

/-- ERR_WINDOW_END (R493): an entry whose window brought reports is delivered with UPDATE and opens a new one; a quiet one closes. -/
def execErrWindowEnd (entry : Fin 513) (s : State) : Out :=
  match SMap.find s.err.entry entry with
  | none => .next s
  | some e =>
    if !e.isOpen then .next s
    else if e.dirty then .next (deliverErr (s.setErr entry { e with dirty := false }) entry 2)
    else .next (s.setErr entry { e with isOpen := false })

/-- ERR_DELIVERY_QUEUED (R495): pending deliveries take the space that has come free. -/
def execErrDeliveryQueued (s : State) : Out := .next (drainErr s.err.waiting s)

/-- The oldest record removed; a pending delivery takes its place (R495, R497). -/
def popErr (s : State) : State :=
  let s1 := showErr { s with err := { s.err with queue := s.err.queue.drop 1 } }
  drainErr s1.err.waiting s1

/-- ERR_POP (R497). -/
def execErrPop (s : State) : Out := .next (popErr s)

/-- The fields of unit 0x02 that the collector's tables hold (R497): PEND, QFULL, NUM of the queue and of the table, and the oldest record. -/
def errView (s : State) (off : Nat) (w : Word32) : Word32 :=
  if off = F.mgtErrStatusPend.off then
    putBits (putBits w 0 0 (boolNat (!s.err.queue.isEmpty))) 1 1 (boolNat (decide (64 ≤ s.err.queue.length)))
  else if off = F.mgtErrQnumNum.off then putBits w 6 0 s.err.queue.length
  else if off = F.mgtErrEntriesNum.off then putBits w 9 0 (s.err.entry.filter (fun x => x.1 != overflowEntry)).length
  else if 0x40 ≤ off ∧ off < 0x60 then BitVec.ofNat 32 (leBytes (((s.err.queue.headD []).drop (off - 0x40)).take 4))
  else w

end Sys2Proof.Machine
end

