-- ==== Sys2Proof/Machine/Event.lean ====
section
/-! DEFINITION. The event distributor, MGT_CORE_RUN and the watchdogs (R505-R516). -/

namespace Sys2Proof.Machine

open Sys2Proof

/-! ### Sources (R507-R510, R513) -/

/-- FE`j` of a region (R508): 0 without an ACTIVE plane, before RESETS, and while FP_EN = 0. -/
def feInput (s : State) (n j : Nat) : Bool := fpActs s n && s.stage n == 3 && fpInput s n (1044 + j)

/-- EVENT_EDGE (R508, R509): fabric events follow FE at an FPCLK edge; any other source has a rising edge where `v` holds. -/
def execEventEdge (n : BitVec 12) (v : Bool) (s : State) : Out :=
  let k := n.toNat
  if 2048 ≤ k then
    (if s.regionRuns ((k - 2048) / 16) || !feInput s ((k - 2048) / 16) (k % 16) then
      .next (s.level k (feInput s ((k - 2048) / 16) (k % 16)))
     else .next s)
  else if v then .next (s.edge k)
  else .next s

/-- EVENT_REASSIGN (R510): a source whose target is no longer eligible, or that waits without one, is assigned anew. -/
def execEventReassign (n : BitVec 12) (s : State) : Out := .next (s.assignEvt n.toNat)

/-- A rising edge on a software source (R531). -/
def swset (s : State) (num : Nat) : State := s.edge (1024 + num % 64)

/-- SWSET (R531). -/
def execSwset (num : BitVec 6) (s : State) : Out := .next (swset s num.toNat)

/-! ### Claim and completion (R511-R514) -/

/-- The better of two sources: the higher PRIO, the lower number among equals. -/
def betterSource (s : State) (a b : Nat) : Nat :=
  let pa := s.fld uEvt F.evtPrioPrio a
  let pb := s.fld uEvt F.evtPrioPrio b
  if pa < pb ∨ (pa = pb ∧ b < a) then b else a

/-- The source a claim of a target returns; 0 where none is assigned to it (R511). -/
def claimOf (s : State) (t : Nat) : Nat :=
  match (s.evt.assigned.filter (fun e => e.2 == t)).map (·.1) with
  | [] => 0
  | n :: r => r.foldl (betterSource s) n

/-- A claim (R511): PEND of the source is cleared and its ACTIVE set. -/
def claim (s : State) (t : Nat) : State :=
  let n := claimOf s t
  if n = 0 then s
  else
    let s1 := (s.setPend n false).setActive n true
    { s1 with evt := { s1.evt with
      assigned := SMap.erase s1.evt.assigned n
      lastClaim := SMap.put s1.evt.lastClaim n t
      claimer := SMap.put s1.evt.claimer n t } }

/-- A read of EVT_CLAIM (R511, R514, R523): with ICLS 3 while PEEK is 1 it changes nothing. -/
def claimRead (s : State) (t icls : Nat) : State := if icls = 3 ∧ s.flag uDbg F.dbgCtrlPeek then s else claim s t

/-- CLAIM (R511, R514). -/
def execClaim (t : Fin 65) (icls : BitVec 3) (s : State) : Out :=
  .next ((claimRead s t icls.toNat).answer .ok (toLeBytes 4 (claimOf s t)))

/-- Classes whose writes the distributor's registers accept (R531). -/
def evtWriter (icls : Nat) : Bool := icls == 0 || icls == 4

/-- A completion (R509, R511, R513): ACTIVE is cleared where this target claimed the source; a source still high is pending again. -/
def completeEvt (s : State) (t n : Nat) : State :=
  if s.evtActive n && SMap.find s.evt.claimer n == some t then
    let s1 := s.setActive n false
    let s2 : State := { s1 with evt := { s1.evt with claimer := SMap.erase s1.evt.claimer n } }
    (if s.evt.level.contains n then s2.setPend n true else s2).assignEvt n
  else s

/-- COMPLETION (R511). -/
def execCompletion (t : Fin 65) (n : BitVec 12) (icls : BitVec 3) (s : State) : Out :=
  if evtWriter icls.toNat then .next ((completeEvt s t n.toNat).answer .ok) else .next (s.answer .prot)

/-! ### Worker-core resets (R505) -/

/-- A worker core. -/
def State.coreX (s : State) (i : Nat) : CoreX := SMap.get {} s.cores.core i

/-- A worker core replaced. -/
def State.setCore (s : State) (i : Nat) (x : CoreX) : State := { s with cores := { s.cores with core := SMap.store {} s.cores.core i x } }

/-- A core cluster. -/
def State.clusterX (s : State) (c : Nat) : ClusterX := SMap.get {} s.cores.cluster c

/-- A core cluster replaced. -/
def State.setCluster (s : State) (c : Nat) (x : ClusterX) : State :=
  { s with cores := { s.cores with cluster := SMap.store {} s.cores.cluster c x } }

/-- The number of the PC among the registers of DBG_REGSEL (R532). -/
def regPc : Nat := 0x40

/-- The address in MGT_CORE_VEC; bits [1:0] are ignored (R530). -/
def coreVec (s : State) : Nat := s.fld uMgt F.mgtCoreVecHiVec * 2 ^ 32 + s.fld uMgt F.mgtCoreVecLoVec / 4 * 4

/-- Lines a core used last leave the caches where they were in its own cache alone, which is a free value for each (R505). -/
def discardLines (i : Nat) : SMap CacheLine → Nat → SMap CacheLine
  | [], _ => []
  | (k, l) :: r, n =>
    if l.core = i ∧ bitOf (Config.freeWord n).toNat 0 then discardLines i r (n + 1) else (k, l) :: discardLines i r (n + 1)

/-- A worker core reset (R239, R505): its take buffer and reservation are cleared, its cache contents discarded, its access in hand given
up. A core in debug halt leaves it, CAUSE RESET (R516). -/
def resetCore (s : State) (i : Nat) : State :=
  let c := i / 8
  let x := s.clusterX c
  let s1 := (s.setCore i {}).setCluster c { x with
    cache := discardLines i x.cache s.free
    waiting := x.waiting.filter (fun a => a.core != i) }
  let s2 : State := { s1 with free := s.free + x.cache.length }
  if s2.flag uDbg F.dbgHstatHalted i then (s2.setFld uDbg F.dbgHstatHalted 0 i).setFld uDbg F.dbgHstatCause 6 i else s2

/-- A core started at MGT_CORE_VEC (R505). -/
def startCore (s : State) (i : Nat) : State :=
  s.setCore i { s.coreX i with regs := SMap.store 0 (s.coreX i).regs regPc (BitVec.ofNat 64 (coreVec s)) }

/-- Whether a core is released. -/
def State.coreRuns (s : State) (i : Nat) : Bool := bitOf (s.fld uMgt F.mgtCoreRunRun) i

/-- MGT_CORE_RUN written: bits that rise start their cores, bits that fall reset theirs (R505). -/
def coreRunWrite (s : State) (run : Nat) : State :=
  let s1 := s.setFld uMgt F.mgtCoreRunRun run
  (List.range 32).foldl (fun (t : State) i =>
    if bitOf run i && !s.coreRuns i then startCore t i else if !bitOf run i && s.coreRuns i then resetCore t i else t) s1

/-- CORE_RUN (R505): accepted only from ICLS 4. -/
def execCoreRun (run : Word32) (icls : BitVec 3) (s : State) : Out :=
  if icls.toNat = 4 then .next ((coreRunWrite s run.toNat).answer .ok) else .next (s.answer .prot)

/-! ### Watchdogs (R515, R516) -/

/-- The unit of a watchdog: the distributor for the workers, unit 0x00 for the management core (index 32). -/
def wdUnit (i : Nat) : Nat := if i < 32 then uEvt else uMgt

/-- Fields of a watchdog: EN, HALT_FREEZE, RELOAD, COUNT. -/
def wdFld (i : Nat) (worker mgt : Fld) : Fld := if i < 32 then worker else mgt

/-- A field of a watchdog. -/
def wdGet (s : State) (i : Nat) (worker mgt : Fld) : Nat := s.fld (wdUnit i) (wdFld i worker mgt) (if i < 32 then i else 0)

/-- COUNT of a watchdog set. -/
def wdSetCount (s : State) (i v : Nat) : State :=
  s.setFld (wdUnit i) (wdFld i F.evtWdCountCount F.mgtWdogCountCount) v (if i < 32 then i else 0)

/-- EN of a watchdog. -/
def wdEn (s : State) (i : Nat) : Bool := wdGet s i F.evtWdCtrlEn F.mgtWdogCtrlEn != 0
/-- RELOAD of a watchdog. -/
def wdReload (s : State) (i : Nat) : Nat := wdGet s i F.evtWdReloadUs F.mgtWdogReloadLfCycles
/-- COUNT of a watchdog. -/
def wdCount (s : State) (i : Nat) : Nat := wdGet s i F.evtWdCountCount F.mgtWdogCountCount

/-- A watchdog stopped while its core is halted by debug (R516). -/
def wdFrozen (s : State) (i : Nat) : Bool :=
  wdGet s i F.evtWdCtrlHaltFreeze F.mgtWdogCtrlHaltFreeze != 0 && s.flag uDbg F.dbgHstatHalted i

/-- Whether a watchdog counts (R515, R516). -/
def wdCounts (s : State) (i : Nat) : Bool :=
  wdEn s i && !wdFrozen s i && (if i < 32 then s.coreRuns i && s.dom 155 == domRun else !s.mode.dormant)

/-- A kick (R515, R516): KEY 0x5A reloads COUNT, any other is ignored. -/
def wdKick (s : State) (i key : Nat) : State := if key = 0x5A ∧ !wdFrozen s i then wdSetCount s i (wdReload s i) else s

/-- Whether a class may write a watchdog's registers (R530, R531). -/
def wdWriter (i icls : Nat) : Bool := if i < 32 then evtWriter icls else icls == 4

/-- WATCHDOG_KICK (R515). -/
def execWatchdogKick (i : Fin 33) (key : Byte) (icls : BitVec 3) (s : State) : Out :=
  if wdWriter i icls.toNat then .next ((wdKick s i key.toNat).answer .ok) else .next (s.answer .prot)

/-- WATCHDOG_WARNING (R515): COUNT falls to RELOAD div 8. -/
def execWatchdogWarning (i : Fin 33) (s : State) : Out :=
  if wdCounts s i && decide (wdReload s i / 8 < wdCount s i) then .next ((wdSetCount s i (wdReload s i / 8)).edge (48 + i.val)) else .next s

/-- WATCHDOG_EXPIRE (R515, R516): a worker is reset and restarts at MGT_CORE_VEC; the management core's causes a management reset. What COUNT
holds after it is a free value. `recent` are the management resets of the last 10 s. -/
def execWatchdogExpire (i : Fin 33) (recent : Nat) (s : State) : Out :=
  if !wdCounts s i then .next s
  else
    let s1 := (wdSetCount s i s.fresh).draw
    if i.val < 32 then .next (startCore (resetCore (s1.raise uEvt 0x0D i) i) i)
    else .next (managementReset ((s1.raise uMgt 0x0D i).setFld uMgt F.mgtResetCauseMgtWdog 1) recent)

end Sys2Proof.Machine
end

