-- ==== Sys2Proof/Machine/Cores.lean ====
section
/-! DEFINITION. The worker cores' memory accesses: caches, I/O, LR and SC, take buffers, access faults (R239, R501-R504). -/

namespace Sys2Proof.Machine

open Sys2Proof

/-- The ingress port of a cluster. -/
def coreCode (c : Nat) : Nat := codeOf (coreNode c) 4

/-- Register numbers of DBG_REGSEL for mcause, mtval and mip (R504, R532; mcause codes PRESUMED of RISC-V). -/
def regMcause : Nat := 0x1342
/-- mtval. -/
def regMtval : Nat := 0x1343
/-- mip. -/
def regMip : Nat := 0x1344

/-- The access-fault cause of an operation: instruction 1, load 5, store/AMO 7. -/
def faultCause (op : CoreOp) : Nat :=
  match op with
  | .fetch => 1
  | .load => 5
  | .lr => 5
  | _ => 7

/-- An access fault raised on a core (R504). -/
def coreFault (s : State) (i : Nat) (op : CoreOp) (va : Word64) : State :=
  let x := s.coreX i
  let r1 := SMap.store 0 x.regs regMtval va
  s.setCore i { x with fault := some (faultCause op), regs := SMap.store 0 r1 regMcause (BitVec.ofNat 64 (faultCause op)) }

/-- An access completed with a value. -/
def coreValue (s : State) (i v : Nat) : State := s.setCore i { s.coreX i with fault := none, value := BitVec.ofNat 64 v }

/-- Whether an operation is an AMO. -/
def isAmo (op : CoreOp) : Bool :=
  match op with
  | .amoadd | .amoswap | .amoand | .amoor | .amoxor | .amomax | .amomin | .amomaxu | .amominu => true
  | _ => false

/-- The AOP an AMO is sent as (R503); none for the unsigned ones. -/
def aopOf (op : CoreOp) : Option Nat :=
  match op with
  | .amoadd => some 0
  | .amoswap => some 1
  | .amoand => some 3
  | .amoor => some 4
  | .amoxor => some 5
  | .amomax => some 6
  | .amomin => some 7
  | _ => none

/-- Whether an operation is one of Zicbom. -/
def isZicbom (op : CoreOp) : Bool :=
  match op with
  | .clean | .flush | .inval => true
  | _ => false

/-- What an AMO leaves in memory. -/
def amoResult (op : CoreOp) (w old v : Nat) : Nat :=
  match op with
  | .amomaxu => max old v
  | .amominu => min old v
  | _ => atomicResult ((aopOf op).getD 1) w old v 0

/-- Bytes of a line at an offset. -/
def lineBytes (l : Line) (off n : Nat) : Nat := l.toNat / 2 ^ (8 * off) % 2 ^ (8 * n)

/-- A line with bytes replaced. -/
def lineWith (l : Line) (off n v : Nat) : Line :=
  BitVec.ofNat 512 (l.toNat - lineBytes l off n * 2 ^ (8 * off) + v % 2 ^ (8 * n) * 2 ^ (8 * off))

/-- Reservations of the other cores of a cluster on a line that is written end (R503). -/
def breakReservations (s : State) (i line : Nat) : State :=
  (List.range 8).foldl (fun (t : State) j =>
    let k := i / 8 * 8 + j
    let x := t.coreX k
    if k ≠ i ∧ x.reserved = some line then t.setCore k { x with reserved := none } else t) s

/-- A line of a cluster's caches written by a core. -/
def writeCache (s : State) (i line : Nat) (d : Line) : State :=
  let x := s.clusterX (i / 8)
  breakReservations (s.setCluster (i / 8) { x with cache := SMap.put x.cache line ⟨d, true, i⟩ }) i line

/-- An access performed on a cached line (R502, R503). -/
def onLine (s : State) (a : CoreAcc) (l : Line) : State :=
  let i := a.core
  let line := a.addr / 64
  let off := a.addr % 64
  let old := lineBytes l off a.size
  let x := s.coreX i
  match a.op with
  | .fetch | .load => coreValue s i old
  | .store => coreValue (writeCache s i line (lineWith l off a.size a.data.toNat)) i 0
  | .lr => coreValue (s.setCore i { x with reserved := some line }) i old
  | .sc =>
    let s1 := s.setCore i { x with reserved := none }
    if x.reserved = some line then coreValue (writeCache s1 i line (lineWith l off a.size a.data.toNat)) i 0 else coreValue s1 i 1
  | .clean | .flush | .inval => coreValue s i 0
  | op => coreValue (writeCache s i line (lineWith l off a.size (amoResult op (8 * a.size) old (a.data.toNat % 2 ^ (8 * a.size))))) i old

/-- A request sent from a cluster's port under its next TAG; the access that waits for it, if one does, is recorded (R502). -/
def coreSend (s : State) (c : Nat) (p : Packet) (a : Option CoreAcc) : State :=
  let x := s.clusterX c
  let s1 := s.setCluster c { x with
    nextTag := (x.nextTag + 1) % 65536
    waiting := match a with
      | some q => x.waiting ++ [{ q with tag := x.nextTag }]
      | none => x.waiting }
  ingress s1 (coreCode c) { p with tag := BitVec.ofNat 16 x.nextTag }

/-- A READ or WRITE of a whole line at PRI 1 (R502). -/
def lineReq (op line : Nat) (d : Line) : Packet :=
  byteReq op 1 0 (line * 64) 64 (if op = opWrite then toLeBytes 64 d.toNat else [])

/-- A line written back if it is dirty (R502). -/
def evict (s : State) (c line : Nat) : State :=
  let x := s.clusterX c
  match SMap.find x.cache line with
  | none => s
  | some l =>
    let s1 := s.setCluster c { x with cache := SMap.erase x.cache line }
    if l.dirty then coreSend s1 c (lineReq opWrite line l.data) none else s1

/-- A Zicbom instruction on a cacheable address (R502): it completes once its write, if it has one, is answered. -/
def zicbom (s : State) (a : CoreAcc) : State :=
  let c := a.core / 8
  let line := a.addr / 64
  let x := s.clusterX c
  match SMap.find x.cache line with
  | none => coreValue s a.core 0
  | some l =>
    let s1 := s.setCluster c { x with
      cache := if a.op = .clean then SMap.put x.cache line { l with dirty := false } else SMap.erase x.cache line }
    if l.dirty && a.op != .inval then coreSend s1 c (lineReq opWrite line l.data) (some a) else coreValue s1 a.core 0

/-- A cacheable access (R502, R503): on a hit at once; else a victim leaves and the line is filled. -/
def cacheable (s : State) (a : CoreAcc) (victim : Option Nat) : State :=
  let c := a.core / 8
  let line := a.addr / 64
  if isZicbom a.op then zicbom s a
  else if a.op = .sc ∧ (s.coreX a.core).reserved ≠ some line then
    coreValue (s.setCore a.core { s.coreX a.core with reserved := none }) a.core 1
  else
    match SMap.find (s.clusterX c).cache line with
    | some l =>
      let x := s.clusterX c
      onLine (s.setCluster c { x with cache := SMap.put x.cache line { l with core := a.core } }) a l.data
    | none =>
      let s1 := match victim with
        | some v => if v = line then s else evict s c v
        | none => s
      coreSend s1 c (lineReq opRead line 0) (some a)

/-- An ATOMIC for an AMO (R503). -/
def atomicReq (addr aop size v : Nat) : Packet :=
  { pri := 2, opc := BitVec.ofNat 6 opAtomic, len := 0, tag := 0, dst := 0, src := 0, label := 0, icls := 0, stat := 0,
    addr := BitVec.ofNat 56 addr, aux := BitVec.ofNat 32 (aop + boolNat (size == 8) * 16), hoplim := 0,
    ext := BitVec.ofNat 64 (v % 2 ^ (8 * size)), hdata := 0, body := [] }

/-- An I/O access (R502, R503): one request at PRI 2; LR, SC and the unsigned AMOs raise an access fault. -/
def ioAccess (s : State) (a : CoreAcc) : State :=
  let c := a.core / 8
  match a.op with
  | .fetch | .load => coreSend s c (byteReq opRead 2 0 a.addr a.size []) (some a)
  | .store => coreSend s c (byteReq opWrite 2 0 a.addr a.size (toLeBytes a.size a.data.toNat)) (some a)
  | .lr | .sc => coreFault s a.core a.op a.va
  | .clean | .flush | .inval => coreValue s a.core 0
  | op =>
    match aopOf op with
    | some k => coreSend s c (atomicReq a.addr k a.size a.data.toNat) (some a)
    | none => coreFault s a.core op a.va

/-- The take window an address lies in: the slice, the profile and the offset in the window (R238). -/
def takeWindowOf (addr : Nat) : Option (Nat × Nat × Nat) :=
  if kidOf addr ≠ 0 then none
  else
    match mapAddr (addr % 2 ^ 48) with
    | .csr u off =>
      if unitKind u = .dsp ∧ 0x800000 ≤ off ∧ off < 0x802000 then some (u - uDsp 0, (off - 0x800000) / 0x80, off % 0x80) else none
    | _ => none

/-- The address of a take window. -/
def takeAddr (sl prof off : Nat) : Nat := 0x0E0000000000 + uDsp sl * 0x1000000 + 0x800000 + prof * 0x80 + off

/-- Bytes of a core's take buffer for a load at an operand offset (R239): 0 unless the core last took from this window. -/
def takeBufferValue (x : CoreX) (win off size : Nat) : Nat :=
  if x.takeWin = some win then leBytes ((x.takeBuf.drop off).take size) else 0

/-- An access to a take window (R239). -/
def takeAccess (s : State) (a : CoreAcc) (sl prof off : Nat) : State :=
  match a.op with
  | .load =>
    if off = 0 then
      (if a.size = 8 then coreSend s (a.core / 8) (byteReq opRead 2 0 a.addr 128 []) (some { a with take := true })
       else coreFault s a.core .load a.va)
    else if 8 ≤ off then coreValue s a.core (takeBufferValue (s.coreX a.core) (sl * 64 + prof) off a.size)
    else ioAccess s a
  | .fetch => ioAccess s a
  | .clean | .flush | .inval => coreValue s a.core 0
  | op => coreFault s a.core op a.va

/-- Whether an address is cacheable (R502): DRAM under any KID, or general plate memory. -/
def isCacheable (addr : Nat) : Bool :=
  match mapAddr (addr % 2 ^ 48) with
  | .dram => true
  | .sram off => kidOf addr == 0 && decide (0x5300000 ≤ off)
  | _ => false

/-- The core's answer to a response at its cluster's port (R239, R502-R504). -/
def coreAnswer (s : State) (a : CoreAcc) (p : Packet) : State :=
  let i := a.core
  if p.stat ≠ 0 then coreFault s i a.op a.va
  else if a.take then
    let bs := p.payload.take 128
    coreValue (s.setCore i { s.coreX i with
      takeBuf := bs
      takeWin := (takeWindowOf a.addr).map (fun w => w.1 * 64 + w.2.1) }) i (leBytes (bs.take 8))
  else if isZicbom a.op then coreValue s i 0
  else if isCacheable a.addr then
    let x := s.clusterX (i / 8)
    let l := p.body.getD 0 0
    onLine (s.setCluster (i / 8) { x with
      cache := SMap.put x.cache (a.addr / 64) ⟨l, false, i⟩
      fills := SMap.put x.fills (a.addr / 64) i }) a l
  else
    match a.op with
    | .fetch | .load => coreValue s i (leBytes (rspBytes p a.addr a.size))
    | .store => coreValue s i 0
    | _ => coreValue s i (p.ext.toNat % 2 ^ (8 * a.size))

/-- The answers at a cluster's port taken; one that no access waits for is a write-back's, or came too late for a core that was reset. -/
def absorbCore (s : State) (c : Nat) : State :=
  let np := s.netPort (coreCode c)
  np.delivered.foldl (fun (t : State) p =>
    let x := t.clusterX c
    match x.waiting.find? (fun a => a.tag == p.tag.toNat) with
    | some a => coreAnswer (t.setCluster c { x with waiting := x.waiting.erase a }) a p
    | none => t) (s.setNetPort (coreCode c) { np with delivered := [] })

/-- Whether a worker core executes: released, not halted, its cluster's clock running, no access in hand. -/
def coreReady (s : State) (i : Nat) : Bool :=
  s.coreRuns i && !s.flag uDbg F.dbgHstatHalted i && s.dom (144 + i / 8) == domRun && !s.clk.halted &&
    !(s.clusterX (i / 8)).waiting.any (fun a => a.core == i)

/-- An access of a worker core, by its address (R239, R502). -/
def coreAccess (s : State) (a : CoreAcc) (victim : Option Nat) : State :=
  let s1 := match takeWindowOf a.addr with
    | some (sl, prof, off) => takeAccess s a sl prof off
    | none => if isCacheable a.addr then cacheable s a victim else ioAccess s a
  absorbCore s1 (a.core / 8)

/-- CORE_MEMORY_ACCESS (R502, R503): a naturally aligned access of 2^`size` bytes at the device address its translation gave. -/
def execCoreMemoryAccess (core : Fin 32) (op : CoreOp) (va : Word64) (addr : BitVec 56) (size : Fin 4) (data : Word64)
    (victim : Option (BitVec 50)) (s : State) : Out :=
  let n := 2 ^ size.val
  if !coreReady s core || addr.toNat % n != 0 || ((isAmo op || op == .lr || op == .sc) && decide (n < 4)) then .next s
  else
    .next (coreAccess s { core := core, op := op, va := va, addr := addr.toNat, size := n, data := data } (victim.map (·.toNat)))

/-- TAKE_LOAD (R239): an aligned load of 8 bytes at offset 0 of a profile's window. -/
def execTakeLoad (core : Fin 32) (slice : Fin 8) (profile : Fin 64) (va : Word64) (s : State) : Out :=
  if !coreReady s core then .next s
  else .next (coreAccess s { core := core, op := .load, va := va, addr := takeAddr slice profile 0, size := 8, data := 0 } none)

/-- TAKE_BUFFER_LOAD (R239): an aligned load at offsets 8-127 of a profile's window. -/
def execTakeBufferLoad (core : Fin 32) (slice : Fin 8) (profile : Fin 64) (off : Fin 128) (size : Fin 4) (va : Word64) (s : State) : Out :=
  let n := 2 ^ size.val
  if !coreReady s core || decide (off.val < 8) || off.val % n != 0 then .next s
  else .next (coreAccess s { core := core, op := .load, va := va, addr := takeAddr slice profile off, size := n, data := 0 } none)

/-- A late alarm that names a request of a cluster (R504): the line is invalidated and local interrupt 16 raised on the core that issued
the request. -/
def coreAlarm (s : State) (r : AlarmRec) : State :=
  match (List.range 4).find? (fun c => coreCode c == r.src) with
  | none => s
  | some c =>
    let x := s.clusterX c
    let s1 := s.setCluster c { x with cache := SMap.erase x.cache (r.addr / 64) }
    match SMap.find x.fills (r.addr / 64) with
    | none => s1
    | some i =>
      let y := s1.coreX i
      s1.setCore i { y with regs := SMap.store 0 y.regs regMip (SMap.get 0 y.regs regMip ||| 0x10000#64) }

end Sys2Proof.Machine
end

