-- ==== Sys2Proof/Machine/Debug.lean ====
section
/-! DEFINITION. Debug of the cores: authorisation, key exchange, halts, registers, comparators and watches (R520-R526). -/

namespace Sys2Proof.Machine

open Sys2Proof

/-! ### Authorisation (R520, R521) -/

/-- CORE of DBG_LEVEL. -/
def coreLevel (s : State) : Nat := s.fld uDbg F.dbgLevelCore
/-- FABRIC of DBG_LEVEL. -/
def fabricLevel (s : State) : Nat := s.fld uDbg F.dbgLevelFabric
/-- Whether a management debug session is open. -/
def State.dbgSession (s : State) : Bool := s.flag uDbg F.dbgStatusSession

/-- Full debug of a core: level 2, or a session for the management core (index 32). -/
def dbgFull (s : State) (i : Nat) : Bool := if i < 32 then coreLevel s == 2 else s.dbgSession

/-- Whether a core's comparators act, and its DBG_HSTAT is readable: level 1 or more, or a session. -/
def dbgSome (s : State) (i : Nat) : Bool := if i < 32 then coreLevel s != 0 else s.dbgSession

/-- The device's UID, 16 bytes. -/
def uid : List Byte := (List.range 16).map (Config.identityByte 0)

/-- Free bytes, and how many draws they take. -/
def State.freshBytes (s : State) (n : Nat) : List Byte :=
  ((List.range ((n + 7) / 8)).flatMap (fun i => toLeBytes 8 (Config.freeWord (s.free + i)).toNat)).take n

/-- Draws of free bytes counted. -/
def State.drawBytes (s : State) (n : Nat) : State := { s with free := s.free + (n + 7) / 8 }

/-- Bytes of DBG_KX_BUF. -/
def kxBytes (s : State) (first n : Nat) : List Byte :=
  (List.range n).map (fun i => BitVec.ofNat 8 (s.fld uDbg F.dbgKxBufData ((first + i) / 4) / 256 ^ ((first + i) % 4)))

/-- Bytes put into DBG_KX_BUF. -/
def setKxBytes (s : State) (first : Nat) : List Byte → State
  | [] => s
  | b :: bs =>
    let k := first / 4
    setKxBytes (s.setReg uDbg (F.dbgKxBufData.at k 0)
      (putBits (s.reg uDbg (F.dbgKxBufData.at k 0)) (8 * (first % 4) + 7) (8 * (first % 4)) b.toNat)) (first + 1) bs

/-- An uncompressed P-384 public key: 0x04, X, Y. -/
def uncompressed (k : Nat × Nat) : List Byte := 0x04 :: (toBeBytes 48 k.1 ++ toBeBytes 48 k.2)

/-- The device refuses a step of the exchange. -/
def kxFail (s : State) : State := s.setFld uDbg F.dbgStatusKxFail 1

/-- START (R521): an ephemeral key pair and a challenge are drawn. `soon` means less than 1 s since a wrong answer. -/
def kxStart (s : State) (soon : Bool) : State :=
  if s.fuse.debugKey.isNone || s.fuse.returned || (s.dbg.kxWrong && soon) then kxFail s
  else
    let d := beBytes (s.freshBytes 48) % (Crypto.n384 - 1) + 1
    let s1 := s.drawBytes 48
    let ch := s1.freshBytes 48
    let s2 := s1.drawBytes 48
    let s3 : State := { s2 with dbg := { s2.dbg with kxKey := some d, kxChallenge := ch, kxWrong := false } }
    setKxBytes (setKxBytes s3 0 (uncompressed (Crypto.publicKey d))) 128 ch

/-- The answer that opens a session (R521). -/
def kxExpected (d : Nat) (authority challenge : List Byte) : List Byte :=
  let z := Crypto.ecdh d (beBytes ((authority.drop 1).take 48)) (beBytes ((authority.drop 49).take 48))
  Crypto.hmac384 (Crypto.hmac384 z (challenge ++ uid)) (challenge ++ [0x4D])

/-- ANSWER (R521): a correct answer in time opens the session; a wrong or late one raises class 0x14. -/
def kxAnswer (s : State) (late : Bool) : State :=
  let spent : State := { s with dbg := { s.dbg with kxKey := none, kxChallenge := [] } }
  let wrong : State := kxFail { spent with dbg := { spent.dbg with kxWrong := true } }
  match s.dbg.kxKey, s.fuse.debugKey with
  | some d, some a =>
    if !late && kxBytes s 192 48 == kxExpected d a s.dbg.kxChallenge then spent.setFld uDbg F.dbgStatusSession 1
    else wrong.raise uDbg 0x14
  | _, _ => wrong.raise uDbg 0x14

/-- The session ends (R521). -/
def kxClose (s : State) : State := s.setFld uDbg F.dbgStatusSession 0

/-- KX_START (R521). -/
def execKxStart (soon : Bool) (_icls : BitVec 3) (s : State) : Out := .next ((kxStart s soon).answer .ok)

/-- KX_ANSWER (R521). -/
def execKxAnswer (late : Bool) (_icls : BitVec 3) (s : State) : Out := .next ((kxAnswer s late).answer .ok)

/-- KX_CLOSE (R521). -/
def execKxClose (_icls : BitVec 3) (s : State) : Out := .next ((kxClose s).answer .ok)

/-- KX_SESSION_TIMEOUT (R521): 30 minutes without a debug request. -/
def execKxSessionTimeout (s : State) : Out := .next (kxClose s)

/-! ### Halt, step, resume (R516, R524, R525) -/

/-- Whether a core is halted by debug. -/
def halted (s : State) (i : Nat) : Bool := s.flag uDbg F.dbgHstatHalted i

/-- Whether a core executes instructions. -/
def coreAlive (s : State) (i : Nat) : Bool := if i < 32 then s.coreRuns i else !s.mode.dormant

/-- The registers of a core by the numbers of DBG_REGSEL. -/
def coreRegs (s : State) (i : Nat) : SMap Word64 := if i < 32 then (s.coreX i).regs else s.dbg.mgmtRegs

/-- A core's registers replaced. -/
def setCoreRegs (s : State) (i : Nat) (m : SMap Word64) : State :=
  if i < 32 then s.setCore i { s.coreX i with regs := m } else { s with dbg := { s.dbg with mgmtRegs := m } }

/-- Registers as the core's software has left them. -/
def seeRegs (s : State) (i : Nat) (regs : List (BitVec 16 × Word64)) : State :=
  setCoreRegs s i (regs.foldl (fun m r => SMap.store 0 m r.1.toNat r.2) (coreRegs s i))

/-- A core's reservation cleared (R525). -/
def clearReservation (s : State) (i : Nat) : State := if i < 32 then s.setCore i { s.coreX i with reserved := none } else s

/-- A core enters debug halt with a cause: its reservation is cleared, and source 12 has an edge (R507, R524, R525). -/
def enterHalt (s : State) (i cause : Nat) (regs : List (BitVec 16 × Word64)) : State :=
  (((clearReservation (seeRegs s i regs) i).setFld uDbg F.dbgHstatHalted 1 i).setFld uDbg F.dbgHstatCause cause i).edge 12

/-- HALT of a core that executes (R524). -/
def haltCore (s : State) (i : Nat) (regs : List (BitVec 16 × Word64)) : State :=
  if coreAlive s i && !halted s i then enterHalt s i 1 regs else s

/-- A watchdog whose core resumes starts again from RELOAD while HALT_FREEZE = 1 (R516). -/
def thawWatchdog (s : State) (i : Nat) : State := if wdFrozen s i then wdSetCount s i (wdReload s i) else s

/-- RESUME of a halted core (R524). -/
def resumeCore (s : State) (i : Nat) : State := if halted s i then (thawWatchdog s i).setFld uDbg F.dbgHstatHalted 0 i else s

/-- STEP of a halted core: one instruction, and it halts again (R524, R525). -/
def stepCore (s : State) (i : Nat) (regs : List (BitVec 16 × Word64)) : State :=
  if halted s i then enterHalt (thawWatchdog s i) i 2 regs else s

/-- DBG_HALT (R524): refused without the level or session (R520, R521). -/
def execDbgHalt (i : Fin 33) (regs : List (BitVec 16 × Word64)) (s : State) : Out :=
  if dbgFull s i then .next ((haltCore s i regs).answer .ok) else .next (s.answer .prot)

/-- DBG_RESUME (R524). -/
def execDbgResume (i : Fin 33) (s : State) : Out :=
  if dbgFull s i then .next ((resumeCore s i).answer .ok) else .next (s.answer .prot)

/-- DBG_STEP (R524, R525). -/
def execDbgStep (i : Fin 33) (regs : List (BitVec 16 × Word64)) (s : State) : Out :=
  if dbgFull s i then .next ((stepCore s i regs).answer .ok) else .next (s.answer .prot)

/-- EBREAK_HALT (R524): EBREAK while EBREAK_EN is 1. -/
def execEbreakHalt (i : Fin 33) (regs : List (BitVec 16 × Word64)) (s : State) : Out :=
  if s.flag uDbg F.dbgHctlEbreakEn i && dbgFull s i && coreAlive s i && !halted s i then .next (enterHalt s i 5 regs) else .next s

/-! ### Register access (R524, R532) -/

/-- The numbers of DBG_REGSEL that name a register. -/
def isReg (r : Nat) : Bool := decide (r ≤ 0x40) || (decide (0x1000 ≤ r) && decide (r < 0x2000))

/-- DBG_REGDATA. -/
def regData (s : State) (i : Nat) : Word64 :=
  BitVec.ofNat 64 (s.fld uDbg F.dbgRegdataHiData i * 2 ^ 32 + s.fld uDbg F.dbgRegdataLoData i)

/-- A register of a halted core read into DBG_REGDATA or written from it; x0 is 0. -/
def registerAccess (s : State) (i : Nat) (write : Bool) (r : Nat) : State :=
  if !isReg r then s
  else if write then (if r = 0 then s else setCoreRegs s i (SMap.store 0 (coreRegs s i) r (regData s i)))
  else
    let v := if r = 0 then 0 else (SMap.get 0 (coreRegs s i) r).toNat
    (s.setFld uDbg F.dbgRegdataLoData v i).setFld uDbg F.dbgRegdataHiData (v / 2 ^ 32) i

/-- REGISTER_ACCESS (R520, R521, R524): permitted only while the core is halted. -/
def execRegisterAccess (i : Fin 33) (write : Bool) (reg : BitVec 16) (s : State) : Out :=
  if dbgFull s i && halted s i then .next ((registerAccess s i write reg.toNat).answer .ok) else .next (s.answer .prot)

/-! ### Comparators and watches (R526) -/

/-- A 64-bit value of two registers of a core's block. -/
def pair (s : State) (lo hi : Fld) (i k : Nat) : Nat := s.fld uDbg hi i k * 2 ^ 32 + s.fld uDbg lo i k

/-- Whether comparator `k` matches an address of an access type that it enables. -/
def cmpAddr (s : State) (i k : Nat) (type : Fld) (addr : Nat) : Bool :=
  s.flag uDbg type i k &&
    ((decide (pair s F.dbgBloLoLo F.dbgBloHiLo i k ≤ addr) && decide (addr ≤ pair s F.dbgBhiLoHi F.dbgBhiHiHi i k)) !=
      s.flag uDbg F.dbgBcfgOut i k)

/-- Whether comparator `k` alone matches an instruction at `pc` with its accesses: each a write or not, and its address. -/
def cmpAlone (s : State) (i k pc : Nat) (acc : List (Bool × Word64)) (ctx : Nat) : Bool :=
  s.flag uDbg F.dbgBcfgEn i k &&
    (cmpAddr s i k F.dbgBcfgX pc || acc.any (fun a => cmpAddr s i k (if a.1 then F.dbgBcfgW else F.dbgBcfgR) a.2.toNat)) &&
    (!s.flag uDbg F.dbgBcfgCtxen i k || (ctx ^^^ s.fld uDbg F.dbgBctxCtxid i k) &&& s.fld uDbg F.dbgBctxMask i k == 0)

/-- Whether the chain that ends at comparator `k` matches: the comparator and every one linked to it. -/
def cmpChain (s : State) (i pc : Nat) (acc : List (Bool × Word64)) (ctx : Nat) : Nat → Bool
  | 0 => cmpAlone s i 0 pc acc ctx
  | k + 1 => cmpAlone s i (k + 1) pc acc ctx && (!s.flag uDbg F.dbgBcfgLink i k || cmpChain s i pc acc ctx k)

/-- The actions of the chains that match: of comparators that are the last of a chain. -/
def cmpActions (s : State) (i pc : Nat) (acc : List (Bool × Word64)) (ctx : Nat) : List Nat :=
  ((List.range 8).filter (fun k => (k == 7 || !s.flag uDbg F.dbgBcfgLink i k) && cmpChain s i pc acc ctx k)).map
    (fun k => s.fld uDbg F.dbgBcfgAction i k)

/-- An action taken (R520, R526): EVENT, or HALT, which is EVENT at level 1. -/
def act (s : State) (i cause : Nat) (actions : List Nat) (regs : List (BitVec 16 × Word64)) : State :=
  let s1 := if actions.contains 2 || (actions.contains 1 && !dbgFull s i) then s.edge 13 else s
  if actions.contains 1 && dbgFull s i then enterHalt s1 i cause regs else s1

/-- COMPARATOR_MATCH (R526): an instruction of a core that executes, against its comparators. -/
def execComparatorMatch (i : Fin 33) (pc : Word64) (acc : List (Bool × Word64)) (scontext : BitVec 16)
    (regs : List (BitVec 16 × Word64)) (s : State) : Out :=
  if !dbgSome s i || !coreAlive s i || halted s i then .next s
  else .next (act s i 3 (cmpActions s i pc.toNat acc scontext.toNat) regs)

/-- Whether a watch matches a load or store (R526). -/
def watchMatches (s : State) (i w pc : Nat) (write : Bool) (addr : Word64) (size value ctx : Nat) : Bool :=
  s.flag uDbg F.dbgWcfgEn i w && s.fld uDbg F.dbgWcfgSize i w == size &&
    (List.range 8).all (fun b => !bitOf (s.fld uDbg F.dbgWcfgBytemask i w) b ||
      bitsOf value (8 * b + 7) (8 * b) == bitsOf (pair s F.dbgWvalLoValue F.dbgWvalHiValue i w) (8 * b + 7) (8 * b)) &&
    (!s.flag uDbg F.dbgWcfgCmpen i w || cmpAlone s i (s.fld uDbg F.dbgWcfgCmp i w) pc [(write, addr)] ctx)

/-- WATCH_MATCH (R526): a load or store of 2^`size` bytes, against one watch. -/
def execWatchMatch (i : Fin 33) (w : Fin 4) (pc : Word64) (write : Bool) (addr : Word64) (size : Fin 4) (value : Word64)
    (scontext : BitVec 16) (regs : List (BitVec 16 × Word64)) (s : State) : Out :=
  if !dbgSome s i || !coreAlive s i || halted s i then .next s
  else if watchMatches s i w pc.toNat write addr size value.toNat scontext.toNat then
    .next (act s i 4 [s.fld uDbg F.dbgWcfgAction i w] regs)
  else .next s

end Sys2Proof.Machine
end

