-- ==== Sys2Proof/Machine/Probe.lean ====
section
/-! DEFINITION. The debug unit's requests, the probe multiplexers, the proof pins and capture (R522, R527-R529). -/

namespace Sys2Proof.Machine

open Sys2Proof

/-- The ingress port of the debug unit and the probe multiplexers. -/
def dbgCode : Nat := codeOf 96 8

/-- A request of the debug unit or of capture sent under its next TAG, its flits charged to a budget channel (R423, R522, R529). No
rule states its PRI: a free value (log 13). -/
def dbgSend (s : State) (channel : Nat) (p : Packet) : State :=
  let s1 : State := (s.charge channel 0 (1 + p.body.length))
  ingress { s1.draw with dbg := { s1.dbg with nextTag := (s1.dbg.nextTag + 1) % 65536 } } dbgCode
    { p with pri := BitVec.ofNat 2 (s1.fresh % 3), tag := BitVec.ofNat 16 s.dbg.nextTag }

/-! ### Probes (R527, R528) -/

/-- A probe output of a region: 0 while it is power-gated or has no ACTIVE plane. -/
def probeOut (s : State) (n j : Nat) : Bool :=
  if (s.active n).isNone || s.dom n == domOff then false
  else
    let col := s.fld uPrb F.prbSelX n j
    let row := s.fld uPrb F.prbSelY n j
    let c := s.fld uPrb F.prbSelCell n j
    if s.flag uPrb F.prbSelQ n j then qOf s n col row c else oOf s n col row c

/-- The 64 probe lines. -/
def probeLines (s : State) : Word64 :=
  BitVec.ofNat 64 ((List.range 64).map (fun p =>
    boolNat (probeOut s (s.fld uPrb F.prbPinRegion p) (s.fld uPrb F.prbPinOut p)) * 2 ^ p)).sum

/-- What a proof pin drives; none while it is high impedance (R528). -/
def proofPin (s : State) (p : Nat) : Option Bool :=
  if s.mode.dormant || s.mode.overlay == .contain then none
  else some (s.flag uPrb F.prbPinEn p && fabricLevel s != 0 && bitOf s.dbg.pinOut.toNat p)

/-! ### Capture (R529) -/

/-- RUNNING. -/
def capturing (s : State) : Bool := s.flag uPrb F.prbCapStatRunning

/-- Bytes of the ring. -/
def ringBytes (s : State) : Nat := s.fld uPrb F.prbCapSizePages * 4096

/-- The address of the next write. -/
def ringAddr (s : State) : Nat :=
  (s.fld uPrb F.prbCapBaseHiBase % 2 ^ 16 * 2 ^ 32 + s.fld uPrb F.prbCapBaseLoBase) / 4096 * 4096 + s.fld uPrb F.prbCapPtrOffset

/-- DONE once POST flits have followed the trigger. -/
def captureDone (s : State) : State :=
  if capturing s && s.flag uPrb F.prbCapStatTriggered && s.dbg.post == 0 then
    ({ s with dbg := { s.dbg with samples := [], flits := [] } }.setFld uPrb F.prbCapStatDone 1).setFld uPrb F.prbCapStatRunning 0
  else s

/-- The trigger: a sample with (lines AND MASK) = VAL. -/
def captureTrigger (s : State) (sample : Word64) : State :=
  let mask := s.fld uPrb F.prbCapMaskHiMask * 2 ^ 32 + s.fld uPrb F.prbCapMaskLoMask
  let val := s.fld uPrb F.prbCapValHiVal * 2 ^ 32 + s.fld uPrb F.prbCapValLoVal
  if capturing s && !s.flag uPrb F.prbCapStatTriggered && sample.toNat &&& mask == val then
    captureDone { s.setFld uPrb F.prbCapStatTriggered 1 with dbg := { s.dbg with post := s.fld uPrb F.prbCapPostFlits } }
  else s

/-- The oldest flit written to the ring. -/
def writeFlit (s : State) (l : Line) (rest : List Line) : State :=
  let p := byteReq opWrite 1 0 (ringAddr s) 64 (toLeBytes 64 l.toNat)
  let s1 := dbgSend { s with dbg := { s.dbg with
    flits := rest
    post := if s.flag uPrb F.prbCapStatTriggered then s.dbg.post - 1 else s.dbg.post } } 9 p
  captureDone (s1.setFld uPrb F.prbCapPtrOffset ((s.fld uPrb F.prbCapPtrOffset + 64) % ringBytes s))

/-- Flits that wait written while the budget admits them. -/
def drainFlits : Nat → State → State
  | 0, s => s
  | k + 1, s =>
    match s.dbg.flits with
    | [] => s
    | l :: r => if s.admits 9 0 then drainFlits k (writeFlit s l r) else s.hold 9 0

/-- A sample of the lines taken by capture: eight make a flit; one that finds all 64 flits waiting is lost. -/
def captureSample (s : State) (v : Word64) : State :=
  if !capturing s || fabricLevel s == 0 then s
  else if 64 ≤ s.dbg.flits.length then s.countSat uPrb F.prbCapLostCount
  else
    let l := s.dbg.samples ++ [v]
    let s1 : State :=
      if l.length = 8 then
        { s with dbg := { s.dbg with samples := [], flits := s.dbg.flits ++ [BitVec.ofNat 512 (leBytes (l.flatMap (fun w => toLeBytes 8 w.toNat)))] } }
      else { s with dbg := { s.dbg with samples := l } }
    drainFlits 64 (captureTrigger s1 v)

/-- The answers at the debug unit's port that nothing waits for, those of capture, are taken off it. -/
def dropCaptureAnswers (s : State) : State :=
  let np := s.netPort dbgCode
  let tag := s.dbg.waiting.map (·.2)
  s.setNetPort dbgCode { np with delivered := np.delivered.filter (fun p => tag == some p.tag.toNat) }

/-- One span cycle of the probe multiplexers (R528): every DIV + 1 cycles the lines are sampled; a sample reaches the pins 8 span cycles
later. -/
def probeEdge (s : State) : State :=
  let take := decide (s.fld uPrb F.prbCtrlDiv ≤ s.dbg.phase)
  let v := if take then probeLines s else s.dbg.line.getLastD 0
  let l := s.dbg.line ++ [v]
  let s1 : State := { s with dbg := { s.dbg with
    phase := if take then 0 else s.dbg.phase + 1
    line := if 8 < l.length then l.drop 1 else l
    pinOut := if 8 < l.length then l.headD 0 else s.dbg.pinOut } }
  if take then dropCaptureAnswers (captureSample s1 v) else s1

/-- SPAN_EDGE (R70, R71, R528): an edge of the span clock, which is stopped in CONTAIN, in DROWSE with every region, and before the mesh
runs. -/
def execSpanEdge (s : State) : Out :=
  if s.clk.halted || s.clk.spanOff then .next s else .next (probeEdge (spanEdge s.latchAsync))

/-- ARM (R529): capture starts at offset 0 of the ring; a SIZE of 0 makes it ignored. -/
def captureArm (s : State) : State :=
  if s.fld uPrb F.prbCapSizePages = 0 then s
  else
    (({ s with dbg := { s.dbg with samples := [], flits := [], post := 0 } }.setFld uPrb F.prbCapStatRunning 1).setFld uPrb
      F.prbCapStatTriggered 0).setFld uPrb F.prbCapPtrOffset 0

/-- STOP (R533): capture ends at once. -/
def captureStop (s : State) : State :=
  { s with dbg := { s.dbg with samples := [], flits := [] } }.setFld uPrb F.prbCapStatRunning 0

/-- CAPTURE_ARM (R520, R529): refused at FABRIC level 0. -/
def execCaptureArm (s : State) : Out := if fabricLevel s = 0 then .next (s.answer .prot) else .next ((captureArm s).answer .ok)

/-- CAPTURE_STOP (R533). -/
def execCaptureStop (s : State) : Out := .next ((captureStop s).answer .ok)

/-- CAPTURE_TRIGGER (R529): the latest sample meets the trigger. -/
def execCaptureTrigger (s : State) : Out := .next (captureTrigger s (s.dbg.line.getLastD 0))

/-- CAPTURE_DONE (R529): the last flit after the trigger has been written. -/
def execCaptureDone (s : State) : Out := .next (captureDone s)

end Sys2Proof.Machine
end

