-- ==== Sys2Proof/Machine/Csr.lean ====
section
/-! DEFINITION. CSR accesses: what a read shows, what a write does, which classes may write (R6-R13, R38, and the register tables). -/

namespace Sys2Proof.Machine

open Sys2Proof

/-! ### Fields (R6, R9) -/

/-- Whether a field has an encoding. -/
def FieldD.allows (f : FieldD) (v : Nat) : Bool := f.ok.isEmpty || f.ok.any (fun r => decide (r.1 ≤ v) && decide (v ≤ r.2))

/-- A register's word after a write by its access codes: rw fields take defined encodings, w1c bits written 1 clear, the rest stay. -/
def mergeWrite (r : RegD) (old new : Word32) : Word32 :=
  r.fields.foldl (fun w f =>
    match f.acc with
    | .rw => if f.allows (getBits new f.hi f.lo) then putBits w f.hi f.lo (getBits new f.hi f.lo) else w
    | .w1c => putBits w f.hi f.lo (getBits (w &&& ~~~new) f.hi f.lo)
    | _ => w) old

/-- What a read shows of a stored word: wo fields and reserved bits read 0. -/
def shown (r : RegD) (w : Word32) : Word32 :=
  r.fields.foldl (fun v f => if f.acc = .wo then v else putBits v f.hi f.lo (getBits w f.hi f.lo)) 0

/-- A register written by its access codes alone. -/
def State.plainWrite (s : State) (u off : Nat) (v : Word32) : State :=
  match regAt (unitKind u) off with
  | some r => s.setReg u off (mergeWrite r (s.reg u off) v)
  | none => s

/-- A written word with one field as it is: a write to that field is ignored. -/
def State.keep (s : State) (u off : Nat) (v : Word32) (f : Fld) : Word32 := putBits v f.hi f.lo (getBits (s.reg u off) f.hi f.lo)

/-- A written word with one field kept where a condition holds. -/
def State.keepIf (s : State) (c : Bool) (u off : Nat) (v : Word32) (f : Fld) : Word32 := if c then s.keep u off v f else v

/-- A bit of a written word. -/
def bit (v : Word32) (n : Nat) : Bool := bitOf v.toNat n

/-- The index of an offset in a table of registers. -/
def ix (off base stride : Nat) : Nat := (off - base) / stride

/-- Whether an offset lies in a range. -/
def within (off lo hi : Nat) : Bool := decide (lo ≤ off) && decide (off < hi)

/-- A free truth value, drawn. -/
def State.freeBit (s : State) : Bool × State := (s.fresh % 2 == 1, s.draw)

/-! ### Which offsets hold a register (R13) -/

/-- Whether a unit implements a register at an offset (R13, R191, R385). -/
def csrImplemented (u off : Nat) : Bool :=
  unitAssigned u && (regAt (unitKind u) off).isSome &&
  (match unitKind u with
   | .noc => decide (off < 0x1000) || (portOccupied (u - 0x60) (ix off 0x1000 0x100) && ix off 0x1000 0x100 != 12)
   | .lane => decide (off < 0x3000) || off % 0x100 == 0x0C || within (off % 0x100) 0x20 0x2C
   | _ => true)

/-! ### Who may access (R38, R161, R267, R286, R287, R341, R387, R458, R490, R520, R530-R532, R548, R553) -/

/-- An access by device firmware: over the private path, or with ICLS 4. -/
def mgmtAccess (icls : Nat) (priv : Bool) : Bool := priv || icls == 4

/-- The decision for a tap engine's block (R161). -/
def tapStat (s : State) (i off : Nat) (write : Bool) : Stat :=
  let r := off % 0x1000
  let st := s.ef i F.tapStatusState
  if st = tapHeld then
    (if !write && (r == 0x04 || r == 0x08 || r == 0x3C || r == 0x48 || r == 0x4C) then .ok else .busy)
  else if st = tapRun && (decide (0x800 ≤ r) || (write && within r 0x20 0x40)) then .busy
  else .ok

/-- The decision for a core's debug block (R520, R524, R532). -/
def dbgBlockStat (s : State) (off : Nat) (write : Bool) : Stat :=
  let i := ix off 0x1000 0x200
  let r := (off - 0x1000) % 0x200
  let open' := if i = 32 then s.dbgSession
    else coreLevel s == 2 || (coreLevel s == 1 && (decide (0x80 ≤ r) || (r == 4 && !write)))
  if !open' then .prot
  else if within r 0x08 0x14 && !halted s i then .prot
  else .ok

/-- The decision for the burin's registers (R267, R286, R287). -/
def cfgStat (s : State) (off : Nat) (write : Bool) (icls src : Nat) (mgmt : Bool) : Stat :=
  if 0x400000 ≤ off then
    (if slAdmitted s icls src || (mgmt && !write && off == 0x400004) then .ok else .prot)
  else if !write || mgmt then .ok
  else if off = 0 ∨ within off 0x60 0x74 then .prot
  else if off = 4 ∨ within off 0x10 0x20 ∨ within off 0x24 0x2C ∨ within off 0x30 0x48 then
    (if cfgAccepts s icls then .ok else .prot)
  else .ok

/-- The decision on one register of an access, all of whose registers are implemented. -/
def csrStat (s : State) (u off : Nat) (write : Bool) (v : Word32) (icls src : Nat) (priv : Bool) : Stat :=
  let mgmt := mgmtAccess icls priv
  let only := fun (b : Bool) => if write && b && !mgmt then Stat.prot else Stat.ok
  match unitKind u with
  | .mgt =>
    if within off 0x30000 0x30020 then (if mgmt then .ok else .prot)
    else only (off == 0x10004 || off == 0x10010 || within off 0x1003C 0x10070 || within off 0x20010 0x20050)
  | .cfg => cfgStat s off write icls src mgmt
  | .ipe => only (off == 0x140 || within off 0x150 0x178 || within off 0x1000 0x2000)
  | .pci => only (off == 0 || (within off 0x10000 0x10100 && off % 0x20 == 0))
  | .evt => if write && off != 0x4400 && !evtWriter icls && !priv then .prot else .ok
  | .dbg => if 0x1000 ≤ off then dbgBlockStat s off write else only (off == 4)
  | .prb => if write && off == 0x804 && bit v 31 && fabricLevel s == 0 then .prot else .ok
  | .pin => only (decide (off < 0x280))
  | .ao => only (decide (off < 0x80) || off == 0x10C)
  | .die =>
    if within off 0x800000 0xC00000 then tapStat s ((u - 0x50) * 1024 + ix off 0x800000 0x1000) off write else .ok
  | _ => .ok

/-! ### Reads -/

/-- Lanes 32-39 of a lane die that are in L0 (R368, R384, R386). -/
def pcieLanes (s : State) (k : Nat) : Nat :=
  let u := uPci (k / 2)
  let b := (s.pciCtl (k / 2)).bifur && k % 2 == 1
  let up := if b then s.flag u F.pciStatusUpB else s.flag u F.pciStatusUpA
  let width := if b then s.fld u F.pciStatusWidthB else s.fld u F.pciStatusWidthA
  ((List.range 8).map (fun i => boolNat (up && decide (i + (if b then 0 else k % 2 * 8) < width)) * 2 ^ i)).sum

/-- What a log or quarantine register of a protection engine shows (R342). -/
def ipeView (s : State) (e off : Nat) : Option Nat :=
  let a := (s.alarmLog e).headD ⟨0, 0, 0, 0, 0⟩
  let q := (s.quar e).getD (s.fld (uIpe e) F.ipeQuarSelEntry) ⟨0, 0, 0⟩
  if off = 0x40 then some (s.alarmLog e).length
  else if off = 0x44 then some (a.addr % 2 ^ 32)
  else if off = 0x48 then some (a.addr / 2 ^ 32)
  else if off = 0x4C then some (a.icls * 2 ^ 29 + a.cause * 2 ^ 26 + a.tag)
  else if off = 0x50 then some a.src
  else if off = 0x60 then some (s.quar e).length
  else if off = 0x68 then some (q.kid * 2 ^ 24 + q.level * 2 ^ 21 + q.addr / 4096 % 2 ^ 21)
  else if off = 0x6C then some (q.addr / 2 ^ 33 % 2 ^ 15)
  else if within off 0x1000 0x2000 && (ix off 0x1000 16 == 0 || ix off 0x1000 16 == 255) then some 0
  else none

/-- What a register whose value the machine computes shows. -/
def csrView (s : State) (u off : Nat) : Option Nat :=
  match unitKind u with
  | .mgt =>
    if off = 0x10000 then some (boolNat s.modeBusy * 128 + s.fld u F.mgtModePrev * 16 + s.modeNo)
    else if off = 0x10050 then some (putBits (s.reg u off) 29 28 (2 + boolNat (!s.clk.spanOff))).toNat
    else none
  | .clk => if within off 0xC00 0xE00 then
      some (s.fld u F.clkRegionStatBadrec (ix off 0xC00 4) * 256 + s.runningTracks (ix off 0xC00 4)) else none
  | .err => some (errView s off (s.reg u off)).toNat
  | .bud =>
    if 0x100 ≤ off then
      let c := ix off 0x100 0x20
      let m := s.meter c (s.fld u F.budSelInst c)
      match off % 0x20 with
      | 0x0C => some m.used
      | 0x10 => some m.debt
      | 0x14 => some m.heldCnt
      | _ => none
    else none
  | .cfg => burinView s off
  | .ipe => ipeView s (u - 0x10) off
  | .dsp =>
    let x := s.sliceOf (u - 0x18)
    if u != 0x18 && within off 0x14 0x20 then some 0
    else if off = 0x3C then some x.waits.length
    else if within off 0x100 0x180 then some (SMap.get [] x.lists (ix off 0x100 4)).length
    else none
  | .pin => if within off 0x1000 0x1500 && off % 0x100 == 8 then some (dinOf s (ix off 0x1000 0x100)) else none
  | .ao => if off = 0x108 then some (dinOf s 5) else if off = 0x110 then some (aoFuncOf s 0)
    else if off = 0x114 then some (aoFuncOf s 1) else none
  | .lnk => if off = 0x100000 then some 0 else none
  | .lane =>
    if off = 4 then some (pcieLanes s (u - 0x40))
    else if within off 0x1000 0x3000 && off % 0x100 == 0 then
      let j := ix off 0x1000 0x100
      if s.laneOwned (u - 0x40) j then some (putBits (s.reg u off) 1 0 1).toNat else none
    else none
  | .noc => if 0x1000 ≤ off && off % 0x100 == 8 then some (s.netPort ((u - 0x60) * 16 + ix off 0x1000 0x100)).outst.length else none
  | .die =>
    let d := u - 0x50
    if off = 0xC00100 then
      let any := fun f => boolNat ((List.range 32).any (fun k => s.fld u f k != 0))
      some (any F.tapFaultPendPend * 2 + any F.tapDonePendPend)
    else match spanView s d off with
      | some v => some v
      | none => queueView s d off
  | _ => none

/-- The word a read of a register shows, without any side effect. -/
def csrPeek (s : State) (u off : Nat) : Word32 :=
  match unitKind u, within off 0x20000 0x24100 && off % 0x100 == 4 with
  | .evt, true => BitVec.ofNat 32 (claimOf s (ix off 0x20000 0x100))
  | _, _ =>
    match csrView s u off with
    | some v => BitVec.ofNat 32 v
    | none =>
      match regAt (unitKind u) off with
      | some r => shown r (s.reg u off)
      | none => 0

/-- A read of one register: EVT_CLAIM is the one register whose read acts (R511, R523). -/
def csrRead (s : State) (u off icls : Nat) : State × Word32 :=
  let w := csrPeek s u off
  if u = uEvt && within off 0x20000 0x24100 && off % 0x100 == 4 then (claimRead s (ix off 0x20000 0x100) icls, w) else (s, w)

/-! ### Writes, unit by unit -/

/-- MGT_MODE_CMD (R435, R457). -/
def modeCommand (s : State) (op : Nat) : State :=
  match op with
  | 1 => if drowseRefused s then modeRefuse s else enterDrowse s
  | 2 => commandWake s
  | 3 => commandContain s
  | 4 => resumeMode s
  | 6 => if dormantRefused s then modeRefuse s else enterDormant s
  | _ => s

/-- An extension of a measurement slot with MGT_MEAS_VAL (R447, R490). -/
def measExtend (s : State) (slot : Nat) : State :=
  if slot < 2 ∧ s.bootPhase = 5 then s.setFld uMgt F.mgtMeasCmdRefused 1
  else extendMeas s slot ((List.range 12).flatMap (fun k => toLeBytes 4 (s.reg uMgt (F.mgtMeasValData.at k 0)).toNat))

/-- A watchdog's control register written: EN, once set, stays (R515). -/
def wdCtrl (s : State) (u off : Nat) (v : Word32) : State :=
  s.plainWrite u off (if bit (s.reg u off) 31 then v ||| 0x80000000#32 else v)

/-- Unit 0x00 (R457, R484, R490, R530). -/
def writeMgt (s : State) (off : Nat) (v : Word32) : State :=
  if off = 0x10004 then modeCommand s (getBits v 31 28)
  else if off = 0x10010 then
    (if getBits v 31 24 = 0xA5 ∧ (getBits v 1 0 = 1 ∨ getBits v 1 0 = 2) then { s with mode := { s.mode with reset := getBits v 1 0 } } else s)
  else if off = 0x10050 then s.plainWrite 0 off (putBits v 29 28 (getBits (s.reg 0 off) 29 28))
  else if off = 0x20010 then measExtend (s.plainWrite 0 off v) (getBits v 2 0)
  else if within off 0x20020 0x20050 then s.setReg 0 off v
  else if off = 0x30000 then coreRunWrite s v.toNat
  else if off = 0x30010 then wdCtrl s 0 off v
  else if off = 0x30018 then wdKick s 32 (getBits v 7 0)
  else s.plainWrite 0 off v

/-- A PLL's divider register written, with EN as it is (R406, R407, R419): a VCO out of range is reserved as a whole, an output's divider
that makes the output too fast for itself (R9, log entry 87). -/
def writePll (s : State) (off : Nat) (v : Word32) : State :=
  let k := ix off 0x100 16
  if !pllByFirmware k || s.flag uClk F.clkPllCfgEn k then s
  else
    let s1 := s.plainWrite uClk off v
    if off % 16 = 0 then (if s1.consumersFit k (s1.vfCur 2) && s1.vcoInRange k then s1 else s)
    else
      s.plainWrite uClk off (s.keepIf (!s1.outputFits k 1 (s1.vfCur 2)) uClk off
        (s.keepIf (!s1.outputFits k 0 (s1.vfCur 2)) uClk off v F.clkPllOutOdiv0) F.clkPllOutOdiv1)

/-- Unit 0x01 (R417-R420). -/
def writeClk (s : State) (off : Nat) (v : Word32) : State :=
  let u := uClk
  if off = 0 then
    let s1 := s.plainWrite u off v
    settleOsc (if s1.fld u F.clkOscCtrlTrimSrc = s.fld u F.clkOscCtrlTrimSrc then s1 else loseLock s1)
  else if off = 8 then s.plainWrite u off (s.keepIf (s.fld u F.clkOscCtrlTrimSrc != 0) u off v F.clkHfTrimCode)
  else if within off 0x40 0x70 && off % 16 == 0 then
    let g := ix off 0x40 16
    let s1 := s.plainWrite u off (s.keep u off v F.clkVfCtrlTarget)
    let t := getBits v 2 0
    if t = s.fld u F.clkVfCtrlTarget g ∧ t = s.vfCur g then s1 else vfTarget s1 g t
  else if within off 0x100 0x500 then
    (if off % 16 = 0 then
      let k := ix off 0x100 16
      let s1 := writePll s off (s.keep u off v F.clkPllCfgEn)
      if bit v 31 = s.flag u F.clkPllCfgEn k then s1 else pllEnable s1 k (bit v 31)
     else writePll s off v)
  else if within off 0x800 0xA80 then
    let i := ix off 0x800 4
    let s1 := s.plainWrite u off (s.keep u off v F.clkDomReq)
    if i = 156 ∨ i = 157 then s1
    else match getBits v 1 0 with
      | 0 => domRunReq s1 i
      | 1 => domGate s1 i
      | 2 => if i < 128 then domOffReq s1 i else s1
      | _ => s1
  else s.plainWrite u off v

/-- Unit 0x02 (R497). -/
def writeErr (s : State) (off : Nat) (v : Word32) : State :=
  if off = 0x60 then (if bit v 0 then popErr s else s) else s.plainWrite uErr off v

/-- Unit 0x03: a FLOOR above CAP and a selector above the highest instance are reserved (R426, R430). -/
def writeBud (s : State) (off : Nat) (v : Word32) : State :=
  let c := ix off 0x100 0x20
  if 0x100 ≤ off ∧ off % 0x20 = 4 ∧ s.fld uBud F.budCapUnits c < v.toNat then s
  else if 0x100 ≤ off ∧ off % 0x20 = 8 ∧ budInstances c ≤ getBits v 2 0 then s
  else s.plainWrite uBud off v

/-- Unit 0x04 (R277, R288, R311). -/
def writeCfg (s : State) (off : Nat) (v : Word32) (icls : Nat) (mgmt : Bool) : State :=
  if off = 4 then
    match getBits v 31 28 with
    | 1 => cfgOpen s (getBits v 27 24) icls
    | 2 => cfgAbort s
    | 3 => flipSet s (flipMaskSet s)
    | 4 => if mgmt then commitSvn s else cfgRefuse s
    | _ => s
  else if off = 0x400000 then
    match getBits v 31 28 with
    | 1 => openFrom s 2 icls false
    | 2 => slAbort s
    | 3 => slFlip s
    | _ => s
  else s.plainWrite uCfg off v

/-- Unit 0x06 (R304, R310). -/
def writeCns (s : State) (off : Nat) (v : Word32) : State :=
  if off = 4 then
    let s1 := if bit v 1 then startDigest s else s
    if bit v 0 then startRound s1 else s1
  else s.plainWrite uCns off v

/-- A DRAM controller (R356, R362, R364, R366). -/
def writeDdr (s : State) (c off : Nat) (v : Word32) : State :=
  let u := uDdr c
  if off = 0x10 then
    let v1 := s.keepIf (getBits v 22 16 == 0 || decide (64 < getBits v 22 16)) u off v F.ddrSchedHwm
    let v2 := s.keepIf (decide (getBits v1 22 16 ≤ getBits v1 6 0)) u off v1 F.ddrSchedLwm
    s.plainWrite u off (s.keepIf (decide (getBits v2 22 16 ≤ getBits v2 6 0)) u off v2 F.ddrSchedHwm)
  else if off = 0x24 then
    let drift := if getBits v 11 6 = 0 then s.fld u F.ddrRetrainDriftTh else getBits v 11 6
    if getBits v 5 0 ≤ drift then
      s.plainWrite u off (s.keep u off (s.keep u off v F.ddrRetrainDriftTh) F.ddrRetrainForceTh)
    else s.plainWrite u off v
  else if off = 0x2C then
    match getBits v 1 0 with
    | 1 => s.setFld u F.ddrStatusState 0
    | 2 => disableChannel s c
    | _ => s
  else if within off 0x100 0x140 then
    s.setChan c { s.chan c with tpWant := SMap.store 0 (s.chan c).tpWant (ix off 0x100 4) (getBits v 15 0) }
  else s.plainWrite u off v

/-- IPE_KID_CMD (R338-R341, R343). -/
def kidCmd (s : State) (e op kid : Nat) : State :=
  match op with
  | 1 => kidLoad s e kid
  | 2 => kidGenerate s kid
  | 3 => kidInit s kid
  | 4 => kidEnable s kid
  | 5 => kidRetire s kid
  | _ => s

/-- A protection engine (R317, R339, R342-R345). -/
def writeIpe (s : State) (e off : Nat) (v : Word32) : State :=
  let u := uIpe e
  if off = 0x54 then (if bit v 0 then popAlarm s e else s)
  else if off = 0x100 ∨ off = 0x104 then
    (if (List.range 256).all (fun k => kidClass k != .full || s.kidState k == kidFree) then s.plainWrite u off v else s)
  else if off = 0x140 then kidCmd s e (getBits v 31 28) (getBits v 7 0)
  else if within off 0x150 0x178 then s.setReg u off v
  else if within off 0x1000 0x2000 then
    let k := ix off 0x1000 16
    if k = 0 ∨ k = 255 then s
    else if off % 16 = 0 then s.plainWrite u off (putBits v 19 18 0)
    else if s.kidState k = kidKeyed then s.plainWrite u off v
    else s
  else s.plainWrite u off v

/-- A dispatcher slice (R243-R245). -/
def writeDsp (s : State) (sl off : Nat) (v : Word32) : State :=
  let u := uDsp sl
  if sl ≠ 0 ∧ within off 0x14 0x20 then s
  else if within off 0x1000 0x2000 then
    let g := ix off 0x1000 16
    let fixed := s.flag (uDsp 0) F.dspGCtrlEn g || s.flag (uDsp 0) F.dspGCtrlBusy g
    if off % 16 = 8 then
      let s1 := s.plainWrite u off (s.keepIf fixed u off v F.dspGCtrlNodes)
      let s2 := if bit v 30 then purgeGraph s1 g else s1
      if bit v 29 then invalGraph s2 g else s2
    else if fixed then s
    else s.plainWrite u off v
  else s.plainWrite u off v

/-- Every register of a core, as a debugger sees it when the model does not say: free values for x1-x31, f0-f31 and the PC. -/
def freeRegs (s : State) : List (BitVec 16 × Word64) × State :=
  ((List.range 64).map (fun j => (BitVec.ofNat 16 (j + 1), Config.freeWord (s.free + j))), { s with free := s.free + 64 })

/-- DBG_HCTL (R524). -/
def writeHctl (s : State) (i off : Nat) (v : Word32) : State :=
  let s1 := s.plainWrite uDbg off v
  if bit v 0 && !halted s1 i then haltCore (freeRegs s1).2 i (freeRegs s1).1
  else if bit v 2 && halted s1 i then stepCore (freeRegs s1).2 i (freeRegs s1).1
  else if bit v 1 then resumeCore s1 i
  else s1

/-- The debug unit (R521, R524, R532). -/
def writeDbg (s : State) (off : Nat) (v : Word32) : State :=
  if off = 0x10 then
    match getBits v 1 0 with
    | 1 => kxStart s.freeBit.2 s.freeBit.1
    | 2 => kxAnswer s.freeBit.2 s.freeBit.1
    | 3 => kxClose s
    | _ => s
  else if 0x1000 ≤ off ∧ (off - 0x1000) % 0x200 = 0 then writeHctl s (ix off 0x1000 0x200) off v
  else if 0x1000 ≤ off ∧ (off - 0x1000) % 0x200 = 8 then registerAccess s (ix off 0x1000 0x200) (bit v 31) (getBits v 15 0)
  else s.plainWrite uDbg off v

/-- The probe multiplexers (R529, R533). -/
def writePrb (s : State) (off : Nat) (v : Word32) : State :=
  if off = 0x804 then
    let s1 := if bit v 30 then captureStop s else s
    if bit v 31 then captureArm s1 else s1
  else s.plainWrite uPrb off v

/-- The event distributor (R511, R515, R531). -/
def writeEvt (s : State) (off : Nat) (v : Word32) : State :=
  if within off 0x4000 0x4200 then
    (List.range 32).foldl (fun (t : State) b => if bit v b then t.assignEvt (ix off 0x4000 4 * 32 + b) else t) (s.plainWrite uEvt off v)
  else if off = 0x4400 then swset s (getBits v 5 0)
  else if within off 0x20000 0x24100 && off % 0x100 == 4 then completeEvt s (ix off 0x20000 0x100) (getBits v 11 0)
  else if within off 0x30000 0x30400 && off % 0x20 == 0 then wdCtrl s uEvt off v
  else if within off 0x30000 0x30400 && off % 0x20 == 8 then wdKick s (ix off 0x30000 0x20) (getBits v 7 0)
  else s.plainWrite uEvt off v

/-- A DMA channel's block (R394, R396). -/
def writeDma (s : State) (c k off : Nat) (v : Word32) : State :=
  let u := uPci c
  let on := s.flag u F.pciDmaCtrlEn k
  match off % 0x40 with
  | 0x00 =>
    if on then (if bit v 31 then s else s.setFld u F.pciDmaCtrlEn 0 k)
    else
      let s1 := s.plainWrite u off (s.keep u off v F.pciDmaCtrlEn)
      if bit v 31 then dmaEnable s1 c k else s1
  | 0x04 => if on then s else s.plainWrite u off v
  | 0x08 => if on then s else s.plainWrite u off v
  | 0x0C => writePi s c k (getBits v 15 0)
  | _ => s.plainWrite u off v

/-- A PCIe controller (R387, R396). -/
def writePci (s : State) (c off : Nat) (v : Word32) : State :=
  let u := uPci c
  if off = 0 then
    let s1 := s.plainWrite u off (s.keep u off v F.pciCtrlEn)
    if bit v 31 then pcieEnable s1 c else if s.flag u F.pciCtrlEn then pcieDisable s1 c else s1
  else if within off 0x10000 0x10100 && off % 0x20 == 0 then
    let f := ix off 0x10000 0x20
    let others := ((List.range 8).map (fun i => if i = f then 0 else s.fld u F.pciPfTotalVf i)).sum
    s.plainWrite u off (s.keepIf (decide (512 < others + getBits v 25 16)) u off v F.pciPfTotalVf)
  else if 0x100000 ≤ off then writeDma s c (ix off 0x100000 0x40) off v
  else s.plainWrite u off v

/-- A link port (R217, R218). -/
def writeLnk (s : State) (p off : Nat) (v : Word32) : State :=
  let u := uLnk p
  if off = 0 then
    let s1 := s.plainWrite u off (s.keep u off v F.lnkCtrlEn)
    if bit v 0 then linkEnable s1 p else linkDisable s1 p
  else if off = 0x2C then (if bit v 0 then linkRetrain s p else s)
  else if off = 0x100000 then s
  else s.plainWrite u off v

/-- A lane's block (R370, R377, R379, R381, R383, R385). -/
def writeLane (s : State) (k off : Nat) (v : Word32) : State :=
  let u := uLane k
  let j := ix off 0x1000 0x100
  if off < 0x1000 then s
  else match off % 0x100 with
    | 0x00 =>
      let s1 := s.plainWrite u off (s.keep u off (s.keep u off (s.keep u off v F.laneCtrlMode) F.laneCtrlTxSleep) F.laneCtrlRxSleep)
      let s2 := laneRxSleep (laneTxSleep s1 k j (bit v 4)) k j (bit v 5)
      if getBits v 1 0 = s2.fld u F.laneCtrlMode j then s2 else laneMode s2 k j (getBits v 1 0)
    | 0x04 =>
      let lo := if bit v 16 then 14000 else 1000
      s.plainWrite u off (s.keepIf (decide (getBits v 15 0 < lo) || decide (56000 < getBits v 15 0)) u off v F.laneRateMbd)
    | 0x10 => laneSlip s k j (getBits v 9 0)
    | 0x20 =>
      let s1 := s.plainWrite u off v
      if bit v 31 then eyeStart s1 k j else s1
    | _ => s.plainWrite u off v

/-- The service pins (R548, R549, R551, R552). -/
def writePin (s : State) (off : Nat) (v : Word32) (icls src : Nat) : State :=
  let b := ix off 0x1000 0x100
  if within off 0x1000 0x1500 then
    (if off % 0x100 = 0 then gpioWrite s b false v.toNat icls src
     else if off % 0x100 = 4 then gpioWrite s b true v.toNat icls src
     else if 0x40 ≤ off % 0x100 ∧ off % 16 = 8 then
      let k := (off % 0x100 - 0x40) / 16
      let s1 := s.plainWrite uPin off v
      if bit v 31 && !s.flag uPin F.pinPmCtrlEn b k then pmStart s1 b k else s1
     else s.plainWrite uPin off v)
  else s.plainWrite uPin off v

/-- The always-on pins (R548, R553). -/
def writeAo (s : State) (off : Nat) (v : Word32) (icls src : Nat) : State :=
  if off = 0x100 then gpioWrite s 5 false v.toNat icls src
  else if off = 0x104 then gpioWrite s 5 true v.toNat icls src
  else s.plainWrite uAo off v

/-- The CAN FD controllers: rates change only when EN rises (R477). -/
def writeCan (s : State) (off : Nat) (v : Word32) : State :=
  let s1 := s.plainWrite uCan off v
  let c := off / 0x40
  if off % 0x40 = 0 ∧ bit v 31 ∧ !s.flag uCan F.mgtCanCtrlEn c then
    { s1 with dict := { s1.dict with canRate := SMap.store 0x43 s1.dict.canRate c (getBits (s1.reg uCan off) 7 0) } }
  else s1

/-- A queue's registers (R111, R113, R115, R128). -/
def writeQc (s : State) (d off : Nat) (v : Word32) : State :=
  let u := uDie d
  let q := ix off 0x400000 0x20
  let qn := d * 8192 + q
  let cap := s.fld u F.qcLimitCap q
  match off % 0x20, qPresent s qn with
  | 0x18, true => if bit v 0 then flushQueue s qn else s
  | 0x18, false => s
  | 0x10, _ => s.plainWrite u off v
  | _, false => s
  | 0x04, true => if cap < getBits v 13 0 then s else s.plainWrite u off v
  | 0x08, true =>
    s.plainWrite u off (s.keepIf (decide (cap < getBits v 13 0)) u off
      (s.keepIf (decide (cap < getBits v 29 16)) u off v F.qcThAfullTh) F.qcThAemptyTh)
  | _, true => s.plainWrite u off v

/-- A tap engine's registers (R149, R157, R161). -/
def writeTap (s : State) (d off : Nat) (v : Word32) : State :=
  let i := d * 1024 + ix off 0x800000 0x1000
  let u := uDie d
  match off % 0x1000 with
  | 0x00 => tapCommand s i (bit v 1) (bit v 2) (bit v 0)
  | 0x08 => s.plainWrite u off (s.keepIf (s.ef i F.tapStatusState != tapIdle) u off v F.tapCfgMode)
  | 0x44 => addDoorbell s i (getBits v 15 0)
  | r => if 0x800 ≤ r then setImem s i ((r - 0x800) / 4) v.toNat else s.plainWrite u off v

/-- A logic-die controller (R91-R93, R126-R129, R161, R162). -/
def writeDie (s : State) (d off : Nat) (v : Word32) : State :=
  let u := uDie d
  if off = 0x20001C then (if bit v 31 then fenceClearAll s d else fenceClearChannel s d (getBits v 16 0))
  else if off = 0x200028 then
    let s1 := if bit v 1 then forceRepair s d else s
    if bit v 0 then calNow s1 d else s1
  else if off = 0x100018 then
    (if getBits v 31 30 = 1 ∨ getBits v 31 30 = 2 then queueLineCmd s d (getBits v 31 30) (getBits v 26 16) (getBits v 9 0) else s)
  else if within off 0x400000 0x440000 then writeQc s d off v
  else if within off 0x800000 0xC00000 then writeTap s d off v
  else if within off 0xC00000 0xC00100 then tapEvents (s.plainWrite u off v) d
  else s.plainWrite u off v

/-- A write of one register, permitted and implemented. -/
def csrWriteReg (s : State) (u off : Nat) (v : Word32) (icls src : Nat) (priv : Bool) : State :=
  match unitKind u with
  | .mgt => writeMgt s off v
  | .clk => writeClk s off v
  | .err => writeErr s off v
  | .bud => writeBud s off v
  | .cfg => writeCfg s off v icls (mgmtAccess icls priv)
  | .cns => writeCns s off v
  | .ddr => writeDdr s (u - 8) off v
  | .ipe => writeIpe s (u - 0x10) off v
  | .dsp => writeDsp s (u - 0x18) off v
  | .evt => writeEvt s off v
  | .dbg => writeDbg s off v
  | .prb => writePrb s off v
  | .pci => writePci s (u - 0x28) off v
  | .lnk => writeLnk s (u - 0x30) off v
  | .lane => writeLane s (u - 0x40) off v
  | .pin => noteConflicts (keepFuncs s (writePin s off v icls src))
  | .ao => noteConflicts (keepFuncs s (writeAo s off v (if priv then 4 else icls) src))
  | .can => noteConflicts (keepFuncs s (writeCan s off v))
  | .die => writeDie s (u - 0x50) off v
  | .noc => if off = 0 ∧ 12 < getBits v 15 12 + getBits v 11 8 then
      s.plainWrite u off (s.keep u off (s.keep u off v F.nocRtCtrlFloor1) F.nocRtCtrlFloor0) else s.plainWrite u off v
  | _ => s.plainWrite u off v

/-! ### Accesses (R12, R13) -/

/-- The registers an access covers, the lower first: none where its size or alignment is not allowed (R12). -/
def csrOffsets (off size : Nat) : List Nat :=
  if size = 4 ∧ off % 4 = 0 then [off] else if size = 8 ∧ off % 8 = 0 then [off, off + 4] else []

/-- The decision on an access as a whole: DECODE for a wrong shape or an offset without a register, which touch nothing (R12, R13); then
the first refusal of a register. An access over the private path touches no unit that the path does not reach (R38, log entry 133). An offset of the self-load range is refused before it is looked at (R287). -/
def csrDecide (s : State) (a : CsrAccess) (write : Bool) : Stat :=
  let offs := csrOffsets a.off.toNat a.size
  let u := a.unit.toNat
  let stat := fun o => csrStat s u o write (BitVec.ofNat 32 (a.data.toNat / 2 ^ (8 * (o - a.off.toNat)))) a.icls.toNat a.src.toNat a.priv
  if offs.isEmpty || (a.priv && !privateUnit u) then .decode
  else if u = uCfg ∧ within a.off.toNat 0x400000 0x800000 ∧ offs.any (fun o => stat o == .prot) then .prot
  else if !offs.all (fun o => csrImplemented u o) then .decode
  else ((offs.map stat).find? (fun st => st != .ok)).getD .ok

/-- A write access: its completion and the machine after it, the register at the lower offset first (R12). -/
def csrWrite (s : State) (a : CsrAccess) : State × Stat :=
  match csrDecide s a true with
  | .ok =>
    ((csrOffsets a.off.toNat a.size).foldl (fun (t : State) o =>
      csrWriteReg t a.unit.toNat o (BitVec.ofNat 32 (a.data.toNat / 2 ^ (8 * (o - a.off.toNat)))) a.icls.toNat a.src.toNat a.priv) s, .ok)
  | st => (s, st)

/-- A read access: its completion and data. -/
def csrReadAccess (s : State) (a : CsrAccess) : State × Stat × Nat :=
  match csrDecide s a false with
  | .ok =>
    let r := (csrOffsets a.off.toNat a.size).foldl (fun (t : State × Nat) o =>
      let x := csrRead t.1 a.unit.toNat o a.icls.toNat
      (x.1, t.2 + x.2.toNat * 2 ^ (8 * (o - a.off.toNat)))) (s, 0)
    (r.1, .ok, r.2)
  | st => (s, st, 0)

/-- CSR_WRITE (R6, R9, R11-R13): a write of one register, or of two at consecutive offsets. -/
def execCsrWrite (a : CsrAccess) (s : State) : Out := .next ((csrWrite s a).1.answer (csrWrite s a).2)

end Sys2Proof.Machine
end

