-- ==== Sys2Proof/Machine/Stylus.lean ====
section
/-! DEFINITION. The stylus wire and the debug unit's own requests (R517-R519, R522), and the fret boundary they wait for (R422). -/

namespace Sys2Proof.Machine

open Sys2Proof

/-- A session is entered (R518). -/
def State.entered (s : State) : Bool := s.flag uDbg F.dbgStatusStylus

/-- The `n` bits of a number, least significant first: the order of the wire (R517). -/
def wireBits (n v : Nat) : List Bool := (List.range n).map (bitOf v)

/-- A response ready to be read: a READY of 1, STAT, DATA, and the CRC-8 over their bits as sent (R519). -/
def stylusRespond (s : State) (st data : Nat) : State :=
  let bits := wireBits 4 st ++ wireBits 32 data
  { s with dbg := { s.dbg with response := true :: bits ++ wireBits 8 (crcBits 8 0x2F 0xFF bits) } }

/-- The answer to the debug unit's request taken off its port: the response of the stylus wire. Answers of capture are dropped. -/
def absorbDebug (s : State) : State :=
  let np := s.netPort dbgCode
  let s1 :=
    match s.dbg.waiting with
    | none => s
    | some (isRead, tag) =>
      match np.delivered.find? (fun p => p.tag.toNat == tag) with
      | none => s
      | some p =>
        let data := if isRead then leBytes (rspBytes p p.a48 4) else 0
        let t : State := { s with dbg := { s.dbg with waiting := none } }
        stylusRespond t p.stat.toNat data
  dropCaptureAnswers s1

/-- A request sent, whether a read; what its port answers at once is taken. -/
def stylusSend (s : State) (p : Packet) : State :=
  let tag := s.dbg.nextTag
  let s1 := dbgSend { s with dbg := { s.dbg with held := none } } 8 p
  absorbDebug { s1 with dbg := { s1.dbg with waiting := some (p.op == opRead, tag) } }

/-- A request issued once its budget admits it (R423, R522). -/
def stylusIssue (s : State) (p : Packet) : State :=
  if s.admits 8 0 then stylusSend s p else { s.hold 8 0 with dbg := { (s.hold 8 0).dbg with held := some p } }

/-- A request frame of an entered session: none is taken while an earlier request is under way; in CONTAIN and DORMANT it is answered BUSY
(R519). A new request drops what is left of the response before it. -/
def stylusFrame (s : State) (f : State → State) : State :=
  if !s.entered || s.dbg.waiting.isSome || s.dbg.held.isSome then s
  else if s.modeNo = 0 ∨ s.modeNo = 6 then stylusRespond s Stat.busy.code 0
  else f { s with dbg := { s.dbg with response := [] } }

/-- The level that governs a request of the debug unit (R520, R522). -/
def rangeLevel (s : State) (addr : Nat) : Nat :=
  match mapAddr (addr % 2 ^ 48) with
  | .fabric _ _ => fabricLevel s
  | _ => coreLevel s

/-- A request through the debug unit, after the unit's own check: reads need level 1, writes level 2 (R522). -/
def debugRequest (s : State) (addr : Nat) (write : Bool) (data : Nat) : State :=
  if rangeLevel s addr < (if write then 2 else 1) then stylusRespond s Stat.prot.code 0
  else stylusIssue s (byteReq (if write then opWrite else opRead) 1 0 addr 4 (toLeBytes 4 data))

/-- An access to a register of the debug unit, without the mesh (R518). -/
def debugReg (off : Nat) (data : Word32) : CsrAccess :=
  { unit := 0x25#8, off := BitVec.ofNat 24 off, size := 4, data := data.zeroExtend 64, icls := 3, src := BitVec.ofNat 11 dbgCode, priv := false }

/-- STYLUS_BREAK (R517): the receiver returns to idle; an entered session stays entered, and no bit of an unfinished frame is kept. -/
def execStylusBreak (s : State) : Out := .next s

/-- STYLUS_FRAMING_ERROR (R517): the frame in progress is discarded. Frames are received whole, so nothing of it is held. -/
def execStylusFramingError (s : State) : Out := .next s

/-- STYLUS_FRAME_TIMEOUT (R517): a high of 100 µs within a frame discards it. -/
def execStylusFrameTimeout (s : State) : Out := .next s

/-- STYLUS_ENTRY (R518): the entry pattern enters a session. -/
def execStylusEntry (s : State) : Out := .next (s.setFld uDbg F.dbgStatusStylus 1)

/-- RD (R518, R522). -/
def execRd (addr : BitVec 56) (s : State) : Out := .next (stylusFrame s (fun t => debugRequest t addr.toNat false 0))

/-- WR (R518, R522). -/
def execWr (addr : BitVec 56) (data : Word32) (s : State) : Out := .next (stylusFrame s (fun t => debugRequest t addr.toNat true data.toNat))

/-- DRD (R518). -/
def execDrd (ofs : BitVec 24) (s : State) : Out :=
  .next (stylusFrame s (fun t =>
    let r := csrReadAccess t (debugReg ofs.toNat 0)
    stylusRespond r.1 r.2.1.code r.2.2))

/-- DWR (R518). -/
def execDwr (ofs : BitVec 24) (data : Word32) (s : State) : Out :=
  .next (stylusFrame s (fun t =>
    let r := csrWrite t (debugReg ofs.toNat data)
    stylusRespond r.1 r.2.code 0))

/-- STYLUS_EXIT (R518): answered, and the session is left. -/
def execStylusExit (s : State) : Out :=
  .next (stylusFrame s (fun t => stylusRespond (t.setFld uDbg F.dbgStatusStylus 0) 0 0))

/-- STYLUS_TIMEOUT (R518): 1 s without a request frame ends the session. -/
def execStylusTimeout (s : State) : Out := .next (s.setFld uDbg F.dbgStatusStylus 0)

/-- STYLUS_BAD_FRAME (R518): another OP or a failing CRC is answered MALFORMED, and nothing is performed. -/
def execStylusBadFrame (s : State) : Out :=
  .next (if !s.entered || s.dbg.waiting.isSome || s.dbg.held.isSome then s else stylusRespond s Stat.malformed.code 0)

/-- STYLUS_SLOT (R519): one bit of the response; READY slots read 0 until the request has completed. -/
def execStylusSlot (s : State) : Out :=
  match s.dbg.response with
  | [] => .next (s.answer .ok [0])
  | b :: r => .next ({ s with dbg := { s.dbg with response := r } }.answer .ok [if b then 1 else 0])

/-- What waits for its budget in the debug unit goes on: the held request and the flits of capture. -/
def drainDebug (s : State) : State :=
  let s1 := match s.dbg.held with
    | some p => if s.admits 8 0 then stylusSend s p else s.hold 8 0
    | none => s
  drainFlits 64 s1

/-- FRET_BOUNDARY (R422-R427): a boundary of every meter; items of the debug unit that waited are admitted while U is below CAP. -/
def execFretBoundary (s : State) : Out :=
  if s.clk.fallback || s.mode.dormant then .next s else .next (drainDebug (fretBoundary s))

end Sys2Proof.Machine
end

