-- ==== Sys2Proof/Machine/Scan.lean ====
section
/-! DEFINITION. Boundary scan: the TAP's instructions and what a pin-control instruction does to a device (R569-R571). -/

namespace Sys2Proof.Machine

open Sys2Proof

/-- IDCODE: stepping A, part 0x4B38, Treard's JEP106 code, and a 1 (R569). -/
def idcode : Nat := 0x4B38 * 2 ^ 12 + Config.jep106.toNat * 2 + 1

/-- Whether the pin-control instructions may take effect: in MANAGE, CONTAIN and SERVICE (R571). -/
def pinControlAllowed (s : State) : Bool := s.modeNo == 1 || s.modeNo == 6 || s.modeNo == 7

/-- What Capture-IR loads: L is 1 while the pin-control instructions are locked out (R570). -/
def captureIr (s : State) : Byte := if pinControlAllowed s then 1 else 5

/-- Every lane leaves its state (R571). -/
def stopLanes (s : State) : State :=
  let s1 := idlePcie (idleLanes s)
  ((List.range 4).flatMap (fun k => (List.range 32).map (fun j => (k, j)))).foldl (fun (t : State) kj => t.setLaneState kj.1 kj.2 0) s1

/-- The start of a pin-control instruction: the DRAM channels, whose balls are all scanned, lose their contents and stand UNTRAINED; lanes
leave their states (R571). -/
def takePins (s : State) : State :=
  let s1 := (List.range 8).foldl (fun (t : State) c =>
    dropJobs ((t.loseContents c).setFld (uDdr c) F.ddrStatusState 0) c) s
  let s2 := stopLanes s1
  { s2 with scan := { s2.scan with control := true } }

/-- The end of a pin-control instruction: pads are held until the switch of R545, lanes restart from DETECT outside CONTAIN (R571). -/
def releasePads (s : State) : State :=
  let held : SMap Nat := (List.range 192).map (fun i => (i, driveCode (padDrive s i)))
  let s1 : State := { s with
    pin := { s.pin with hold := if s.pinControl then held else s.pin.hold }
    scan := { s.scan with control := false, highz := false } }
  if s.modeNo = 6 then s1
  else
    restartLanes (((List.range 4).flatMap (fun k => (List.range 32).map (fun j => (k, j)))).foldl (fun (t : State) kj =>
      if t.laneOwned kj.1 kj.2 then t else t.laneByMode kj.1 kj.2) s1)

/-- An instruction loaded that drives no pins: a pin-control instruction before it ends. -/
def loadIr (s : State) (ir : Nat) (shift : List Bool) : State :=
  let s1 := if s.scan.control then releasePads s else s
  { s1 with scan := { s1.scan with ir := ir, shift := shift } }

/-- A pin-control instruction loaded: as BYPASS where it is locked out (R571). `boundary` is what Update-DR leaves. -/
def loadControl (s : State) (ir : Nat) (highz : Bool) (boundary shift : List Bool) : State :=
  if !pinControlAllowed s then loadIr s ir [false]
  else
    let s1 := if s.scan.control then s else takePins s
    { s1 with scan := { ir := ir, control := true, highz := highz, boundary := boundary, shift := shift } }

/-- IDCODE (R569, R570): the identification register shifts out. -/
def execIdcode (s : State) : Out := .next ((loadIr s 0x01 ((List.range 32).map (bitOf idcode))).answer .ok [captureIr s])

/-- SAMPLE/PRELOAD (R570): the pads sampled shift out, and the cells are loaded without driving the pins. -/
def execSamplePreload (sampled shifted : List Bool) (s : State) : Out :=
  let s1 := loadIr s 0x02 sampled
  .next ({ s1 with scan := { s1.scan with boundary := shifted } }.answer .ok [captureIr s])

/-- EXTEST (R571). -/
def execExtest (sampled shifted : List Bool) (s : State) : Out := .next ((loadControl s 0x03 false shifted sampled).answer .ok [captureIr s])

/-- EXTEST_PULSE (R569, R571). -/
def execExtestPulse (sampled shifted : List Bool) (s : State) : Out :=
  .next ((loadControl s 0x04 false shifted sampled).answer .ok [captureIr s])

/-- EXTEST_TRAIN (R569, R571). -/
def execExtestTrain (sampled shifted : List Bool) (s : State) : Out :=
  .next ((loadControl s 0x05 false shifted sampled).answer .ok [captureIr s])

/-- CLAMP (R571): the pins keep what the boundary register holds; bypass is selected. -/
def execClamp (s : State) : Out := .next ((loadControl s 0x06 false s.scan.boundary [false]).answer .ok [captureIr s])

/-- HIGHZ (R571): the pins go high-impedance; bypass is selected. -/
def execHighz (s : State) : Out := .next ((loadControl s 0x07 true s.scan.boundary [false]).answer .ok [captureIr s])

/-- BYPASS (R570). -/
def execBypass (s : State) : Out := .next ((loadIr s 0xFF [false]).answer .ok [captureIr s])

/-- TEST_LOGIC_RESET (R570, R571): a pin-control instruction ends; IDCODE is selected. -/
def execTestLogicReset (s : State) : Out := .next (loadIr s 0x01 ((List.range 32).map (bitOf idcode)))

end Sys2Proof.Machine
end

