-- ==== Sys2Proof/Machine/Verify.lean ====
section
/-! DEFINITION. The steps of a verification and the handling of the alarms they signal to the burin and the core clusters
(R265, R273, R327, R328, R330, R504). -/

namespace Sys2Proof.Machine

open Sys2Proof

/-- An alarm signalled handled by the initiator it names: the burin (ICLS 5) or a core cluster (ICLS 0). -/
def handleAlarm (s : State) (r : AlarmRec) : State :=
  if r.icls = 5 then burinAlarm s r else if r.icls = 0 then coreAlarm s r else s

/-- Every alarm signalled handled, oldest first. -/
def handleAlarms (s : State) : State :=
  s.ipe.signal.foldl handleAlarm { s with ipe := { s.ipe with signal := [] } }

/-- VERIFY_DONE (R327, R328, R330): the verification of a FULL read completes. -/
def execVerifyDone (i : Nat) (s : State) : Out := .next (handleAlarms (verifyDone s i))

/-- VTIME_ALARM (R328): 4 µs after the response, verification has not completed. -/
def execVtimeAlarm (i : Nat) (s : State) : Out := .next (handleAlarms (verifyTimeout s i))

/-- VERIFY_REFETCH (R330, R333, R335-R337): a refetch of a failing line or node returns. -/
def execVerifyRefetch (i : Nat) (e : MemEnv) (s : State) : Out := .next (handleAlarms (verifyRefetch s i e))

end Sys2Proof.Machine
end

