-- ==== Sys2Proof/Machine/Target.lean ====
section
/-! DEFINITION. What a READ, a WRITE or an ATOMIC does at its target: plate SRAM (R34-R36), DRAM, the windows of regions, units and PCIe
controllers (R172, R173, R175). -/

namespace Sys2Proof.Machine

open Sys2Proof

/-! ### Plate SRAM (R34-R36) -/

/-- A bit error met in a 64-bit word: one single-bit error is correctable, any further one is not. -/
def upsetWord (double : Bool) (s : State) (w : Nat) : State :=
  if 0x6000000 ≤ 8 * w then s
  else
    let c := if double || SMap.get 0 s.sram.ecc w != 0 then 2 else 1
    { s with sram := { s.sram with ecc := SMap.store 0 s.sram.ecc w c } }

/-- Whether a word holds a double-bit error. -/
def badWord (s : State) (w : Nat) : Bool := SMap.get 0 s.sram.ecc w == 2

/-- A word read: a single-bit error is corrected, written back, and counted in the owning unit's status, for which the register tables show
no register (R36, log entry 94). -/
def scrubWord (s : State) (w : Nat) : State :=
  if SMap.get 0 s.sram.ecc w = 1 then
    { s with sram := { s.sram with
        ecc := SMap.erase s.sram.ecc w
        corrected := SMap.modify 0 s.sram.corrected (partitionOwner (8 * w)) (· + 1) } }
  else s

/-- The words that a range of bytes touches. -/
def wordsOf (off len : Nat) : List Nat :=
  if len = 0 then [] else (List.range ((off + len - 1) / 8 + 1 - off / 8)).map (fun i => off / 8 + i)

/-- Whether a range covers the whole of a word. -/
def coversWord (off len w : Nat) : Bool := decide (off ≤ 8 * w) && decide (8 * w + 8 ≤ off + len)

/-- A byte stored at a window offset, without its error: the frame-check table's entries are 4 bytes each in frame order (R293), the general
plate memory its bytes; the other partitions hold what their owners store there, in a layout the rules do not give: a free function of the
owner's own state (log entry 6). -/
def sramByte (s : State) (o : Nat) : Byte :=
  match partitionOf o with
  | .general => SMap.get 0 s.sram.mem o
  | .frameCheck =>
    let k := (o - 0x4000000) / 4
    BitVec.ofNat 8 ((s.fcEntry (k / 22528) (k % 22528)).toNat / 2 ^ (8 * (o % 4)))
  | .matching => Config.partitionByte (s.sliceOf (o / 0x400000)) o
  | .l2 => Config.partitionByte (s.clusterX ((o - 0x2000000) / 0x400000)) o
  | .lineBuffer => Config.partitionByte (s.chan ((o - 0x3000000) / 0x200000)).lb o
  | .counterCache => Config.partitionByte s.ipe o

/-- The bytes read, those of a word with a double-bit error a free value (R36). -/
def sramBytes (s : State) (off len : Nat) : List Byte :=
  (List.range len).map (fun i =>
    if badWord s ((off + i) / 8) then
      BitVec.ofNat 8 ((Config.freeWord (s.free + (off + i) / 8 - off / 8)).toNat / 2 ^ (8 * ((off + i) % 8)))
    else sramByte s (off + i))

/-- Bytes stored in general plate memory. -/
def setSram (s : State) (off : Nat) (bs : List Byte) : State :=
  { s with sram := { s.sram with mem := (List.range bs.length).foldl (fun m i => SMap.store 0 m (off + i) (bs.getD i 0)) s.sram.mem } }

/-- A double-bit error met: POISON, and class 0x03 against the owner, once for the request and with the request's window offset as its
detail word (R36, log entry 132). -/
def sramPoison (s : State) (off : Nat) (p : Packet) (body : List Line) : State :=
  (s.raise (partitionOwner off) 0x03 off).reply p .poison body

/-- A read of the window (R35, R36). -/
def sramRead (s : State) (off : Nat) (p : Packet) : State :=
  let ws := wordsOf off p.rangeLen
  let body := p.readBody (sramBytes s off p.rangeLen)
  let t : State := { ws.foldl scrubWord s with free := s.free + ws.length + 1 }
  if ws.any (badWord s) then sramPoison t off p body else t.reply p .ok body

/-- A write of general plate memory: a word it enables only in part is read first, one it enables whole is stored anew (R36). -/
def sramWrite (s : State) (off : Nat) (p : Packet) : State :=
  let len := p.rangeLen
  let ws := wordsOf off len
  if (ws.filter (fun w => !coversWord off len w)).any (badWord s) then sramPoison s off p []
  else
    let t : State := { s with sram := { s.sram with ecc := ws.foldl (fun m w => SMap.erase m w) s.sram.ecc } }
    (setSram t off p.writeBytes).reply p .ok

/-- An ATOMIC in general plate memory (R36, R173). -/
def sramAtomic (s : State) (off : Nat) (p : Packet) : State :=
  let n := p.atomicBytes
  if (wordsOf off n).any (badWord s) then sramPoison s off p []
  else
    let t := (wordsOf off n).foldl scrubWord s
    let old := leBytes (sramBytes t off n)
    (setSram t off (toLeBytes n (atomicResult p.aop (8 * n) old p.operand p.compare))).reply p .ok [] old

/-- A request at the plate SRAM window (R35, R173): general plate memory serves every class; elsewhere only reads of management. -/
def sramRequest (s : State) (off : Nat) (p : Packet) : State :=
  if partitionOf off = .general then
    if p.op = opAtomic then sramAtomic s off p
    else if p.len = 0 then s.reply p .ok
    else if p.op = opRead then sramRead s off p else sramWrite s off p
  else if p.op = opRead ∧ p.icls.toNat = iclsMgmt then (if p.len = 0 then s.reply p .ok else sramRead s off p)
  else s.reply p .prot

/-- Whether a packet is a READ, a WRITE or an ATOMIC. -/
def isAccess (p : Packet) : Bool := p.op == opRead || p.op == opWrite || p.op == opAtomic

/-- The window offset of a request for plate SRAM. -/
def sramOff (p : Packet) : Option Nat :=
  match mapAddr p.a48 with
  | .sram off => if isAccess p then some off else none
  | _ => none

/-- Whether a request is the first the plate SRAM window holds: it serves them one at a time, in arrival order (R577). -/
def sramTurn (s : State) (p : Packet) : Bool := s.firstOf p (fun q => (sramOff q).isSome)

/-- PLATE_SRAM_ACCESS (R34-R36, R577): the window serves the first request it holds, after bit errors have come about in its words. -/
def execPlateSramAccess (p : Packet) (single double : List Nat) (s : State) : Out :=
  match sramOff p with
  | none => .next s
  | some off =>
    if !s.arrived p || !sramTurn s p then .next s
    else .next (sramRequest (double.foldl (upsetWord true) (single.foldl (upsetWord false) s)) off p)

/-! ### The other targets (R116, R155, R189, R227, R238, R262, R287, R391, R445) -/

/-- A request at a fabric-port window: the design range, the engine aperture, the queue aperture (R116, R155, R189). -/
def windowRequest (s : State) (n o : Nat) (p : Packet) : State :=
  if o < 0xFF800000 then tqDeliver s n p
  else if o < 0xFFC00000 then engineAperture s n o p
  else if o < 0xFFE00000 then s.reply p .decode
  else if !queueTurn s p then s
  else if peeks s p then peekQueue s n o p
  else decideQueue s (p.op == opWrite) p

/-- A request at a unit's CSR space answered as a register access (R6-R13). -/
def csrRequest (s : State) (u off : Nat) (p : Packet) : State :=
  let a : CsrAccess := ⟨BitVec.ofNat 8 u, BitVec.ofNat 24 off, p.rangeLen, BitVec.ofNat 64 (leBytes p.writeBytes), p.icls, p.src, false⟩
  if p.op = opRead then
    let r := csrReadAccess s a
    r.1.reply p r.2.1 (if r.2.1 = .ok then p.readBody (toLeBytes p.rangeLen r.2.2) else [])
  else
    let r := csrWrite s a
    r.1.reply p r.2

/-- A request at a unit's CSR space: its windows of data, or its registers. -/
def unitRequest (s : State) (u off : Nat) (p : Packet) (lost : Bool) : State :=
  if p.op = opAtomic then s.reply p .decode
  else if unitKind u = .dsp ∧ 0x600000 ≤ off ∧ off < 0x610000 then tokenWindow s (u - uDsp 0) p lost
  else if unitKind u = .dsp ∧ 0x800000 ≤ off then takeWindow s (u - uDsp 0) off p lost
  else if u = uCfg ∧ 0x600000 ≤ off ∧ off < 0x800000 then slData s p
  else if u = uCfg ∧ 0x800000 ≤ off then streamRequest s 1 p
  else if u = uMgt ∧ 0x800000 ≤ off ∧ off < 0xA00000 then bootWindow s p
  else csrRequest s u off p

/-- A READ, a WRITE or an ATOMIC performed by the target of its address. -/
def perform (s : State) (p : Packet) (e : MemEnv) : State :=
  match mapAddr p.a48 with
  | .dram => handleAlarms (memRequest s p e)
  | .fabric n o => windowRequest s n o p
  | .sram off => if sramTurn s p then sramRequest s off p else s
  | .csr u off => unitRequest s u off p e.lost
  | .pcie c off => outbound s c off p
  | .none => s.reply p .decode

/-- A request that its target can act on: it has arrived, or a protection engine has it in hand already (R320). -/
def State.atTarget (s : State) (p : Packet) : Bool := s.arrived p || (mapAddr p.a48 == .dram && s.inHand p)

/-- READ (R172): its data is returned with its response. -/
def execRead (p : Packet) (e : MemEnv) (s : State) : Out :=
  if p.op = opRead ∧ p.label = 0 ∧ s.atTarget p then .next (perform s p e) else .next s

/-- WRITE (R172): the bytes its range enables are stored. -/
def execWrite (p : Packet) (e : MemEnv) (s : State) : Out :=
  if p.op = opWrite ∧ p.label = 0 ∧ s.atTarget p then .next (perform s p e) else .next s

/-- ATOMIC (R173): one indivisible step at its target. -/
def execAtomic (p : Packet) (e : MemEnv) (s : State) : Out :=
  if p.op = opAtomic ∧ p.label = 0 ∧ s.atTarget p then .next (perform s p e) else .next s

end Sys2Proof.Machine
end

