-- ==== Sys2Proof/Machine/Accept.lean ====
section
/-! DEFINITION. What enters the network at a port and what comes back to it (R171, R183), and what a link and node 96, port 6, do with the
packets that arrive (R203, R209, R467, R479). -/

namespace Sys2Proof.Machine

open Sys2Proof

/-! ### Link management messages at node 96, port 6 (R209, R467, R479, R495) -/

/-- A session. -/
def State.ses (s : State) (n : Nat) : Session := SMap.get {} s.dict.session n

/-- A session replaced. -/
def State.setSes (s : State) (n : Nat) (x : Session) : State :=
  { s with dict := { s.dict with session := SMap.store {} s.dict.session n x } }

/-- A message dropped and counted in MGT_DICT_DROP (R209, R479, R480). -/
def dictDrop (s : State) : State := s.countSat uErr F.mgtDictDropCount

/-- The number a request has for whom no session could be had; it aborts (R467). -/
def noSession : Nat := 32

/-- Session `n` noted as used by the request that has arrived; its expert unlock is timed anew (R467, R486). -/
def useSession (s : State) (n : Nat) : State :=
  let s1 : State := { s with dict := { s.dict with requests := s.dict.requests + 1 } }
  s1.setSes n { s1.ses n with used := s1.dict.requests }

/-- The link session of an ORIGIN (R467): the one that holds it, else a free one, else the one idle longest where that has been idle for
10 s. -/
def linkSession (s : State) (origin : Nat) (idle : Bool) : Option Nat × State :=
  let all := (List.range 16).map (fun i => 16 + i)
  let fresh := fun n => (some n, useSession (s.setSes n { origin := some origin }) n)
  match all.find? (fun n => (s.ses n).origin == some origin) with
  | some n => (some n, useSession s n)
  | none =>
    match all.find? (fun n => (s.ses n).origin.isNone) with
    | some n => fresh n
    | none =>
      let oldest := all.foldl (fun b n => if (s.ses n).used < (s.ses b).used then n else b) 16
      if idle then fresh oldest else (none, s)

/-- The bytes a request record must have for what its head says: a WRITE carries its value (R470, R471). -/
def recordNeed (rec : List Byte) : Nat :=
  if rec.headD 0 = 0x02 then 8 + leBytes ((rec.drop 4).take 4) else 8

/-- A dictionary request that came over a link (R467, R479): dropped with LEN 0 or where its record overruns its flits. -/
def linkRequest (s : State) (p : Packet) (idle : Bool) : State :=
  let x := p.ext.toNat
  if p.len = 0 ∨ p.payload.length < recordNeed p.payload then dictDrop s
  else
    let r := linkSession s (bitsOf x 31 16) idle
    let q : DictReq := ⟨r.1.getD noSession, bitsOf x 12 0, .link (bitsOf x 59 56) (bitsOf x 55 48) (bitsOf x 47 32) (bitsOf x 31 16) p.pri.toNat,
      p.payload⟩
    { r.2 with dict := { r.2.dict with queue := r.2.dict.queue ++ [q] } }

/-- A forwarded error report (R40, R495): one remote report of its class against the receiving link port's unit. A message that no link
brought is no error of another device; it is dropped (log entry 131). -/
def remoteReport (s : State) (p : Packet) : State :=
  if p.icls.toNat ≠ iclsLink then dictDrop s else
  let b := p.payload
  let r : Report := ⟨portUnit (p.src.toNat / 16) (p.src.toNat % 16), leBytes ((b.drop 1).take 1), leBytes ((b.drop 4).take 4),
    leBytes ((b.drop 24).take 4)⟩
  { s with err := { s.err with remote := s.err.remote ++ [(r, leBytes ((b.drop 28).take 2))] } }

/-- The relay session a response completes (R480). -/
def relaySession (s : State) (p : Packet) : Option Nat :=
  (List.range 32).find? (fun n =>
    let r := (s.ses n).relay
    r.state == 1 && decide (r.seq = bitsOf p.ext.toNat 12 0) && decide (bitsOf p.ext.toNat 31 16 = s.fld uCns F.cnsSysidSysid))

/-- The length of a response record as its head gives it (R470, R471): a READ response carries its value, a segment what came with it. -/
def responseLen (b : List Byte) : Nat :=
  match (b.headD 0).toNat with
  | 0x81 => min (8 + leBytes ((b.drop 4).take 4)) b.length
  | 0x85 => b.length
  | _ => min 8 b.length

/-- A response that came over a link (R480): it completes the relay it matches; any other is dropped. -/
def relayArrive (s : State) (p : Packet) : State :=
  match relaySession s p with
  | some n =>
    let x := s.ses n
    s.setSes n { x with relay := { x.relay with state := 2, response := p.payload.take (responseLen p.payload) } }
  | none => dictDrop s

/-- An LMSG that reached node 96, port 6 (R209). -/
def lmsgArrive (s : State) (p : Packet) (idle : Bool) : State :=
  let t := s.takeReq p
  match p.ext.toNat / 2 ^ 60 with
  | 1 => linkRequest t p idle
  | 2 => relayArrive t p
  | 3 => remoteReport t p
  | _ => dictDrop t

/-- The LMSG that have reached node 96, port 6, and are no responses, taken in turn (R209); responses wait for RELAY_RESPONSE. -/
def takeLmsg (s : State) (idle : Bool) : State :=
  (s.net.reqs.filter (fun p => p.op == opLmsg && p.dst.toNat == codeOf 96 6 && p.ext.toNat / 2 ^ 60 != 2)).foldl
    (fun (t : State) p => lmsgArrive t p idle) s

/-- Whether an LMSG waits at node 96, port 6, that is no response (R209). -/
def lmsgWaits (s : State) : Bool :=
  s.net.reqs.any (fun p => p.op == opLmsg && p.dst.toNat == codeOf 96 6 && p.ext.toNat / 2 ^ 60 != 2)

/-- LINK_PACKET_RECEIVE (R203-R206): the oldest packet of a receiving lane, the request or the response lane of a PRI (R197). -/
def execLinkPacketReceive (p : Fin 16) (pri : Fin 4) (response : Bool) (s : State) : Out :=
  if s.dom (150 + p.val / 4) ≠ domRun ∨ s.clk.halted then .next s else 
  .next (absorbLink (linkReceive s p (2 * pri + boolNat response)) p)

/-! ### Ingress ports (R171, R182-R184) -/

/-- The attachment of a port takes what has been delivered to it. -/
def absorbAt (s : State) (node port : Nat) : State :=
  match port with
  | 0 => absorbFp s node
  | 2 => if node = 19 then pciRun s 0 else if node = 108 then pciRun s 1 else s
  | 3 => absorbLink s (portUnit node 3 - uLnk 0)
  | 4 => absorbCore s (portUnit node 4 - uCore 0)
  | 8 => if node = 96 then absorbDebug s else s
  | 9 => s.setNetPort (codeOf node 9) { s.netPort (codeOf node 9) with delivered := [] }
  | _ => s

/-- INGRESS_ACCEPT (R171, R174, R175, R182): a packet that an initiator hands to its port. -/
def execIngressAccept (node : BitVec 7) (port : BitVec 4) (p : Packet) (s : State) : Out :=
  let n := node.toNat
  let k := port.toNat
  if !portOccupied n k || k == 1 || decide (9 ≤ k) || (k == 0 && (!s.regionRuns n || !fpActs s n)) || s.clk.halted then .next s
  else .next (absorbAt (ingress s (codeOf n k) p) n k)

/-- Whether a response waits on its way: the mesh is stopped, or its domain is STOPPED (R185). -/
def rspWaits (s : State) (p : Packet) : Bool :=
  s.clk.halted || (match dstDomain p with
    | some d => s.dom d == domStopped
    | none => false)

/-- Whether a response is the next of those that have reached its port (R176). -/
def rspTurn (s : State) (p : Packet) : Bool := !(s.net.rsps.takeWhile (fun q => q != p)).any (fun q => q.dst == p.dst)

/-- RESPONSE_ACCEPT (R182-R184): the oldest response at an ingress port is taken by the port of its request. -/
def execResponseAccept (p : Packet) (s : State) : Out :=
  let n := p.dst.toNat / 16
  let k := p.dst.toNat % 16
  if !s.net.rsps.contains p || !portOccupied n k || k == 12 || rspWaits s p || !rspTurn s p then .next s
  else
    let s1 : State := { s with net := { s.net with rsps := s.net.rsps.erase p } }
    .next (absorbAt (completeRsp s1 (codeOf n k) p) n k)

/-- REQUEST_TIMEOUT (R183): the deadline of a request passes without a response. -/
def execRequestTimeout (node : BitVec 7) (port : BitVec 4) (tag : BitVec 16) (s : State) : Out :=
  if s.clk.halted then .next s
  else .next (absorbAt (timeoutReq s (codeOf node.toNat port.toNat) tag.toNat) node.toNat port.toNat)

/-- RELAY_RESPONSE (R480): a message of MTYPE 2 reaches node 96, port 6. -/
def execRelayResponse (p : Packet) (s : State) : Out :=
  if s.net.reqs.contains p && p.op == opLmsg && p.dst.toNat == codeOf 96 6 && p.ext.toNat / 2 ^ 60 == 2 then .next (lmsgArrive s p false)
  else .next s

end Sys2Proof.Machine
end

