-- ==== Sys2Proof/Machine/Objects.lean ====
section
/-! DEFINITION. The object dictionary's tables: every index and subindex with its type, its access code and what stands behind it (R130,
R131, R163, R192, R193, R219, R220, R246, R280, R281, R312-R314, R346, R347, R367, R397, R421, R431, R459, R480, R487, R492, R498-R500,
R534, R554). -/

namespace Sys2Proof.Machine

open Sys2Proof

/-- The access codes of objects (R463). -/
inductive ObjAcc where
  | ro | const | wo | rw | rwp | rwe
deriving DecidableEq, Repr

/-- Writes that are more than a register's, a selector's or a stored value's. -/
inductive ObjAct where
  | cfgCmd | commitSvn | modeCmd | service | resetCmd
  | imem (i : Nat) | slotBase (k : Nat) | cnsRef | wrapBuf | levelsOff | debugKey
  | keyHash | revoke | wrapKey | answer | unlock | expertKey | returnPrep
  | nonce | relay | relayTimeout | errPop | period
deriving DecidableEq, Repr

/-- What a subindex holds: a value that is computed, a selector of the session with its highest value, a mirror of a register (R464), a
write that acts beside a value that reads, a fresh challenge, a fresh attestation object; or it does not exist at present. -/
inductive ObjKind where
  | value (bs : List Byte)
  | sel (max : Nat)
  | mirror (u off : Nat)
  | act (a : ObjAct) (bs : List Byte)
  | challenge
  | attest
  | absent
deriving DecidableEq, Repr

/-- A subindex: the least and the most bytes of its value (R462), its access code, what it holds. -/
structure ObjSub where
  lo : Nat
  hi : Nat
  acc : ObjAcc
  kind : ObjKind
deriving DecidableEq, Repr

/-- An unsigned value of `n` bytes that only reads. -/
def ro (n v : Nat) : ObjSub := ⟨n, n, .ro, .value (toLeBytes n v)⟩
/-- A constant of `n` bytes. -/
def konst (n v : Nat) : ObjSub := ⟨n, n, .const, .value (toLeBytes n v)⟩
/-- Bytes that only read. -/
def roBytes (lo hi : Nat) (bs : List Byte) : ObjSub := ⟨lo, hi, .ro, .value bs⟩
/-- A selector of `n` bytes. -/
def sel (n : Nat) (a : ObjAcc) (max : Nat) : ObjSub := ⟨n, n, a, .sel max⟩
/-- A mirror of a register. -/
def mir (a : ObjAcc) (u off : Nat) : ObjSub := ⟨4, 4, a, .mirror u off⟩
/-- A mirror of the low `n` bytes of a register, or of two registers. -/
def mirN (n : Nat) (a : ObjAcc) (u off : Nat) : ObjSub := ⟨n, n, a, .mirror u off⟩
/-- A value of `lo` to `hi` bytes whose write acts. -/
def actSub (lo hi : Nat) (a : ObjAcc) (w : ObjAct) (bs : List Byte) : ObjSub := ⟨lo, hi, a, .act w bs⟩
/-- A subindex that does not exist at present. -/
def gone : ObjSub := ⟨0, 0, .ro, .absent⟩

/-- A selector's value in a session (R465). -/
def State.selOf (s : State) (n index sub : Nat) : Nat := SMap.get 0 (s.ses n).sel (index * 256 + sub)

/-- A field of a register as a read shows it. -/
def peekF (s : State) (u : Nat) (f : Fld) (i : Nat := 0) (j : Nat := 0) : Nat := getBits (csrPeek s u (f.at i j)) f.hi f.lo

/-- A sum shown as a U32: where it does not fit, the spec states no value and it is free. -/
def sum32 (s : State) (l : List Nat) : ObjSub := ro 4 (if l.sum < 2 ^ 32 then l.sum else s.fresh)

/-- Zero bytes. -/
def zeros (n : Nat) : List Byte := List.replicate n 0

/-- The characters of a string, all of ASCII. -/
def ascii (t : String) : List Byte := t.toList.map (fun c => BitVec.ofNat 8 c.toNat)

/-- FW_VERSION (R457, R499). -/
def fwVersion (s : State) : Nat := s.fld uMgt F.mgtFwVersionLoVersion + s.fld uMgt F.mgtFwVersionHiVersion * 2 ^ 32

/-- The attestation private key (R491). -/
def attestKey : Nat := Config.attestSecret.toNat % (Crypto.n384 - 1) + 1

/-- The state of a signer key slot: 0 empty, 1 provisioned, 2 revoked (R487). -/
def keySlotState (s : State) (k : Nat) : Nat :=
  if s.fuse.revoked.contains k then 2 else if (SMap.find s.fuse.slots k).isSome then 1 else 0

/-- The registers of a wide value, as bytes. -/
def regBytes (s : State) (u n : Nat) (f : Fld) : List Byte := (List.range n).flatMap (fun k => toLeBytes 4 (peekF s u f k))

/-- Function 0x00 (R459). -/
def objModes (s : State) : Nat → List ObjSub
  | 0x2000 => [ro 1 (peekF s uMgt F.mgtModeMode), mir .ro uMgt (F.mgtModeStatusCause.at 0 0), mir .ro uMgt (F.mgtResetCauseSupplyTmo.at 0 0),
      mir .ro uMgt (F.mgtStrapNodeId.at 0 0), mir .ro uMgt (F.mgtBootPhase.at 0 0), mirN 8 .ro uMgt (F.mgtFwVersionLoVersion.at 0 0), mir .ro uMgt (F.mgtSupplyVccioS.at 0 0),
      mir .ro uMgt (F.mgtSupplyIoVccioU.at 0 0)]
  | 0x6000 => [actSub 4 4 .rwe .modeCmd (zeros 4), mir .rwe uMgt (F.mgtWakeEnSrc.at 0 0), mir .rwe uMgt (F.mgtWakeTmrLfCycles.at 0 0), mir .rwe uMgt (F.mgtDrowsePpFabric.at 0 0)] ++
      (List.range 5).map (fun i => mir .rwe uMgt (F.mgtDrowseKeepDomains.at i 0)) ++ (List.range 4).map (fun i => mir .rwe uMgt (F.mgtDrowseOffRegions.at i 0)) ++
      [mir .rwe uMgt (F.mgtThermCrit.at 0 0), mir .rwe uMgt (F.mgtBootPhase.at 0 0)]
  | 0x6001 => [actSub 1 1 .rwp .service [0]]
  | 0x6002 => [actSub 1 1 .rwe .resetCmd [0]]
  | _ => []

/-- Function 0x01 (R421). -/
def objClocks (s : State) (n : Nat) : Nat → List ObjSub
  | 0x2100 => [mir .ro uClk (F.clkOscStatusDepth.at 0 0), mir .ro uClk (F.clkHfTrimErr.at 0 0),
      ro 1 ((List.range 3).map (fun g => min 3 (s.fld uClk F.clkVfStatusCur g) * 4 ^ g)).sum, mir .ro uClk (F.clkDenyCntCount.at 0 0)]
  | 0x2101 => [sel 1 .rw 159, mir .ro uClk (F.clkDomState.at (s.selOf n 0x2101 1) 0)]
  | 0x6100 => [mir .rwe uClk (F.clkOscCtrlTrimPort.at 0 0), mir .rwe uClk (F.clkMonTol.at 0 0), mir .rwe uClk (F.clkIdleCycles.at 0 0), mir .rwe uClk (F.clkPllIdleUs.at 0 0),
      mir .rwe uClk (F.clkHfTrimErr.at 0 0)]
  | 0x6101 => [sel 1 .rwe 63, mir .rwe uClk (F.clkPllCfgEn.at (s.selOf n 0x6101 1) 0), mir .rwe uClk (F.clkPllOutStandby.at (s.selOf n 0x6101 1) 0)]
  | 0x6102 => [sel 1 .rwe 2, mir .rwe uClk (F.clkVfCtrlPmbAddr.at (s.selOf n 0x6102 1) 0), mir .rwe uClk (F.clkVfStatusBusy.at (s.selOf n 0x6102 1) 0)]
  | 0x6103 => [sel 1 .rwe 159, mir .rwe uClk (F.clkDomState.at (s.selOf n 0x6103 1) 0)]
  | _ => []

/-- Function 0x02 (R280, R281, R314). -/
def objConfig (s : State) (n : Nat) : Nat → List ObjSub
  | 0x2200 => [mir .ro uCfg (F.cfgStatusPhase.at 0 0), mir .ro uCfg (F.cfgFailInfoInfo.at 0 0), ro 1 (peekF s uCfg F.cfgSvnCounter), ro 8 s.cfg.version.toNat,
      roBytes 48 48 ((s.cfg.buildId ++ zeros 48).take 48), ro 2 ((List.range 128).filter (fun r => (s.active r).isSome)).length]
  | 0x2201 =>
    let r := s.selOf n 0x2201 1
    [sel 1 .rw 127, mir .ro uCfg (F.cfgRegionStage.at r 0), mir .ro uCfg (F.cfgPlaneSvn.at r 0), mir .ro uCfg (F.cfgPlaneSvn.at r 1)]
  | 0x6200 => [actSub 4 4 .rwe .cfgCmd (zeros 4)] ++ (List.range 4).map (fun i => mir .rwe uCfg (F.cfgFlipMaskRegions.at i 0)) ++
      [mir .rwe uCfg (F.cfgReleaseGapCycles.at 0 0), mir .rwe uCfg (F.cfgCtrlExtCmd.at 0 0)]
  | 0x6201 => [mir .rwe uCfg (F.cfgXspiBaseAddr.at 0 0), mir .rwe uCfg (F.cfgXspiCfgRdOpc.at 0 0), mir .rwe uCfg (F.cfgStageBaseLoBase.at 0 0),
      mir .rwe uCfg (F.cfgStageBaseHiBase.at 0 0), mir .rwe uCfg (F.cfgStageBaseLoBase.at 1 0), mir .rwe uCfg (F.cfgStageBaseHiBase.at 1 0),
      mir .rwe uCfg (F.cfgStageSizeMib.at 0 0), mir .rwe uCfg (F.cfgStageSizeMib.at 1 0)]
  | 0x6202 => [actSub 1 1 .rwp .commitSvn [0]]
  | 0x6203 => [mir .rwe uCfg (F.cfgSlPortEn.at 0 0)] ++ (List.range 4).map (fun i => mir .rwe uCfg (F.cfgSlGrantRegions.at i 0))
  | _ => []

/-- Functions 0x03 and 0x04 (R312, R313). -/
def objScrub (s : State) (n : Nat) : Nat → List ObjSub
  | 0x2300 => [mir .ro uScb (F.scbStatusTmr.at 0 0), mir .ro uScb (F.scbLapTimeLapUs.at 0 0), mir .ro uScb (F.scbCorrCntCount.at 0 0), mir .ro uScb (F.scbUnrepCntCount.at 0 0),
      mir .ro uScb (F.scbErrFarFar.at 0 0)]
  | 0x6300 =>
    let k := s.selOf n 0x6300 6
    [mir .rwe uScb (F.scbCtrlXspiTry.at 0 0)] ++ (List.range 4).map (fun i => mir .rwe uScb (F.scbRegionEnRegions.at i 0)) ++
      [sel 1 .rwe 3, actSub 8 8 .rwe (.slotBase k) (toLeBytes 8
        ((s.fld uScb F.scbRepairLoBase k + s.fld uScb F.scbRepairHiBase k * 2 ^ 32) / 64 * 64)), mir .rwe uScb (F.scbRepairSizeUnits.at k 0)]
  | 0x2400 => [mir .ro uCns (F.cnsStatusPhase.at 0 0), mir .ro uCns (F.cnsRoundRound.at 0 0), mir .ro uCns (F.cnsCountCount.at 0 0), mir .ro uCns (F.cnsDissentsCount.at 0 0),
      mir .ro uCns (F.cnsMissingPorts.at 0 0), roBytes 48 48 (regBytes s uCns 12 F.cnsDigestDigest)]
  | 0x6400 => [mir .rwe uCns (F.cnsCtrlPeriod.at 0 0), mirN 2 .rwe uCns (F.cnsSysidSysid.at 0 0), mir .rwe uCns (F.cnsWaitUs.at 0 0), mir .rwe uCns (F.cnsExpectDevices.at 0 0)] ++
      (List.range 4).map (fun i => mir .rwe uCns (F.cnsScopeRegions.at i 0)) ++
      [actSub 48 48 .rwe .cnsRef (regBytes s uCns 12 F.cnsRefRef), mir .rwe uCns (F.cnsCmdDigestNow.at 0 0)]
  | _ => []

/-- Function 0x05 (R192, R193): a port that is not occupied has no subindices 3-8. -/
def objNetwork (s : State) (n : Nat) : Nat → List ObjSub
  | 0x2500 =>
    let ports := (List.range 2048).filter (fun k => portOccupied (k / 16) (k % 16))
    let routers := List.range 128
    [sum32 s (ports.map (fun k => s.fld (uNoc (k / 16)) F.nocTmoCntCount (k % 16))),
      sum32 s (ports.map (fun k => s.fld (uNoc (k / 16)) F.nocLateCntCount (k % 16))),
      sum32 s (routers.map (fun r => s.fld (uNoc r) F.nocMalfCntCount)), sum32 s (routers.map (fun r => s.fld (uNoc r) F.nocNorouteCntCount)),
      sum32 s (routers.map (fun r => s.fld (uNoc r) F.nocWakefailCntCount))]
  | 0x2501 =>
    let u := uNoc (s.selOf n 0x2501 1)
    [sel 1 .rw 127, mir .ro u (F.nocRtStatusWakefail.at 0 0)] ++ (List.range 4).map (fun i => mir .ro u (F.nocLinkFlitsCount.at i 0)) ++ [mir .ro u (F.nocWakeCntCount.at 0 0)]
  | 0x6500 => [sel 1 .rwe 127, mir .rwe (uNoc (s.selOf n 0x6500 1)) (F.nocRtCtrlFloor1.at 0 0)]
  | 0x6501 =>
    let r := s.selOf n 0x6501 1
    let p := s.selOf n 0x6501 2
    let here := fun (x : ObjSub) => if portOccupied r p && p != 12 then x else gone
    [sel 1 .rwe 127, sel 1 .rwe 15, here (mir .rwe (uNoc r) (F.nocTmoCycles.at p 0)), here (mir .rwe (uNoc r) (F.nocPortCtrlMaxout.at p 0)),
      here (mir .ro (uNoc r) (F.nocOutstCount.at p 0)), here (mir .ro (uNoc r) (F.nocTmoCntCount.at p 0)), here (mir .ro (uNoc r) (F.nocLateCntCount.at p 0)),
      here (mir .rwe (uNoc r) (F.nocPortStatusStray.at p 0))]
  | _ => []

/-- Function 0x06 (R219, R220, R397): lanes 32-39 of a die lack the subindices of the general lanes. -/
def objLinks (s : State) (n : Nat) : Nat → List ObjSub
  | 0x2600 =>
    let l := List.range 16
    [ro 2 (l.filter (fun p => s.linkState p == 2)).length, sum32 s (l.map (fun p => s.fld (uLnk p) F.lnkExhCntCount)),
      sum32 s (l.map (fun p => s.fld (uLnk p) F.lnkHoplimCntCount)), sum32 s (l.map (fun p => s.fld (uLnk p) F.lnkNolabelCntCount))]
  | 0x2601 =>
    let u := uLnk (s.selOf n 0x2601 1)
    [sel 1 .rw 15, mir .ro u (F.lnkStatusHoplim.at 0 0), mir .ro u (F.lnkPeerSysid.at 0 0), mir .ro u (F.lnkCrcCntCount.at 0 0), mir .ro u (F.lnkReplayCntCount.at 0 0)]
  | 0x6600 =>
    let u := uLnk (s.selOf n 0x6600 1)
    [sel 1 .rwe 15, mir .rwe u (F.lnkCtrlRetryMax.at 0 0), mir .rwe u (F.lnkAckTmoFrames.at 0 0), mir .rwe u (F.lnkMarkDivCycles.at 0 0), mir .rwe u (F.lnkRetrainGo.at 0 0)]
  | 0x6601 =>
    let l := s.selOf n 0x6601 2
    [sel 1 .rwe 15, sel 2 .rwe 65535,
      if l = 0 then ro 4 0 else mir .rwe (uLnk (s.selOf n 0x6601 1)) (F.lnkLabelEntry.at l 0)]
  | 0x2602 =>
    let k := s.selOf n 0x2602 1
    let u := uLane (k / 40)
    let here := fun (x : ObjSub) => if k % 40 < 32 then x else gone
    [sel 1 .rw 159, mir .ro u (F.laneStatusSignal.at (k % 40) 0), here (mir .ro u (F.lanePeerSysid.at (k % 40) 0)), here (mir .ro u (F.laneDownCntCount.at (k % 40) 0))]
  | 0x6602 =>
    let k := s.selOf n 0x6602 1
    let u := uLane (k / 40)
    let here := fun (x : ObjSub) => if k % 40 < 32 then x else gone
    [sel 1 .rwe 159, here (mir .rwe u (F.laneCtrlStuffMax.at (k % 40) 0)), here (mir .rwe u (F.laneRateMod.at (k % 40) 0)), here (mir .rwe u (F.laneSeedSeed.at (k % 40) 0)),
      here (mir .rwe u (F.laneSlipBits.at (k % 40) 0)), mir .rwe u (F.laneEyeCtrlStart.at (k % 40) 0), here (mir .rwe u (F.laneTuneTuneMs.at (k % 40) 0)),
      mir .ro u (F.laneEyeStatBusy.at (k % 40) 0), mir .ro u (F.laneEyeErrCount.at (k % 40) 0)]
  | 0x2610 =>
    let c := s.selOf n 0x2610 1
    [sel 1 .rw 1, mir .ro (uPci c) (F.pciStatusUpB.at 0 0), ro 2 ((List.range 256).filter (fun k => s.flag (uPci c) F.pciDmaStatHalted k)).length]
  | 0x6610 =>
    let u := uPci (s.selOf n 0x6610 1)
    let k := s.selOf n 0x6610 3
    [sel 1 .rwe 1, mir .rwe u (F.pciCtrlEn.at 0 0), sel 1 .rwe 255, mir .rwe u (F.pciDmaCtrlEn.at k 0), mir .ro u (F.pciDmaStatHalted.at k 0)]
  | _ => []

/-- Function 0x07 (R367). -/
def objDram (s : State) (n : Nat) : Nat → List ObjSub
  | 0x2700 =>
    let sum := fun f => sum32 s ((List.range 8).map (fun c => s.fld (uDdr c) f))
    [sum F.ddrCeCntCount, sum F.ddrUeCntCount, sum F.ddrAlertCntCount, sum F.ddrExhCntCount, ro 4 (s.ddr.installed / 2 ^ 30),
      ro 2 (s.fld (uDdr 0) F.ddrCapRate * 100)]
  | 0x2701 =>
    let u := uDdr (s.selOf n 0x2701 1)
    [sel 1 .rw 7, mir .ro u (F.ddrStatusState.at 0 0), mir .ro u (F.ddrCapRate.at 0 0), mir .ro u (F.ddrTrdCycles.at 0 0)]
  | 0x6700 =>
    let u := uDdr (s.selOf n 0x6700 1)
    [sel 1 .rwe 7, mir .rwe u (F.ddrCtrlWbCe.at 0 0), mir .rwe u (F.ddrSchedHwm.at 0 0), mir .rwe u (F.ddrAgeWrAge.at 0 0), mir .rwe u (F.ddrRefSb.at 0 0), mir .rwe u (F.ddrRdThActs.at 0 0),
      mir .rwe u (F.ddrRdThrGap.at 0 0), mir .rwe u (F.ddrRetrainInterval.at 0 0), mir .rwe u (F.ddrReplayReplayMax.at 0 0), mir .rwe u (F.ddrCmdOp.at 0 0)]
  | 0x6701 => [sel 1 .rwe 7, sel 1 .rwe 15, mir .rwe (uDdr (s.selOf n 0x6701 1)) (F.ddrTpCk.at (s.selOf n 0x6701 2) 0)]
  | _ => []

/-- Function 0x08 (R346, R347). -/
def objProtect (s : State) (n : Nat) : Nat → List ObjSub
  | 0x2800 =>
    let sum := fun f => sum32 s ((List.range 8).map (fun e => peekF s (uIpe e) f))
    [sum F.ipeAlarmCntCount, sum F.ipePoisonCntCount, sum F.ipeTransCntCount, sum F.ipeDenyCntCount, sum F.ipeQuarNumNum, ro 2 (s.fullGib)]
  | 0x2801 =>
    let k := s.selOf n 0x2801 1
    [sel 1 .rw 255, mir .ro uIpe0 (F.ipeKidCfgState.at k 0), mir .ro uIpe0 (F.ipeKidBaseGib.at k 0), mir .ro uIpe0 (F.ipeKidSizeGib.at k 0)]
  | 0x6800 =>
    let u := uIpe (s.selOf n 0x6800 1)
    [sel 1 .rwe 7, mir .rwe u (F.ipeCtrlSpecEn.at 0 0), mir .rwe u (F.ipeStatusQovf.at 0 0), mir .ro u (F.ipeAlarm0Addr.at 0 0), mir .ro u (F.ipeAlarm1Addr.at 0 0), mir .ro u (F.ipeAlarm2Icls.at 0 0),
      mir .ro u (F.ipeAlarm3Src.at 0 0), mir .rwe u (F.ipeAlarmPopPop.at 0 0)]
  | 0x6801 =>
    let k := s.selOf n 0x6801 1
    [sel 1 .rwe 255, mir .rwe uIpe0 (F.ipeKidCfgState.at k 0), mir .rwe uIpe0 (F.ipeKidBaseGib.at k 0), mir .rwe uIpe0 (F.ipeKidSizeGib.at k 0),
      mir .rwe uIpe0 (F.ipeKidCmdOp.at 0 0), mir .ro uIpe0 (F.ipeCmdStatBusy.at 0 0)]
  | 0x6802 => [actSub 40 40 .rwe .wrapBuf (zeros 40)]
  | 0x6803 => [mir .rwe uIpe0 (F.ipeMetaBaseGib.at 0 0), mir .rwe uIpe0 (F.ipeMetaSizeGib.at 0 0), sel 1 .rwe 63,
      mir .rwe uIpe0 (F.ipeVonlySrc.at (s.selOf n 0x6803 3) 0)]
  | _ => []

/-- Function 0x09 (R246). -/
def objDispatcher (s : State) (n : Nat) : Nat → List ObjSub
  | 0x2900 =>
    let sum := fun f => sum32 s ((List.range 8).map (fun k => peekF s (uDsp k) f))
    [sum F.dspTokensCount, sum F.dspTakesCount, sum F.dspBusyCntCount, sum F.dspFreeGeneral, sum F.dspRsvFreeReserve, mirN 8 .ro (uDsp 0) (F.dspNowLoNow.at 0 0)]
  | 0x2901 => [sel 1 .rw 255, mir .ro (uDsp 0) (F.dspGCtrlEn.at (s.selOf n 0x2901 1) 0)]
  | 0x6900 =>
    let u := uDsp (s.selOf n 0x6900 1)
    [sel 1 .rwe 7, mir .rwe u (F.dspCtrlEn.at 0 0), mir .rwe u (F.dspHoldCycles.at 0 0), mir .rwe u (F.dspStatusLost.at 0 0)]
  | 0x6901 =>
    let g := s.selOf n 0x6901 1
    [sel 1 .rwe 255, mirN 8 .rwe (uDsp 0) (F.dspGBaseLoBase.at g 0), mir .rwe (uDsp 0) (F.dspGCtrlEn.at g 0)]
  | 0x6902 =>
    let u := uDsp (s.selOf n 0x6902 1)
    let p := s.selOf n 0x6902 2
    [sel 1 .rwe 7, sel 1 .rwe 63, mir .rwe u (F.dspTpMaskMask.at p 0), mir .rwe u (F.dspTpWaitWait.at p 0)]
  | 0x6903 => [mir .rwe (uDsp 0) (F.dspTickDivDiv.at 0 0)]
  | _ => []

/-- The highest instance of a budget channel (R423). -/
def lastInstance (c : Nat) : Nat := [7, 7, 7, 7, 3, 3, 7, 7, 0, 0].getD c 0

/-- A meter's value for the instance that the session has selected (R431). -/
def budMeter (s : State) (n : Nat) (f : BudInst → Nat) : ObjSub := ro 4 (f (s.meter (s.selOf n 0x2A00 3) (s.selOf n 0x2A00 4)))

/-- Function 0x0A (R431). -/
def objBudgets (s : State) (n : Nat) : Nat → List ObjSub
  | 0x2A00 => [mir .ro uBud (F.budStatusStarved.at 0 0), mir .ro uBud (F.budFretsCount.at 0 0), sel 1 .rw 9, sel 1 .rw (lastInstance (s.selOf n 0x2A00 3)),
      budMeter s n (·.used), budMeter s n (·.debt), budMeter s n (·.heldCnt)]
  | 0x6A00 => [mir .rwe uBud (F.budCtrlFretNs.at 0 0), mir .rwe uBud (F.budStarveFrets.at 0 0)]
  | 0x6A01 =>
    let c := s.selOf n 0x6A01 1
    [sel 1 .rwe 9, mir .rwe uBud (F.budCapUnits.at c 0), mir .rwe uBud (F.budFloorUnits.at c 0)]
  | _ => []

/-- Function 0x0B (R554). -/
def objPins (s : State) (n : Nat) : Nat → List ObjSub
  | 0x2B00 =>
    let b := s.selOf n 0x2B00 4
    [mir .ro uPin (F.pinConflictValid.at 0 0), mir .ro uPin (F.pinDenyCntCount.at 0 0), mir .ro uPin (F.pinConflictCntCount.at 0 0), sel 1 .rw 4, mir .ro uPin (F.pinDinDin.at b 0),
      mir .ro uPin (F.pinPmStatFired.at b 0), mir .ro uAo (F.pinAoDinDin.at 0 0), sel 1 .rw 15, mir .ro uPin (F.pinAdcResValid.at (s.selOf n 0x2B00 8) 0)]
  | 0x6B00 =>
    let p := s.selOf n 0x6B00 1
    [sel 1 .rwe 191, if p < 160 then mir .rwe uPin (F.pinCfgFunc.at p 0) else mir .rwe uAo (F.pinAoCfgAn.at (p - 160) 0)]
  | 0x6B01 =>
    let b := s.selOf n 0x6B01 1
    let k := s.selOf n 0x6B01 5
    [sel 1 .rwe 4, mir .rwe uPin (F.pinDoutDout.at b 0), mir .rwe uPin (F.pinOeOe.at b 0), mir .rwe uPin (F.pinSbPortEn.at b 0), sel 1 .rwe 7,
      mir .rwe uPin (F.pinPmMaskMask.at b k), mir .rwe uPin (F.pinPmValVal.at b k), mir .rwe uPin (F.pinPmCtrlEn.at b k)]
  | 0x6B02 => [mir .rwe uAo (F.pinAoDoutDout.at 0 0), mir .rwe uAo (F.pinAoOeOe.at 0 0), mir .rwe uAo (F.pinAoEnPmbAlt.at 0 0)]
  | _ => []

/-- Functions 0x0C and 0x0E (R534). -/
def objDebug (s : State) (n : Nat) : Nat → List ObjSub
  | 0x2C00 => [mir .ro uDbg (F.dbgLevelFabric.at 0 0), mir .ro uDbg (F.dbgStatusSession.at 0 0),
      ro 1 ((List.range 33).filter (fun i => s.flag uDbg F.dbgHstatHalted i)).length]
  | 0x6C00 => [mir .rwe uDbg (F.dbgCtrlPeek.at 0 0), mir .rwp uDbg (F.dbgLevelFabric.at 0 0), actSub 1 1 .rwe .levelsOff [0]]
  | 0x6C01 => [sel 1 .rwe 63, mir .rwe uPrb (F.prbPinEn.at (s.selOf n 0x6C01 1) 0), mir .rwe uPrb (F.prbCtrlDiv.at 0 0)]
  | 0x6C02 => [actSub 97 97 .rwp .debugKey ((s.fuse.debugKey.getD []) ++ zeros 97 |>.take 97), ro 1 (boolNat s.fuse.debugKey.isSome)]
  | 0x2E00 => [mir .ro uMgt (F.mgtCoreRunRun.at 0 0),
      ro 2 ((List.range 4096).filter (fun i => s.evtPend i)).length]
  | 0x6E00 =>
    let w := s.selOf n 0x6E00 2
    [mir .rwe uMgt (F.mgtCoreRunRun.at 0 0), sel 1 .rwe 32,
      if w = 32 then mir .rwe uMgt (F.mgtWdogCtrlEn.at 0 0) else mir .rwe uEvt (F.evtWdCtrlEn.at w 0),
      if w = 32 then mir .rwe uMgt (F.mgtWdogReloadLfCycles.at 0 0) else mir .rwe uEvt (F.evtWdReloadUs.at w 0),
      sel 2 .rwe 4095, mir .rwe uEvt (F.evtPrioPrio.at (s.selOf n 0x6E00 5) 0)]
  | _ => []

/-- Function 0x0D (R500): its values are those measured at the last refresh. -/
def objTelemetry (s : State) (measured : Nat) : Nat → List ObjSub
  | 0x2D00 => List.replicate 5 (ro 4 measured)
  | 0x2D01 => [sel 1 .rw 159, ro 4 measured, ro 4 measured]
  | 0x2D02 => [sel 1 .rw 7, ro 4 measured]
  | 0x2D03 => [sel 1 .rw 7, ro 4 measured]
  | 0x6D00 => [actSub 4 4 .rwe .period (toLeBytes 4 s.dict.period)]
  | _ => []

/-- A mirror of a queue register: unit and offset. -/
def qMir (a : ObjAcc) (qn : Nat) (f : Fld) : ObjSub := mir a (uDie (qn / 8192)) (f.at (qn % 8192) 0)

/-- A mirror of a tap engine's register. -/
def tapMir (a : ObjAcc) (i : Nat) (f : Fld) (j : Nat := 0) : ObjSub := mir a (uDie (i / 1024)) (f.at (i % 1024) j)

/-- Function 0x0F (R130, R131, R163). -/
def objFabric (s : State) (n : Nat) : Nat → List ObjSub
  | 0x2F00 =>
    let sum := fun f => sum32 s ((List.range 8).map (fun d => peekF s (uDie d) f))
    [sum F.bmCountsStored, sum F.bmCountsTransient, sum F.spnFenceNumCount, sum F.spnRepairsRepairedSites, sum F.spnRepairsDegradedSites,
      ro 4 (((List.range 8).map (fun d => peekF s (uDie d) F.spnLapTimeLapUs)).foldl max 0)]
  | 0x2F01 =>
    let q := s.selOf n 0x2F01 1
    [sel 2 .rw 65535, qMir .ro q F.qcCountCount, qMir .ro q F.qcStatusHeld, qMir .ro q F.qcRefusedCount]
  | 0x2F08 =>
    let i := s.selOf n 0x2F08 1
    let count := fun st => ((List.range 8192).filter (fun k => s.ef k F.tapStatusState == st)).length
    [sel 2 .rw 8191, tapMir .ro i F.tapStatusPc, tapMir .ro i F.tapCyclesCount, tapMir .ro i F.tapBxBh, ro 2 (count tapFault), ro 2 (count tapRun)]
  | 0x6F00 => (List.range 8).map (fun d => mir .rwe (uDie d) (F.spnCtrlMinEye.at 0 0))
  | 0x6F01 => (List.range 8).map (fun d => mir .rwe (uDie d) (F.spnFenceClrAll.at 0 0))
  | 0x6F02 =>
    let u := uDie (s.selOf n 0x6F02 1)
    [sel 1 .rwe 7, mir .rwe u (F.spnSiteSelWire.at 0 0), mir .ro u (F.spnSiteDataSiteState.at 0 0), mir .rwe u (F.spnSiteCmdForceRepair.at 0 0)]
  | 0x6F03 =>
    let u := uDie (s.selOf n 0x6F03 1)
    [sel 1 .rwe 7, mir .rwe u (F.bmErrStatusValid.at 0 0), mir .rwe u (F.bmLineCmdOp.at 0 0), mir .ro u (F.bmLineStatBusy.at 0 0)]
  | 0x6F04 =>
    let u := uDie (s.selOf n 0x6F04 1)
    [sel 1 .rwe 7, mir .rwe u (F.bmFlipCtrlArm.at 0 0), mir .rwe u (F.bmFlipLoMask.at 0 0), mir .rwe u (F.bmFlipHiMask.at 0 0), mir .rwe u (F.bmFlipChkMask.at 0 0)]
  | 0x6F05 =>
    let q := s.selOf n 0x6F05 1
    [sel 2 .rwe 65535, qMir .rwe q F.qcCfgPresent, qMir .rwe q F.qcLimitCap, qMir .rwe q F.qcThAfullTh, qMir .rwe q F.qcStatusHeld, qMir .rwe q F.qcCtrlFlush,
      mir .rwe (uDie (q / 8192)) (F.bmMemStatLayout.at (q % 8192 / 4) 0)]
  | 0x6F06 => (List.range 8).map (fun d => mir .rwe (uDie d) (F.qcHoldCycles.at 0 0))
  | 0x6F08 =>
    let i := s.selOf n 0x6F08 1
    [sel 2 .rwe 8191, tapMir .rwe i F.tapCmdClear, tapMir .rwe i F.tapCfgFabEn, tapMir .rwe i F.tapDbAddAdd] ++
      (List.range 4).map (fun j => tapMir .rwe i F.tapLcrCount j) ++
      [actSub 0 1024 .rwe (.imem i) ((List.range 256).flatMap (fun k => toLeBytes 4 (imemWord s i k)))]
  | _ => []

/-- Identity and communication (R499). -/
def objIdentity (s : State) (n : Nat) : Nat → List ObjSub
  | 0x1000 => [konst 4 0x54524D53, konst 4 0x4B38, konst 1 0x41, ro 1 Config.grade, roBytes 16 16 uid, ro 8 (fwVersion s),
      roBytes 0 16 (ascii "KRL-K8-" ++ [BitVec.ofNat 8 (0x30 + Config.grade)] ++ ascii "I-F4900"), konst 4 1]
  | 0x1001 => [ro 1 (s.fld uMgt F.mgtStrapNodeId), mir .rwe uCan (F.mgtCanCtrlEn.at 0 0), mir .rwe uCan (F.mgtCanCtrlEn.at 1 0),
      mir .ro uCan (F.mgtCanStatState.at 0 0), mir .ro uCan (F.mgtCanStatState.at 1 0)]
  | 0x1002 => [ro 1 n, ro 1 (boolNat (s.ses n).unlocked),
      ro 1 ((List.range 16).filter (fun i => (s.ses (16 + i)).origin.isSome)).length]
  | _ => []

/-- Security and presence (R487). -/
def objSecurity (s : State) (n : Nat) : Nat → List ObjSub
  | 0xA000 => [mir .ro uMgt (F.mgtPresStatusSealIntact.at 0 0)]
  | 0xA001 =>
    let k := s.selOf n 0xA001 1
    [sel 1 .rw 3, actSub 48 48 .rwp .keyHash (toBeBytes 48 ((SMap.find s.fuse.slots k).getD 0).toNat), actSub 1 1 .rwp .revoke [0],
      ro 1 (keySlotState s k)]
  | 0xA002 => [actSub 32 32 .rwp .wrapKey (zeros 32), roBytes 40 40 (((s.ses n).wrapped ++ zeros 40).take 40)]
  | 0xA003 => [⟨48, 48, .ro, .challenge⟩, actSub 48 48 .wo .answer [], actSub 1 1 .rw .unlock [BitVec.ofNat 8 (boolNat (s.ses n).unlocked)],
      actSub 48 48 .rwp .expertKey (zeros 48)]
  | 0xA0F0 => [actSub 1 1 .rwp .returnPrep [0]]
  | _ => []

/-- Measurement and attestation (R492), and the relay (R480). -/
def objAttest (s : State) (n : Nat) : Nat → List ObjSub
  | 0xB000 => (List.range 8).map (fun i => roBytes 48 48 (toBeBytes 48 (s.measOf i).toNat))
  | 0xB001 => [actSub 32 32 .rw .nonce (match (s.ses n).nonce with
        | some v => toLeBytes 32 v.toNat
        | none => zeros 32),
      ⟨608, 608, .ro, .attest⟩, roBytes 97 97 (uncompressed (Crypto.publicKey attestKey)),
      roBytes 0 2048 ((List.range Config.certLength.val).map (Config.identityByte 1))]
  | 0xC000 => [actSub 16 4104 .wo .relay [], roBytes 0 4096 (s.ses n).relay.response, ro 1 (s.ses n).relay.state,
      actSub 4 4 .rw .relayTimeout (toLeBytes 4 (s.ses n).relay.timeoutMs)]
  | _ => []

/-- A table entry of the collector as a record (R498). -/
def entryRecord (s : State) (k : Nat) : List Byte :=
  match SMap.find s.err.entry k with
  | some e => recordOf k e (8 * boolNat (k == overflowEntry)) e.count (entrySysid e)
  | none => zeros 30 ++ toLeBytes 2 k

/-- Diagnostics (R498). -/
def objDiag (s : State) (n : Nat) : Nat → List ObjSub
  | 0xF000 => [mir .ro uErr (F.mgtErrStatusOvf.at 0 0), mir .ro uErr (F.mgtErrQnumNum.at 0 0), mir .ro uErr (F.mgtErrEntriesNum.at 0 0), mir .ro uErr (F.mgtErrTotalCount.at 0 0),
      mir .ro uErr (F.mgtErrOvfCntCount.at 0 0)]
  | 0xF001 => [roBytes 0 32 (s.err.queue.headD []), actSub 1 1 .rwe .errPop [0]]
  | 0xF002 => [sel 2 .rw 512, roBytes 32 32 (entryRecord s (s.selOf n 0xF002 1))]
  | 0xF003 => [mir .rwe uErr (F.mgtErrCtrlFwdEn.at 0 0), mir .rwe uErr (F.mgtErrWindowUs.at 0 0), mir .rwe uErr (F.mgtErrFwdHoplim.at 0 0)]
  | _ => []

/-- The subindices of an index, from 1 on, for a session; none where the index does not exist (R460, R461). -/
def objSubs (s : State) (n measured index : Nat) : List ObjSub :=
  if index / 0x1000 = 1 then objIdentity s n index
  else if index / 0x1000 = 0xA then objSecurity s n index
  else if index / 0x1000 = 0xB ∨ index / 0x1000 = 0xC then objAttest s n index
  else if index / 0x1000 = 0xF then objDiag s n index
  else if 0x2000 ≤ index ∧ index < 0xA000 then
    match (index - 0x2000) / 0x100 % 0x40 with
    | 0x00 => objModes s index
    | 0x01 => objClocks s n index
    | 0x02 => objConfig s n index
    | 0x03 => objScrub s n index
    | 0x04 => objScrub s n index
    | 0x05 => objNetwork s n index
    | 0x06 => objLinks s n index
    | 0x07 => objDram s n index
    | 0x08 => objProtect s n index
    | 0x09 => objDispatcher s n index
    | 0x0A => objBudgets s n index
    | 0x0B => objPins s n index
    | 0x0C => objDebug s n index
    | 0x0D => objTelemetry s measured index
    | 0x0E => objDebug s n index
    | 0x0F => objFabric s n index
    | _ => []
  else []

end Sys2Proof.Machine
end

