-- ==== Sys2Proof/Machine/Dict.lean ====
section
/-! DEFINITION. Serving the object dictionary: records, sessions, segmented transfers, abort order, what writes do, presence and seal, and the
CAN FD controllers (R460-R492, R573-R575). -/

namespace Sys2Proof.Machine

open Sys2Proof

/-! ### Records (R470, R471) -/

/-- Abort codes (R474). -/
def abNoIndex : Nat := 0x01000001
/-- The subindex does not exist. -/
def abNoSub : Nat := 0x01000002
/-- A write to ro or const. -/
def abReadOnly : Nat := 0x02000001
/-- A read of wo. -/
def abWriteOnly : Nat := 0x02000002
/-- A write to rwp without presence. -/
def abPresence : Nat := 0x02000003
/-- A write to rwe without expert unlock. -/
def abExpert : Nat := 0x02000004
/-- The length is above the size. -/
def abLong : Nat := 0x03000001
/-- The length is below the size. -/
def abShort : Nat := 0x03000002
/-- The value is out of range, or the CS is unknown. -/
def abRange : Nat := 0x03000003
/-- The state forbids the action. -/
def abState : Nat := 0x04000001
/-- A transfer timed out. -/
def abTimeout : Nat := 0x05000001
/-- A segment is out of order. -/
def abOrder : Nat := 0x05000002
/-- A write to rwp with the seal broken. -/
def abSeal : Nat := 0x06000001

/-- RMAX of a transport (R476, R478, R479). -/
def rmax : DictVia → Nat
  | .can _ => 64
  | .mailbox _ => 4096
  | .link _ _ _ _ pri => if pri = 3 then 256 else 4096

/-- CS of a record. -/
def recCs (r : List Byte) : Nat := (r.getD 0 0).toNat
/-- SUB of a record. -/
def recSub (r : List Byte) : Nat := (r.getD 1 0).toNat
/-- INDEX of a record. -/
def recIndex (r : List Byte) : Nat := leBytes ((r.drop 2).take 2)
/-- ARG of a record. -/
def recArg (r : List Byte) : Nat := leBytes ((r.drop 4).take 4)

/-- A record that answers a request. -/
def rspRecord (req : List Byte) (cs arg : Nat) (data : List Byte := []) : List Byte :=
  toLeBytes 1 cs ++ (req.drop 1).take 3 ++ toLeBytes 4 arg ++ data

/-! ### Answers (R476, R478, R479) -/

/-- The smallest CAN FD data length that holds `n` bytes. -/
def canLength (n : Nat) : Nat := ([0, 1, 2, 3, 4, 5, 6, 7, 8, 12, 16, 20, 24, 32, 48, 64].find? (fun l => decide (n ≤ l))).getD 64

/-- The state of a CAN FD controller follows its error counts, as ISO 11898-1 has it; bus-off lasts until the rejoin. -/
def showCan (s : State) (c : Nat) : State :=
  if s.fld uCan F.mgtCanStatState c = 2 then s
  else s.setFld uCan F.mgtCanStatState (boolNat (decide (127 < s.fld uCan F.mgtCanStatTec c ∨ 127 < s.fld uCan F.mgtCanStatRec c))) c

/-- Whether a CAN FD controller is on the bus (R475, R477). -/
def canOn (s : State) (c : Nat) : Bool :=
  s.flag uCan F.mgtCanCtrlEn c && s.fld uMgt F.mgtStrapNodeId != 0 && s.fld uCan F.mgtCanStatState c != 2

/-- A response frame sent: counted, and the transmit error count falls by one. -/
def canSend (s : State) (c seq : Nat) (rec : List Byte) : State :=
  if !canOn s c then s
  else
    let id := 0xB7 * 2 ^ 21 + s.fld uMgt F.mgtStrapNodeId * 2 ^ 14 + 2 ^ 13 + seq
    let n := canLength rec.length
    let s1 : State := { s with dict := { s.dict with canSent := s.dict.canSent ++ [⟨c, id, (rec ++ zeros 64).take n⟩] } }
    showCan ((s1.countSat uCan F.mgtCanTxCntCount 1 c).setFld uCan F.mgtCanStatTec (s.fld uCan F.mgtCanStatTec c - 1) c) c

/-- An LMSG that carries a record, to port 3 of a link port. -/
def recordLmsg (pri port label hops ext : Nat) (rec : List Byte) : Packet :=
  let n := (rec.length + 63) / 64
  { pri := BitVec.ofNat 2 pri, opc := BitVec.ofNat 6 opLmsg, len := BitVec.ofNat 8 n, tag := 0, dst := BitVec.ofNat 11 (linkCode port), src := 0,
    label := BitVec.ofNat 16 label, icls := 4, stat := 0, addr := 0, aux := 0, hoplim := BitVec.ofNat 8 hops, ext := BitVec.ofNat 64 ext,
    hdata := 0, body := toLines n rec }

/-- The request of a mailbox has been served. -/
def mailboxIdle (s : State) : DictVia → State
  | .mailbox c => s.setMailbox c { s.mailbox c with busy := false }
  | _ => s

/-- A response record sent back the way its request came. EXT of a link response copies ORIGIN and SEQ; the spec states no other bits of
it but MTYPE, and they are free. -/
def answerRecord (s : State) (via : DictVia) (seq : Nat) (rec : List Byte) : State :=
  match via with
  | .can c => canSend s c seq rec
  | .mailbox c =>
    let m := s.mailbox c
    let s1 := s.setMailbox c { m with busy := false, ready := true, seq := seq, response := rec }
    if m.irqEn then sendMsix s1 c 0 m.irqVec else s1
  | .link rport rhops rlabel origin pri =>
    if s.linkState rport ≠ 2 then dictDrop s
    else
      let ext := 2 * 2 ^ 60 + s.fresh % 2 ^ 28 * 2 ^ 32 + origin * 2 ^ 16 + seq
      ingress s.draw (codeOf 96 6) (recordLmsg pri rport rlabel rhops ext rec)

/-! ### Register accesses of the firmware (R38, R464) -/

/-- A message of the firmware to a unit. -/
def probe (u : Nat) : Packet :=
  { recordLmsg 2 0 0 0 0 [] with dst := BitVec.ofNat 11 (codeOf (attachment u).1 (attachment u).2) }

/-- A request of the firmware on its way through the mesh (R185, R402, R453): a gated domain is woken for it; where the mesh or the domain
is stopped, or no wake is allowed, it is not performed. -/
def reachUnit (s : State) (u : Nat) : Option State :=
  if privateUnit u then some s
  else if s.clk.halted then none
  else
    match dstDomain (probe u) with
    | none => some s
    | some d =>
      if s.dom d = domRun then some s
      else if s.dom d = domStopped ∨ !s.flag (uNoc (attachment u).1) F.nocRtCtrlWakeEn then none
      else some (s.routerWake (attachment u).1 d)

/-- An access of the firmware to the registers from an offset on: class 4. -/
def fwAccess (u off size v : Nat) : CsrAccess :=
  ⟨BitVec.ofNat 8 u, BitVec.ofNat 24 off, size, BitVec.ofNat 64 v, 4, BitVec.ofNat 11 (codeOf 96 6), privateUnit u⟩

/-- A register read for a mirror, or the abort (R464). -/
def fwRead (s : State) (u off size : Nat) : State × Except Nat Nat :=
  match reachUnit s u with
  | none => (s, .error abState)
  | some t =>
    let r := csrReadAccess t (fwAccess u off size 0)
    (r.1, if r.2.1 = .ok then .ok r.2.2 else .error abState)

/-- A register written for a mirror, or the abort (R464). -/
def fwWrite (s : State) (u off size v : Nat) : State × Option Nat :=
  match reachUnit s u with
  | none => (s, some abState)
  | some t =>
    let r := csrWrite t (fwAccess u off size v)
    (r.1, if r.2 = .ok then none else some abState)

/-- Registers written one after another from a list of words, until one access fails. -/
def fwWrites (s : State) (u off stride : Nat) : List Nat → State × Option Nat
  | [] => (s, none)
  | v :: r =>
    match fwWrite s u off 4 v with
    | (t, none) => fwWrites t u (off + stride) stride r
    | (t, some e) => (t, some e)

/-- Bytes as 32-bit words, the first byte the lowest. -/
def wordsLe : Nat → List Byte → List Nat
  | 0, _ => []
  | n + 1, bs => leBytes (bs.take 4) :: wordsLe n (bs.drop 4)

/-! ### Return preparation (R573, R574) -/

/-- Step `k` of return preparation (R573): the fuse RETURN_STARTED; KIDs and keys; the key-encryption key; the expert and debug keys; the fuse
RETURNED. -/
def returnStep (s : State) (k : Nat) : State :=
  match k with
  | 1 => { s with fuse := { s.fuse with returnStarted := true } }
  | 2 => zeroiseKeys s
  | 3 => { s with fuse := { s.fuse with kekBurned := true } }
  | 4 => { s with fuse := { s.fuse with expert := some (BitVec.allOnes 384), debugKey := some (List.replicate 97 0xFF) } }
  | 5 => { s with fuse := { s.fuse with returned := true } }
  | _ => s

/-- Steps of return preparation in order. -/
def returnSteps (s : State) (ks : List Nat) : State := ks.foldl returnStep s

/-- A return that began and did not end (R574): the boot ROM completes it before it serves any request. -/
def returnOpen (s : State) : Bool := s.fuse.returnStarted && !s.fuse.returned

/-! ### Reads (R462, R464, R485, R491) -/

/-- The bytes an attestation object is signed over (R491). -/
def attestBody (s : State) (n : Nat) : List Byte :=
  let digest := if s.flag uCns F.cnsStatusCurrent then regBytes s uCns 12 F.cnsDigestDigest else zeros 48
  [0x53, 0x41, 0x54, 0x54] ++ toLeBytes 2 1 ++ toLeBytes 2 608 ++ uid ++ toLeBytes 4 0x4B38 ++ toLeBytes 1 Config.grade ++ [0x41] ++
    toLeBytes 1 s.fuse.svn ++
    toLeBytes 1 (s.fld uMgt F.mgtPresStatusSealIntact + 2 * s.fld uMgt F.mgtPresStatusPresent + 4 * s.fld uMgt F.mgtPresStatusSealBroken) ++
    toLeBytes 8 (fwVersion s) ++ toLeBytes 6 s.dict.attested ++ toLeBytes 1 s.fuse.sealEvents ++ [0] ++
    (match (s.ses n).nonce with
      | some v => toLeBytes 32 v.toNat
      | none => zeros 32) ++
    (List.range 8).flatMap (fun i => toBeBytes 48 (s.measOf i).toNat) ++ digest

/-- An attestation object built and signed (R491): counted; the signature's own secret is a free value. -/
def attest (s : State) (n : Nat) : State × List Byte :=
  let s1 : State := { s with dict := { s.dict with attested := (s.dict.attested + 1) % 2 ^ 48 } }
  let body := attestBody s1 n
  let k := beBytes (s1.freshBytes 48) % (Crypto.n384 - 1) + 1
  let sig := Crypto.ecdsaSign attestKey k (beBytes (Crypto.sha384 body))
  (s1.drawBytes 48, body ++ toBeBytes 48 sig.1 ++ toBeBytes 48 sig.2)

/-- A challenge drawn for a session (R485): none for 1 s after a wrong answer. -/
def challenge (s : State) (n : Nat) (e : DictEnv) : State × Except Nat (List Byte) :=
  if s.dict.wrong && e.soon then (s, .error abState)
  else
    let c := s.freshBytes 48
    let t : State := { s.drawBytes 48 with dict := { s.dict with wrong := false } }
    (t.setSes n { t.ses n with challenge := some (BitVec.ofNat 384 (beBytes c)) }, .ok c)

/-- The value a subindex reads (R462, R464). -/
def readValue (s : State) (n : Nat) (e : DictEnv) (index sub : Nat) (o : ObjSub) : State × Except Nat (List Byte) :=
  match o.kind with
  | .value bs => (s, .ok bs)
  | .sel _ => (s, .ok (toLeBytes o.lo (s.selOf n index sub)))
  | .mirror u off =>
    let r := fwRead s u off (if o.lo = 8 then 8 else 4)
    (r.1, r.2.map (toLeBytes o.lo))
  | .act _ bs => (s, .ok bs)
  | .challenge => challenge s n e
  | .attest =>
    let r := attest s n
    (r.1, .ok r.2)
  | .absent => (s, .error abNoSub)

/-! ### Which subindex a request means (R460, R474) -/

/-- A subindex that exists, subindex 0 among them (R460); or the abort of rows 1 and 2. -/
def findSub (s : State) (n : Nat) (e : DictEnv) (index sub : Nat) : Except Nat ObjSub :=
  let l := objSubs s n e.measured.toNat index
  if l.isEmpty then .error abNoIndex
  else if sub = 0 then .ok (konst 1 l.length)
  else
    match l[sub - 1]? with
    | none => .error abNoSub
    | some o => if o.kind = .absent then .error abNoSub else .ok o

/-- Rows 4 and 5 of R474. -/
def presenceCheck (s : State) : Option Nat :=
  if s.flag uMgt F.mgtPresStatusSealBroken then some abSeal else if s.present then none else some abPresence

/-- Rows 3 to 6 of R474 for a write. -/
def accessCheck (s : State) (n : Nat) (o : ObjSub) : Option Nat :=
  match o.acc with
  | .ro => some abReadOnly
  | .const => some abReadOnly
  | .wo => none
  | .rw => none
  | .rwp => presenceCheck s
  | .rwe => if (s.ses n).unlocked then none else some abExpert

/-- Row 7 of R474. -/
def lengthCheck (o : ObjSub) (len : Nat) : Option Nat :=
  if o.hi < len then some abLong else if len < o.lo then some abShort else none

/-- Rows 1 to 7 of R474 for a write of a length, and the rows 4 and 5 that a presence unlock is subject to (R485). -/
def admitWrite (s : State) (n : Nat) (e : DictEnv) (index sub len : Nat) (first : Byte) : Except Nat ObjSub :=
  match findSub s n e index sub with
  | .error c => .error c
  | .ok o =>
    match accessCheck s n o with
    | some c => .error c
    | none =>
      match (if o.kind = .act .unlock [BitVec.ofNat 8 (boolNat (s.ses n).unlocked)] ∧ len = 1 ∧ first = 1 then presenceCheck s else none) with
      | some c => .error c
      | none =>
        match lengthCheck o len with
        | some c => .error c
        | none => .ok o

/-! ### Writes (R459, R465, R480, R485-R489) -/

/-- An answer to a challenge (R485): the challenge is spent; the right answer unlocks the session, a wrong or late one raises class 0x14.
Without an expert key, or with one that a return has burned, no answer unlocks (R573). -/
def answerChallenge (s : State) (n : Nat) (e : DictEnv) (data : List Byte) : State × Option Nat :=
  match s.fuse.expert with
  | none => (s, some abState)
  | some key =>
    let x := s.ses n
    let right := match x.challenge with
      | none => false
      | some c => !e.late && data == Crypto.hmac384 (toBeBytes 48 key.toNat) (toBeBytes 48 c.toNat ++ uid ++ [BitVec.ofNat 8 n])
    if s.fuse.returned then (s, some abState)
    else if right then (s.setSes n { x with challenge := none, unlocked := true }, none)
    else
      let t := (s.setSes n { x with challenge := none }).raise uMgt 0x14
      ({ t with dict := { t.dict with wrong := true } }, some abRange)

/-- The relay's request sent (R480). -/
def relaySend (s : State) (n : Nat) (data : List Byte) : State × Option Nat :=
  let b := fun i => (data.getD i 0).toNat
  let x := s.ses n
  if 15 < b 0 ∨ 15 < b 6 then (s, some abRange)
  else if x.relay.state = 1 then (s, some abState)
  else
    let q := s.dict.relaySeq
    let ext := 2 ^ 60 + b 6 * 2 ^ 56 + b 7 * 2 ^ 48 + (b 4 + 256 * b 5) * 2 ^ 32 + s.fld uCns F.cnsSysidSysid * 2 ^ 16 + q
    let t := s.setSes n { x with relay := { x.relay with state := 1, seq := q, response := [] } }
    let t1 : State := { t with dict := { t.dict with relaySeq := (q + 1) % 8192 } }
    (ingress t1 (codeOf 96 6) (recordLmsg 2 (b 0) (b 2 + 256 * b 3) (b 1) ext (data.drop 8)), none)

/-- A signer key slot revoked (R487, R488): a valid one must remain. -/
def revokeSlot (s : State) (k : Nat) : State × Option Nat :=
  if (List.range 4).any (fun j => j != k && keySlotState s j == 1) then
    ({ s with fuse := { s.fuse with revoked := NSet.add s.fuse.revoked k } }, none)
  else (s, some abState)

/-- A command that MGT_MODE_STATUS may show refused: a refusal aborts (R459). -/
def refusable (s : State) (f : State → State × Option Nat) : State × Option Nat :=
  let was := s.fld uMgt F.mgtModeStatusRefused
  let r := f (s.setFld uMgt F.mgtModeStatusRefused 0)
  if r.1.flag uMgt F.mgtModeStatusRefused then (r.1, some abState)
  else (r.1.setFld uMgt F.mgtModeStatusRefused was, r.2)

/-- Return preparation accepted, as far as step `steps` (R488, R573); the system reset follows the response. -/
def returnPrepare (s : State) (steps : Nat) : State × Option Nat :=
  if s.modeNo ≠ 7 then (s, some abState)
  else
    let t := returnSteps s ((List.range steps).map (· + 1))
    ({ t with mode := { t.mode with reset := if t.fuse.returned then 2 else t.mode.reset } }, none)

/-- What a write that acts does with its value, already of a permitted length: rows 8 and 9 of R474, then the effect. -/
def actWrite (s : State) (n : Nat) (e : DictEnv) (a : ObjAct) (data : List Byte) : State × Option Nat :=
  let v := leBytes data
  let x := s.ses n
  match a with
  | .cfgCmd => if 1 ≤ v / 2 ^ 28 ∧ v / 2 ^ 28 ≤ 3 then fwWrite s uCfg (F.cfgCmdOp.at 0 0) 4 v else (s, some abRange)
  | .commitSvn => if v = 0x5C then fwWrite s uCfg (F.cfgCmdOp.at 0 0) 4 (4 * 2 ^ 28) else (s, some abRange)
  | .modeCmd => refusable s (fun t => fwWrite t uMgt (F.mgtModeCmdOp.at 0 0) 4 v)
  | .service => if v = 0x5E then refusable s (fun t => (enterService t, none)) else (s, some abRange)
  | .resetCmd =>
    if v = 1 ∨ v = 2 then ({ s with mode := { s.mode with reset := v } }, none) else (s, some abRange)
  | .imem i =>
    match imemDomain s i data with
    | .ok t => (t, none)
    | .error c => (s, some c)
  | .slotBase k => fwWrites s uScb (F.scbRepairLoBase.at k 0) 4 (wordsLe 2 (toLeBytes 8 (v / 64 * 64)))
  | .cnsRef => fwWrites s uCns (F.cnsRefRef.at 0 0) 4 (wordsLe 12 data)
  | .wrapBuf => fwWrites s uIpe0 (F.ipeWrapData.at 0 0) 4 (wordsLe 10 data)
  | .levelsOff => if v = 0 then fwWrite s uDbg (F.dbgLevelFabric.at 0 0) 4 0 else (s, some abRange)
  | .debugKey => if s.fuse.debugKey.isSome then (s, some abState) else ({ s with fuse := { s.fuse with debugKey := some data } }, none)
  | .keyHash =>
    let k := s.selOf n 0xA001 1
    if keySlotState s k = 0 then ({ s with fuse := { s.fuse with slots := SMap.put s.fuse.slots k (BitVec.ofNat 384 (beBytes data)) } }, none)
    else (s, some abState)
  | .revoke => if v = 0x52 then revokeSlot s (s.selOf n 0xA001 1) else (s, some abRange)
  | .wrapKey => (s.setSes n { x with wrapped := toBeBytes 40 (Crypto.keyWrap s.kek (beBytes data)) }, none)
  | .answer => answerChallenge s n e data
  | .unlock => if v ≤ 1 then (s.setSes n { x with unlocked := v == 1 }, none) else (s, some abRange)
  | .expertKey =>
    if s.fuse.expert.isSome then (s, some abState)
    else ({ s with fuse := { s.fuse with expert := some (BitVec.ofNat 384 (beBytes data)) } }, none)
  | .returnPrep => if v = 0x52 then returnPrepare s 5 else (s, some abRange)
  | .nonce => (s.setSes n { x with nonce := some (BitVec.ofNat 256 v) }, none)
  | .relay => relaySend s n data
  | .relayTimeout =>
    if 1 ≤ v ∧ v ≤ 60000 then (s.setSes n { x with relay := { x.relay with timeoutMs := v } }, none) else (s, some abRange)
  | .errPop => if v = 1 then (popErr s, none) else (s, some abRange)
  | .period => if 10 ≤ v ∧ v ≤ 10000 then ({ s with dict := { s.dict with period := v } }, none) else (s, some abRange)

/-- A value written whole to a subindex whose rows 1 to 7 hold (R468, R474). -/
def writeValue (s : State) (n : Nat) (e : DictEnv) (index sub : Nat) (o : ObjSub) (data : List Byte) : State × Option Nat :=
  let v := leBytes data
  match o.kind with
  | .sel max => if v ≤ max then (s.setSes n { s.ses n with sel := SMap.store 0 (s.ses n).sel (index * 256 + sub) v }, none) else (s, some abRange)
  | .mirror u off => fwWrite s u off (if o.lo = 8 then 8 else 4) v
  | .act a _ => actWrite s n e a data
  | _ => (s, some abReadOnly)

/-! ### Serving a request (R468, R469, R471-R473) -/

/-- An abort (R471, R472): any open transfer of the session closes. -/
def abort (s : State) (n : Nat) (req : List Byte) (code : Nat) : State × List Byte :=
  (s.setSes n { s.ses n with xfer := none }, rspRecord req 0xFF code)

/-- A READ or SEG_READ (R471): the value, or the opening of a segmented transfer where it does not fit or was asked for. -/
def serveRead (s : State) (n : Nat) (e : DictEnv) (req : List Byte) (room : Nat) (seg : Bool) : State × List Byte :=
  let index := recIndex req
  let sub := recSub req
  match findSub s n e index sub with
  | .error c => abort s n req c
  | .ok o =>
    if o.acc = .wo then abort s n req abWriteOnly
    else
      match readValue s n e index sub o with
      | (t, .error c) => abort t n req c
      | (t, .ok bs) =>
        if !seg && decide (bs.length ≤ room) then (t, rspRecord req 0x81 bs.length bs)
        else
          let y : Xfer := { write := false, index := index, sub := sub, total := bs.length, room := room, data := bs }
          (t.setSes n { t.ses n with xfer := if bs.isEmpty then none else some y }, rspRecord req 0x83 bs.length)

/-- A WRITE (R471). -/
def serveWrite (s : State) (n : Nat) (e : DictEnv) (req : List Byte) (room : Nat) : State × List Byte :=
  let len := recArg req
  match admitWrite s n e (recIndex req) (recSub req) len (req.getD 8 0) with
  | .error c => abort s n req c
  | .ok o =>
    if room < len then abort s n req abRange
    else
      match writeValue s n e (recIndex req) (recSub req) o ((req.drop 8).take len) with
      | (t, some c) => abort t n req c
      | (t, none) => (t, rspRecord req 0x82 0)

/-- A SEG_WRITE (R471, R472). -/
def serveSegWrite (s : State) (n : Nat) (e : DictEnv) (req : List Byte) (room : Nat) : State × List Byte :=
  let total := recArg req
  match admitWrite s n e (recIndex req) (recSub req) total 0 with
  | .error c => abort s n req c
  | .ok _ =>
    if total = 0 then abort s n req abShort
    else (s.setSes n { s.ses n with xfer := some { write := true, index := recIndex req, sub := recSub req, total := total, room := room } },
      rspRecord req 0x84 0)

/-- The last segment of a write (R468, R483): rows 4 and 5 hold again, then the value is written whole. -/
def finishWrite (s : State) (n : Nat) (e : DictEnv) (req : List Byte) (x : Xfer) : State × List Byte :=
  match findSub s n e x.index x.sub with
  | .error c => abort s n req c
  | .ok o =>
    match (if o.acc = .rwp ∨ (o.kind = .act .unlock [BitVec.ofNat 8 (boolNat (s.ses n).unlocked)] ∧ x.data = [1]) then presenceCheck s else none) with
    | some c => abort s n req c
    | none =>
      match writeValue s n e x.index x.sub o x.data with
      | (t, some c) => abort t n req c
      | (t, none) =>
        let rsp := rspRecord req 0x85 (recArg req)
        (t.setSes n { t.ses n with xfer := some { x with rsp := rsp } }, rsp)

/-- Whether a transport says how long a record is; a mailbox does not, and its record is as long as it needs to be. -/
def sized : DictVia → Bool
  | .mailbox _ => false
  | _ => true

/-- A SEGMENT of an open transfer (R472, R473). -/
def segment (s : State) (n : Nat) (e : DictEnv) (via : DictVia) (req : List Byte) (x : Xfer) : State × List Byte :=
  let k := recArg req
  let m := x.room
  let segs := (x.total + m - 1) / m
  if k = x.last ∧ k ≠ 0 then (s, x.rsp)
  else if k ≠ x.last + 1 ∨ segs < k then abort s n req abOrder
  else
    let need := min m (x.total - (k - 1) * m)
    if x.write then
      let got := req.drop 8
      if got.length < need then abort s n req abShort
      else if sized via && (got.drop need).any (· != 0) then abort s n req abLong
      else
        let rsp := rspRecord req 0x85 k
        let y := { x with last := k, data := x.data ++ got.take need, rsp := rsp }
        if k = segs then finishWrite s n e req y else (s.setSes n { s.ses n with xfer := some y }, rsp)
    else
      let rsp := rspRecord req 0x85 k ((x.data.drop ((k - 1) * m)).take need)
      (s.setSes n { s.ses n with xfer := some { x with last := k, rsp := rsp } }, rsp)

/-- A SEGMENT (R472, R473): without a transfer, or after one that closed for silence, it aborts. -/
def serveSegment (s : State) (n : Nat) (e : DictEnv) (via : DictVia) (req : List Byte) : State × List Byte :=
  if (s.ses n).silent then abort (s.setSes n { s.ses n with silent := false }) n req abTimeout
  else
    match (s.ses n).xfer with
    | none => abort s n req abOrder
    | some x => segment s n e via req x

/-- An unknown CS (R471): rows 1 and 2 of R474, then row 8. -/
def serveUnknown (s : State) (n : Nat) (e : DictEnv) (req : List Byte) : State × List Byte :=
  match findSub s n e (recIndex req) (recSub req) with
  | .error c => abort s n req c
  | .ok _ => abort s n req abRange

/-- A new transfer closes an open one of its session (R473). -/
def closeXfer (s : State) (n : Nat) : State := s.setSes n { s.ses n with xfer := none, silent := false }

/-- Whether the boot ROM still serves, and this request is none that it answers (R469, R575): reads of index 0x1000. -/
def romRefuses (s : State) (n : Nat) (req : List Byte) : Bool :=
  s.bootPhase != 5 &&
    !(((recCs req == 1 || recCs req == 3) && recIndex req == 0x1000) || (recCs req == 5 && (s.ses n).xfer.isSome) || recCs req == 7)

/-- A request performed: the state after it and its response, none to an ABORT (R471). -/
def performRecord (s : State) (n : Nat) (e : DictEnv) (via : DictVia) (req : List Byte) : State × List Byte :=
  if romRefuses s n req then abort s n req abState
  else
    match recCs req with
    | 1 => serveRead (closeXfer s n) n e req (rmax via - 8) false
    | 2 => serveWrite (closeXfer s n) n e req (rmax via - 8)
    | 3 => serveRead (closeXfer s n) n e req (rmax via - 8) true
    | 4 => serveSegWrite (closeXfer s n) n e req (rmax via - 8)
    | 5 => serveSegment s n e via req
    | 7 => (closeXfer s n, [])
    | _ => serveUnknown s n e req

/-- The response to a request, sent where there is one; a mailbox without one is free again. -/
def respondTo (s : State) (q : DictReq) (rsp : List Byte) : State :=
  if rsp.isEmpty then mailboxIdle s q.via else answerRecord s q.via q.seq rsp

/-- The oldest request served (R467, R468, R473): one without a session aborts, a repeated one is answered as before. -/
def serve (s : State) (e : DictEnv) : State :=
  match s.dict.queue with
  | [] => s
  | q :: rest =>
    let s0 : State := { s with dict := { s.dict with queue := rest } }
    if q.session = noSession then respondTo s0 q (rspRecord q.record 0xFF abState)
    else
      match (s0.ses q.session).last with
      | some (seq, rsp) =>
        if seq = q.seq then respondTo s0 q rsp
        else
          let r := performRecord s0.draw q.session e q.via q.record
          respondTo (r.1.setSes q.session { r.1.ses q.session with last := some (q.seq, r.2) }) q r.2
      | none =>
        let r := performRecord s0.draw q.session e q.via q.record
        respondTo (r.1.setSes q.session { r.1.ses q.session with last := some (q.seq, r.2) }) q r.2

/-- Whether requests are served: the management core runs, and no return is to be completed first (R433, R516, R574). -/
def State.serving (s : State) : Bool := !s.mode.dormant && !s.flag uDbg F.dbgHstatHalted 32 && !returnOpen s

/-- The oldest request, where requests are served. -/
def State.headReq (s : State) : Option DictReq := if s.serving then s.dict.queue.head? else none

/-- Whether the oldest request has a CS of a list. -/
def headCs (s : State) (l : List Nat) : Bool :=
  match s.headReq with
  | some q => l.contains (recCs q.record)
  | none => false

/-- Whether the oldest request reads (`write` false) or writes a subindex, or brings a segment of a write to it. -/
def headIs (s : State) (write : Bool) (index sub : Nat) : Bool :=
  match s.headReq with
  | none => false
  | some q =>
    let cs := recCs q.record
    if cs = 5 then
      (match (s.ses q.session).xfer with
        | some x => x.write == write && x.index == index && x.sub == sub
        | none => false)
    else (if write then cs == 2 || cs == 4 else cs == 1 || cs == 3) && recIndex q.record == index && recSub q.record == sub

/-- Nothing measured, no time passed. -/
def quiet : DictEnv := ⟨0, false, false⟩

/-! ### Records (R471-R473) -/

/-- OBJECT_READ (R471): the oldest request is a READ, or of a CS that does not exist. -/
def execObjectRead (e : DictEnv) (s : State) : Out :=
  if (s.headReq).isSome && !headCs s [2, 3, 4, 5, 7] then .next (serve s e) else .next s

/-- OBJECT_WRITE (R471). -/
def execObjectWrite (e : DictEnv) (s : State) : Out := if headCs s [2] then .next (serve s e) else .next s

/-- SEG_READ (R471). -/
def execSegRead (e : DictEnv) (s : State) : Out := if headCs s [3] then .next (serve s e) else .next s

/-- SEG_WRITE (R471, R472). -/
def execSegWrite (s : State) : Out := if headCs s [4] then .next (serve s quiet) else .next s

/-- SEGMENT (R472, R473). -/
def execSegment (e : DictEnv) (s : State) : Out := if headCs s [5] then .next (serve s e) else .next s

/-- RECORD_ABORT (R471): any open transfer closes without effect. -/
def execRecordAbort (s : State) : Out := if headCs s [7] then .next (serve s quiet) else .next s

/-- TRANSFER_TIMEOUT (R473): a transfer that has received no request for 1 s closes without effect. -/
def execTransferTimeout (session : Fin 32) (s : State) : Out :=
  match (s.ses session).xfer with
  | none => .next s
  | some x =>
    if x.last * x.room < x.total then .next (s.setSes session { s.ses session with xfer := none, silent := true }) else .next s

/-! ### CAN FD (R475-R477) -/

/-- A frame received well: the receive error count falls, from above 127 to a value from 119 to 127, as ISO 11898-1 has it. -/
def canReceived (s : State) (c : Nat) : State :=
  let r := s.fld uCan F.mgtCanStatRec c
  let t := s.setFld uCan F.mgtCanStatRec (if 127 < r then 119 + s.fresh % 9 else r - 1) c
  showCan ((if 127 < r then t.draw else t).countSat uCan F.mgtCanRxCntCount 1 c) c

/-- CAN_FRAME_RECEIVE (R476): a Bafimer request with the device's node-ID joins the requests that wait. -/
def execCanFrameReceive (c : Fin 2) (id : BitVec 29) (data : List Byte) (s : State) : Out :=
  if !canOn s c || s.mode.dormant || canLength data.length != data.length then .next s
  else
    let t := canReceived s c
    let x := id.toNat
    if bitsOf x 28 21 = 0xB7 ∧ bitsOf x 20 14 = s.fld uMgt F.mgtStrapNodeId ∧ !bitOf x 13 ∧
        (recordNeed data ≤ data.length ∨ (8 ≤ data.length ∧ 64 < recordNeed data)) then
      .next { t with dict := { t.dict with queue := t.dict.queue ++ [⟨c, x % 8192, .can c, data⟩] } }
    else .next t

/-- CAN_BUS_ERROR (R477): an error on the bus, at the controller as transmitter or as receiver, raises a count by `step`: 8, or 1 at a receiver;
a transmit count above 255 is bus-off. -/
def execCanBusError (c : Fin 2) (transmit : Bool) (step : BitVec 4) (s : State) : Out :=
  if !canOn s c || !(step == 8 || (step == 1 && !transmit)) then .next s
  else if transmit then
    let n := s.fld uCan F.mgtCanStatTec c + 8
    if 255 < n then .next ((s.setFld uCan F.mgtCanStatTec 255 c).setFld uCan F.mgtCanStatState 2 c)
    else .next (showCan (s.setFld uCan F.mgtCanStatTec n c) c)
  else .next (showCan (s.setFld uCan F.mgtCanStatRec (addSat 8 (s.fld uCan F.mgtCanStatRec c) step.toNat) c) c)

/-- BUS_OFF_REJOIN (R477): 128 occurrences of 11 recessive bits. -/
def execBusOffRejoin (c : Fin 2) (s : State) : Out :=
  if s.fld uCan F.mgtCanStatState c ≠ 2 then .next s
  else
    .next ((((s.setFld uCan F.mgtCanStatTec 0 c).setFld uCan F.mgtCanStatRec 0 c).setFld uCan F.mgtCanStatState 0 c).countSat uCan
      F.mgtCanBusoffCntCount 1 c)

/-! ### The relay (R480) -/

/-- RELAY_SEND (R480): the oldest request writes 0xC000 subindex 1. -/
def execRelaySend (s : State) : Out := if headIs s true 0xC000 1 then .next (serve s quiet) else .next s

/-- RELAY_TIMEOUT (R480): no response has come in the session's timeout. -/
def execRelayTimeout (session : Fin 32) (s : State) : Out :=
  let x := s.ses session
  if x.relay.state = 1 then .next (s.setSes session { x with relay := { x.relay with state := 3 } }) else .next s

/-! ### Presence, seal, expert unlock, keys (R481-R489) -/

/-- PRESENCE_PRESS (R481): PRES_N goes low, or rises and opens a window of 60 s. -/
def execPresencePress (held : Bool) (s : State) : Out :=
  let t := (s.setFld uMgt F.mgtPresStatusHeld (boolNat held)).setFld uMgt F.mgtPresStatusPresent 1
  if held then .next t
  else if s.flag uMgt F.mgtPresStatusHeld then .next (t.setFld uMgt F.mgtPresStatusWindowS 60)
  else .next s

/-- PRESENCE_EXPIRE (R481): the window ends; presence lasts on while PRES_N is low. -/
def execPresenceExpire (s : State) : Out :=
  .next ((s.setFld uMgt F.mgtPresStatusWindowS 0).setFld uMgt F.mgtPresStatusPresent (s.fld uMgt F.mgtPresStatusHeld))

/-- SEAL_BREAK (R482): four consecutive mismatches on the loop. -/
def execSealBreak (s : State) : Out :=
  if !s.flag uMgt F.mgtPresStatusSealIntact then .next s
  else
    let n := if s.fuse.sealEvents < 32 then s.fuse.sealEvents + 1 else s.fuse.sealEvents
    let t : State := { s with fuse := { s.fuse with sealEvents := n } }
    .next ((((t.setFld uMgt F.mgtPresStatusSealIntact 0).setFld uMgt F.mgtPresStatusSealBroken 1).setFld uMgt F.mgtPresStatusSealEvents n).edge 2)

/-- CHALLENGE_READ (R485). -/
def execChallengeRead (e : DictEnv) (s : State) : Out := if headIs s false 0xA003 1 then .next (serve s e) else .next s

/-- CHALLENGE_ANSWER (R485). -/
def execChallengeAnswer (e : DictEnv) (s : State) : Out := if headIs s true 0xA003 2 then .next (serve s e) else .next s

/-- PRESENCE_UNLOCK (R485): the oldest request writes 1 to 0xA003 subindex 3. -/
def execPresenceUnlock (s : State) : Out :=
  if headIs s true 0xA003 3 && (s.headReq.map (fun q => q.record.getD 8 0)) == some 1 then .next (serve s quiet) else .next s

/-- LOCK (R486): the oldest request writes 0 to 0xA003 subindex 3. -/
def execLock (s : State) : Out :=
  if headIs s true 0xA003 3 && (s.headReq.map (fun q => q.record.getD 8 0)) == some 0 then .next (serve s quiet) else .next s

/-- UNLOCK_EXPIRE (R486): 30 minutes without a request in the session. -/
def execUnlockExpire (session : Fin 32) (s : State) : Out := .next (s.setSes session { s.ses session with unlocked := false })

/-- KEY_SLOT_PROVISION (R487, R488). -/
def execKeySlotProvision (s : State) : Out := if headIs s true 0xA001 2 then .next (serve s quiet) else .next s

/-- KEY_SLOT_REVOKE (R487, R488). -/
def execKeySlotRevoke (s : State) : Out := if headIs s true 0xA001 3 then .next (serve s quiet) else .next s

/-- KEY_WRAP (R489). -/
def execKeyWrap (s : State) : Out := if headIs s true 0xA002 1 then .next (serve s quiet) else .next s

/-- EXPERT_KEY_WRITE (R487, R488). -/
def execExpertKeyWrite (s : State) : Out := if headIs s true 0xA003 4 then .next (serve s quiet) else .next s

/-! ### Measurement, attestation, return (R490-R492, R573, R574) -/

/-- MEASUREMENT_EXTEND (R447, R490). -/
def execMeasurementExtend (slot : Fin 8) (icls : BitVec 3) (s : State) : Out :=
  if icls ≠ 4 then .next (s.answer .prot) else .next ((measExtend s slot).answer .ok)

/-- ATTESTATION_READ (R491, R492). -/
def execAttestationRead (s : State) : Out := if headIs s false 0xB001 2 then .next (serve s quiet) else .next s

/-- RETURN_PREPARATION (R573): the oldest request writes 0x52 to 0xA0F0 subindex 1. `steps` is how many of the steps 1 to 5 are done before
power is lost or a reset comes: 5 where neither does, and only then is the request answered and the system reset scheduled. -/
def execReturnPreparation (steps : Fin 6) (s : State) : Out :=
  if !headIs s true 0xA0F0 1 then .next s
  else if steps.val = 5 then .next (serve s quiet)
  else
    match s.dict.queue with
    | [] => .next s
    | q :: rest =>
      match admitWrite s q.session quiet 0xA0F0 1 (recArg q.record) (q.record.getD 8 0) with
      | .error _ => .next s
      | .ok _ =>
        if recCs q.record = 2 ∧ q.record.getD 8 0 = 0x52 then
          .next (returnPrepare { s with dict := { s.dict with queue := rest } } steps).1
        else .next s

/-- RETURN_COMPLETION (R574): the boot ROM performs steps 2 to 5 of a preparation that began and did not end. -/
def execReturnCompletion (s : State) : Out :=
  if returnOpen s && s.bootPhase != 5 && !s.mode.dormant then .next (returnSteps s [2, 3, 4, 5]) else .next s

end Sys2Proof.Machine
end

