-- ==== Sys2Proof/Machine/Dispatch.lean ====
section
/-! DEFINITION. One arm for each command of the opcode table, each one direct call of its meaning. -/

namespace Sys2Proof.Machine

open Sys2Proof

def exec (i : Instr) (s : State) : Host.Outcome State Fault Refusal :=
  match i with
  | .csrWrite a => Sys2Proof.Machine.execCsrWrite a s
  | .plateSramAccess p single double => Sys2Proof.Machine.execPlateSramAccess p single double s
  | .errorReportSend u => Sys2Proof.Machine.execErrorReportSend u s
  | .spanFence c => Sys2Proof.Machine.execSpanFence c s
  | .fenceClearChannel d c => Sys2Proof.Machine.execFenceClearChannel d c s
  | .fenceClearAll d => Sys2Proof.Machine.execFenceClearAll d s
  | .rotation d site wire => Sys2Proof.Machine.execRotation d site wire s
  | .rotationSelectSpare d site matched s0Pass lapUs => Sys2Proof.Machine.execRotationSelectSpare d site matched s0Pass s lapUs
  | .rotationSweepDone d site lo width drv lapUs => Sys2Proof.Machine.execRotationSweepDone d site lo width drv s lapUs
  | .rotationReturn d site lapUs => Sys2Proof.Machine.execRotationReturn d site lapUs s
  | .spareCalibration d site spare lo width drv => Sys2Proof.Machine.execSpareCalibration d site spare lo width drv s
  | .startupCalibration d site wire lo width drv => Sys2Proof.Machine.execStartupCalibration d site wire lo width drv s
  | .forceRepair d => Sys2Proof.Machine.execForceRepair d s
  | .calNow d => Sys2Proof.Machine.execCalNow d s
  | .bmRead m port inp other => Sys2Proof.Machine.execBmRead m port inp s other
  | .bmWrite m port inp other => Sys2Proof.Machine.execBmWrite m port inp other s
  | .lineRefetch m side => Sys2Proof.Machine.execLineRefetch m side s
  | .refetchTimeout m side => Sys2Proof.Machine.execRefetchTimeout m side s
  | .lineCmdRefetch d m line => Sys2Proof.Machine.execLineCmdRefetch d m line s
  | .lineCmdRecompute d m line => Sys2Proof.Machine.execLineCmdRecompute d m line s
  | .lineCmdExecute d => Sys2Proof.Machine.execLineCmdExecute d s
  | .push m inp => Sys2Proof.Machine.execPush m inp s
  | .pop m inp => Sys2Proof.Machine.execPop m inp s
  | .flush qn => Sys2Proof.Machine.execFlush qn s
  | .aperturePush p => Sys2Proof.Machine.execAperturePush p s
  | .aperturePop p => Sys2Proof.Machine.execAperturePop p s
  | .peek p => Sys2Proof.Machine.execPeek p s
  | .heldRequestProceed qn => Sys2Proof.Machine.execHeldRequestProceed qn s
  | .holdTimeout n ix => Sys2Proof.Machine.execHoldTimeout n ix s
  | .networkTransferDone qn => Sys2Proof.Machine.execNetworkTransferDone qn s
  | .memoryClearDone => Sys2Proof.Machine.execMemoryClearDone s
  | .nop ix upset => Sys2Proof.Machine.execNop ix s upset
  | .halt ix upset => Sys2Proof.Machine.execHalt ix s upset
  | .sig ix upset => Sys2Proof.Machine.execSig ix s upset
  | .jmp ix upset => Sys2Proof.Machine.execJmp ix s upset
  | .loop ix upset => Sys2Proof.Machine.execLoop ix s upset
  | .waitd ix upset => Sys2Proof.Machine.execWaitd ix s upset
  | .agset ix upset => Sys2Proof.Machine.execAgset ix s upset
  | .agadd ix upset => Sys2Proof.Machine.execAgadd ix s upset
  | .ftap ix upset => Sys2Proof.Machine.execFtap ix s upset
  | .mac ix upset => Sys2Proof.Machine.execMac ix s upset
  | .lddl ix upset => Sys2Proof.Machine.execLddl ix s upset
  | .ldc ix upset => Sys2Proof.Machine.execLdc ix s upset
  | .st ix upset => Sys2Proof.Machine.execSt ix s upset
  | .inp ix upset => Sys2Proof.Machine.execIn ix s upset
  | .out ix upset => Sys2Proof.Machine.execOut ix s upset
  | .outa ix upset => Sys2Proof.Machine.execOuta ix s upset
  | .bfly ix upset => Sys2Proof.Machine.execBfly ix s upset
  | .bexp ix upset => Sys2Proof.Machine.execBexp ix s upset
  | .engineWaitResume ix waited => Sys2Proof.Machine.execEngineWaitResume ix waited s
  | .fifoInput ix data => Sys2Proof.Machine.execFifoInput ix data s
  | .fifoOutput ix rdy data => Sys2Proof.Machine.execFifoOutput ix rdy data s
  | .engineApertureRequest p => Sys2Proof.Machine.execEngineApertureRequest p s
  | .engineStart ix => Sys2Proof.Machine.execEngineStart ix s
  | .startPin ix high => Sys2Proof.Machine.execStartPin ix high s
  | .engineStop ix => Sys2Proof.Machine.execEngineStop ix s
  | .engineStopComplete ix => Sys2Proof.Machine.execEngineStopComplete ix s
  | .engineClear ix => Sys2Proof.Machine.execEngineClear ix s
  | .doorbellAdd ix v => Sys2Proof.Machine.execDoorbellAdd ix v s
  | .imemDomainWrite ix data => Sys2Proof.Machine.execImemDomainWrite ix data s
  | .ingressAccept node port p => Sys2Proof.Machine.execIngressAccept node port p s
  | .read p e => Sys2Proof.Machine.execRead p e s
  | .write p e => Sys2Proof.Machine.execWrite p e s
  | .atomic p e => Sys2Proof.Machine.execAtomic p e s
  | .responseAccept p => Sys2Proof.Machine.execResponseAccept p s
  | .requestTimeout node port tag => Sys2Proof.Machine.execRequestTimeout node port tag s
  | .tagRelease node port tag => Sys2Proof.Machine.execTagRelease node port tag s
  | .noRoute p => Sys2Proof.Machine.execNoRoute p s
  | .wakeHold p => Sys2Proof.Machine.execWakeHold p s
  | .heldPacketDeliver d => Sys2Proof.Machine.execHeldPacketDeliver d s
  | .wakeFail node d => Sys2Proof.Machine.execWakeFail node d s
  | .iqSubmit n data eop pri => Sys2Proof.Machine.execIqSubmit n data eop pri s
  | .tsResponse n x => Sys2Proof.Machine.execTsResponse n x s
  | .linkFrameReceive p syms => Sys2Proof.Machine.execLinkFrameReceive p syms s
  | .ackTimeout p => Sys2Proof.Machine.execAckTimeout p s
  | .linkEnable p => Sys2Proof.Machine.execLinkEnable p s
  | .linkDisable p => Sys2Proof.Machine.execLinkDisable p s
  | .linkRetrain p => Sys2Proof.Machine.execLinkRetrain p s
  | .linkTransmit p pkt => Sys2Proof.Machine.execLinkTransmit p pkt s
  | .linkPacketReceive p pri response => Sys2Proof.Machine.execLinkPacketReceive p pri response s
  | .markSend p offset => Sys2Proof.Machine.execMarkSend p offset s
  | .dopnd p lost => Sys2Proof.Machine.execDopnd p lost s
  | .tokenWindowWrite p lost => Sys2Proof.Machine.execTokenWindowWrite p lost s
  | .descriptorFetch sl lost => Sys2Proof.Machine.execDescriptorFetch sl s lost
  | .heldTokenMatch sl completing lost => Sys2Proof.Machine.execHeldTokenMatch sl completing s lost
  | .tokenHoldTimeout sl ix => Sys2Proof.Machine.execTokenHoldTimeout sl ix s
  | .tick => Sys2Proof.Machine.execTick s
  | .delayedTokenRelease sl lost => Sys2Proof.Machine.execDelayedTokenRelease sl lost s
  | .firingRingArrive sl src lost => Sys2Proof.Machine.execFiringRingArrive sl src s lost
  | .dtake p lost => Sys2Proof.Machine.execDtake p lost s
  | .takeWaitExpire sl ix => Sys2Proof.Machine.execTakeWaitExpire sl ix s
  | .takeWindowRead p lost => Sys2Proof.Machine.execTakeWindowRead p lost s
  | .takeLoad core slice profile va => Sys2Proof.Machine.execTakeLoad core slice profile va s
  | .takeBufferLoad core slice profile off size va => Sys2Proof.Machine.execTakeBufferLoad core slice profile off size va s
  | .execTake n prof => Sys2Proof.Machine.execExecTake n prof s
  | .purge g => Sys2Proof.Machine.execPurge g s
  | .purgeDone g => Sys2Proof.Machine.execPurgeDone g s
  | .inval g => Sys2Proof.Machine.execInval g s
  | .openLoad src icls => Sys2Proof.Machine.execOpen src icls s
  | .abortLoad icls => Sys2Proof.Machine.execAbort icls s
  | .flip icls => Sys2Proof.Machine.execFlip icls s
  | .commitSvn icls => Sys2Proof.Machine.execCommitSvn icls s
  | .streamWrite p => Sys2Proof.Machine.execStreamWrite p s
  | .xspiRead r => Sys2Proof.Machine.execXspiRead r s
  | .sourceTimeout => Sys2Proof.Machine.execSourceTimeout s
  | .frameWrite misrouted => Sys2Proof.Machine.execFrameWrite misrouted s
  | .initDataWrite e => Sys2Proof.Machine.execInitDataWrite e s
  | .verify => Sys2Proof.Machine.execVerify s
  | .flipWakeTimeout ix => Sys2Proof.Machine.execFlipWakeTimeout ix s
  | .flipExecute ix => Sys2Proof.Machine.execFlipExecute ix s
  | .initComplete ix e => Sys2Proof.Machine.execInitComplete ix e s
  | .outputs ix => Sys2Proof.Machine.execOutputs ix s
  | .enables ix => Sys2Proof.Machine.execEnables ix s
  | .resets ix => Sys2Proof.Machine.execResets ix s
  | .slOpen icls src => Sys2Proof.Machine.execSlOpen icls src s
  | .slAbort icls src => Sys2Proof.Machine.execSlAbort icls src s
  | .slFlip icls src => Sys2Proof.Machine.execSlFlip icls src s
  | .slDataWrite p => Sys2Proof.Machine.execSlDataWrite p s
  | .scrubFrameRead d upset misread tableUpset lapUs e => Sys2Proof.Machine.execScrubFrameRead d upset misread tableUpset lapUs e s
  | .candidateFetch d xspi e => Sys2Proof.Machine.execCandidateFetch d xspi e s
  | .repair d readBack => Sys2Proof.Machine.execRepair d readBack s
  | .tmrCorrect => Sys2Proof.Machine.execTmrCorrect s
  | .digestNow => Sys2Proof.Machine.execDigestNow s
  | .digestFrameRead d upset misread tableUpset e => Sys2Proof.Machine.execDigestFrameRead d upset misread tableUpset e s
  | .digestDone => Sys2Proof.Machine.execDigestDone s
  | .censusStart => Sys2Proof.Machine.execCensusStart s
  | .roundPeriod => Sys2Proof.Machine.execRoundPeriod s
  | .ref p => Sys2Proof.Machine.execRef p s
  | .summary p => Sys2Proof.Machine.execSummary p s
  | .dissent p => Sys2Proof.Machine.execDissent p s
  | .censusWaitExpire => Sys2Proof.Machine.execCensusWaitExpire s
  | .kidLoad e kid => Sys2Proof.Machine.execKidLoad e kid s
  | .generate kid => Sys2Proof.Machine.execGenerate kid s
  | .kidInit kid => Sys2Proof.Machine.execKidInit kid s
  | .kidInitDone kid => Sys2Proof.Machine.execKidInitDone kid s
  | .kidEnable kid => Sys2Proof.Machine.execKidEnable kid s
  | .retire kid => Sys2Proof.Machine.execRetire kid s
  | .retireDone kid => Sys2Proof.Machine.execRetireDone kid s
  | .verifyDone ix => Sys2Proof.Machine.execVerifyDone ix s
  | .vtimeAlarm ix => Sys2Proof.Machine.execVtimeAlarm ix s
  | .verifyRefetch ix e => Sys2Proof.Machine.execVerifyRefetch ix e s
  | .alarmPop e => Sys2Proof.Machine.execAlarmPop e s
  | .drainMode c aged => Sys2Proof.Machine.execDrainMode c aged s
  | .readMode c aged => Sys2Proof.Machine.execReadMode c aged s
  | .refreshDebt c rank => Sys2Proof.Machine.execRefreshDebt c rank s
  | .refresh c rank bank => Sys2Proof.Machine.execRefresh c rank bank s
  | .rdThreshold c bank => Sys2Proof.Machine.execRdThreshold c bank s
  | .throttleExpire c ix => Sys2Proof.Machine.execThrottleExpire c ix s
  | .trackerClear c => Sys2Proof.Machine.execTrackerClear c s
  | .parityAlert c done => Sys2Proof.Machine.execParityAlert c done s
  | .alertClear c => Sys2Proof.Machine.execAlertClear c s
  | .ddrRetrain c t lost => Sys2Proof.Machine.execDdrRetrain c t lost s
  | .ddrDisable c => Sys2Proof.Machine.execDdrDisable c s
  | .dramTrainingDone t => Sys2Proof.Machine.execDramTrainingDone t s
  | .driftCheck c rank drift => Sys2Proof.Machine.execDriftCheck c rank drift s
  | .retrainingWindow c rank unmet => Sys2Proof.Machine.execRetrainingWindow c rank s unmet
  | .retrainingWindowEnd c rank => Sys2Proof.Machine.execRetrainingWindowEnd c rank s
  | .energyDetect k lane => Sys2Proof.Machine.execEnergyDetect k lane s
  | .trainLock k lane seed => Sys2Proof.Machine.execTrainLock k lane seed s
  | .trainTimeout k lane => Sys2Proof.Machine.execTrainTimeout k lane s
  | .capsFrameReceive k lane syms at_ => Sys2Proof.Machine.execCapsFrameReceive k lane syms at_ s
  | .laneSlip k lane n => Sys2Proof.Machine.execLaneSlip k lane n s
  | .laneDrop k lane => Sys2Proof.Machine.execLaneDrop k lane s
  | .txSleep k lane v => Sys2Proof.Machine.execTxSleep k lane v s
  | .rxSleep k lane v => Sys2Proof.Machine.execRxSleep k lane v s
  | .tuningStep k lane ns here below above => Sys2Proof.Machine.execTuningStep k lane ns here below above s
  | .eyeScanStart k lane => Sys2Proof.Machine.execEyeScanStart k lane s
  | .eyeScanSlice k lane => Sys2Proof.Machine.execEyeScanSlice k lane s
  | .eyeScanDone k lane mismatches => Sys2Proof.Machine.execEyeScanDone k lane mismatches s
  | .laneModeWrite k lane mode => Sys2Proof.Machine.execLaneModeWrite k lane mode s
  | .pcieEnable c => Sys2Proof.Machine.execPcieEnable c s
  | .pcieLinkDrop c port => Sys2Proof.Machine.execPcieLinkDrop c port s
  | .inboundRequest c r => Sys2Proof.Machine.execInboundRequest c r s
  | .outboundRequest p => Sys2Proof.Machine.execOutboundRequest p s
  | .outboundCompletion c ix outcome data => Sys2Proof.Machine.execOutboundCompletion c ix outcome data s
  | .completionTimeout c ix => Sys2Proof.Machine.execCompletionTimeout c ix s
  | .dmaDoorbell c k pi fn => Sys2Proof.Machine.execDmaDoorbell c k pi fn s
  | .dmaDescriptorCheck c k desc => Sys2Proof.Machine.execDmaDescriptorCheck c k desc s
  | .dmaWriteBack c k => Sys2Proof.Machine.execDmaWriteBack c k s
  | .dmaEnable c k => Sys2Proof.Machine.execDmaEnable c k s
  | .functionLevelReset c vf func => Sys2Proof.Machine.execFunctionLevelReset c vf func s
  | .xtalQualify => Sys2Proof.Machine.execXtalQualify s
  | .hfSettle => Sys2Proof.Machine.execHfSettle s
  | .monitorTrip count => Sys2Proof.Machine.execMonitorTrip s count
  | .fallbackTimeout => Sys2Proof.Machine.execFallbackTimeout s
  | .hfCheckFail count => Sys2Proof.Machine.execHfCheckFail s count
  | .trimMeasurement count expected => Sys2Proof.Machine.execTrimMeasurement count expected s
  | .pllEnable k en => Sys2Proof.Machine.execPllEnable k en s
  | .pllLock k => Sys2Proof.Machine.execPllLock k s
  | .pllStandby k => Sys2Proof.Machine.execPllStandby k s
  | .domainGate ix => Sys2Proof.Machine.execDomainGate ix s
  | .domainOff n => Sys2Proof.Machine.execDomainOff n s
  | .domainRun ix => Sys2Proof.Machine.execDomainRun ix s
  | .autoClose ix => Sys2Proof.Machine.execAutoClose ix s
  | .closeReady ix => Sys2Proof.Machine.execCloseReady ix s
  | .closeRefuse ix => Sys2Proof.Machine.execCloseRefuse ix s
  | .closeTimeout ix => Sys2Proof.Machine.execCloseTimeout ix s
  | .wakeDone ix => Sys2Proof.Machine.execWakeDone ix s
  | .vfTarget g target => Sys2Proof.Machine.execVfTarget g target s
  | .vfSettle g millivolt fault => Sys2Proof.Machine.execVfSettle g millivolt fault s
  | .vfDone g => Sys2Proof.Machine.execVfDone g s
  | .fretBoundary => Sys2Proof.Machine.execFretBoundary s
  | .drowse icls => Sys2Proof.Machine.execDrowse icls s
  | .wake icls => Sys2Proof.Machine.execWake icls s
  | .wakeSource src => Sys2Proof.Machine.execWakeSource src s
  | .contain icls => Sys2Proof.Machine.execContain icls s
  | .containCause cause => Sys2Proof.Machine.execContainCause cause s
  | .resumable celsius => Sys2Proof.Machine.execResumable celsius s
  | .resume icls => Sys2Proof.Machine.execResume icls s
  | .dormant icls => Sys2Proof.Machine.execDormant icls s
  | .serviceEnter => Sys2Proof.Machine.execServiceEnter s
  | .powerOnReset sealIntact => Sys2Proof.Machine.execPowerOnReset sealIntact s
  | .pinReset lowNs => Sys2Proof.Machine.execPinReset lowNs s
  | .resetSystemCmd key icls => Sys2Proof.Machine.execResetSystemCmd key icls s
  | .resetManagementCmd key icls => Sys2Proof.Machine.execResetManagementCmd key icls s
  | .systemReset => Sys2Proof.Machine.execSystemReset s
  | .managementReset recent => Sys2Proof.Machine.execManagementReset recent s
  | .strapSample bootsrc pull node => Sys2Proof.Machine.execStrapSample bootsrc pull node s
  | .groupBGood => Sys2Proof.Machine.execGroupBGood s
  | .supplyTimeout => Sys2Proof.Machine.execSupplyTimeout s
  | .bootWindowWrite p => Sys2Proof.Machine.execBootWindowWrite p s
  | .handover container => Sys2Proof.Machine.execHandover container s
  | .autoflip => Sys2Proof.Machine.execAutoflip s
  | .objectRead e => Sys2Proof.Machine.execObjectRead e s
  | .objectWrite e => Sys2Proof.Machine.execObjectWrite e s
  | .segRead e => Sys2Proof.Machine.execSegRead e s
  | .segWrite => Sys2Proof.Machine.execSegWrite s
  | .segment e => Sys2Proof.Machine.execSegment e s
  | .recordAbort => Sys2Proof.Machine.execRecordAbort s
  | .transferTimeout session => Sys2Proof.Machine.execTransferTimeout session s
  | .canFrameReceive c id data => Sys2Proof.Machine.execCanFrameReceive c id data s
  | .busOffRejoin c => Sys2Proof.Machine.execBusOffRejoin c s
  | .mailboxDoorbell c seq => Sys2Proof.Machine.execMailboxDoorbell c seq s
  | .relaySend => Sys2Proof.Machine.execRelaySend s
  | .relayResponse p => Sys2Proof.Machine.execRelayResponse p s
  | .relayTimeout session => Sys2Proof.Machine.execRelayTimeout session s
  | .presencePress held => Sys2Proof.Machine.execPresencePress held s
  | .presenceExpire => Sys2Proof.Machine.execPresenceExpire s
  | .sealBreak => Sys2Proof.Machine.execSealBreak s
  | .challengeRead e => Sys2Proof.Machine.execChallengeRead e s
  | .challengeAnswer e => Sys2Proof.Machine.execChallengeAnswer e s
  | .presenceUnlock => Sys2Proof.Machine.execPresenceUnlock s
  | .lock => Sys2Proof.Machine.execLock s
  | .unlockExpire session => Sys2Proof.Machine.execUnlockExpire session s
  | .keySlotProvision => Sys2Proof.Machine.execKeySlotProvision s
  | .keySlotRevoke => Sys2Proof.Machine.execKeySlotRevoke s
  | .keyWrap => Sys2Proof.Machine.execKeyWrap s
  | .expertKeyWrite => Sys2Proof.Machine.execExpertKeyWrite s
  | .measurementExtend slot icls => Sys2Proof.Machine.execMeasurementExtend slot icls s
  | .attestationRead => Sys2Proof.Machine.execAttestationRead s
  | .errorReportReceive remote now => Sys2Proof.Machine.execErrorReportReceive remote now s
  | .errWindowEnd entry => Sys2Proof.Machine.execErrWindowEnd entry s
  | .errDeliveryQueued => Sys2Proof.Machine.execErrDeliveryQueued s
  | .errPop => Sys2Proof.Machine.execErrPop s
  | .returnPreparation steps => Sys2Proof.Machine.execReturnPreparation steps s
  | .returnCompletion => Sys2Proof.Machine.execReturnCompletion s
  | .coreRun run icls => Sys2Proof.Machine.execCoreRun run icls s
  | .eventEdge n v => Sys2Proof.Machine.execEventEdge n v s
  | .eventReassign n => Sys2Proof.Machine.execEventReassign n s
  | .claim t icls => Sys2Proof.Machine.execClaim t icls s
  | .completion t n icls => Sys2Proof.Machine.execCompletion t n icls s
  | .swset num => Sys2Proof.Machine.execSwset num s
  | .watchdogKick ix key icls => Sys2Proof.Machine.execWatchdogKick ix key icls s
  | .watchdogWarning ix => Sys2Proof.Machine.execWatchdogWarning ix s
  | .watchdogExpire ix recent => Sys2Proof.Machine.execWatchdogExpire ix recent s
  | .stylusBreak => Sys2Proof.Machine.execStylusBreak s
  | .stylusEntry => Sys2Proof.Machine.execStylusEntry s
  | .rd addr => Sys2Proof.Machine.execRd addr s
  | .wr addr data => Sys2Proof.Machine.execWr addr data s
  | .drd ofs => Sys2Proof.Machine.execDrd ofs s
  | .dwr ofs data => Sys2Proof.Machine.execDwr ofs data s
  | .stylusExit => Sys2Proof.Machine.execStylusExit s
  | .stylusTimeout => Sys2Proof.Machine.execStylusTimeout s
  | .kxStart soon icls => Sys2Proof.Machine.execKxStart soon icls s
  | .kxAnswer late icls => Sys2Proof.Machine.execKxAnswer late icls s
  | .kxClose icls => Sys2Proof.Machine.execKxClose icls s
  | .kxSessionTimeout => Sys2Proof.Machine.execKxSessionTimeout s
  | .dbgHalt ix regs => Sys2Proof.Machine.execDbgHalt ix regs s
  | .dbgResume ix => Sys2Proof.Machine.execDbgResume ix s
  | .dbgStep ix regs => Sys2Proof.Machine.execDbgStep ix regs s
  | .ebreakHalt ix regs => Sys2Proof.Machine.execEbreakHalt ix regs s
  | .comparatorMatch ix pc acc scontext regs => Sys2Proof.Machine.execComparatorMatch ix pc acc scontext regs s
  | .watchMatch ix w pc write addr size value scontext regs => Sys2Proof.Machine.execWatchMatch ix w pc write addr size value scontext regs s
  | .registerAccess ix write reg => Sys2Proof.Machine.execRegisterAccess ix write reg s
  | .captureArm => Sys2Proof.Machine.execCaptureArm s
  | .captureStop => Sys2Proof.Machine.execCaptureStop s
  | .captureTrigger => Sys2Proof.Machine.execCaptureTrigger s
  | .captureDone => Sys2Proof.Machine.execCaptureDone s
  | .functionSwitch ix second pads => Sys2Proof.Machine.execFunctionSwitch ix second pads s
  | .gpioWrite bank oe value icls src => Sys2Proof.Machine.execGpioWrite bank oe value icls src s
  | .patternFire b k pads => Sys2Proof.Machine.execPatternFire b k pads s
  | .adcConversion code => Sys2Proof.Machine.execAdcConversion code s
  | .idcode => Sys2Proof.Machine.execIdcode s
  | .samplePreload sampled shifted => Sys2Proof.Machine.execSamplePreload sampled shifted s
  | .extest sampled shifted => Sys2Proof.Machine.execExtest sampled shifted s
  | .extestPulse sampled shifted => Sys2Proof.Machine.execExtestPulse sampled shifted s
  | .extestTrain sampled shifted => Sys2Proof.Machine.execExtestTrain sampled shifted s
  | .clamp => Sys2Proof.Machine.execClamp s
  | .highz => Sys2Proof.Machine.execHighz s
  | .bypass => Sys2Proof.Machine.execBypass s
  | .testLogicReset => Sys2Proof.Machine.execTestLogicReset s
  | .regionalClockEdge n track falling pads also => Sys2Proof.Machine.execRegionalClockEdge n track falling pads s also
  | .asyncSetReset n x y set rises when => Sys2Proof.Machine.execAsyncSetReset n x y set rises when s
  | .spanEdge => Sys2Proof.Machine.execSpanEdge s
  | .dramCommandIssue c met old gap raa ref => Sys2Proof.Machine.execDramCommandIssue c met old gap raa s ref
  | .invalDone g => Sys2Proof.Machine.execInvalDone g s
  | .pcieLinkUp c port speed width => Sys2Proof.Machine.execPcieLinkUp c port speed width s
  | .canBusError c transmit step => Sys2Proof.Machine.execCanBusError c transmit step s
  | .stylusFramingError => Sys2Proof.Machine.execStylusFramingError s
  | .stylusFrameTimeout => Sys2Proof.Machine.execStylusFrameTimeout s
  | .stylusBadFrame => Sys2Proof.Machine.execStylusBadFrame s
  | .stylusSlot => Sys2Proof.Machine.execStylusSlot s
  | .fwFail container => Sys2Proof.Machine.execFwFail container s
  | .selftestFail => Sys2Proof.Machine.execSelftestFail s
  | .contentLost c => Sys2Proof.Machine.execContentLost c s
  | .vccioChange bank good => Sys2Proof.Machine.execVccioChange bank good s
  | .coreMemoryAccess core op va addr size data victim => Sys2Proof.Machine.execCoreMemoryAccess core op va addr size data victim s
  | .laneSignal k lane v => Sys2Proof.Machine.execLaneSignal k lane v s

end Sys2Proof.Machine
end

