-- ==== Sys2Proof/Machine/Mesh.lean ====
section
/-! DEFINITION. The mesh: what each plate cycle moves through the routers, by priority, lane and turn, and what it brings to the attachments
(R164-R167, R176-R179). -/

namespace Sys2Proof.Machine

open Sys2Proof

/-- The output of a router for a destination: along the row first, then along the column, then the destination's port; links N, E, S and W
are 16 to 19 (R166). -/
def meshOut (router dst : Nat) : Nat :=
  let node := dst / 16
  if meshX router < meshX node then 17
  else if meshX node < meshX router then 19
  else if meshY router < meshY node then 16
  else if meshY node < meshY router then 18
  else dst % 16

/-- The router a link leads to, and the input it enters there (R164). -/
def linkEnd (router out : Nat) : Nat × Nat :=
  match out with
  | 16 => (routerAt (meshX router) (meshY router + 1), 18)
  | 17 => (routerAt (meshX router + 1) (meshY router), 19)
  | 18 => (routerAt (meshX router) (meshY router - 1), 16)
  | _ => (routerAt (meshX router - 1) (meshY router), 17)

/-- The first flit of a lane that can leave its router in this cycle, and where it goes. -/
structure Mover where
  router : Nat
  input : Nat
  out : Nat
  pri : Nat
  rsp : Bool
  flit : MeshFlit
deriving DecidableEq, Repr

/-- The lane of a flit at the input it leaves. -/
def Mover.inKey (x : Mover) : Nat := meshLane x.router x.input x.pri x.rsp
/-- The lane of a flit at the output it takes. -/
def Mover.outKey (x : Mover) : Nat := meshLane x.router x.out x.pri x.rsp
/-- The lane of a flit at the next router's input. -/
def Mover.nextKey (x : Mover) : Nat := meshLane (linkEnd x.router x.out).1 (linkEnd x.router x.out).2 x.pri x.rsp
/-- The last flit of its packet. -/
def Mover.last (x : Mover) : Bool := x.flit.idx == x.flit.pkt.body.length

/-- The flits that stand first in a lane and are due to leave. -/
def meshMovers (m : MeshState) : List Mover :=
  m.lane.filterMap (fun e =>
    match e.2 with
    | [] => none
    | f :: _ =>
      let r := e.1 / 160
      if f.ready ≤ m.cycle then some ⟨r, e.1 / 8 % 20, meshOut r f.pkt.dst.toNat, e.1 / 2 % 4, e.1 % 2 == 1, f⟩ else none)

/-- The packets of one level in the ejection buffer of a destination, those that a router holds for it included (R185). -/
def ejected (s : State) (p : Packet) : Nat :=
  let same := fun (q : Packet) => q.dst == p.dst && q.pri == p.pri && dstDomain q == dstDomain p
  (s.net.reqs.filter same).length + (s.net.held.filter (fun h => same h.pkt)).length +
    (s.net.mesh.landing.filter (fun l => !l.rsp && same l.pkt)).length

/-- Whether there is room where a flit goes: a credit of the next router's 16-flit buffer (R177), or a place among the 4 packets of the
ejection buffer for the head of a request (R185); a response always drains (R179). -/
def meshRoom (s : State) (x : Mover) : Bool :=
  if 16 ≤ x.out then decide ((SMap.get [] s.net.mesh.lane x.nextKey).length < 16)
  else x.rsp || x.flit.idx != 0 || decide (ejected s x.flit.pkt < 4)

/-- Whether the output lane is free to a flit: no other packet has started on it (R178). -/
def meshFree (m : MeshState) (x : Mover) : Bool :=
  let owner := SMap.get 0 m.lock x.outKey
  if owner = 0 then x.flit.idx == 0 else owner == x.input + 1

/-- The level an output serves, of those that wait, after the levels `h` of its last 16 flit cycles (R178). -/
def levelOf (floor1 floor0 : Nat) (h : List Nat) (waits : Nat → Bool) : Option Nat :=
  if waits 3 then some 3
  else if waits 1 && decide (h.count 1 < floor1) then some 1
  else if waits 0 && decide (h.count 0 < floor0) then some 0
  else [2, 1, 0].find? waits

/-- The flit of a lane whose input comes first from the one whose turn it is (R178). -/
def turnOf (turn : Nat) : List Mover → Option Mover
  | [] => none
  | x :: r =>
    match turnOf turn r with
    | none => some x
    | some y => if (x.input + 20 - turn) % 20 ≤ (y.input + 20 - turn) % 20 then some x else some y

/-- The flit an output chooses among those that wait for it: its level, the response lane before the request lane, then by turn (R178). -/
def outputChoice (s : State) (router out : Nat) (l : List Mover) : Option Mover :=
  let m := s.net.mesh
  match levelOf (s.fld (uNoc router) F.nocRtCtrlFloor1) (s.fld (uNoc router) F.nocRtCtrlFloor0) (SMap.get [] m.hist (router * 20 + out))
      (fun v => l.any (fun x => x.pri == v)) with
  | none => none
  | some v =>
    let lv := l.filter (fun x => x.pri == v)
    let rsp := lv.any (·.rsp)
    turnOf (SMap.get 0 m.turn (meshLane router out v rsp)) (lv.filter (fun x => x.rsp == rsp))

/-- The flits that move in this cycle: one for each output that has one to choose (R178). -/
def meshChoices (s : State) : List Mover :=
  let l := (meshMovers s.net.mesh).filter (fun x => meshFree s.net.mesh x && meshRoom s x)
  ((l.map (fun x => (x.router, x.out))).dedup).filterMap (fun o =>
    outputChoice s o.1 o.2 (l.filter (fun x => x.router == o.1 && x.out == o.2)))

/-- A flit moved (R167, R178): to the next router's buffer, 3 cycles on and counted on the link (R190), or, with its last flit, toward the
attachment, 2 cycles on. -/
def meshMove (s : State) (x : Mover) : State :=
  let m := s.net.mesh
  let lane1 := SMap.modify [] m.lane x.inKey List.tail
  let m1 : MeshState := { m with
    lane := if 16 ≤ x.out then SMap.modify [] lane1 x.nextKey (· ++ [{ x.flit with ready := m.cycle + 3 }]) else lane1
    lock := SMap.store 0 m.lock x.outKey (if x.last then 0 else x.input + 1)
    turn := if x.last then SMap.store 0 m.turn x.outKey ((x.input + 1) % 20) else m.turn
    hist := SMap.modify [] m.hist (x.router * 20 + x.out) (fun h => (x.pri :: h).take 16)
    landing := if decide (x.out < 16) && x.last then m.landing ++ [⟨m.cycle + 2, x.rsp, x.flit.pkt⟩] else m.landing }
  let s1 : State := { s with net := { s.net with mesh := m1 } }
  if 16 ≤ x.out then s1.countWrap (uNoc x.router) F.nocLinkFlitsCount 1 (x.out - 16) else s1

/-- The packets due at their attachments have arrived. -/
def meshLand (s : State) : State :=
  let m := s.net.mesh
  let due := m.landing.filter (fun l => decide (l.due ≤ m.cycle))
  { s with net := { s.net with
    reqs := s.net.reqs ++ (due.filter (fun l => !l.rsp)).map (·.pkt)
    rsps := s.net.rsps ++ (due.filter (·.rsp)).map (·.pkt)
    mesh := { m with landing := m.landing.filter (fun l => !decide (l.due ≤ m.cycle)) } } }

/-- The LMSG that have reached node 96, port 6, taken; whether the link session idle longest has been idle for 10 s is free (R209, R467). -/
def meshLmsg (s : State) : State :=
  if lmsgWaits s then (let b := s.freeBit; takeLmsg b.2 b.1) else s

/-- Whether a flit or a packet is under way in the mesh. -/
def meshBusy (s : State) : Bool := !s.net.mesh.lane.isEmpty || !s.net.mesh.landing.isEmpty

/-- One plate cycle of the mesh: what is due arrives, every output moves the flit it chooses in the state before, and the cycle is
counted. -/
def meshCycle (s : State) : State :=
  let s1 := meshLmsg (meshLand s)
  let s2 := (meshChoices s1).foldl meshMove s1
  { s2 with net := { s2.net with mesh := { s2.net.mesh with cycle := s2.net.mesh.cycle + 1 } } }

/-- One cycle of the plate clock, while the mesh domain runs: the network sides of the queues (R114), a slot of the lanes that send (R374), and
the mesh. -/
def plateTick (s : State) : State :=
  if s.clk.halted then s
  else
    let t := laneSlots (plateQueues s)
    if meshBusy t then meshCycle t else t

end Sys2Proof.Machine
end

