-- ==== Sys2Proof/WellFormed.lean ====
section
/-! DEFINITION. Which commands the wires, ports and bodies they come from can spell: the lengths of their bodies and lists, the sizes and
alignments of their accesses. A command outside this has no place in a run; what a well-formed command does is for its meaning. -/

namespace Sys2Proof

/-- A packet as an entrance can receive it: LEN has 8 bits, and flits beyond it come as far as an end-of-packet mark (R168, R174). -/
def Packet.framed (p : Packet) : Bool := decide (p.body.length ≤ 255)

/-- A packet that has passed an entrance: as many body flits as its LEN says, at most 64, none of a READ (R168, R169). -/
def Packet.sound (p : Packet) : Bool :=
  decide (p.len.toNat ≤ 64) && p.body.length == (if p.opc == 0x01#6 then 0 else p.len.toNat)

/-- What training brings of one channel: at most 16 timing parameters (R366). -/
def ChannelTraining.wf (t : ChannelTraining) : Bool := decide (t.tp.length ≤ 16)

/-- An inbound PCIe request: a write of 1 to 512 bytes, or a read of at most 4,096, within one 4 KiB block (R386). -/
def PciReq.wf (r : PciReq) : Bool :=
  decide (r.off.toNat % 4096 + r.data.length + r.count ≤ 4096) &&
  (if r.write then r.count == 0 && decide (1 ≤ r.data.length) && decide (r.data.length ≤ 512) else r.data.isEmpty)

/-- The longest firmware container: header, code and signature block, rounded up to 64 bytes (R444, R445). -/
def containerMax : Nat := 64 + 1048576 + 256

/-- The data lengths of a CAN FD frame (R475). -/
def canLengths : List Nat := [0, 1, 2, 3, 4, 5, 6, 7, 8, 12, 16, 20, 24, 32, 48, 64]

/-- The numbers that name a register of a core (R532). -/
def regNo (r : BitVec 16) : Bool := decide (r.toNat ≤ 0x40) || (decide (0x1000 ≤ r.toNat) && decide (r.toNat < 0x2000))

/-- Register values of a core, each under a number that names a register. -/
def regsWf (l : List (BitVec 16 × Word64)) : Bool := l.all (fun r => regNo r.1)

/-- Operations of a core that may be of 1 or 2 bytes: all but AMO, LR and SC (R503). -/
def plainOp : CoreOp → Bool
  | .fetch => true
  | .load => true
  | .store => true
  | .clean => true
  | .flush => true
  | .inval => true
  | .amoadd => false
  | .amoswap => false
  | .amoand => false
  | .amoor => false
  | .amoxor => false
  | .amomax => false
  | .amomin => false
  | .amomaxu => false
  | .amominu => false
  | .lr => false
  | .sc => false

/-- Whether a command is well formed. -/
def Instr.wf (i : Instr) : Bool :=
  match i with
  | .csrWrite a => (a.size == 4 || a.size == 8) && (!a.priv || decide (a.unit.toNat < 4) || a.unit == 0x49 || a.unit == 0x4A)
  | .plateSramAccess p single double => p.sound && (single ++ double).all (fun w => decide (w < 0xC00000))
  | .errorReportSend _ => true
  | .spanFence _ => true
  | .fenceClearChannel _ _ => true
  | .fenceClearAll _ => true
  | .rotation _ _ _ => true
  | .rotationSelectSpare _ _ _ _ _ => true
  | .rotationSweepDone _ _ _ _ _ _ => true
  | .rotationReturn _ _ _ => true
  | .spareCalibration _ _ _ _ _ _ => true
  | .startupCalibration _ _ _ _ _ _ => true
  | .forceRepair _ => true
  | .calNow _ => true
  | .bmRead _ _ _ _ => true
  | .bmWrite _ _ _ _ => true
  | .lineRefetch _ _ => true
  | .refetchTimeout _ _ => true
  | .lineCmdRefetch _ _ _ => true
  | .lineCmdRecompute _ _ _ => true
  | .lineCmdExecute _ => true
  | .push _ _ => true
  | .pop _ _ => true
  | .flush _ => true
  | .aperturePush p => p.sound
  | .aperturePop p => p.sound
  | .peek p => p.sound
  | .heldRequestProceed _ => true
  | .holdTimeout _ _ => true
  | .networkTransferDone _ => true
  | .memoryClearDone => true
  | .nop _ _ => true
  | .halt _ _ => true
  | .sig _ _ => true
  | .jmp _ _ => true
  | .loop _ _ => true
  | .waitd _ _ => true
  | .agset _ _ => true
  | .agadd _ _ => true
  | .ftap _ _ => true
  | .mac _ _ => true
  | .lddl _ _ => true
  | .ldc _ _ => true
  | .st _ _ => true
  | .inp _ _ => true
  | .out _ _ => true
  | .outa _ _ => true
  | .bfly _ _ => true
  | .bexp _ _ => true
  | .engineWaitResume _ _ => true
  | .fifoInput _ _ => true
  | .fifoOutput _ _ _ => true
  | .engineApertureRequest p => p.sound
  | .engineStart _ => true
  | .startPin _ _ => true
  | .engineStop _ => true
  | .engineStopComplete _ => true
  | .engineClear _ => true
  | .doorbellAdd _ _ => true
  | .imemDomainWrite _ data => decide (data.length ≤ 1048576)
  | .ingressAccept _ _ p => p.framed
  | .read p _ => p.sound
  | .write p _ => p.sound
  | .atomic p _ => p.sound
  | .responseAccept p => p.sound
  | .requestTimeout _ _ _ => true
  | .tagRelease _ _ _ => true
  | .noRoute p => p.sound
  | .wakeHold p => p.sound
  | .heldPacketDeliver _ => true
  | .wakeFail _ _ => true
  | .iqSubmit _ _ _ _ => true
  | .tsResponse _ _ => true
  | .linkFrameReceive _ syms => (syms.length == 1 || syms.length == 2 || syms.length == 4 || syms.length == 8) && syms.all (fun l => decide (l.length ≤ 650))
  | .ackTimeout _ => true
  | .linkEnable _ => true
  | .linkDisable _ => true
  | .linkRetrain _ => true
  | .linkTransmit _ pkt => pkt.sound
  | .linkPacketReceive _ _ _ => true
  | .markSend _ _ => true
  | .dopnd p _ => p.sound
  | .tokenWindowWrite p _ => p.sound
  | .descriptorFetch _ _ => true
  | .heldTokenMatch _ _ _ => true
  | .tokenHoldTimeout _ _ => true
  | .tick => true
  | .delayedTokenRelease _ _ => true
  | .firingRingArrive _ _ _ => true
  | .dtake p _ => p.sound
  | .takeWaitExpire _ _ => true
  | .takeWindowRead p _ => p.sound
  | .takeLoad _ _ _ _ => true
  | .takeBufferLoad _ _ _ off size _ => decide (8 ≤ off.val) && off.val % 2 ^ size.val == 0
  | .execTake _ _ => true
  | .purge _ => true
  | .purgeDone _ => true
  | .inval _ => true
  | .openLoad _ _ => true
  | .abortLoad _ => true
  | .flip _ => true
  | .commitSvn _ => true
  | .streamWrite p => p.sound
  | .xspiRead _ => true
  | .sourceTimeout => true
  | .frameWrite _ => true
  | .initDataWrite _ => true
  | .verify => true
  | .flipWakeTimeout _ => true
  | .flipExecute _ => true
  | .initComplete _ _ => true
  | .outputs _ => true
  | .enables _ => true
  | .resets _ => true
  | .slOpen _ _ => true
  | .slAbort _ _ => true
  | .slFlip _ _ => true
  | .slDataWrite p => p.sound
  | .scrubFrameRead _ _ _ _ _ _ => true
  | .candidateFetch _ _ _ => true
  | .repair _ _ => true
  | .tmrCorrect => true
  | .digestNow => true
  | .digestFrameRead _ _ _ _ _ => true
  | .digestDone => true
  | .censusStart => true
  | .roundPeriod => true
  | .ref p => p.sound
  | .summary p => p.sound
  | .dissent p => p.sound
  | .censusWaitExpire => true
  | .kidLoad _ _ => true
  | .generate _ => true
  | .kidInit _ => true
  | .kidInitDone _ => true
  | .kidEnable _ => true
  | .retire _ => true
  | .retireDone _ => true
  | .verifyDone _ => true
  | .vtimeAlarm _ => true
  | .verifyRefetch _ _ => true
  | .alarmPop _ => true
  | .drainMode _ _ => true
  | .readMode _ _ => true
  | .refreshDebt _ _ => true
  | .refresh _ _ _ => true
  | .rdThreshold _ _ => true
  | .throttleExpire _ _ => true
  | .trackerClear _ => true
  | .parityAlert _ _ => true
  | .alertClear _ => true
  | .ddrRetrain _ t _ => t.wf
  | .ddrDisable _ => true
  | .dramTrainingDone t => t.length == 8 && t.all ChannelTraining.wf
  | .driftCheck _ _ _ => true
  | .retrainingWindow _ _ _ => true
  | .retrainingWindowEnd _ _ => true
  | .energyDetect _ _ => true
  | .trainLock _ _ _ => true
  | .trainTimeout _ _ => true
  | .capsFrameReceive _ _ syms _ => decide (syms.length ≤ 650)
  | .laneSlip _ _ _ => true
  | .laneDrop _ _ => true
  | .txSleep _ _ _ => true
  | .rxSleep _ _ _ => true
  | .tuningStep _ _ ns _ _ _ => decide (ns ≤ 10000)
  | .eyeScanStart _ _ => true
  | .eyeScanSlice _ _ => true
  | .eyeScanDone _ _ mismatches => decide (mismatches ≤ 2 ^ 40)
  | .laneModeWrite _ _ _ => true
  | .pcieEnable _ => true
  | .pcieLinkDrop _ _ => true
  | .inboundRequest _ r => r.wf
  | .outboundRequest p => p.sound
  | .outboundCompletion _ _ _ data => decide (data.length ≤ 4096)
  | .completionTimeout _ _ => true
  | .dmaDoorbell _ _ _ _ => true
  | .dmaDescriptorCheck _ _ _ => true
  | .dmaWriteBack _ _ => true
  | .dmaEnable _ _ => true
  | .functionLevelReset _ _ _ => true
  | .xtalQualify => true
  | .hfSettle => true
  | .monitorTrip _ => true
  | .fallbackTimeout => true
  | .hfCheckFail _ => true
  | .trimMeasurement _ _ => true
  | .pllEnable _ _ => true
  | .pllLock _ => true
  | .pllStandby _ => true
  | .domainGate _ => true
  | .domainOff _ => true
  | .domainRun _ => true
  | .autoClose _ => true
  | .closeReady _ => true
  | .closeRefuse _ => true
  | .closeTimeout _ => true
  | .wakeDone _ => true
  | .vfTarget _ _ => true
  | .vfSettle _ _ _ => true
  | .vfDone _ => true
  | .fretBoundary => true
  | .drowse _ => true
  | .wake _ => true
  | .wakeSource _ => true
  | .contain _ => true
  | .containCause _ => true
  | .resumable _ => true
  | .resume _ => true
  | .dormant _ => true
  | .serviceEnter => true
  | .powerOnReset _ => true
  | .pinReset _ => true
  | .resetSystemCmd _ _ => true
  | .resetManagementCmd _ _ => true
  | .systemReset => true
  | .managementReset _ => true
  | .strapSample _ _ _ => true
  | .groupBGood => true
  | .supplyTimeout => true
  | .bootWindowWrite p => p.sound
  | .handover container => decide (container.length ≤ containerMax)
  | .autoflip => true
  | .objectRead _ => true
  | .objectWrite _ => true
  | .segRead _ => true
  | .segWrite => true
  | .segment _ => true
  | .recordAbort => true
  | .transferTimeout _ => true
  | .canFrameReceive _ _ data => canLengths.contains data.length
  | .busOffRejoin _ => true
  | .mailboxDoorbell _ _ => true
  | .relaySend => true
  | .relayResponse p => p.sound
  | .relayTimeout _ => true
  | .presencePress _ => true
  | .presenceExpire => true
  | .sealBreak => true
  | .challengeRead _ => true
  | .challengeAnswer _ => true
  | .presenceUnlock => true
  | .lock => true
  | .unlockExpire _ => true
  | .keySlotProvision => true
  | .keySlotRevoke => true
  | .keyWrap => true
  | .expertKeyWrite => true
  | .measurementExtend _ _ => true
  | .attestationRead => true
  | .errorReportReceive _ _ => true
  | .errWindowEnd _ => true
  | .errDeliveryQueued => true
  | .errPop => true
  | .returnPreparation _ => true
  | .returnCompletion => true
  | .coreRun _ _ => true
  | .eventEdge _ _ => true
  | .eventReassign _ => true
  | .claim _ _ => true
  | .completion _ _ _ => true
  | .swset _ => true
  | .watchdogKick _ _ _ => true
  | .watchdogWarning _ => true
  | .watchdogExpire _ _ => true
  | .stylusBreak => true
  | .stylusEntry => true
  | .rd _ => true
  | .wr _ _ => true
  | .drd _ => true
  | .dwr _ _ => true
  | .stylusExit => true
  | .stylusTimeout => true
  | .kxStart _ _ => true
  | .kxAnswer _ _ => true
  | .kxClose _ => true
  | .kxSessionTimeout => true
  | .dbgHalt _ regs => regsWf regs
  | .dbgResume _ => true
  | .dbgStep _ regs => regsWf regs
  | .ebreakHalt _ regs => regsWf regs
  | .comparatorMatch _ _ _ _ regs => regsWf regs
  | .watchMatch _ _ _ _ addr size _ _ regs => addr.toNat % 2 ^ size.val == 0 && regsWf regs
  | .registerAccess _ _ reg => regNo reg
  | .captureArm => true
  | .captureStop => true
  | .captureTrigger => true
  | .captureDone => true
  | .functionSwitch _ _ _ => true
  | .gpioWrite _ _ _ _ _ => true
  | .patternFire _ _ _ => true
  | .adcConversion _ => true
  | .idcode => true
  | .samplePreload sampled shifted => sampled.length == shifted.length
  | .extest sampled shifted => sampled.length == shifted.length
  | .extestPulse sampled shifted => sampled.length == shifted.length
  | .extestTrain sampled shifted => sampled.length == shifted.length
  | .clamp => true
  | .highz => true
  | .bypass => true
  | .testLogicReset => true
  | .regionalClockEdge _ _ _ _ _ => true
  | .asyncSetReset _ _ _ _ _ _ => true
  | .spanEdge => true
  | .dramCommandIssue _ _ _ _ _ _ => true
  | .invalDone _ => true
  | .pcieLinkUp _ _ _ _ => true
  | .canBusError _ transmit step => step == 8 || (step == 1 && !transmit)
  | .stylusFramingError => true
  | .stylusFrameTimeout => true
  | .stylusBadFrame => true
  | .stylusSlot => true
  | .fwFail container => (container.map (fun l => decide (l.length ≤ containerMax))).getD true
  | .selftestFail => true
  | .contentLost _ => true
  | .vccioChange _ _ => true
  | .coreMemoryAccess _ op _ addr size _ _ => addr.toNat % 2 ^ size.val == 0 && (decide (2 ≤ size.val) || plainOp op)
  | .laneSignal _ _ _ => true

end Sys2Proof
end

