-- ==== Sys2Proof/Safety.lean ====
section
/-! DEFINITION. What counts as a safe run: every step answers a next state, takes exactly the command at the front of the queue, burns
fuses one way only, and keeps every memory in its canonical form. -/

namespace Sys2Proof.Machine

open Sys2Proof

/-- A step that answers a next state. -/
def Advances (s : State) : Prop := ∃ t, step s = .next t

/-- Fuses only burn (R274, R482, R488, R573): counters never fall, a provisioned slot keeps its hash, and what is burned stays burned. -/
structure FuseState.Burns (a b : FuseState) : Prop where
  svn : a.svn ≤ b.svn
  sealed : a.sealEvents ≤ b.sealEvents
  slots : ∀ k h, SMap.find a.slots k = some h → SMap.find b.slots k = some h
  revoked : ∀ k, k ∈ a.revoked → k ∈ b.revoked
  expert : a.expert.isSome → b.expert.isSome
  debugKey : a.debugKey.isSome → b.debugKey.isSome
  started : a.returnStarted → b.returnStarted
  kek : a.kekBurned → b.kekBurned
  returned : a.returned → b.returned

/-- At most one unreported report for each unit and error class (R39). -/
def OneReportEach (l : List Report) : Prop := l.Pairwise (fun a b => ¬(a.unit = b.unit ∧ a.cls = b.cls))

/-- The canonical form of the registers and of every memory (plate SRAM and its ECC conditions, block memories, DRAM, configuration frames
and flip-flops), and at most one unreported report for each unit and class. -/
structure CanonParts (reports : List Report) (csr : SMap Word32) (sram : SMap Byte) (ecc : SMap Nat) (lines : SMap Word72)
    (dram : SMap Line) (frames : SMap Frame) (q : SMap Bool) : Prop where
  reports : OneReportEach reports
  csr : csr.Canon csrReset
  sram : sram.Canon (fun _ => 0)
  ecc : ecc.Canon (fun _ => 0)
  lines : lines.Canon (fun _ => zeroLine)
  dram : dram.Canon (fun _ => 0)
  frames : frames.Canon (fun _ => 0)
  q : q.Canon (fun _ => false)

/-- A state whose registers and memories are in canonical form, with at most one unreported report for each unit and class. -/
def State.Canonical (s : State) : Prop :=
  CanonParts s.reports s.csr s.sram.mem s.sram.ecc s.bm.lines s.ddr.mem s.fab.frames s.fab.q

/-- What no command breaks: the queue of waiting commands, the one-way fuses, the canonical form. -/
structure Kept (s t : State) : Prop where
  pending : t.pending = s.pending
  fuse : s.fuse.Burns t.fuse
  canon : s.Canonical → t.Canonical

/-- The errors a list of reports stands for (R39). -/
def reportTotal (l : List Report) : Nat := (l.map (·.count)).sum

/-- What one state reads as another does at every register but those of a list of homes. -/
def SameRegsBut (homes : List Nat) (s t : State) : Prop := ∀ u off, csrHome u off ∉ homes → t.reg u off = s.reg u off

/-- An engine is at an instruction it can issue: its clock runs, it is in RUN, neither waiting nor stopping, and the entry of IMEM at PC has
good parity and reads the word `w` of opcode `op` (R147, R157, R158). -/
abbrev Issues (s : State) (i op w : Nat) : Prop :=
  s.clockRuns (i / 64) 8 = true ∧ s.ef i F.tapStatusState = 1 ∧ s.ef i F.tapStatusWait ≠ 1 ∧ (s.engine i).stopping = false ∧
    s.ef i F.tapStatusPc ∉ (s.engine i).badParity ∧ tapFetch s i = w ∧ w / 2 ^ 26 = op

/-- The oldest request that waits is `q`, the firmware serves it, and for the first time (R433, R467, R473): `s0` is the state in which it is
performed, with the request off the queue and one free value drawn. -/
abbrev ServesFirst (s : State) (q : DictReq) (s0 : State) : Prop :=
  s.serving = true ∧ s.bootPhase = 5 ∧ s.dict.queue.head? = some q ∧ q.session ≠ noSession ∧
    ((s.ses q.session).last.map (·.1)) ≠ some q.seq ∧ s0 = State.draw { s with dict := { s.dict with queue := s.dict.queue.tail } }

/-- A request answered: its response is kept for a repeat and sent the way the request came (R467, R471). -/
def answered (t : State) (q : DictReq) (rsp : List Byte) : State :=
  respondTo (t.setSes q.session { t.ses q.session with last := some (q.seq, rsp) }) q rsp

/-- One fret of an instance of a budget channel: items of the given costs ask one after another, then the boundary comes (R424). -/
def budFret (c i : Nat) (items : List Nat) (s : State) : State :=
  meterBoundary (items.foldl (fun t cost => t.budgeted c i cost id) s) c i

/-- A run of frets: the state after it, and the work it charged in all, as the meter shows it at each boundary (R424, R427). -/
def budRun (c i : Nat) : List (List Nat) → State → State × Nat
  | [], s => (s, 0)
  | f :: r, s => ((budRun c i r (budFret c i f s)).1, ((budFret c i f s).meter c i).used + (budRun c i r (budFret c i f s)).2)

end Sys2Proof.Machine
end

