-- ==== Sys2Proof/Certificates/Slice0/Obligations.lean ====
section
/-! DEFINITION. The statements for the provers: what the commands do, what they leave, and the invariants of a step. -/

open Sys2Proof Sys2Proof.Machine

/-- A step runs the command at the front of the queue (R6, R39). For every command c, queue rest r and state s whose queue is c followed by r,
a step of s is exec of c on s with the queue r. The queue of waiting commands is the model's own (log entry 1). -/
def Obligations.StepTakesFrontCommand : Prop :=
  ∀ (c : Instr) (r : List Instr) (s : State), s.pending = c :: r → step s = exec c { s with pending := r }

/-- A step on an empty queue is one cycle of the plate clock (R114, R178, R374). Where no command waits, a step answers the state after one
cycle of the plate clock, with its queue still empty; where the plate clock does not run, the state itself; and where no lane sends and no
flit or packet is under way in the mesh, the state with only the network sides of the queues settled. That the time-driven effects happen
on an empty queue is the model's choice (DESIGN CHOICE, log entry 1). -/
def Obligations.IdleStepIsOnePlateCycle : Prop :=
  (∀ s : State, s.pending = [] → step s = .next (plateTick s)) ∧
  (∀ s : State, (plateTick s).pending = s.pending) ∧
  (∀ s : State, s.pending = [] → s.clk.halted = true → step s = .next s) ∧
  (∀ s : State, s.pending = [] → s.clk.halted = false → (∀ p < 16, portSends (plateQueues s) p = false) → meshBusy (plateQueues s) = false →
    step s = .next (plateQueues s))

/-- Every command answers a next state, whatever its operands and the state (R6, R39). For every command with every operand and every state,
exec answers a next state: no command of the spec stops the block. What each command's next state holds is stated per family in the other
statements. -/
def Obligations.EveryCommandCompletes : Prop :=
  ∀ (c : Instr) (s : State), ∃ t : State, exec c s = .next t

/-- The flit a router output chooses in a plate cycle (R178). Of the flits that wait for an output (those that a credit and the lane's packet
let go), with levels 0 to 3, the output chooses one whenever there is one, and that one is of the list. PRI 3 goes first; otherwise PRI 1,
if it waits and had fewer than FLOOR1 of the output's last 16 flit cycles; otherwise PRI 0, if it waits and had fewer than FLOOR0 of them;
otherwise the highest level that waits. Within a level a response goes before a request, and within a lane the input comes first from the
one whose turn it is. Once a packet has started on an output lane, only the flits of its input go on there. A flit that moves is noted as
the output's newest flit cycle, of which the last 16 are kept; the last flit of a packet frees the output lane and passes the turn to the
input after its own, and any other holds the lane for its input. (Flits, not idle cycles, are counted as flit cycles: DEDUCED, log entry
141.) -/
def Obligations.PlateCycleArbitrates : Prop :=
  (∀ (s : State) (r out : Nat) (l : List Mover) (x : Mover), (∀ y ∈ l, y.pri ≤ 3) → outputChoice s r out l = some x →
    ∀ f1, f1 = s.fld (uNoc r) F.nocRtCtrlFloor1 → ∀ f0, f0 = s.fld (uNoc r) F.nocRtCtrlFloor0 → ∀ h, h = SMap.get [] s.net.mesh.hist (r * 20 + out) →
    ∀ t, t = SMap.get 0 s.net.mesh.turn (meshLane r out x.pri x.rsp) →
    x ∈ l ∧
    ((∃ y ∈ l, y.pri = 3) → x.pri = 3) ∧
    ((∀ y ∈ l, y.pri ≠ 3) → (∃ y ∈ l, y.pri = 1) → h.count 1 < f1 → x.pri = 1) ∧
    ((∀ y ∈ l, y.pri ≠ 3) → ((∀ y ∈ l, y.pri ≠ 1) ∨ f1 ≤ h.count 1) → (∃ y ∈ l, y.pri = 0) → h.count 0 < f0 → x.pri = 0) ∧
    ((∀ y ∈ l, y.pri ≠ 3) → ((∀ y ∈ l, y.pri ≠ 1) ∨ f1 ≤ h.count 1) → ((∀ y ∈ l, y.pri ≠ 0) ∨ f0 ≤ h.count 0) → ∀ y ∈ l, y.pri ≤ x.pri) ∧
    (∀ y ∈ l, y.pri = x.pri → y.rsp = true → x.rsp = true) ∧
    (∀ y ∈ l, y.pri = x.pri → y.rsp = x.rsp → (x.input + 20 - t) % 20 ≤ (y.input + 20 - t) % 20)) ∧
  (∀ (s : State) (r out : Nat) (l : List Mover), (∀ y ∈ l, y.pri ≤ 3) → l ≠ [] → (outputChoice s r out l).isSome = true) ∧
  (∀ (m : MeshState) (x : Mover) (i : Nat), SMap.get 0 m.lock x.outKey = i + 1 → (meshFree m x = true ↔ x.input = i)) ∧
  (∀ (m : MeshState) (x : Mover), SMap.get 0 m.lock x.outKey = 0 → (meshFree m x = true ↔ x.flit.idx = 0)) ∧
  (∀ (s : State) (x : Mover), ∀ m, m = s.net.mesh → ∀ n, n = (meshMove s x).net.mesh → ∀ k, k = x.router * 20 + x.out →
    SMap.get [] n.hist k = (x.pri :: SMap.get [] m.hist k).take 16 ∧
    SMap.get 0 n.lock x.outKey = (if x.last then 0 else x.input + 1) ∧
    (x.last = true → SMap.get 0 n.turn x.outKey = (x.input + 1) % 20) ∧ (x.last = false → n.turn = m.turn))

/-- Every step completes and takes exactly one command from the queue (R6, R39). From every state, whatever command is in front, the step
answers a next state (no command of the spec stops the block) whose queue is the rest of the queue it started with: commands leave it
first in, first out, and none adds one. The queue is the model's own (log entry 1). -/
def Obligations.StepTakesOneCommand : Prop :=
  ∀ s : State, ∃ t : State, step s = .next t ∧ t.pending = s.pending.tail

/-- Every step keeps what is burned in the fuses (R274, R482, R484, R488, R489, R573). Whatever a step does, the fuses of the state it answers
are those of the state it started with or burned further: CFG_SVN and the count of seal events never fall, a provisioned key slot keeps
its hash, a revoked slot stays revoked, and an expert key, a debug key and each mark of return preparation once burned stays burned. -/
def Obligations.FusesOnlyBurn : Prop :=
  ∀ s t : State, step s = .next t → s.fuse.Burns t.fuse

/-- Every step keeps registers and memories in canonical form and one report a class (R10, R35, R39, R46, R98, R247). If the registers, plate
SRAM and its ECC conditions, block memories, DRAM, configuration frames and flip-flops of a state are listed in canonical form (addresses
strictly rising, no entry equal to what an unlisted address reads as) and no unit holds two unreported reports of one error class (R39),
the same holds in the state a step answers. The canonical form is the model's own. -/
def Obligations.StepKeepsCanonical : Prop :=
  ∀ s t : State, s.Canonical → step s = .next t → t.Canonical

/-- The state after reset is canonical and waits for nothing (R10, R39, R247). The state after reset is in canonical form with no memory
listed, has no unreported error, and its queue of commands is empty. -/
def Obligations.ResetIsCanonical : Prop :=
  State.reset.Canonical ∧ State.reset.reports = [] ∧ State.reset.path = [] ∧ State.reset.pending = []

/-- A field written reads back, and nothing else changes (R6, R11). For every state, unit, field of a register and number: after the field is
written it reads the number cut to the field's width; every field of the same register that shares no bit with it reads as before; every
other register reads as before; and nothing of the state but the registers changes. This is the one operation every meaning writes
register fields with. -/
def Obligations.FieldWrites : Prop :=
  ∀ (s : State) (u : Nat) (f : Fld) (v i j : Nat), f.lo ≤ f.hi → f.hi < 32 →
    (s.setFld u f v i j).fld u f i j = v % 2 ^ (f.hi + 1 - f.lo) ∧
    (∀ g : Fld, g.at i j = f.at i j → g.hi < 32 → f.hi < g.lo ∨ g.hi < f.lo → (s.setFld u f v i j).fld u g i j = s.fld u g i j) ∧
    SameRegsBut [csrHome u (f.at i j)] s (s.setFld u f v i j) ∧
    (s.setFld u f v i j) = { s with csr := (s.setFld u f v i j).csr }

/-- Errors raised, sent and collected are counted, none lost (R39, R493, R495, R497). An error raised adds exactly 1 to the errors that the
unreported reports stand for, and a report of its unit and class already waiting keeps its detail word. ERROR_REPORT_SEND puts the unit's
oldest unreported report at the end of the error path and changes nothing else. ERROR_REPORT_RECEIVE takes the oldest report of the path:
MGT_ERR_TOTAL advances by its count (saturating), and an open entry of its key gains the count, LAST = now, with nothing delivered (WINDOW
not 0); a closed one is reopened and delivered with NEW; a new key takes an unused entry while there is one, created with the report's
count and FIRST = LAST = now and delivered with NEW (which of several unused entries is a free value). A remote report comes from the
queue of those that came over links. ERR_WINDOW_END delivers an entry that reports reached with UPDATE and closes a quiet one. ERR_POP and
ERR_DELIVERY_QUEUED queue pending deliveries oldest first while the queue has space. -/
def Obligations.ErrorReportsAreCounted : Prop :=
  (∀ (s : State) (u cls d : Nat), reportTotal (s.raise u cls d).reports = reportTotal s.reports + 1) ∧
  (∀ (s : State) (u cls d : Nat) (r : Report), r ∈ s.reports → ∃ x ∈ (s.raise u cls d).reports, x.unit = r.unit ∧ x.cls = r.cls ∧
    x.detail = r.detail ∧ r.count ≤ x.count) ∧
  (∀ (u : BitVec 8) (r : Report) (s : State), s.reports.find? (fun r => r.unit == u.toNat) = some r →
    exec (.errorReportSend u) s = .next { s with reports := s.reports.erase r, path := s.path ++ [r] }) ∧
  (∀ (now : Word64) (r : Report) (l : List Report) (s : State) (x : Nat × ErrEntry), s.path = r :: l →
    s.err.entry.find? (fun x => x.1 != overflowEntry && x.2.unit == r.unit && x.2.cls == r.cls && x.2.remote == false) = some x →
    x.2.isOpen = true → noWindow (({ s with path := l }).countSat uErr F.mgtErrTotalCount r.count) = false →
    exec (.errorReportReceive false now) s =
      .next ((({ s with path := l }).countSat uErr F.mgtErrTotalCount r.count).setErr x.1
        { x.2 with count := x.2.count + r.count, last := now.toNat, sysid := 0, dirty := true })) ∧
  (∀ (now : Word64) (r : Report) (l : List Report) (s : State) (x : Nat × ErrEntry), s.path = r :: l →
    s.err.entry.find? (fun x => x.1 != overflowEntry && x.2.unit == r.unit && x.2.cls == r.cls && x.2.remote == false) = some x →
    x.2.isOpen = false →
    exec (.errorReportReceive false now) s =
      .next (deliverErr ((({ s with path := l }).countSat uErr F.mgtErrTotalCount r.count).setErr x.1
        { x.2 with count := x.2.count + r.count, last := now.toNat, sysid := 0,
                   isOpen := !noWindow (({ s with path := l }).countSat uErr F.mgtErrTotalCount r.count), dirty := false }) x.1 1)) ∧
  (∀ (now : Word64) (r : Report) (l : List Report) (a : Nat) (free : List Nat) (s : State), s.path = r :: l →
    s.err.entry.find? (fun x => x.1 != overflowEntry && x.2.unit == r.unit && x.2.cls == r.cls && x.2.remote == false) = none →
    unusedErr (({ s with path := l }).countSat uErr F.mgtErrTotalCount r.count) = a :: free →
    exec (.errorReportReceive false now) s =
      .next (createErr ((({ s with path := l }).countSat uErr F.mgtErrTotalCount r.count).draw)
        ((({ s with path := l }).countSat uErr F.mgtErrTotalCount r.count).pick (a :: free))
        { unit := r.unit, cls := r.cls, remote := false, count := r.count, first := now.toNat, last := now.toNat, detail := r.detail,
          sysid := 0 })) ∧
  (∀ (now : Word64) (r : Report) (origin : Nat) (l : List (Report × Nat)) (s : State), s.err.remote = (r, origin) :: l →
    exec (.errorReportReceive true now) s = .next (collect { s with err := { s.err with remote := l } } r true origin now.toNat)) ∧
  (∀ (n : Fin 513) (e : ErrEntry) (s : State), SMap.find s.err.entry n = some e → e.isOpen = true →
    exec (.errWindowEnd n) s = .next (if e.dirty then deliverErr (s.setErr n { e with dirty := false }) n 2
      else s.setErr n { e with isOpen := false })) ∧
  (∀ s : State, exec .errDeliveryQueued s = .next (drainErr s.err.waiting s)) ∧
  (∀ s : State, exec .errPop s =
    .next (drainErr (showErr { s with err := { s.err with queue := s.err.queue.drop 1 } }).err.waiting
      (showErr { s with err := { s.err with queue := s.err.queue.drop 1 } }))) ∧
  (∀ (s : State) (n flags : Nat), deliverErr s n flags = if s.err.queue.length < 64 ∧ s.err.waiting.isEmpty then queueErr s n flags
    else { s with err := { s.err with waiting := s.err.waiting ++ [(n, flags)] } })

/-- Each command of the span network and its tuner has its effect (R77, R78, R83, R84, R86, R87, R88, R92, R93, R424). With the conditions its
rules set, each command answers a next state with exactly these changes. A channel with more than one active drive enable is fenced,
SPN_STATUS.FAULT set and class 0x12 raised against its home die. A fence clear takes note of a fenced channel homed in the die, or of all
of them. A rotation the budget admits is charged 1,059 span cycles and begins under the settings of SPN_CTRL. A matched first compare
window enters the sweep; a mismatch with a good S0 makes the wire FAILED and ends its visit (that the wire is moved by R88 is log entry
127), with a bad S0 the rotation is abandoned and S0 marked. A sweep judges the wire: a FAILED one is repaired and its visit is over, any
other goes to the second compare window, at whose end the rotation is counted and the wire visited. A spare that is free is calibrated,
charged 1,024 span cycles. While no region has a plane and start-up calibration is not complete, it judges one wire after another without
budget and repairs a FAILED one, and is complete once every wire of every site has been judged. FORCE_REPAIR of a logical wire no rotation
holds repairs it; CAL_NOW puts the selected site first. -/
def Obligations.SpanCommandsComplete : Prop :=
  (∀ (c : Fin 131072) (s : State), c.val ∉ s.span.fenced → 1 < activeDrivers s c →
    exec (.spanFence c) s = .next ((({ s with span := { s.span with fenced := NSet.add s.span.fenced c } }).setFld (uDie (channelDie c))
      F.spnStatusFault 1).raise (uDie (channelDie c)) 0x12 c)) ∧
  (∀ (d : Fin 8) (c : BitVec 17) (s : State), channelDie c.toNat = d → c.toNat ∈ s.span.fenced →
    exec (.fenceClearChannel d c) s = .next { s with span := { s.span with clearing := NSet.add s.span.clearing c.toNat } }) ∧
  (∀ (d : Fin 8) (s : State), exec (.fenceClearAll d) s = .next { s with span := { s.span with
    clearing := (s.span.fenced.filter (fun c => channelDie c = d)).foldl NSet.add s.span.clearing } }) ∧
  (∀ (d : Fin 8) (site : Fin 24576) (wire : Fin 32) (s : State), s.flag (uDie d) F.spnCtrlCalEn = true →
    SMap.find s.span.rot (siteKey d site) = none → canRotate s d site = true →
    rotating s d < s.fld (uDie d) F.spnCtrlCalPar → inOrder s d site = true → s.admits 3 d = true →
    exec (.rotation d site wire) s = .next (({ s.charge 3 d 1059 with span := { (s.charge 3 d 1059).span with
        first := s.span.first.filter (fun k => k != siteKey d site) } }).setRot d site
      (some ⟨wire, 0, s.fld (uDie d) F.spnCtrlMinEye, s.flag (uDie d) F.spnCtrlRepairEn⟩))) ∧
  (∀ (d : Fin 8) (site : Fin 24576) (s0Pass : Bool) (lapUs : Word32) (r : Rotation) (s : State),
    SMap.find s.span.rot (siteKey d site) = some r → r.phase = 0 →
    exec (.rotationSelectSpare d site true s0Pass lapUs) s = .next (s.setRot d site (some { r with phase := 1 }))) ∧
  (∀ (d : Fin 8) (site : Fin 24576) (lapUs : Word32) (r : Rotation) (s : State), SMap.find s.span.rot (siteKey d site) = some r →
    r.phase = 0 → exec (.rotationSelectSpare d site false true lapUs) s =
      .next (visitWire (repairWire (s.setRot d site none) d site r.wire r.repairEn) d site r.wire lapUs.toNat)) ∧
  (∀ (d : Fin 8) (site : Fin 24576) (lapUs : Word32) (r : Rotation) (s : State), SMap.find s.span.rot (siteKey d site) = some r →
    r.phase = 0 → exec (.rotationSelectSpare d site false false lapUs) s = .next { s.setRot d site none with
      span := { (s.setRot d site none).span with s0Bad := NSet.add s.span.s0Bad (siteKey d site) } }) ∧
  (∀ (d : Fin 8) (site : Fin 24576) (lo : BitVec 6) (width : Fin 65) (drv : BitVec 2) (lapUs : Word32) (r : Rotation) (s : State),
    SMap.find s.span.rot (siteKey d site) = some r → r.phase = 1 →
    exec (.rotationSweepDone d site lo width drv lapUs) s = .next
      (let j := judgeWire s d site r.wire lo.toNat width drv.toNat r.minEye
       if j.2 then visitWire (repairWire (j.1.setRot d site none) d site r.wire r.repairEn) d site r.wire lapUs.toNat
       else j.1.setRot d site (some { r with phase := 2 }))) ∧
  (∀ (d : Fin 8) (site : Fin 24576) (lapUs : Word32) (r : Rotation) (s : State),
    SMap.find s.span.rot (siteKey d site) = some r → r.phase = 2 →
    exec (.rotationReturn d site lapUs) s =
      .next (visitWire ((s.setRot d site none).countWrap (uDie d) F.spnRotCountRotations) d site r.wire lapUs.toNat)) ∧
  (∀ (d : Fin 8) (site : Fin 24576) (spare : Fin 2) (lo : BitVec 6) (width : Fin 65) (drv : BitVec 2) (s : State),
    s.flag (uDie d) F.spnCtrlCalEn = true → spareFree s d site spare = true → s.siteOff d site = false → s.admits 3 d = true →
    exec (.spareCalibration d site spare lo width drv) s = .next
      (let j := judgeWire (s.charge 3 d 1024) d site (32 + spare.val) lo.toNat width drv.toNat (s.fld (uDie d) F.spnCtrlMinEye)
       if spare.val = 0 then { j.1 with span := { j.1.span with s0Bad := NSet.del j.1.span.s0Bad (siteKey d site) } } else j.1)) ∧
  (∀ (d : Fin 8) (site : Fin 24576) (wire : Fin 34) (lo : BitVec 6) (width : Fin 65) (drv : BitVec 2) (s : State),
    s.span.calibrated = false → (∀ n < 128, s.active n = none) →
    exec (.startupCalibration d site wire lo width drv) s = .next
      (let j := judgeWire (startWire (startSite s d site) (wireKey d site wire)) d site wire lo.toNat width drv.toNat
         (s.fld (uDie d) F.spnCtrlMinEye)
       if j.2 && decide (wire.val < 32) then repairWire j.1 d site wire (s.flag (uDie d) F.spnCtrlRepairEn) else j.1)) ∧
  (∀ (d : Fin 8) (s : State), selWire s d < 32 → SMap.find s.span.rot (siteKey d (selSite s d)) = none →
    exec (.forceRepair d) s = .next (repairWire s d (selSite s d) (selWire s d) (s.flag (uDie d) F.spnCtrlRepairEn))) ∧
  (∀ (d : Fin 8) (s : State), exec (.calNow d) s = .next { s with span := { s.span with
    first := siteKey d (selSite s d) :: s.span.first.filter (fun j => j != siteKey d (selSite s d)) } })

/-- A wire is judged by its eye, and a FAILED wire moves by the state of its site (R83, R87, R88). A calibration whose passing window holds no
code, or the third in a row narrower than MIN_EYE, finds the wire FAILED, and no other does; its eye is recorded, cut to 63, and only that
wire's record and the count of free values drawn change. With REPAIR_EN 0 a FAILED wire stays on the vertical wire that carries it (a LOST
one stays LOST) and class 0x03 is raised against unit 0x50 + d. With REPAIR_EN 1: at a NORMAL site it moves to S1 and the site becomes
REPAIRED, no error raised; at a REPAIRED site it moves to S0, the site becomes DEGRADED, rotation stops there and class 0x03 is raised; at
a DEGRADED site the wire is LOST, the site becomes LOST and class 0x03 is raised. -/
def Obligations.WiresAreJudgedAndRepaired : Prop :=
  (∀ (s : State) (d site w lo width drv minEye : Nat),
    (judgeWire s d site w lo width drv minEye).2 = ((width == 0) || (decide (width < minEye) && decide (2 ≤ (s.wire d site w).margRun))) ∧
    (judgeWire s d site w lo width drv minEye).1.wire d site w =
      { (judgeWire s d site w lo width drv minEye).1.wire d site w with
        eye := min width 63, carrier := (s.wire d site w).carrier, margRun := if width < minEye then min ((s.wire d site w).margRun + 1) 3 else 0 } ∧
    (∀ d' site' w', wireKey d' site' w' ≠ wireKey d site w →
      (judgeWire s d site w lo width drv minEye).1.wire d' site' w' = s.wire d' site' w') ∧
    (judgeWire s d site w lo width drv minEye).1 = { s with
      span := { s.span with wire := (judgeWire s d site w lo width drv minEye).1.span.wire }, free := s.free + 1 }) ∧
  (∀ (s : State) (d site w : Nat), repairWire s d site w false =
    (s.setWire d site w { s.wire d site w with state := max (s.wire d site w).state 2 }).raise (uDie d) 0x03) ∧
  (∀ (s : State) (d site w : Nat), s.site d site = 0 → repairWire s d site w true =
    (s.setWire d site w { s.wire d site w with state := 2, carrier := 2 }).setSite d site 1) ∧
  (∀ (s : State) (d site w : Nat), s.site d site = 1 → repairWire s d site w true =
    (((s.setRot d site none).setWire d site w { s.wire d site w with state := 2, carrier := 1 }).setSite d site 2).raise (uDie d) 0x03) ∧
  (∀ (s : State) (d site w : Nat), s.site d site = 2 → repairWire s d site w true =
    ((s.setWire d site w { s.wire d site w with state := 3 }).setSite d site 3).raise (uDie d) 0x03)

/-- Each command of a block memory in RAM mode has its effect (R95, R100, R101, R102, R104, R105, R107, R122, R159). A port that is active
reads its word: DOUT (after one more edge with OREG = 1) and CERR as the whole line checks, and a failing read owes a refetch. A write
alone writes the enabled bytes of its word, and DOUT shows what WMODE says. Where an active access of port B comes at an edge that
coincides with port A's, both are performed: a read returns its line as it was before the other port's write, and two writes are both
made, in one merged write where they meet in a line. In a cycle in which its side is idle an owed refetch is no longer owed and is
recorded as transient if the line passes, as stored if it fails; it is recorded as stored if no such cycle came. A line command is queued
with BUSY set while none is pending; executed, with both ports idle and no line of the memory moving, REFETCH answers OK or BAD (which is
recorded with SRC 2) and RECOMPUTE stores a fresh check. The clearing after reset leaves every block memory and operand memory 0 and every
instruction memory at its reset value, except those a load has written in the meantime, and changes nothing else. -/
def Obligations.BlockMemoryCommandsComplete : Prop :=
  (∀ (m : Fin 16384) (port : Fin 2) (inp other : Option PortIn) (s : State), ∀ i : PortIn, i = portInput s m port inp →
    portActive s m port i = true → i.we = false →
    (∀ o, other = some o → portActive s m (1 - port) o = false ∨ portsCoincide s m = false) →
    lineOk (s.line m (wordAt s m port i).1) = true →
    exec (.bmRead m port inp other) s = .next (let w := wordAt s m port i
      showData s m port (lineData (s.line m w.1) / 2 ^ w.2.1 % 2 ^ w.2.2) false)) ∧
  (∀ (m : Fin 16384) (port : Fin 2) (inp other : Option PortIn) (s : State), ∀ i : PortIn, i = portInput s m port inp →
    portActive s m port i = true → i.we = false →
    (∀ o, other = some o → portActive s m (1 - port) o = false ∨ portsCoincide s m = false) →
    lineOk (s.line m (wordAt s m port i).1) = false →
    exec (.bmRead m port inp other) s = .next (let w := wordAt s m port i
      oweRefetch (showData s m port (lineData (s.line m w.1) / 2 ^ w.2.1 % 2 ^ w.2.2) true) m port w.1)) ∧
  (∀ (s : State) (m port data : Nat) (cerr : Bool), showData s m port data cerr = s.setPort m port
    (if memPortField (activeRecord s m) port 8 8 = 1 then
      { (s.bmPort m port).edge with busy := true, next := some (BitVec.ofNat 64 data, cerr) }
     else { (s.bmPort m port).edge with busy := true, dout := BitVec.ofNat 64 data, cerr := cerr })) ∧
  (∀ (m : Fin 16384) (port : Fin 2) (inp other : Option PortIn) (s : State), ∀ i : PortIn, i = portInput s m port inp →
    portActive s m port i = true → i.we = true →
    (∀ o, other = some o → portActive s m (1 - port) o = false ∨ portsCoincide s m = false) →
    exec (.bmWrite m port inp other) s = .next (let w := wordAt s m port i
      showWrite (writeMasked s m w.1 (writeData s m port i) (writeMask s m port i)) m port i (s.line m w.1)
        (mergeData (lineData (s.line m w.1)) (writeData s m port i) (writeMask s m port i)))) ∧
  (∀ (m : Fin 16384) (inp : Option PortIn) (o : PortIn) (s : State), ∀ i : PortIn, i = portInput s m 0 inp →
    portActive s m 0 i = true → portActive s m 1 o = true → portsCoincide s m = true →
    (i.we = false → o.we = false → exec (.bmRead m 0 inp (some o)) s = .next (portRead (portRead s m 0 i) m 1 o)) ∧
    (i.we = false → o.we = true → exec (.bmRead m 0 inp (some o)) s = .next (portWrite (portRead s m 0 i) m 1 o)) ∧
    (i.we = true → o.we = false → exec (.bmWrite m 0 inp (some o)) s = .next (portWrite (portRead s m 1 o) m 0 i)) ∧
    (i.we = true → o.we = true → exec (.bmWrite m 0 inp (some o)) s = .next
      (if (wordAt s m 0 i).1 = (wordAt s m 1 o).1 then collide s m i o else portWrite (portWrite s m 0 i) m 1 o))) ∧
  (∀ (m : Fin 16384) (side : Fin 3) (r : Refetch) (s : State), owedRefetch s m side = some r → sideIdle s m side = true →
    exec (.lineRefetch m side) s = .next (if lineOk (s.line m r.line) then recordTransient (dropRefetch s r) m
      else recordStored (dropRefetch s r) m r.line 0)) ∧
  (∀ (m : Fin 16384) (side : Fin 3) (r : Refetch) (s : State), owedRefetch s m side = some r →
    exec (.refetchTimeout m side) s = .next (recordStored (dropRefetch s r) m r.line 0)) ∧
  (∀ (d : Fin 8) (m : Fin 2048) (line : Fin 1024) (s : State), SMap.find s.bm.lineCmd d = none →
    exec (.lineCmdRefetch d m line) s = .next (({ s with bm := { s.bm with lineCmd := SMap.put s.bm.lineCmd d ⟨1, m, line⟩ } }).setFld
      (uDie d) F.bmLineStatBusy 1)) ∧
  (∀ (d : Fin 8) (m : Fin 2048) (line : Fin 1024) (s : State), SMap.find s.bm.lineCmd d = none →
    exec (.lineCmdRecompute d m line) s = .next (({ s with bm := { s.bm with lineCmd := SMap.put s.bm.lineCmd d ⟨2, m, line⟩ } }).setFld
      (uDie d) F.bmLineStatBusy 1)) ∧
  (∀ (d : Fin 8) (c : LineCmd) (s : State), ∀ m : Nat, m = d.val * 2048 + c.mem → SMap.find s.bm.lineCmd d = some c →
    memMoving s m = false → portIdle s m 0 = true → portIdle s m 1 = true →
    exec (.lineCmdExecute d) s = .next
      (let s1 := ({ s with bm := { s.bm with lineCmd := SMap.erase s.bm.lineCmd d } }).setFld (uDie d) F.bmLineStatBusy 0
       if c.op = 2 then (s1.setLine m c.line (lineOf (lineData (s.line m c.line)))).setFld (uDie d) F.bmLineStatResult 3
       else if lineOk (s.line m c.line) then s1.setFld (uDie d) F.bmLineStatResult 1
       else recordStored (s1.setFld (uDie d) F.bmLineStatResult 2) m c.line 2)) ∧
  (∀ s : State, s.bm.clearing = true → ∃ t : State, exec .memoryClearDone s = .next t ∧ t.bm.clearing = false ∧
    (∀ m l, l < 1024 → t.line m l = if m ∈ s.bm.loadedMem then s.line m l else lineOf 0) ∧
    (∀ i, i ∈ s.bm.loadedEng → t.engine i = s.engine i) ∧
    (∀ i, i ∉ s.bm.loadedEng → t.engine i = { s.engine i with om := [], badParity := [] }) ∧
    (∀ i k, i < 8192 → k < 256 → t.reg (engUnit i) (F.tapImemWord.at (i % 1024) k) =
      if i ∈ s.bm.loadedEng then s.reg (engUnit i) (F.tapImemWord.at (i % 1024) k)
      else csrReset (csrKey (engUnit i) (F.tapImemWord.at (i % 1024) k))) ∧
    (∀ u off, ¬(unitKind (csrHome u off / 0x1000000) = .die ∧ 0x800000 ≤ csrHome u off % 0x1000000 ∧
        csrHome u off % 0x1000000 < 0xC00000 ∧ 0x800 ≤ csrHome u off % 0x1000 ∧ csrHome u off % 0x1000 < 0xC00) →
      t.reg u off = s.reg u off) ∧
    t = { s with bm := { s.bm with lines := t.bm.lines, clearing := false }, eng := t.eng, csr := t.csr })

/-- A line written reads back with a fresh check; a merged write never heals a failing line (R94, R103, R106, R108). With no flip mask armed
for the memory: a write of all 64 bits leaves the line with those bits and a passing check; a write of fewer bits of a line that passes
leaves the merged data with a passing check; a write of fewer bits of a line that fails leaves the merged data with a check that still
fails, and the event recorded with SRC 1. In the first two cases every other line of every memory reads as before and nothing else of the
state changes. An armed flip mask corrupts the line written by its 72 bits and disarms. -/
def Obligations.LinesKeepTheirChecks : Prop :=
  (∀ (s : State) (m l data : Nat), flipArmed s m = false →
    (writeMasked s m l data (2 ^ 64 - 1)).line m l = lineOf data ∧ lineOk (lineOf data) = true ∧ lineData (lineOf data) = data % 2 ^ 64) ∧
  (∀ (s : State) (m l data mask : Nat), flipArmed s m = false → mask ≠ 2 ^ 64 - 1 → lineOk (s.line m l) = true →
    (writeMasked s m l data mask).line m l = lineOf (mergeData (lineData (s.line m l)) data mask)) ∧
  (∀ (s : State) (m l data mask : Nat), flipArmed s m = false → mask ≠ 2 ^ 64 - 1 → lineOk (s.line m l) = false →
    lineOk ((writeMasked s m l data mask).line m l) = false ∧
    lineData ((writeMasked s m l data mask).line m l) = mergeData (lineData (s.line m l)) data mask % 2 ^ 64) ∧
  (∀ (s : State) (m l data mask m' l' : Nat), flipArmed s m = false → (mask = 2 ^ 64 - 1 ∨ lineOk (s.line m l) = true) →
    m' * 1024 + l' ≠ m * 1024 + l →
    (writeMasked s m l data mask).line m' l' = s.line m' l' ∧
    writeMasked s m l data mask = { s with bm := { s.bm with lines := (writeMasked s m l data mask).bm.lines } }) ∧
  (∀ (s : State) (m l data : Nat), flipArmed s m = true →
    writeMasked s m l data (2 ^ 64 - 1) = (s.setLine m l (BitVec.ofNat 72 ((lineOf data).toNat ^^^ flipMask s (m / 2048)))).setFld
      (uDie (m / 2048)) F.bmFlipCtrlArm 0)

/-- Each command of a queue has its effect (R112, R113, R114, R115, R116, R117, R118, R119, R129). A push at an active port A to a present
queue that is not FULL, not pushed from the network and not being flushed stores DIN's element at the tail, enters it, and shows no
REFUSED; one to a FULL queue, or at the edge of a flush, is refused and counted. A pop at an active port B of a present queue that is not
EMPTY, not popped from the network and not being flushed shows the oldest element (with CERR as its line checks) after the following edge
and removes it; a failing element also sets QC_STATUS.CERR and owes a refetch. FLUSH of a present queue lets each side see no element from
its domain's next edge on, drops the elements there are now, and aborts the queue's transfers. A network push or pop that its queue can
perform at once begins to move its lines, where no earlier request for the queue is still to be decided (a flush that waits for that side
takes effect first); a peek of the debug unit returns what a pop would, moving nothing. The oldest held request proceeds once its
condition is met and its region is not flipping; one that waits out its hold time completes with BUSY; the oldest transfer of a queue
completes when its last line has moved, with BUSY if a flip or a flush aborted it. -/
def Obligations.QueueCommandsComplete : Prop :=
  (∀ (m : Fin 16384) (inp : Option PortIn) (s : State), ∀ (i : PortIn) (qn : Nat), i = portInput s m 0 inp → qn = portQueue m i →
    queuePort s m 0 i = true → qPresent s qn = true → (s.queue qn).flushPush = false →
    s.flag (uDie (qnDie qn)) F.qcCfgPushNet (qnIdx qn) = false → queueFull s qn = false →
    exec (.push m inp) s = .next (showRefused ((putElement s qn ((s.queue qn).rd + (s.queue qn).count) i.din.toNat).setQueue qn
      ((s.queue qn).pushEdge.pushed 1 (flagLag s qn))).draw m false)) ∧
  (∀ (m : Fin 16384) (inp : Option PortIn) (s : State), ∀ (i : PortIn) (qn : Nat), i = portInput s m 0 inp → qn = portQueue m i →
    queuePort s m 0 i = true → qPresent s qn = true → s.flag (uDie (qnDie qn)) F.qcCfgPushNet (qnIdx qn) = false →
    (s.queue qn).flushPush = true ∨ queueFull s qn = true →
    exec (.push m inp) s = .next (showRefused (refusePush (s.setQueue qn (s.queue qn).pushEdge) qn) m true)) ∧
  (∀ (m : Fin 16384) (inp : Option PortIn) (s : State), ∀ (i : PortIn) (qn : Nat), i = portInput s m 1 inp → qn = portQueue m i →
    queuePort s m 1 i = true → qPresent s qn = true → (s.queue qn).flushPop = false →
    s.flag (uDie (qnDie qn)) F.qcCfgPopNet (qnIdx qn) = false → queueEmpty s qn = false → elementOk s qn (s.queue qn).rd = true →
    exec (.pop m inp) s = .next ((s.setPort m 1 { (s.bmPort m 1).access with
        next := some (BitVec.ofNat 64 (getElement s qn (s.queue qn).rd), false), nextValid := true }).setQueue qn
      ((s.queue qn).popEdge.popped 1 (qCap s qn) (flagLag s qn))).draw) ∧
  (∀ (m : Fin 16384) (inp : Option PortIn) (s : State), ∀ (i : PortIn) (qn : Nat), i = portInput s m 1 inp → qn = portQueue m i →
    queuePort s m 1 i = true → qPresent s qn = true → (s.queue qn).flushPop = false →
    s.flag (uDie (qnDie qn)) F.qcCfgPopNet (qnIdx qn) = false → queueEmpty s qn = false → elementOk s qn (s.queue qn).rd = false →
    exec (.pop m inp) s = .next (oweRefetch ((((s.setPort m 1 { (s.bmPort m 1).access with
        next := some (BitVec.ofNat 64 (getElement s qn (s.queue qn).rd), true), nextValid := true }).setQueue qn
      ((s.queue qn).popEdge.popped 1 (qCap s qn) (flagLag s qn))).draw).setFld (uDie (qnDie qn)) F.qcStatusCerr 1 (qnIdx qn)) m 1
      (qPlace s qn (s.queue qn).rd).1)) ∧
  (∀ (qn : BitVec 16) (s : State), qPresent s qn.toNat = true → ∃ t : State, exec (.flush qn) s = .next t ∧
    t.queue qn.toNat = { s.queue qn.toNat with flushPush := true, flushPop := true, drop := (s.queue qn.toNat).count } ∧
    (t.queue qn.toNat).pushEdge.pushView = 0 ∧ (t.queue qn.toNat).popEdge.popView = 0 ∧ (t.queue qn.toNat).popEdge.count = 0 ∧
    (∀ q, q ≠ qn.toNat → t.queue q = s.queue q) ∧ (∀ m l, t.line m l = s.line m l) ∧ (∀ x ∈ t.bm.moving, x.qn = qn.toNat → x.aborted = true) ∧
    t = { s with bm := { s.bm with q := t.bm.q, moving := t.bm.moving } }) ∧
  (∀ (p : Packet) (n o : Nat) (s : State), ∀ (qn : Nat) (s1 : State), qn = apertureQueue n o → s1 = netFlush s qn true →
    s.arrived p = true → queueTurn s p = true → p.op = opWrite → windowOf p = some (n, o) → 0xFFE00000 ≤ o → p.len.toNat ≠ 0 →
    p.fullEnables = true → flipping s1 n = false → qPresent s1 qn = true →
    s1.flag (uDie (qnDie qn)) F.qcCfgPushNet (qnIdx qn) = true →
    reqElements s1 qn p ≤ qLimit s1 qn → (∀ h ∈ s1.bm.held, h.qn ≠ qn) → conditionMet s1 qn true p = true →
    exec (.aperturePush p) s = .next (startTransfer (s1.takeReq p) qn true p)) ∧
  (∀ (p : Packet) (n o : Nat) (s : State), ∀ (qn : Nat) (s1 : State), qn = apertureQueue n o → s1 = netFlush s qn false →
    s.arrived p = true → queueTurn s p = true → p.op = opRead → peeks s p = false → windowOf p = some (n, o) → 0xFFE00000 ≤ o →
    p.len.toNat ≠ 0 → p.fullEnables = true → flipping s1 n = false → qPresent s1 qn = true →
    s1.flag (uDie (qnDie qn)) F.qcCfgPopNet (qnIdx qn) = true →
    reqElements s1 qn p ≤ qLimit s1 qn → (∀ h ∈ s1.bm.held, h.qn ≠ qn) → conditionMet s1 qn false p = true →
    exec (.aperturePop p) s = .next (startTransfer (s1.takeReq p) qn false p)) ∧
  (∀ (p : Packet) (n o : Nat) (s : State), ∀ qn : Nat, qn = apertureQueue n o →
    ∀ k : Nat, k = reqElements s qn p →
    s.arrived p = true → queueTurn s p = true → windowOf p = some (n, o) → 0xFFE00000 ≤ o → peeks s p = true → p.len.toNat ≠ 0 →
    p.fullEnables = true → flipping s n = false → qPresent s qn = true → s.flag (uDie (qnDie qn)) F.qcCfgPopNet (qnIdx qn) = true →
    k ≤ qLimit s qn → (∀ h ∈ s.bm.held, h.qn ≠ qn) → conditionMet s qn false p = true →
    exec (.peek p) s = .next (s.reply p (if (List.range k).all (fun j => elementOk s qn ((s.queue qn).rd + j)) then .ok else .poison)
      (toLines p.len.toNat (elementBytes s qn (s.queue qn).rd k)))) ∧
  (∀ (qn : BitVec 16) (h : HeldReq) (s : State), ∀ s1 : State, s1 = netFlush s h.qn h.push →
    s.bm.held.find? (fun h => h.qn == qn.toNat) = some h → flipping s1 (qnPort h.qn) = false → qPresent s1 h.qn = true →
    s1.flag (uDie (qnDie h.qn)) (if h.push then F.qcCfgPushNet else F.qcCfgPopNet) (qnIdx h.qn) = true →
    reqElements s1 h.qn h.pkt ≤ qLimit s1 h.qn → conditionMet s1 h.qn h.push h.pkt = true →
    exec (.heldRequestProceed qn) s = .next (startTransfer { s1 with bm := { s1.bm with held := s1.bm.held.erase h } } h.qn h.push h.pkt)) ∧
  (∀ (n : Fin 128) (i : Fin 8) (h : HeldReq) (s : State), (s.bm.held.filter (fun h => qnPort h.qn == n.val))[i.val]? = some h →
    exec (.holdTimeout n i) s = .next (replyQueue { s with bm := { s.bm with held := s.bm.held.erase h } } h.qn h.pkt .busy)) ∧
  (∀ (qn : BitVec 16) (x : Transfer) (s : State), s.bm.moving.find? (fun t => t.qn == qn.toNat) = some x →
    exec (.networkTransferDone qn) s = .next (let s1 : State := { s with bm := { s.bm with moving := s.bm.moving.erase x } }
      if x.aborted then replyQueue s1 x.qn x.pkt .busy else if x.push then finishPush s1 x else finishPop s1 x))

/-- Each command of the logic fabric has its effect (R42, R43, R44, R45, R46, R47, R114, R271, R409, R537). The pads given with an edge become
the levels at the user pins of the bank the region hosts, and each flip-flop whose asynchronous set/reset pin is then high takes its
SRVAL. At an edge of a track that runs, every flip-flop that the edge and the edges coinciding with it clock, and whose track is not in
hold, captures, all from the state before the edge; a flip-flop whose set/reset was released less than t_REC before captures its SRVAL or
its data input by a free value. Then, for each of these edges, the edge is counted for a track in hold, and the block memories, the input
capture flip-flops and the fabric port act. At an edge of a track that does not run nothing else changes but the model's count of free
values used. A set/reset that rises with its pin high, or is released with its pin low, puts every flip-flop of its control set that is
asynchronous and not held at its SRVAL; a late release also marks the set for its next edge; an early release gives each flip-flop SRVAL
or the data it last saw by a free value; an event that the pin's level denies, or at a set that is not asynchronous or is held, changes
nothing. -/
def Obligations.FabricCommandsComplete : Prop :=
  (∀ (n : Fin 128) (track : Fin 8) (falling : Bool) (pads : Option (BitVec 48)) (also : List (Fin 128 × Fin 8 × Bool)) (s0 : State),
    ∀ s, s = (setPads s0 n pads).latchAsync → s.clockRuns n track = true →
    ∀ l, l = edgesAt s n track (boolNat falling) also →
    ∀ loads, loads = l.flatMap (fun x => if s.ffHeld x.1 x.2.1 then [] else captures s x.1 x.2.1 x.2.2) →
    exec (.regionalClockEdge n track falling pads also) s0 = .next (l.foldl (edgeAround s) (noteEdges s (s.setQs loads) l))) ∧
  (∀ (n : Fin 128) (track : Fin 8) (falling : Bool) (pads : Option (BitVec 48)) (also : List (Fin 128 × Fin 8 × Bool)) (s0 : State),
    ∀ s, s = (setPads s0 n pads).latchAsync → s.clockRuns n track = false →
    exec (.regionalClockEdge n track falling pads also) s0 = .next { s with free := s.free + s.fab.recov.length }) ∧
  (∀ (n : Fin 128) (x : Fin 192) (y : Fin 128) (set : Bool) (s : State), ∀ csn, csn = boolNat set →
    ∀ cs, cs = controlSet s n x y csn →
    (s.active n).isSome = true → s.regionRuns n = true → setAsync cs = true → s.ffHeld n (bitsOf cs 2 0) = false →
    (pinOf s n x y (81 + 2 * csn) = true → exec (.asyncSetReset n x y set true .clear) s = .next (setLoad s n x y csn)) ∧
    (pinOf s n x y (81 + 2 * csn) = false → exec (.asyncSetReset n x y set false .clear) s = .next (setLoad s n x y csn))) ∧
  (∀ (n : Fin 128) (x : Fin 192) (y : Fin 128) (set : Bool) (s : State), ∀ csn, csn = boolNat set →
    ∀ cs, cs = controlSet s n x y csn →
    (s.active n).isSome = true → s.regionRuns n = true → setAsync cs = true → s.ffHeld n (bitsOf cs 2 0) = false →
    pinOf s n x y (81 + 2 * csn) = false → ∀ t, t = setLoad s n x y csn →
    exec (.asyncSetReset n x y set false .late) s = .next { t with fab := { t.fab with recov := NSet.add s.fab.recov (setKey n x y csn) } } ∧
    exec (.asyncSetReset n x y set false .early) s = .next (s.setQs ((setCells s n x y csn).map (fun c => (cellKey n y x c,
      if bitOf s.fresh c then srval s n x y c else s.fab.lastD.contains (cellKey n y x c))))).draw) ∧
  (∀ (n : Fin 128) (x : Fin 192) (y : Fin 128) (set rises : Bool) (when : SrTime) (s : State), ∀ csn, csn = boolNat set →
    ∀ cs, cs = controlSet s n x y csn →
    (setAsync cs = false ∨ s.ffHeld n (bitsOf cs 2 0) = true ∨ (rises = true ∧ pinOf s n x y (81 + 2 * csn) = false) ∨
      (rises = false ∧ pinOf s n x y (81 + 2 * csn) = true) ∨ (rises = true ∧ when ≠ .clear)) →
    exec (.asyncSetReset n x y set rises when) s = .next s)

/-- Each instruction of a tap engine has its effect (R140, R142, R143, R144, R145, R146, R147, R148, R149, R152, R153, R158). For every engine
that can issue (its clock runs, it is in RUN, neither waiting nor stopping, and the IMEM entry at PC has good parity) and whose entry at
PC is an instruction w of the opcode of the command, the command performs the instruction, where the entry suffers no upset, with every
operand form of it: the control instructions NOP, HALT, SIG, JMP, LOOP, WAITD, AGSET and AGADD; FTAP and MAC; the loads and stores LDDL,
LDC, ST, IN, OUT and OUTA; BFLY and BEXP. EVT is low but after SIG. Where an operand form is a fault (ILLEGAL 1, LOOPDEPTH 3, LOOPEND 4,
an address-generator error 5, FAB_EN = 0 6), the engine enters FAULT with that cause. An instruction that needs an OM slot just used
stalls 0 or 1 cycle, a free value (log entry 8). Where the entry suffers an upset, which an operand of the command says (log entry 95),
the engine enters FAULT with cause PARITY (2) and raises class 0x03. -/
def Obligations.EngineInstructionsComplete : Prop :=
  (∀ (i : Fin 8192) (w : Nat) (s t : State), Issues s i 0x00 w → t = s.setEngine i { s.engine i with evt := false } →
    exec (.nop i false) s = .next (completeSeq t i 1 0)) ∧
  (∀ (i : Fin 8192) (w : Nat) (s t : State), Issues s i 0x01 w → t = s.setEngine i { s.engine i with evt := false } →
    exec (.halt i false) s = .next (
    (setPendBit ((completeSeq t i 1 0).setEf i F.tapStatusDone 1) i F.tapDonePendPend true).setEf i F.tapStatusState tapIdle)) ∧
  (∀ (i : Fin 8192) (w : Nat) (s t : State), Issues s i 0x02 w → t = s.setEngine i { s.engine i with evt := false } →
    exec (.sig i false) s = .next (
    let t1 := setPendBit (completeSeq t i 1 0) i F.tapDonePendPend true
    t1.setEngine i { t1.engine i with evt := true })) ∧
  (∀ (i : Fin 8192) (w : Nat) (s t : State), Issues s i 0x03 w → t = s.setEngine i { s.engine i with evt := false } →
    exec (.jmp i false) s = .next (
    let tg := bitsOf w 7 0
    let e := t.engine i
    complete (t.setEngine i { e with loops := e.loops.filter (fun l => decide (l.start ≤ tg) && decide (tg ≤ l.last)) }) i tg 1 0)) ∧
  (∀ (i : Fin 8192) (w : Nat) (s t : State), Issues s i 0x04 w → t = s.setEngine i { s.engine i with evt := false } →
    exec (.loop i false) s = .next (
    let pc := t.ef i F.tapStatusPc
    let last := bitsOf w 23 16
    let count := if bitOf w 25 then t.ef i F.tapLcrCount (bitsOf w 1 0) else bitsOf w 15 0
    let e := t.engine i
    if last ≤ pc ∨ (match e.loops with | l :: _ => decide (l.last < last) | [] => false) = true then faultEngine t i 4
    else if count = 0 then
      let nx := loopNext last e.loops
      complete (t.setEngine i { e with loops := nx.2 }) i nx.1 1 0
    else if e.loops.length = 4 then faultEngine t i 3
    else complete (t.setEngine i { e with loops := ⟨pc + 1, last, count⟩ :: e.loops }) i (pc + 1) 1 0)) ∧
  (∀ (i : Fin 8192) (w : Nat) (s t : State), Issues s i 0x05 w → t = s.setEngine i { s.engine i with evt := false } →
    exec (.waitd i false) s = .next (doWaitd t i)) ∧
  (∀ (i : Fin 8192) (w : Nat) (s t : State), Issues s i 0x06 w → t = s.setEngine i { s.engine i with evt := false } →
    exec (.agset i false) s = .next (
    let g := bitsOf w 25 25
    let v := bitsOf w 15 0
    match bitsOf w 24 22 with
    | 0 => completeSeq (t.setEf i F.tapAgABase v g) i 1 0
    | 1 => completeSeq (t.setEf i F.tapAgAIdx v g) i 1 0
    | 2 => completeSeq (t.setEf i F.tapAgBStep v g) i 1 0
    | 3 => if v % 2 ^ 14 = 0 ∨ 8192 < v % 2 ^ 14 then faultEngine t i 5 else completeSeq (t.setEf i F.tapAgBLen v g) i 1 0
    | 4 => completeSeq (t.setEf i F.tapAgBMode v g) i 1 0
    | 5 => if g = 1 then faultEngine t i 1 else completeSeq (t.setEf i F.tapPairWords v) i 1 0
    | _ => faultEngine t i 1)) ∧
  (∀ (i : Fin 8192) (w : Nat) (s t : State), Issues s i 0x07 w → t = s.setEngine i { s.engine i with evt := false } →
    exec (.agadd i false) s = .next (
    let g := bitsOf w 25 25
    let v := signedOf 16 (bitsOf w 15 0)
    match bitsOf w 24 22 with
    | 0 => completeSeq (t.setEf i F.tapAgABase (agReduce t i g ((t.ef i F.tapAgABase g : Int) + v)) g) i 1 0
    | 1 => completeSeq (t.setEf i F.tapAgAIdx (agReduce t i g ((t.ef i F.tapAgAIdx g : Int) + v)) g) i 1 0
    | _ => faultEngine t i 1)) ∧
  (∀ (i : Fin 8192) (w : Nat) (s t : State), Issues s i 0x08 w → t = s.setEngine i { s.engine i with evt := false } →
    exec (.ftap i false) s = .next (
    if agError t i 0 || agError t i 1 then faultEngine t i 5
    else
      let e := t.engine i
      let y := omElement (isI8 t i) e (agAddress t i 0)
      let x := omElement (isI8 t i) e (agAddress t i 1)
      let t1 := macLanes (agAdvance (agAdvance t i 0) i 1) i (bitOf w 25) (bitOf w 24) (fun _ => y)
      (afterMac (completeSeq (t1.setEngine i (shiftDl (t1.engine i) x)) i 1 (slotStall t i 3)) i).draw)) ∧
  (∀ (i : Fin 8192) (w : Nat) (s t : State), Issues s i 0x09 w → t = s.setEngine i { s.engine i with evt := false } →
    exec (.mac i false) s = .next (
    if bitOf w 23 then
      let e := t.engine i
      afterMac (completeSeq (macLanes t i (bitOf w 25) (bitOf w 24) (fun j => SMap.get 0 e.coef j)) i 1 0) i
    else if agError t i 0 then faultEngine t i 5
    else
      let y := omElement (isI8 t i) (t.engine i) (agAddress t i 0)
      let t1 := macLanes (agAdvance t i 0) i (bitOf w 25) (bitOf w 24) (fun _ => y)
      (afterMac (completeSeq t1 i 1 (slotStall t i 1)) i).draw)) ∧
  (∀ (i : Fin 8192) (w : Nat) (s t : State), Issues s i 0x0A w → t = s.setEngine i { s.engine i with evt := false } →
    exec (.lddl i false) s = .next (
    let g := bitsOf w 23 23
    if bitOf w 25 then
      if t.ef i F.tapCfgFabEn = 0 then faultEngine t i 6 else doLddlFifo t i
    else if agError t i g then faultEngine t i 5
    else
      let v := omElement (isI8 t i) (t.engine i) (agAddress t i g)
      let t1 := agAdvance t i g
      (completeSeq (t1.setEngine i (shiftDl (t1.engine i) v)) i 1 (slotStall t i 2)).draw)) ∧
  (∀ (i : Fin 8192) (w : Nat) (s t : State), Issues s i 0x0B w → t = s.setEngine i { s.engine i with evt := false } →
    exec (.ldc i false) s = .next (
    let g := bitsOf w 23 23
    if agError t i g then faultEngine t i 5
    else
      let e := t.engine i
      let a := agAddress t i g / 8 * 8
      let t1 := agAdvance t i g
      let e1 : Engine := { e with coef := (List.range 8).foldl (fun m j => SMap.store 0 m j (omElement (isI8 t i) e (a + j))) [] }
      (completeSeq (t1.setEngine i e1) i (if isI8 t i then 2 else 1) (slotStall t i 3)).draw)) ∧
  (∀ (i : Fin 8192) (w : Nat) (s t : State), Issues s i 0x0C w → t = s.setEngine i { s.engine i with evt := false } →
    exec (.st i false) s = .next (
    let g := bitsOf w 23 23
    let rsh := bitsOf w 21 16
    if 48 ≤ rsh then faultEngine t i 1
    else if agError t i g then faultEngine t i 5
    else
      let i8 := isI8 t i
      let outs := accOuts t i rsh
      let e1 := (stElements i8 (agAddress t i g) (outs.map Prod.fst)).foldl (fun e p => setOmElement i8 e p.1 p.2) (t.engine i)
      let t1 := setSat ((agAdvance t i g).setEngine i e1) i (outs.any Prod.snd)
      let t2 := if i8 then t1 else seeHeadroom t1 i (outs.map Prod.fst)
      let slots := if i8 then 1 else 3
      (afterWrite (completeSeq t2 i 1 (accStall t i + slotStall t i slots)) i slots).draw)) ∧
  (∀ (i : Fin 8192) (w : Nat) (s t : State), Issues s i 0x0D w → t = s.setEngine i { s.engine i with evt := false } →
    exec (.inp i false) s = .next (
    if t.ef i F.tapCfgFabEn = 0 then faultEngine t i 6
    else if agError t i (bitsOf w 23 23) then faultEngine t i 5
    else doIn t i (bitsOf w 23 23))) ∧
  (∀ (i : Fin 8192) (w : Nat) (s t : State), Issues s i 0x0E w → t = s.setEngine i { s.engine i with evt := false } →
    exec (.out i false) s = .next (
    if 48 ≤ bitsOf w 21 16 then faultEngine t i 1
    else if t.ef i F.tapCfgFabEn = 0 then faultEngine t i 6
    else if !bitOf w 25 && agError t i (bitsOf w 23 23) then faultEngine t i 5
    else doOut t i w)) ∧
  (∀ (i : Fin 8192) (w : Nat) (s t : State), Issues s i 0x0F w → t = s.setEngine i { s.engine i with evt := false } →
    exec (.outa i false) s = .next (
    if 48 ≤ bitsOf w 21 16 then faultEngine t i 1
    else if t.ef i F.tapCfgFabEn = 0 then faultEngine t i 6
    else doOuta t i w)) ∧
  (∀ (i : Fin 8192) (w : Nat) (s t : State), Issues s i 0x10 w → t = s.setEngine i { s.engine i with evt := false } →
    exec (.bfly i false) s = .next (
    if isI8 t i then faultEngine t i 1
    else if agError t i 0 || agError t i 1 then faultEngine t i 5
    else
      let e := t.engine i
      let scl := t.ef i F.tapBxScl
      let wa := agAddress t i 0 / 4
      let wb := (wa + t.ef i F.tapPairWords) % 2048
      let tw := omWord e (agAddress t i 1 / 4)
      let t1 := agAdvance (agAdvance t i 0) i 1
      let inw := bitOf w 25
      let r0 := if inw then butterfly scl (complexOf (omWord e wa) 0) (complexOf (omWord e wa) 1) (complexOf tw 0)
        else butterfly scl (complexOf (omWord e wa) 0) (complexOf (omWord e wb) 0) (complexOf tw 0)
      let r1 := if inw then [] else butterfly scl (complexOf (omWord e wa) 1) (complexOf (omWord e wb) 1) (complexOf tw 1)
      let va := if inw then r0.map Prod.fst else (r0.take 2 ++ r1.take 2).map Prod.fst
      let vb := (r0.drop 2 ++ r1.drop 2).map Prod.fst
      let e1 := setOmWord e wa (complexWord va)
      let e2 := if inw then e1 else setOmWord e1 wb (complexWord vb)
      let t2 := setSat (t1.setEngine i e2) i ((r0 ++ r1).any Prod.snd)
      let t3 := seeHeadroom t2 i ((if inw then va else va ++ vb).map (unsignedOf 18))
      let slots := if inw then 1 else 3
      (afterWrite (completeSeq t3 i 3 (slotStall t i slots)) i slots).draw)) ∧
  (∀ (i : Fin 8192) (w : Nat) (s t : State), Issues s i 0x11 w → t = s.setEngine i { s.engine i with evt := false } →
    exec (.bexp i false) s = .next (
    if isI8 t i then faultEngine t i 1
    else
      let scl := bitsOf w 1 0 - t.ef i F.tapBxBh
      let t1 := if bitOf w 24 then (t.setEf i F.tapBxScl scl).setEf i F.tapBxExpt (addSat 8 (t.ef i F.tapBxExpt) scl) else t
      completeSeq (if bitOf w 25 then t1.setEf i F.tapBxBh 17 else t1) i 1 0)) ∧
  (∀ (i : Fin 8192) (op w : Nat) (s : State) (c : Bool → Instr), Issues s i op w →
    c ∈ [fun u => .nop i u, fun u => .halt i u, fun u => .sig i u, fun u => .jmp i u, fun u => .loop i u, fun u => .waitd i u,
      fun u => .agset i u, fun u => .agadd i u, fun u => .ftap i u, fun u => .mac i u, fun u => .lddl i u, fun u => .ldc i u, fun u => .st i u,
      fun u => .inp i u, fun u => .out i u, fun u => .outa i u, fun u => .bfly i u, fun u => .bexp i u] →
    exec (c true) s = .next ((faultEngine (s.setEngine i { s.engine i with
      badParity := NSet.add (s.engine i).badParity (s.ef i F.tapStatusPc) }) i 2).raise (engUnit i) 0x03))

/-- Each command beside an engine's instructions has its effect (R136, R138, R139, R147, R149, R155, R156, R157, R161, R163). A waiting
instruction (WAITD, LDDL, IN, OUT, OUTA) is tried again when its engine resumes, the cycles waited counted. An element offered at a
clocked interface goes to the input FIFO by its rule; ORDY takes the oldest element of the output FIFO. START, by command or by a START
pin that rises at a clocked interface, goes by the rule of START (an IDLE engine starts at ENTRY with an empty loop stack). STOP goes by
the rule of STOP; at the completion of what has issued, an engine that is stopping and not waiting enters IDLE, and a CLEAR and START
written with the STOP act then. CLEAR goes by the rule of CLEAR. A doorbell add of a HELD engine is answered BUSY and changes no count; of
any other it adds to the count or sets DBOVF where it would pass 65,535, and is answered OK. An access of the engine aperture is answered
as the aperture's rules say. A DOMAIN write of an IMEM writes its entries from 0 upward and is answered, with a code where it is refused. -/
def Obligations.EngineCommandsComplete : Prop :=
  (∀ (i : Fin 8192) (waited : Word32) (s : State), canIssue s i = true → s.ef i F.tapStatusWait ≠ 0 → ∀ w, w = tapFetch s i →
    ∀ t, t = (s.setEngine i { s.engine i with
        sinceAcc := min 3 ((s.engine i).sinceAcc + waited.toNat),
        sinceWrite := min 3 ((s.engine i).sinceWrite + waited.toNat) }).countWrap (engUnit i) F.tapCyclesCount waited.toNat (i % 1024) →
    (w / 2 ^ 26 = 0x05 → exec (.engineWaitResume i waited) s = .next (doWaitd t i)) ∧
    (w / 2 ^ 26 = 0x0A → exec (.engineWaitResume i waited) s = .next (doLddlFifo t i)) ∧
    (w / 2 ^ 26 = 0x0D → exec (.engineWaitResume i waited) s = .next (doIn t i (bitsOf w 23 23))) ∧
    (w / 2 ^ 26 = 0x0E → exec (.engineWaitResume i waited) s = .next (doOut t i w)) ∧
    (w / 2 ^ 26 = 0x0F → exec (.engineWaitResume i waited) s = .next (doOuta t i w))) ∧
  (∀ (i : Fin 8192) (data : Option (BitVec 36)) (s : State), interfaceOn s i = true → ∀ v, (data.map BitVec.toNat).orElse (fun _ => engOffer s i) = some v →
    exec (.fifoInput i data) s = .next (offerElement s i v)) ∧
  (∀ (i : Fin 8192) (rdy : Option Bool) (data : Option (BitVec 36)) (s : State), interfaceOn s i = true → ∀ s1, s1 = (if rdy.getD (engCell s i 4 1) then s.setEngine i { s.engine i with fifoOut := (s.engine i).fifoOut.tail } else s) →
    ∀ v, data = some v →
    exec (.fifoOutput i rdy data) s = .next (offerElement s1 i v.toNat)) ∧
  (∀ (i : Fin 8192) (rdy : Option Bool) (data : Option (BitVec 36)) (s : State), interfaceOn s i = true → ∀ s1, s1 = (if rdy.getD (engCell s i 4 1) then s.setEngine i { s.engine i with fifoOut := (s.engine i).fifoOut.tail } else s) →
    data = none →
    exec (.fifoOutput i rdy data) s = .next s1) ∧
  (∀ (i : Fin 8192) (s : State),
    exec (.engineStart i) s = .next (startEngine s i)) ∧
  (∀ (i : Fin 8192) (high : Option Bool) (s : State), interfaceOn s i = true → ∀ v, v = high.getD (engCell s i 4 2) →
    ∀ s1, s1 = s.setEngine i { s.engine i with startPin := v } →
    exec (.startPin i high) s = .next (if v && !(s.engine i).startPin then startEngine s1 i else s1)) ∧
  (∀ (i : Fin 8192) (s : State),
    exec (.engineStop i) s = .next (tapCommand s i true false false)) ∧
  (∀ (i : Fin 8192) (s : State), ∀ e, e = s.engine i →
    e.stopping = true → s.ef i F.tapStatusWait ≠ 1 → ∀ s1, s1 = (s.setEngine i { e with stopping := false, after := 0, loops := [] }).setEf i F.tapStatusState (if s.ef i F.tapStatusState = tapRun then tapIdle else s.ef i F.tapStatusState) →
    exec (.engineStopComplete i) s = .next (tapCommand s1 i false (2 ≤ e.after) (e.after % 2 == 1))) ∧
  (∀ (i : Fin 8192) (s : State),
    exec (.engineClear i) s = .next (clearEngine s i)) ∧
  (∀ (i : Fin 8192) (v : BitVec 16) (s : State), s.ef i F.tapStatusState = tapHeld →
    exec (.doorbellAdd i v) s = .next (s.answer .busy)) ∧
  (∀ (i : Fin 8192) (v : BitVec 16) (s : State), s.ef i F.tapStatusState ≠ tapHeld →
    exec (.doorbellAdd i v) s = .next ((addDoorbell s i v.toNat).answer .ok)) ∧
  (∀ (p : Packet) (s : State), ∀ n o, windowOf p = some (n, o) → 0xFF800000 ≤ o → o < 0xFFC00000 → s.arrived p = true →
    exec (.engineApertureRequest p) s = .next (engineAperture s n o p)) ∧
  (∀ (i : Fin 8192) (data : List Byte) (s : State), ∀ t, imemDomain s i data = .ok t →
    exec (.imemDomainWrite i data) s = .next (t.answer .ok)) ∧
  (∀ (i : Fin 8192) (data : List Byte) (s : State), ∀ c, imemDomain s i data = .error c →
    exec (.imemDomainWrite i data) s = .next (s.answer .ok (toLeBytes 4 c)))

/-- A MAC step of each lane, its product, its saturation and OVF (R144). In S18 mode a product is x × y, at most 2^34 in magnitude; in I8 mode
the sum of four products of int8 values, at most 17 bits of magnitude. A MAC step of the eight lanes leaves in every ACCj sat48 of ACCj ±
p, or of ± p with CLR, saturated to −2^47 and 2^47 − 1; any saturation sets OVF, and without one OVF is as it was. Any 8,191 full-scale
S18 products accumulate exactly; an 8,192nd full-scale positive one brings 2^47, which saturates. -/
def Obligations.MacStepsSaturate : Prop :=
  (∀ x y : Nat, laneProduct false x y = signedOf 18 x * signedOf 18 y ∧ -(2 ^ 34) ≤ laneProduct false x y ∧ laneProduct false x y ≤ 2 ^ 34) ∧
  (∀ x y : Nat, laneProduct true x y = signedOf 8 (bitsOf x 7 0) * signedOf 8 (bitsOf y 7 0) +
    (signedOf 8 (bitsOf x 15 8) * signedOf 8 (bitsOf y 15 8) + (signedOf 8 (bitsOf x 23 16) * signedOf 8 (bitsOf y 23 16) +
    signedOf 8 (bitsOf x 31 24) * signedOf 8 (bitsOf y 31 24))) ∧ -(2 ^ 17) < laneProduct true x y ∧ laneProduct true x y < 2 ^ 17) ∧
  (∀ (acc p : Int) (clr sub : Bool) (e : Int), e = (if clr then 0 else acc) + (if sub then -p else p) →
    (macStep acc p clr sub).1 = (if e < -(2 ^ 47) then -(2 ^ 47) else if 2 ^ 47 - 1 < e then 2 ^ 47 - 1 else e) ∧
    ((macStep acc p clr sub).2 = true ↔ e < -(2 ^ 47) ∨ 2 ^ 47 - 1 < e)) ∧
  (∀ (s : State) (i j : Nat) (clr sub : Bool) (y : Nat → Nat), j < 8 →
    accOf ((macLanes s i clr sub y).engine i) j =
      (macStep (accOf (s.engine i) j) (laneProduct (isI8 s i) (SMap.get 0 (s.engine i).dl j) (y j)) clr sub).1) ∧
  (∀ (s : State) (i : Nat) (clr sub : Bool) (y : Nat → Nat),
    (macLanes s i clr sub y).ef i F.tapStatusOvf = (if (List.range 8).any (fun j => (macStep (accOf (s.engine i) j)
      (laneProduct (isI8 s i) (SMap.get 0 (s.engine i).dl j) (y j)) clr sub).2) then 1 else s.ef i F.tapStatusOvf)) ∧
  (∀ l : List (Nat × Nat), l.length ≤ 8191 →
    l.foldl (fun a q => (macStep a (laneProduct false q.1 q.2) false false).1) 0 = (l.map (fun q => laneProduct false q.1 q.2)).sum ∧
    -(2 ^ 47) < (l.map (fun q => laneProduct false q.1 q.2)).sum ∧ (l.map (fun q => laneProduct false q.1 q.2)).sum < 2 ^ 47 - 1) ∧
  (laneProduct false 0x20000 0x20000 = 2 ^ 34 ∧ macStep (8191 * 2 ^ 34) (2 ^ 34) false false = (2 ^ 47 - 1, true))

/-- An operand memory element written reads back and leaves every other (R133, R140). In each data mode an element written to an operand
memory reads back as its low bits (18 in S18 mode, 32 in I8 mode), every element at another address (modulo the size of the memory) reads
as before, a quad's bits 35:32 are written 0, and nothing of the engine but its operand memory changes. -/
def Obligations.OperandMemoryElements : Prop :=
  ∀ (i8 : Bool) (e : Engine) (a v : Nat),
    omElement i8 (setOmElement i8 e a v) a = v % 2 ^ (if i8 then 32 else 18) ∧
    (∀ b : Nat, b % (if i8 then 4096 else 8192) ≠ a % (if i8 then 4096 else 8192) → omElement i8 (setOmElement i8 e a v) b = omElement i8 e b) ∧
    (i8 = true → bitsOf (omWord (setOmElement i8 e a v) (a % 4096 / 2)) (36 * (a % 2) + 35) (36 * (a % 2) + 32) = 0) ∧
    setOmElement i8 e a v = { e with om := (setOmElement i8 e a v).om }

/-- Each command of the packet network has its effect (R174, R175, R184, R185, R188, R189). A released transaction number may be used again at
its port. A packet for a port that is not there (a response or message for a cluster port, port 12, too) leaves the network and is
counted, a request answered NO_ROUTE. A packet to a domain that does not run is held, while fewer than four of its level wait there, and
its domain woken where the router may wake it; with waking off it fails at once unless the domain is stopped. When the domain runs, the
packets held for it go on, oldest first; when its wake fails, those held at the node fail. While the clock is not halted, a flit that a
fabric port took on IQ is kept until the packet's last, which sends the packet in; a flit taken on TS is kept until the packet's last,
which goes to the rule of TS packets: a response that matches a request the port holds is sent and the request retired, any other response
is stray and raises class 0x02, and a malformed packet is counted and, where it is a request, answered MALFORMED. -/
def Obligations.NetworkCommandsComplete : Prop :=
  (∀ (node : BitVec 7) (port : BitVec 4) (tag : BitVec 16) (s : State), ∀ k, k = codeOf node.toNat port.toNat →
    ∀ np, np = s.netPort k →
    exec (.tagRelease node port tag) s = .next (s.setNetPort k { np with retired := NSet.del np.retired tag.toNat })) ∧
  (∀ (p : Packet) (s : State), ∀ node, node = p.dst.toNat / 16 →
    ∀ port, port = p.dst.toNat % 16 →
    isResponse p.op = true → p ∈ s.net.rsps → portOccupied node port = false ∨ port = 12 →
    exec (.noRoute p) s = .next ({ s with net := { s.net with rsps := s.net.rsps.erase p } }.countNoRoute node)) ∧
  (∀ (p : Packet) (s : State), ∀ node, node = p.dst.toNat / 16 →
    ∀ port, port = p.dst.toNat % 16 →
    isResponse p.op = false → isRequest p.op = true → portOccupied node port = false → p ∈ s.net.reqs →
    exec (.noRoute p) s = .next ((s.reply p .noRoute).countNoRoute node)) ∧
  (∀ (p : Packet) (s : State), ∀ node, node = p.dst.toNat / 16 →
    ∀ port, port = p.dst.toNat % 16 →
    isResponse p.op = false → isRequest p.op = false → (portOccupied node port = false ∨ port = 12) → p ∈ s.net.reqs →
    exec (.noRoute p) s = .next ((s.takeReq p).countNoRoute node)) ∧
  (∀ (p : Packet) (s : State), ∀ node, node = p.dst.toNat / 16 →
    isResponse p.op = false → portOccupied node (p.dst.toNat % 16) = true → p ∈ s.net.reqs → ∀ d, dstDomain p = some d → s.dom d ≠ domRun → s.flag (uNoc node) F.nocRtCtrlWakeEn = false → s.dom d ≠ domStopped →
    exec (.wakeHold p) s = .next (failHeld s p)) ∧
  (∀ (p : Packet) (s : State), ∀ node, node = p.dst.toNat / 16 →
    isResponse p.op = false → portOccupied node (p.dst.toNat % 16) = true → p ∈ s.net.reqs → ∀ d, dstDomain p = some d → s.dom d ≠ domRun → (s.flag (uNoc node) F.nocRtCtrlWakeEn = true ∨ s.dom d = domStopped) →
    s.heldAt d p < 4 → ∀ s1, s1 = s.takeReq p →
    ∀ s2 : State, s2 = { s1 with net := { s1.net with held := s1.net.held ++ [HeldPkt.mk d p] } } →
    exec (.wakeHold p) s = .next (s2.routerWake node d)) ∧
  (∀ (d : Fin 160) (s : State), s.dom d = domRun → ∀ mine, mine = (s.net.held.filter (fun h => h.dom == d.val)).map (·.pkt) →
    exec (.heldPacketDeliver d) s = .next { s with net := { s.net with
      reqs := mine ++ s.net.reqs
      held := s.net.held.filter (fun h => h.dom != d.val) } }) ∧
  (∀ (node : BitVec 7) (d : Fin 160) (s : State), s.dom d ≠ domRun → s.dom d ≠ domStopped → ∀ mine, mine = s.net.held.filter (fun h => h.dom == d.val && h.pkt.dst.toNat / 16 == node.toNat) →
    ∀ s1 : State, s1 = { s with net := { s.net with held := s.net.held.filter (fun h => !(h.dom == d.val && h.pkt.dst.toNat / 16 == node.toNat)) } } →
    exec (.wakeFail node d) s = .next (mine.foldl (fun t h => failHeld t h.pkt) s1)) ∧
  (∀ (n : Fin 128) (s : State) (x : Flit) (r : List Flit), ∀ f, f = s.fpPort n → f.iqIn = x :: r → s.clk.halted = false → x.eop = true →
    ∀ h body, f.iq ++ [x.data] = h :: body →
    exec (.iqSubmit n x.data x.eop x.pri) s = .next (absorbFp (ingress (s.setFp n { f with iqIn := r, iq := [] }) (n * 16) (ofFlits h body)) n)) ∧
  (∀ (n : Fin 128) (s : State) (x : Flit) (r : List Flit), ∀ f, f = s.fpPort n → f.iqIn = x :: r → s.clk.halted = false → x.eop = false →
    exec (.iqSubmit n x.data x.eop x.pri) s = .next (s.setFp n { f with iqIn := r, iq := f.iq ++ [x.data] })) ∧
  (∀ (n : Fin 128) (s : State) (x : Flit) (r : List Flit), ∀ f, f = s.fpPort n → f.tsIn = x :: r → s.clk.halted = false →
    (x.eop = true → ∀ h body, f.ts ++ [x.data] = h :: body →
      exec (.tsResponse n x) s = .next (tsPacket (s.setFp n { f with tsIn := r, ts := [] }) n (ofFlits h body))) ∧
    (x.eop = false → exec (.tsResponse n x) s = .next (s.setFp n { f with tsIn := r, ts := f.ts ++ [x.data] }))) ∧
  (∀ (n : Fin 128) (p : Packet) (s : State), p.malformed true = false →
    (∀ q, (s.tqOf n).find? (fun q => tsMatches p q) = some q → tsPacket s n p = (s.setTq n ((s.tqOf n).erase q)).inject (n * 16) true p) ∧
    ((s.tqOf n).find? (fun q => tsMatches p q) = none → tsPacket s n p = (s.setFld (uNoc n) F.nocPortStatusStray 1 0).raise (uNoc n) 0x02 p.op)) ∧
  (∀ (n : Fin 128) (p : Packet) (s : State), p.malformed true = true → ∀ s1, s1 = s.countMalformed n 0 p →
    tsPacket s n p = if isRequest p.op then absorbFp (s1.deliverTo (n * 16) (localAnswer p.tag p .malformed)) n else s1)

/-- Each command of the serial links and lanes has its effect (R197, R198, R199, R200, R201, R202, R213, R217, R374, R377, R378, R381). With
the conditions its rules set, on a lane block whose domain has its clock, each command answers a next state with exactly these changes. A
frame received on an UP link that is bad is counted and answered with a NAK unless one is open; a good one is taken (acknowledge, credits,
flit, mark, NAK), and what can be sent is sent. On a link in bring-up whose lanes are all ACTIVE the first good frame brings it UP. After
each frame, lanes with more than STUFF_MAX stuff errors in their window drop. An acknowledge timeout sends the unacknowledged flits again
from the oldest, or takes the link out of UP once RETRY_MAX tries in a row are spent. Enable starts the bring-up, disable takes the link
down and returns its lanes to their MODE, retrain takes it down and starts the bring-up. A packet first in its lane for the port is given
to the link if it is a labelled request or a message of a class the link carries; a request without a label is answered NO_ROUTE; any
other is counted and dropped. A mark goes into the next frame slot. Energy moves a lane with an awake receiver from DETECT to TRAIN, a
lock from TRAIN to LOCK; a timeout in TRAIN puts it back and is counted. In LOCK or CAPS, until the peer has sent NEXT, a bad CAPS frame
clears the count of good ones; a good one is counted and shown, the fourth moves the lane to CAPS, and there it is checked. A slip by 1 to
639 bits moves the frame boundary and puts a lane in CAPS back in LOCK. A drop of an ACTIVE lane raises class 0x09, is counted, and takes
its link out of UP. A sleep command writes its bit; SIGNAL follows the detector of a sleeping receiver. An admitted tuning step is charged
at most 10,000 ns and moves the equaliser by one only to a setting better by HYST; an eye scan starts in LOCK, CAPS or ACTIVE and is
NOTREADY elsewhere; its slices are charged 1,024 ns and its end gives DONE and the mismatches. A lane MODE of 0 or 2 takes effect on a
lane no link owns. -/
def Obligations.LinkCommandsComplete : Prop :=
  (∀ (p : Fin 16) (syms : List (List (BitVec 2))) (s : State), s.linkState p = 2 → s.clocked (150 + p / 4) = true → ∀ w, w = widthLanes (s.lnk p).width →
    ∀ r, r = receiveLanes s (80 / w) (s.linkLanes p) syms →
    ∀ bytes, bytes = mergeLanes r.1 →
    ∀ v, v = leBytes bytes →
    crc32c (bytes.take 76) ≠ v / 2 ^ 608 ∨ 3 ≤ bitsOf v 63 60 →
    exec (.linkFrameReceive p syms) s = .next (dropStuffed (linkBadFrame r.2 p) p)) ∧
  (∀ (p : Fin 16) (syms : List (List (BitVec 2))) (s : State), s.linkState p = 2 → s.clocked (150 + p / 4) = true → ∀ w, w = widthLanes (s.lnk p).width →
    ∀ r, r = receiveLanes s (80 / w) (s.linkLanes p) syms →
    ∀ bytes, bytes = mergeLanes r.1 →
    ∀ v, v = leBytes bytes →
    crc32c (bytes.take 76) = v / 2 ^ 608 → bitsOf v 63 60 < 3 →
    exec (.linkFrameReceive p syms) s = .next (dropStuffed (linkGoodFrame r.2 p v) p)) ∧
  (∀ (p : Fin 16) (t : TxFrame) (rest : List TxFrame) (s : State), s.linkState p = 2 → s.clocked (150 + p / 4) = true → (s.lnk p).replay = t :: rest → ∀ n, n = (if (s.lnk p).resends ≠ 0 ∧ (s.lnk p).resendSeq = t.seq then (s.lnk p).resends + 1 else 1) →
    ∀ s1, s1 = (s.countSat (uLnk p) F.lnkReplayCntCount).setFld (uLnk p) F.lnkStatusReplay 1 →
    exec (.ackTimeout p) s = .next (if s.fld (uLnk p) F.lnkCtrlRetryMax ≤ n then
        linkLeave (((s1.countSat (uLnk p) F.lnkExhCntCount).setFld (uLnk p) F.lnkStatusExhausted 1).raise (uLnk p) 0x0A) p .retryExhausted 3
      else s1.setLnk p ((t :: rest).foldl Link.emitFlit { s.lnk p with
        resends := n, resendSeq := t.seq, wire := (s.lnk p).wire.filter (fun f => f.ftype != 1) }))) ∧
  (∀ (p : Fin 16) (s : State), s.flag (uLnk p) F.lnkCtrlEn = false →
    exec (.linkEnable p) s = .next (linkBringUp (s.setFld (uLnk p) F.lnkCtrlEn 1) p)) ∧
  (∀ (p : Fin 16) (s : State), s.flag (uLnk p) F.lnkCtrlEn = true →
    exec (.linkDisable p) s = .next ((s.linkLanes p).foldl (fun t kj => t.laneByMode kj.1 kj.2) ((linkLeave s p .noRoute 0).setFld (uLnk p) F.lnkCtrlEn 0))) ∧
  (∀ (p : Fin 16) (s : State), s.flag (uLnk p) F.lnkCtrlEn = true →
    exec (.linkRetrain p) s = .next (linkBringUp (linkLeave s p .noRoute 1) p)) ∧
  (∀ (p : Fin 16) (pkt : Packet) (s : State), pkt.dst.toNat = linkCode p → s.arrived pkt = true →
    s.firstOf pkt (fun q => q.dst == pkt.dst && q.pri == pkt.pri) = true → isRequest pkt.op = true →
    exec (.linkTransmit p pkt) s = .next (if pkt.label = 0 then (s.takeReq pkt).sendRsp (pkt.respond .noRoute) else linkSend (s.takeReq pkt) p pkt)) ∧
  (∀ (p : Fin 16) (pkt : Packet) (s : State), ∀ c, c = pkt.icls.toNat →
    pkt.dst.toNat = linkCode p → s.arrived pkt = true → s.firstOf pkt (fun q => q.dst == pkt.dst && q.pri == pkt.pri) = true →
    isRequest pkt.op = false → (pkt.op = opLmsg ∧ (c = 4 ∨ c = 7)) ∨ (pkt.op = opCmsg ∧ (c = 4 ∨ c = 5 ∨ c = 7)) →
    exec (.linkTransmit p pkt) s = .next (linkSend (s.takeReq pkt) p pkt)) ∧
  (∀ (p : Fin 16) (pkt : Packet) (s : State), ∀ c, c = pkt.icls.toNat →
    pkt.dst.toNat = linkCode p → s.arrived pkt = true → s.firstOf pkt (fun q => q.dst == pkt.dst && q.pri == pkt.pri) = true →
    isRequest pkt.op = false → (pkt.op ≠ opLmsg ∨ (c ≠ 4 ∧ c ≠ 7)) → (pkt.op ≠ opCmsg ∨ (c ≠ 4 ∧ c ≠ 5 ∧ c ≠ 7)) →
    exec (.linkTransmit p pkt) s = .next ((s.takeReq pkt).countSat (uLnk p) F.lnkDropCntCount)) ∧
  (∀ (p : Fin 16) (offset : BitVec 16) (s : State), s.linkState p = 2 → s.flag (uLnk p) F.lnkCtrlMarkEn = true → ∀ l, l = s.lnk p →
    ∀ payload, payload = s.fld uCns F.cnsSysidSysid + p.val * 2 ^ 16 + s.fld uClk F.clkOscStatusQual * 2 ^ 24 + s.fld uClk F.clkOscStatusDepth * 2 ^ 28 + l.mseq * 2 ^ 32 + offset.toNat * 2 ^ 64 →
    exec (.markSend p offset) s = .next (s.setLnk p { l with wire := ⟨2, 0, payload, false⟩ :: l.wire, mseq := (l.mseq + 1) % 2 ^ 32 })) ∧
  (∀ (k : Fin 4) (lane : Fin 32) (s : State), s.laneState k lane = 1 → s.laneHears k lane = true →
    exec (.energyDetect k lane) s = .next (s.setLaneState k lane 2)) ∧
  (∀ (k : Fin 4) (lane : Fin 32) (seed : BitVec 31) (s : State), s.laneHears k lane = true →
    ∀ t, t = s.setLaneX k lane { s.laneX k lane with rxS := seed.toNat, runLen := 0, rest := [], boundary := 0, synced := true } →
    (s.laneState k lane = 2 → exec (.trainLock k lane seed) s = .next (t.setLaneState k lane 3)) ∧
    (s.laneState k lane = 6 → exec (.trainLock k lane seed) s = .next t)) ∧
  (∀ (k : Fin 4) (lane : Fin 32) (s : State), s.laneState k lane = 2 → s.clocked (150 + k) = true →
    exec (.trainTimeout k lane) s = .next (((s.laneDetect k lane).setFld (uLane k) F.laneStatusTrainFail 1 lane).countSat (uLane k) F.laneTrainfailCntCount 1 lane)) ∧
  (∀ (k : Fin 4) (lane : Fin 32) (syms : List (BitVec 2)) (at_ : Nat) (s : State), ∀ u, u = uLane k →
    ∀ st, st = s.laneState k lane →
    s.laneHears k lane = true → (s.laneX k lane).gotNext = false →
    (st = 3 ∨ st = 4) → ∀ r, r = receiveSymbols s k lane 80 syms →
    ∀ v, v = leBytes r.1 →
    crc32c (r.1.take 76) ≠ v / 2 ^ 608 ∨ v % 2 ^ 32 ≠ 0x53504143 →
    exec (.capsFrameReceive k lane syms at_) s = .next (r.2.setFld u F.laneAlignConsec 0 lane)) ∧
  (∀ (k : Fin 4) (lane : Fin 32) (syms : List (BitVec 2)) (at_ : Nat) (s : State), ∀ u, u = uLane k →
    ∀ st, st = s.laneState k lane →
    s.laneHears k lane = true → (s.laneX k lane).gotNext = false →
    (st = 3 ∨ st = 4) → ∀ r, r = receiveSymbols s k lane 80 syms →
    ∀ v, v = leBytes r.1 →
    crc32c (r.1.take 76) = v / 2 ^ 608 → v % 2 ^ 32 = 0x53504143 → ∀ s1, s1 = capsShow (r.2.countSat u F.laneAlignConsec 1 lane) k lane v →
    ∀ s2, s2 = (if st = 3 ∧ 4 ≤ s1.fld u F.laneAlignConsec lane then s1.setLaneState k lane 4 else s1) →
    exec (.capsFrameReceive k lane syms at_) s = .next (if s2.laneState k lane = 4 then capsCheck s2 k lane v at_ else s2)) ∧
  (∀ (k : Fin 4) (lane : Fin 32) (n : BitVec 10) (s : State), n.toNat ≠ 0 → n.toNat < 640 →
    ∀ s1, s1 = (s.setLaneX k lane { s.laneX k lane with boundary := (s.laneX k lane).boundary + n.toNat }).setFld (uLane k) F.laneAlignConsec 0 lane →
    exec (.laneSlip k lane n) s = .next (if s.laneState k lane = 4 then s1.setLaneState k lane 3 else s1)) ∧
  (∀ (k : Fin 4) (lane : Fin 32) (s : State), s.laneState k lane = 5 → s.clocked (150 + k) = true → ∀ s1, s1 = ((s.raise (uLane k) 0x09 lane).setFld (uLane k) F.laneStatusDown 1 lane).countSat (uLane k) F.laneDownCntCount 1 lane →
    exec (.laneDrop k lane) s = .next (linkLaneLost (s1.laneDetect k lane) k lane)) ∧
  (∀ (k : Fin 4) (lane : Fin 32) (v : Bool) (s : State),
    exec (.txSleep k lane v) s = .next (laneTxSleep s k lane v)) ∧
  (∀ (k : Fin 4) (lane : Fin 32) (v : Bool) (s : State),
    exec (.rxSleep k lane v) s = .next (laneRxSleep s k lane v)) ∧
  (∀ (k : Fin 4) (lane : Fin 32) (v : Bool) (s : State), s.flag (uLane k) F.laneStatusRxAsleep lane = true →
    exec (.laneSignal k lane v) s = .next ((s.setFld (uLane k) F.laneStatusSignal (boolNat v) lane).level (384 + 32 * k + lane) v)) ∧
  (∀ (k : Fin 4) (lane : Fin 32) (ns here below above : Nat) (s : State), ∀ u, u = uLane k →
    s.clocked (150 + k) = true → s.laneState k lane = 5 → s.fld u F.laneTuneTuneMs lane ≠ 0 → (s.laneX k lane).scanHolds = false → s.admits 4 k = true → ∀ h, h = s.fld u F.laneTuneHyst lane →
    exec (.tuningStep k lane ns here below above) s = .next ((s.charge 4 k (min ns 10000)).setLaneX k lane { s.laneX k lane with ctle :=
      if here + h ≤ above ∧ here < above ∧ below ≤ above then (s.laneX k lane).ctle + 1
      else if here + h ≤ below ∧ here < below then (s.laneX k lane).ctle - 1 else (s.laneX k lane).ctle })) ∧
  (∀ (k : Fin 4) (lane : Fin 40) (s : State), ∀ u, u = uLane k → s.flag u F.laneEyeStatBusy lane = false →
    exec (.eyeScanStart k lane) s = .next (if 3 ≤ s.laneState k lane ∧ s.laneState k lane ≤ 5 then
        (((s.setLaneX k lane { s.laneX k lane with scanN := s.fld u F.laneEyeCtrlN lane, slices := 0, scanHolds := true }).setFld u F.laneEyeStatBusy 1
          lane).setFld u F.laneEyeStatResult 0 lane).setFld u F.laneEyeErrCount 0 lane
      else s.setFld u F.laneEyeStatResult 2 lane)) ∧
  (∀ (k : Fin 4) (lane : Fin 40) (s : State), s.flag (uLane k) F.laneEyeStatBusy lane = true → s.clocked (150 + k) = true → s.admits 5 k = true →
    exec (.eyeScanSlice k lane) s = .next ((s.charge 5 k 1024).setLaneX k lane { s.laneX k lane with slices := (s.laneX k lane).slices + 1, scanHolds := true })) ∧
  (∀ (k : Fin 4) (lane : Fin 40) (mismatches : Nat) (s : State), ∀ u, u = uLane k → ∀ x, x = s.laneX k lane →
    s.flag u F.laneEyeStatBusy lane = true → s.clocked (150 + k) = true → 2 ^ x.scanN * 1000 ≤ x.slices * 1024 * x.mbd → mismatches ≤ 2 ^ x.scanN →
    exec (.eyeScanDone k lane mismatches) s = .next ((((s.setLaneX k lane { x with scanHolds := false }).setFld u F.laneEyeStatBusy 0 lane).setFld u
      F.laneEyeStatResult 1 lane).setFld u F.laneEyeErrCount (min mismatches (2 ^ 32 - 1)) lane)) ∧
  (∀ (k : Fin 4) (lane : Fin 32) (mode : BitVec 2) (s : State), s.laneOwned k lane = false → mode.toNat = 0 ∨ mode.toNat = 2 →
    exec (.laneModeWrite k lane mode) s = .next ((s.setFld (uLane k) F.laneCtrlMode mode.toNat lane).laneByMode k lane)) ∧
  (∀ (p : Fin 16) (syms : List (List (BitVec 2))) (s : State), s.linkState p ≠ 2 → linkActive s p = true → s.clocked (150 + p / 4) = true → ∀ w, w = widthLanes (s.lnk p).width →
    ∀ r, r = receiveLanes s (80 / w) (s.linkLanes p) syms →
    ∀ bytes, bytes = mergeLanes r.1 →
    ∀ v, v = leBytes bytes →
    (crc32c (bytes.take 76) ≠ v / 2 ^ 608 ∨ 3 ≤ bitsOf v 63 60 → exec (.linkFrameReceive p syms) s = .next (dropStuffed (r.2.countSat (uLnk p) F.lnkCrcCntCount) p)) ∧
    (crc32c (bytes.take 76) = v / 2 ^ 608 → bitsOf v 63 60 < 3 → exec (.linkFrameReceive p syms) s = .next (dropStuffed (linkGoodFrame (linkUp r.2 p) p v) p)))

/-- What a lane sends, a receiver in step with it recovers (R371, R372, R373). For every lane of a block and every lane of any other that runs
at the same modulation, its scrambler and its run of symbols as the transmitter's and no bits left over: the symbols of any bytes sent,
scrambled, coded as NRZ or PAM4 symbols and stuffed after every run of 63, are received as exactly those bytes, no stuff error is counted
or joins those of the window, nothing else changes at the receiver, and the two are in step for the next bytes. -/
def Obligations.ReceiverRecoversBytes : Prop :=
  ∀ (s r : State) (k j k' j' : Nat) (bs : List Byte), ∀ x, x = s.laneX k j → ∀ y, y = r.laneX k' j' →
    y.pam4 = x.pam4 → y.rxS = x.txS → y.runSym = x.txSym → y.runLen = x.txLen → x.txLen < 63 → y.rest = [] → y.boundary = 0 →
    ∀ a, a = (sendBytes s k j bs).laneX k j → ∀ b, b = receiveSymbols r k' j' bs.length a.sentSyms → ∀ z, z = b.2.laneX k' j' →
    b.1 = bs ∧ a.txLen < 63 ∧
    z = { y with rxS := a.txS, runSym := a.txSym, runLen := a.txLen, rest := [], boundary := 0, stuffAge := stuffAges [] y.stuffAge a.sentSyms.length } ∧
    b.2 = (r.setLaneX k' j' z).countSat (uLane k') F.laneStuffCntCount 0 j'

/-- Each command of the dataflow dispatcher has its effect (R224, R226, R227, R228, R229, R230, R232, R233, R234, R238, R240, R241). With the
conditions its rules set, each command answers a next state with exactly these changes; a command given `lost` first discards the key
whose held operands fail their code. A firing that travelled the ring joins its list. A token, from a DOPND or the token window, is
decided, or stands behind an earlier one whose descriptor is being read; one of a new key whose descriptor is cached, with nothing against
it, no token held and a free general slot, takes the slot, stores its operand and is answered OK. A fetched descriptor is cached unless it
is stale and decides the token that waited for it, then the tokens that stood behind; one that cannot be read or is not valid answers it
DECODE and sets DESCERR. A held token is matched when a slot of its kind is free; at the end of its hold it is answered BUSY, unless a
slot has come free for it. A tick advances DSP_NOW modulo 2^48 and wakes a slice with a token due. A due token is matched in its own slot,
or discarded as a duplicate. A take with a non-zero mask is given the best firing of the lists it names, frees its slots, or waits; a take
still waiting at its end is answered with no work. An execution-port handshake taken issues a DTAKE from its profile. PURGE and INVAL of a
graph act in every slice and hold BUSY until they are done, when the tokens that waited for a purge arrive at their slices. -/
def Obligations.DispatcherCommandsComplete : Prop :=
  (∀ (sl src : Fin 8) (s : State), ∀ x, x = s.sliceOf sl →
    ∀ f, x.ring.find? (fun f => homeSlice f.key.n f.key.c == src.val) = some f →
    exec (.firingRingArrive sl src false) s = .next (joinList (s.setSlice sl { x with ring := x.ring.erase f }) sl f) ∧
    exec (.firingRingArrive sl src true) s = .next (loseKey s f.key.g f.key.n f.key.c)) ∧
  (∀ (p : Packet) (lost : Bool) (s : State), ∀ sl, packetSlice p = some sl → p.op = opDopnd → s.arrived p = true → ∀ t, t = tokenOf p.addr.toNat p.aux.toNat p.ext p →
    ∀ s1, s1 = (if lost then loseKey (s.takeReq p) t.g t.n t.c else s.takeReq p) → ∀ x, x = s1.sliceOf sl →
    exec (.dopnd p lost) s = .next (if x.fetch.isEmpty && x.line.isEmpty then decideToken s1 sl t else s1.setSlice sl { x with line := x.line ++ [t] })) ∧
  (∀ (p : Packet) (sl : Nat) (t : Token) (x : Slice) (e : Nat × Desc) (s : State), packetSlice p = some sl → p.op = opDopnd → s.arrived p = true →
    t = tokenOf p.addr.toNat p.aux.toNat p.ext p → x = s.sliceOf sl → s.flag (uDsp sl) F.dspCtrlEn = true →
    homeSlice t.n t.c = sl → s.flag (uDsp 0) F.dspGCtrlEn t.g = true → bitOf (s.fld (uDsp 0) F.dspGCtrlIclsOk t.g) t.req.icls.toNat = true →
    t.g ∉ s.dsp.purging → t.n < s.fld (uDsp 0) F.dspGCtrlNodes t.g → x.keptDesc t = none →
    x.fetch = [] → x.line = [] → x.hold = [] → x.cache.find? (fun e => e.1 == t.g * 65536 + t.n) = some e →
    t.op < e.2.arity → t.delay = 0 → x.find t.g t.n t.c = none → 0 < s.freeGen sl →
    exec (.dopnd p false) s = .next (answerToken (putOperand ((s.takeReq p).takeSlots sl 1 0) sl t e.2 1 0) sl t .ok)) ∧
  (∀ (p : Packet) (sl off : Nat) (s : State), sliceSpace p = some (sl, off) → 0x600000 ≤ off → off < 0x610000 → s.arrived p = true →
    p.op = opWrite → p.len = 1 → p.fullEnables = true → ∀ t, t = tokenRecord p →
    exec (.tokenWindowWrite p false) s = .next (arriveToken (s.takeReq p) sl t) ∧
    exec (.tokenWindowWrite p true) s = .next (arriveToken (loseKey (s.takeReq p) t.g t.n t.c) sl t)) ∧
  (∀ (sl : Fin 8) (lost : Bool) (s : State), ∀ k, k = sliceCode sl →
    ∀ np, np = s.netPort k →
    ∀ r rest, np.delivered = r :: rest → ∀ s1, s1 = s.setNetPort k { np with delivered := rest } →
    ∀ x, x = s1.sliceOf sl →
    ∀ f, x.fetch.find? (fun f => f.tag == r.tag.toNat) = some f →
    ∀ e, r.stat = 0 → descOf (leBytes ((r.payload.drop (r.a48 % 64)).take 16)) = some e →
    ∀ s2, s2 = s1.setSlice sl { x with
      fetch := x.fetch.erase f
      cache := if f.stale then x.cache else ((f.g * 65536 + f.n, e) :: x.cache).take 1024 } →
    exec (.descriptorFetch sl lost) s = .next (advanceLine sl x.line.length (f.toks.foldl (fun t k => useDesc t sl k e lost) s2))) ∧
  (∀ (sl : Fin 8) (lost : Bool) (s : State), ∀ k, k = sliceCode sl →
    ∀ np, np = s.netPort k →
    ∀ r rest, np.delivered = r :: rest → ∀ s1, s1 = s.setNetPort k { np with delivered := rest } →
    ∀ x, x = s1.sliceOf sl →
    ∀ f, x.fetch.find? (fun f => f.tag == r.tag.toNat) = some f →
    r.stat ≠ 0 ∨ descOf (leBytes ((r.payload.drop (r.a48 % 64)).take 16)) = none →
    exec (.descriptorFetch sl lost) s = .next (advanceLine sl x.line.length (f.toks.foldl (fun t k => answerToken t sl k .decode)
      ((s1.setSlice sl { x with fetch := x.fetch.erase f }).setFld (uDsp sl) F.dspStatusDescerr 1)))) ∧
  (∀ (sl : Fin 8) (completing : Bool) (s : State), ∀ x, x = s.sliceOf sl →
    ∀ h, x.hold.find? (fun h => heldCompletes x h == completing) = some h → 0 < s.freeGen sl ∨ (completing = true ∧ 0 < s.freeRsv sl) →
    exec (.heldTokenMatch sl completing false) s = .next (matchToken (s.setSlice sl { x with hold := x.hold.erase h }) sl h.tok h.desc) ∧
    exec (.heldTokenMatch sl completing true) s = .next (matchHeld (loseKey s h.tok.g h.tok.n h.tok.c) sl h)) ∧
  (∀ (sl : Fin 8) (i : Fin 64) (s : State), ∀ h, (s.sliceOf sl).hold[i.val]? = some h →
    ∀ s1, s1 = settleHeld sl (s.sliceOf sl).hold.length s → ∀ x, x = s1.sliceOf sl →
    (h ∈ x.hold → exec (.tokenHoldTimeout sl i) s = .next (answerBusySlot (s1.setSlice sl { x with hold := x.hold.erase h }) sl h.tok)) ∧
    (h ∉ x.hold → exec (.tokenHoldTimeout sl i) s = .next s1)) ∧
  (∀ (s : State), s.mode.dormant = false → ∀ v, v = (s.now + 1) % 2 ^ 48 →
    ∀ s1, s1 = ({ s with pin := { s.pin with tick := true } }.setFld (uDsp 0) F.dspNowLoNow v).setFld (uDsp 0) F.dspNowHiNow (v / 2 ^ 32) →
    exec (.tick) s = .next ((List.range 8).foldl (fun t sl => if (t.sliceOf sl).delay.any (isDue v) then t.wakeDom (128 + sl) else t) s1)) ∧
  (∀ (sl : Fin 8) (s : State), ∀ x, x = s.sliceOf sl →
    ∀ d ds, x.delay = d :: ds → isDue s.now d = true → s.dom (128 + sl) = domRun → ∀ s1, s1 = s.setSlice sl { x with delay := ds } →
    ∀ s2, s2 = (if ticksLeft s.now d.due < -1 then s1.countSat (uDsp sl) F.dspLateCntCount else s1) →
    (((s2.sliceOf sl).find d.tok.g d.tok.n d.tok.c).map (fun m => (SMap.find m.ops d.tok.op).isSome)).getD false = true →
    exec (.delayedTokenRelease sl false) s = .next ((countDup s2 sl).freeSlots sl 1 0)) ∧
  (∀ (sl : Fin 8) (s : State), ∀ x, x = s.sliceOf sl →
    ∀ d ds, x.delay = d :: ds → isDue s.now d = true → s.dom (128 + sl) = domRun → ∀ s1, s1 = s.setSlice sl { x with delay := ds } →
    ∀ s2, s2 = (if ticksLeft s.now d.due < -1 then s1.countSat (uDsp sl) F.dspLateCntCount else s1) →
    exec (.delayedTokenRelease sl true) s = .next (loseKey s d.tok.g d.tok.n d.tok.c) ∧
    ((((s2.sliceOf sl).find d.tok.g d.tok.n d.tok.c).map (fun m => (SMap.find m.ops d.tok.op).isSome)).getD false = false →
      exec (.delayedTokenRelease sl false) s = .next (putOperand s2 sl d.tok d.desc 1 0))) ∧
  (∀ (p : Packet) (lost : Bool) (s : State), ∀ sl, packetSlice p = some sl → p.op = opDtake → s.arrived p = true → s.flag (uDsp sl) F.dspCtrlEn = true → p.aux ≠ 0 →
    exec (.dtake p lost) s = .next (beginTake (s.takeReq p) sl p.aux (p.ext.toNat % 2 ^ 32) p lost)) ∧
  (∀ (sl l : Nat) (mask : BitVec 32) (wait : Nat) (req : Packet) (f : Firing) (s : State), bestFiring (s.sliceOf sl) mask = some (l, f) →
    serveTake s sl mask wait req = ((answerTake (s.setSlice sl { s.sliceOf sl with
      lists := SMap.store [] (s.sliceOf sl).lists l ((SMap.get [] (s.sliceOf sl).lists l).drop 1) }) req (some f)).countWrap (uDsp sl)
        F.dspTakesCount).freeSlots (homeSlice f.key.n f.key.c) f.key.gen f.key.rsv) ∧
  (∀ (p : Packet) (sl off prof : Nat) (s : State), sliceSpace p = some (sl, off) → 0x800000 ≤ off → s.arrived p = true → prof = (off - 0x800000) / 0x80 →
    p.op = opRead → p.len = 2 → p.a48 % 128 = 0 → p.last = 63 → prof < 64 → p.icls.toNat ≠ iclsDebug → s.flag (uDsp sl) F.dspCtrlEn = true →
    BitVec.ofNat 32 (s.fld (uDsp sl) F.dspTpMaskMask prof) ≠ 0 →
    exec (.takeWindowRead p false) s = .next (serveTake (s.takeReq p) sl (BitVec.ofNat 32 (s.fld (uDsp sl) F.dspTpMaskMask prof)) (s.fld (uDsp sl) F.dspTpWaitWait prof) p)) ∧
  (∀ (sl : Fin 8) (i : Fin 256) (s : State), ∀ x, x = s.sliceOf sl →
    ∀ w, x.waits[i.val]? = some w →
    exec (.takeWaitExpire sl i) s = .next (answerTake (s.setSlice sl { x with waits := x.waits.erase w }) w.req none)) ∧
  (∀ (n : Fin 128) (prof : BitVec 3) (r : List (BitVec 3)) (s : State), ∀ f, f = s.fpPort n → f.takeIn = prof :: r → s.clk.halted = false → ∀ u, u = uDsp (n / 16) →
    ∀ p : Packet, p = { pri := BitVec.ofNat 2 (s.fresh % 3), opc := 0x09, len := 0, tag := prof.zeroExtend 16, dst := BitVec.ofNat 11 (sliceCode (s.fld u F.dspXpSliceSlice (n % 16) prof.toNat)), src := 0, label := 0, icls := 1, stat := 0, addr := 0, aux := BitVec.ofNat 32 (s.fld u F.dspXpMaskMask (n % 16) prof.toNat), hoplim := 0, ext := BitVec.ofNat 64 (s.fld u F.dspXpWaitWait (n % 16) prof.toNat), hdata := 0, body := [] } →
    exec (.execTake n prof) s = .next (absorbFp (ingress (s.draw.setFp n { f with takeIn := r }) (n * 16) p true) n)) ∧
  (∀ (g : BitVec 8) (s : State),
    exec (.purge g) s = .next (purgeGraph s g.toNat)) ∧
  (∀ (g : BitVec 8) (s : State),
    exec (.inval g) s = .next (invalGraph s g.toNat)) ∧
  (∀ (g : BitVec 8) (s : State), ∀ gn, gn = g.toNat →
    gn ∈ s.dsp.purging → ∀ s1, s1 = setGraphBusy { s with dsp := { s.dsp with purging := NSet.del s.dsp.purging gn } } gn →
    exec (.purgeDone g) s = .next ((List.range 8).foldl (fun (t : State) sl =>
      let x := t.sliceOf sl
      (x.purgeWait.filter (fun k => k.g == gn)).foldl (fun u k => arriveToken u sl k)
        (t.setSlice sl { x with purgeWait := x.purgeWait.filter (fun k => k.g != gn) })) s1)) ∧
  (∀ (g : BitVec 8) (s : State), ∀ gn, gn = g.toNat →
    exec (.invalDone g) s = .next (if s.dsp.invaling.contains gn then setGraphBusy { s with dsp := { s.dsp with invaling := NSet.del s.dsp.invaling gn } } gn else s))

/-- Each command of the DRAM controllers has its effect (R349, R356, R359, R360, R361, R362, R363, R364, R424). With the conditions its rules
set, each command answers a next state with exactly these changes. A channel enters drain mode when its write queue reaches HWM or ages,
or reads are out, and read mode at LWM or when a read arrives. On an ACTIVE, awake channel a unit of refresh debt is added; at MAX_DEBT,
outside an alert, the refresh is forced. Outside an alert a refresh pays it, at MAX_DEBT by force and below it only on banks no request
waits for and outside a replay. A row that reaches the threshold owes its bank an RFM, leaves the tracker, is counted and throttles the
leading source; a throttle expires; the tracker is cleared. A parity alert where parity is in use stops the channel, keeps what must be
replayed and counts; one during a replay past REPLAY_MAX exhausts it. When it clears, the rows are closed, overdue refreshes are forced
and the replay begins. Training of all eight channels settles what is installed; a retrain that succeeds writes the kept writes and makes
the channel ACTIVE, one that fails, and a disable, answer the requests in hand and give up what their rules say. On an ACTIVE, awake
channel a drift requests a retraining window, or opens it at once past FORCE_TH; outside an alert and a replay a requested window opens
when the budget admits it and, past its floor, no live request to the rank may go first, charged WIN_US; and it ends. -/
def Obligations.DramControllerCommandsComplete : Prop :=
  (∀ (c : Fin 8) (aged : Bool) (s : State), ∀ h, h = s.chan c →
    ∀ full, full = (decide (s.fld (uDdr c) F.ddrSchedHwm ≤ h.wq.length) || (aged && !h.wq.isEmpty)) →
    ∀ idle, idle = ((s.readQueue c).isEmpty && !h.wq.isEmpty) →
    h.drain = false → full = true ∨ idle = true →
    exec (.drainMode c aged) s = .next (s.setChan c { h with drain := true, drainEmpty := !full })) ∧
  (∀ (c : Fin 8) (aged : Bool) (s : State), ∀ h, h = s.chan c →
    h.drain = true → (h.wq.length ≤ s.fld (uDdr c) F.ddrSchedLwm ∧ aged = false) ∨ (h.drainEmpty = true ∧ (s.readQueue c).isEmpty = false) →
    exec (.readMode c aged) s = .next (s.setChan c { h with drain := false, drainEmpty := false })) ∧
  (∀ (c : Fin 8) (rank : Fin 4) (s : State), ∀ h, h = s.chan c →
    s.ddrStateOf c = ddrActive → s.chanAwake c = true → ∀ d, d = SMap.get 0 h.debt rank + 1 →
    ∀ s1, s1 = s.setChan c { h with debt := SMap.store 0 h.debt rank d } →
    s1.fld (uDdr c) F.ddrRefMaxDebt ≤ d → h.alert = false →
    exec (.refreshDebt c rank) s = .next (forceRefresh s1 c rank)) ∧
  (∀ (c : Fin 8) (rank : Fin 4) (s : State), ∀ h, h = s.chan c →
    s.ddrStateOf c = ddrActive → s.chanAwake c = true → ∀ d, d = SMap.get 0 h.debt rank + 1 →
    ∀ s1, s1 = s.setChan c { h with debt := SMap.store 0 h.debt rank d } →
    (d < s1.fld (uDdr c) F.ddrRefMaxDebt ∨ h.alert = true) →
    exec (.refreshDebt c rank) s = .next s1) ∧
  (∀ (c : Fin 8) (rank : Fin 4) (bank : BitVec 10) (s : State), ∀ d, d = SMap.get 0 (s.chan c).debt rank →
    s.ddrStateOf c = ddrActive → s.chanAwake c = true → (s.chan c).alert = false → d ≠ 0 → s.fld (uDdr c) F.ddrRefMaxDebt ≤ d →
    exec (.refresh c rank bank) s = .next (forcedRefresh s c rank bank.toNat)) ∧
  (∀ (c : Fin 8) (rank : Fin 4) (bank : BitVec 10) (s : State), ∀ d, d = SMap.get 0 (s.chan c).debt rank →
    s.ddrStateOf c = ddrActive → s.chanAwake c = true → (s.chan c).alert = false → (s.chan c).replaying = false →
    d ≠ 0 → d < s.fld (uDdr c) F.ddrRefMaxDebt → s.bankBusy c (s.refreshes c rank bank.toNat) = false →
    exec (.refresh c rank bank) s = .next (refreshRank s c rank bank.toNat)) ∧
  (∀ (c : Fin 8) (bank : BitVec 12) (s : State), ∀ u, u = uDdr c →
    ∀ h, h = s.chan c →
    ∀ t, t = SMap.get [] h.tracker bank.toNat →
    s.flag u F.ddrCtrlRdEn = true → ∀ a, t.find? (fun a => decide (s.fld u F.ddrRdThActs ≤ a.count)) = some a → ∀ src, src = leadingSource a.srcs →
    ∀ i, i = throttleSlot s c bank.toNat src →
    ∀ s1, s1 = s.setChan c { h with rfm := NSet.add h.rfm bank.toNat, tracker := SMap.store [] h.tracker bank.toNat (t.erase a), thrBank := SMap.put h.thrBank i bank.toNat } →
    ∀ s2, s2 = ((s1.setFld u F.ddrThrValid 1 i).setFld u F.ddrThrSrc src i).setFld u F.ddrThrLeft (s.fld u F.ddrRdThrDuration) i →
    exec (.rdThreshold c bank) s = .next (showThrottling (s2.countSat u F.ddrRdCntCount) c)) ∧
  (∀ (c : Fin 8) (i : Fin 16) (s : State),
    exec (.throttleExpire c i) s = .next (showThrottling ((s.setFld (uDdr c) F.ddrThrValid 0 i).setFld (uDdr c) F.ddrThrLeft 0 i) c)) ∧
  (∀ (c : Fin 8) (s : State),
    exec (.trackerClear c) s = .next (s.setChan c { s.chan c with tracker := [] })) ∧
  (∀ (c : Fin 8) (done : Fin 65) (s : State), ∀ u, u = uDdr c →
    ∀ h, h = s.chan c →
    s.flag u F.ddrCtrlParEn = true → h.parity = true → s.ddrStateOf c = ddrActive → ∀ n, n = (if h.replaying then h.attempts + 1 else h.attempts) →
    ∀ s1, s1 = (s.setFld u F.ddrStatusAlert 1).countSat u F.ddrAlertCntCount →
    ∀ s2, s2 = s1.setChan c { h with alert := true, replaying := false, attempts := n, replay := h.retry.drop done ++ h.replay, jobs := forgetReads (h.retry.drop done) h.jobs, winReq := h.winOpen.foldl NSet.add h.winReq, winOpen := [] } →
    exec (.parityAlert c done) s = .next (if h.replaying ∧ s.fld u F.ddrReplayReplayMax ≤ n then exhaust s2 c else s2)) ∧
  (∀ (c : Fin 8) (done : Fin 65) (s : State), (s.flag (uDdr c) F.ddrCtrlParEn = false ∨ (s.chan c).parity = false) → exec (.parityAlert c done) s = .next s) ∧
  (∀ (c : Fin 8) (s : State), ∀ h, h = s.chan c →
    h.alert = true →
    exec (.alertClear c) s = .next (overdueRefreshes ((s.setChan c { h with
      alert := false
      openRow := []
      replaying := !h.replay.isEmpty
      attempts := if h.replay.isEmpty then 0 else h.attempts }).countSat (uDdr c) F.ddrReplayCntCount) c)) ∧
  (∀ (t : List ChannelTraining) (s : State), s.ddr.trained = false → t.length = 8 → ∀ alike, alike = (t.all (fun x => x.present) && t.all (fun x => t.all (fun y => sameKind x y))) →
    ∀ s1, s1 = ((List.range 8).foldl (fun (u : State) c => match t[c]? with
      | none => u
      | some x =>
        let u1 := (u.setReg (uDdr c) 0x008 (if x.present then x.cap &&& 0xFFFFF3FF#32 else 0)).setReg (uDdr c) 0x00C
          (if x.present then x.map &&& 0x0000FFFF#32 else 0)
        if alike && x.ok then passTraining u1 c x else failTraining u1 c) s) →
    ∀ all, all = (alike && t.all (fun x => x.ok)) →
    ∀ gib, gib = ((t[0]?).map (fun x => bitsOf x.cap.toNat 9 0)).getD 0 →
    exec (.dramTrainingDone t) s = .next { s1 with ddr := { s1.ddr with trained := true, installed := if all then 8 * gib * 2 ^ 30 else 0 } }) ∧
  (∀ (c : Fin 8) (t : ChannelTraining) (lost : Bool) (s : State), ∀ s1, s1 = (if lost then s.loseContents c else s) →
    ∀ h, h = s1.chan c →
    ∀ s2, s2 = s1.setChan c { h with alert := false, replaying := false, attempts := 0, replay := [], retry := [], openRow := [], winReq := [], winOpen := [], lb := if lost then [] else h.lb } →
    t.present = true → t.ok = true →
    exec (.ddrRetrain c t lost) s = .next (flushWrites (passTraining s2 c t) c)) ∧
  (∀ (c : Fin 8) (t : ChannelTraining) (lost : Bool) (s : State), ∀ s1, s1 = (if lost then s.loseContents c else s) →
    ∀ h, h = s1.chan c →
    ∀ s2, s2 = s1.setChan c { h with alert := false, replaying := false, attempts := 0, replay := [], retry := [], openRow := [], winReq := [], winOpen := [], lb := if lost then [] else h.lb } →
    ((t.present && t.ok) = true → exec (.ddrRetrain c t lost) s = .next (flushWrites (passTraining s2 c t) c)) ∧
    ((t.present && t.ok) = false → exec (.ddrRetrain c t lost) s = .next (dropJobs (failTraining s2 c) c))) ∧
  (∀ (c : Fin 8) (s : State),
    ∀ s1, s1 = dropJobs ((s.loseContents c).setFld (uDdr c) F.ddrStatusState ddrDisabled) c →
    exec (.ddrDisable c) s = .next (s1.setChan c { tpSpd := (s1.chan c).tpSpd, tpWant := (s1.chan c).tpWant, parity := (s1.chan c).parity })) ∧
  (∀ (c : Fin 8) (rank : Fin 4) (drift : Nat) (s : State), ∀ u, u = uDdr c →
    ∀ h, h = s.chan c →
    s.fld u F.ddrRetrainInterval ≠ 0 → s.ddrStateOf c = ddrActive → s.chanAwake c = true → s.fld u F.ddrRetrainForceTh ≤ drift →
    exec (.driftCheck c rank drift) s = .next ((s.setChan c { h with winOpen := NSet.add h.winOpen rank, winReq := NSet.del h.winReq rank }).countSat u F.ddrFwinCntCount)) ∧
  (∀ (c : Fin 8) (rank : Fin 4) (drift : Nat) (s : State), ∀ u, u = uDdr c →
    ∀ h, h = s.chan c →
    s.fld u F.ddrRetrainInterval ≠ 0 → s.ddrStateOf c = ddrActive → s.chanAwake c = true → drift < s.fld u F.ddrRetrainForceTh → s.fld u F.ddrRetrainDriftTh ≤ drift →
    exec (.driftCheck c rank drift) s = .next (s.setChan c { h with winReq := NSet.add h.winReq rank })) ∧
  (∀ (c : Fin 8) (rank : Fin 4) (unmet : Bool) (s : State), ∀ h, h = s.chan c →
    rank.val ∈ h.winReq → h.alert = false → h.replaying = false → s.chanAwake c = true → s.ddrStateOf c = ddrActive → s.admits 6 c = true →
    (unmet = true ∨ s.bankBusy c (fun b => b / 1024 == rank.val) = false ∨ (s.meter 6 c).u < s.floorOf 6) →
    ∀ t, t = s.charge 6 c (s.fld (uDdr c) F.ddrRetrainWinUs * 1000) →
    exec (.retrainingWindow c rank unmet) s = .next (t.setChan c
      { t.chan c with winOpen := NSet.add (t.chan c).winOpen rank, winReq := NSet.del (t.chan c).winReq rank })) ∧
  (∀ (c : Fin 8) (rank : Fin 4) (s : State), ∀ h, h = s.chan c →
    exec (.retrainingWindowEnd c rank) s = .next (s.setChan c { h with winOpen := NSet.del h.winOpen rank }))

/-- Each command of the integrity engines has its effect, and so the issue of a DRAM command (R316, R331, R338, R339, R340, R341, R342, R357).
With a KID other than 0 and 255, no command running and the state the command needs, LOAD unwraps the key into a FREE KID (class 0x14
where it fails), GENERATE installs a drawn one, INIT of a KEYED KID whose range passes R316 makes it INITIALISING, ENABLE of a KEYED LIGHT
KID whose range passes makes it LIVE and RETIRE of a KEYED, LIVE or FAULTED KID makes it RETIRING; IPE_WRAP is cleared after each. When
the initialising is over the KID is LIVE; when the requests in hand and verifications of a KID that is retiring are over it is FREE with
its key, range, roots and quarantine entries gone. An alarm pop drops the engine's oldest alarm. An ACTIVE, awake channel outside an alert
issues, of the ranks whose refresh may go now, the one due with idle banks (none during a replay); else the RFM due first; else the oldest
command of its replay; else the write chosen in drain mode or the read chosen among the 64 oldest in read mode; with none eligible INIT
goes on up to its cap. An RFM that a device asks for, of a bank or a rank, is noted before this. -/
def Obligations.IntegrityEngineCommandsComplete : Prop :=
  (∀ (e : Fin 8) (s : State),
    exec (.alarmPop e) s = .next { s with ipe := { s.ipe with log := SMap.store [] s.ipe.log e ((s.alarmLog e).drop 1) } }) ∧
  (∀ (e : Fin 8) (kid : BitVec 8) (s : State), kid.toNat ≠ 0 → kid.toNat ≠ 255 → s.flag uIpe0 F.ipeCmdStatBusy = false → s.kidState kid.toNat = kidFree → ∀ t, t = s.setFld uIpe0 F.ipeCmdStatKid kid.toNat →
    exec (.kidLoad e kid) s = .next (clearWrap (match Crypto.keyUnwrap s.kek s.wrapped with
      | some key => installKey t kid.toNat (BitVec.ofNat 256 key)
      | none => (refuseCmd t kid.toNat 5).raise (uIpe e) 0x14 kid.toNat))) ∧
  (∀ (kid : BitVec 8) (s : State), kid.toNat ≠ 0 → kid.toNat ≠ 255 → s.flag uIpe0 F.ipeCmdStatBusy = false → s.kidState kid.toNat = kidFree → ∀ t, t = s.setFld uIpe0 F.ipeCmdStatKid kid.toNat →
    exec (.generate kid) s = .next (clearWrap (installKey { t with free := t.free + 8 } kid.toNat ((t.freshLine).truncate 256)))) ∧
  (∀ (kid : BitVec 8) (s : State), kid.toNat ≠ 0 → kid.toNat ≠ 255 → s.flag uIpe0 F.ipeCmdStatBusy = false → s.kidState kid.toNat = kidKeyed → ∀ t, t = s.setFld uIpe0 F.ipeCmdStatKid kid.toNat →
    rangeRefusal t kid.toNat = none →
    ∀ t1, t1 = showMeta (((t.bindKid kid.toNat).setKid kid.toNat kidInitialising).setFld uIpe0 F.ipeCmdStatBusy 1) →
    ∀ t2, t2 = (if kidClass kid.toNat = .full then dropMeta t1 kid.toNat else scrambleRange t1 kid.toNat) →
    exec (.kidInit kid) s = .next (clearWrap (initAdvance { t2 with ipe := { t2.ipe with
      initLeft := (List.range 8).map (fun e => (e, initLines kid.toNat (t.kidSize kid.toNat))) } }))) ∧
  (∀ (kid : BitVec 8) (s : State), s.kidState kid.toNat = kidInitialising → s.ipe.initLeft = [] →
    exec (.kidInitDone kid) s = .next ((s.setKid kid.toNat kidLive).setFld uIpe0 F.ipeCmdStatBusy 0)) ∧
  (∀ (kid : BitVec 8) (s : State), kid.toNat ≠ 0 → kid.toNat ≠ 255 → s.flag uIpe0 F.ipeCmdStatBusy = false → s.kidState kid.toNat = kidKeyed → kidClass kid.toNat = .light → ∀ t, t = s.setFld uIpe0 F.ipeCmdStatKid kid.toNat →
    rangeRefusal t kid.toNat = none →
    exec (.kidEnable kid) s = .next (clearWrap ((t.bindKid kid.toNat).setKid kid.toNat kidLive))) ∧
  (∀ (kid : BitVec 8) (s : State), kid.toNat ≠ 0 → kid.toNat ≠ 255 → s.flag uIpe0 F.ipeCmdStatBusy = false → s.kidState kid.toNat = kidKeyed ∨ s.kidState kid.toNat = kidLive ∨ s.kidState kid.toNat = kidFaulted → ∀ t, t = s.setFld uIpe0 F.ipeCmdStatKid kid.toNat →
    ∀ t1, t1 = (t.setKid kid.toNat kidRetiring).setFld uIpe0 F.ipeCmdStatBusy 1 →
    exec (.retire kid) s = .next (clearWrap { t1 with ipe := { t1.ipe with retiring := some kid.toNat } })) ∧
  (∀ (kid : BitVec 8) (s : State), ∀ k, k = kid.toNat →
    s.ipe.retiring = some k → s.kidBusy k = false → ∀ s1, s1 = releaseQuar (if s.kidBound k then (dropMeta s k).unbindKid k else s) k →
    ∀ s2 : State, s2 = { s1 with ipe := { s1.ipe with key := SMap.erase s1.ipe.key k, retiring := none } } →
    exec (.retireDone kid) s = .next (showMeta ((s2.setKid k kidFree).setFld uIpe0 F.ipeCmdStatBusy 0))) ∧
  (∀ (c : Fin 8) (met old gap : List Nat) (ref : List (Fin 4)) (r : Nat × Nat) (s : State), s.ddrStateOf c = ddrActive → s.chanAwake c = true →
    (s.chan c).alert = false → dueRefresh s c ref = some r →
    exec (.dramCommandIssue c met old gap none ref) s = .next (if (s.chan c).replaying then s else refreshRank s c r.1 r.2)) ∧
  (∀ (c : Fin 8) (met old gap : List Nat) (ref : List (Fin 4)) (s : State), s.ddrStateOf c = ddrActive → s.chanAwake c = true →
    (s.chan c).alert = false → dueRefresh s c ref = none →
    (∀ b l, (s.chan c).rfm = b :: l → exec (.dramCommandIssue c met old gap none ref) s = .next (issueRfm s c b)) ∧
    (∀ k rest, (s.chan c).rfm = [] → (s.chan c).replay = k :: rest → exec (.dramCommandIssue c met old gap none ref) s = .next (reissue s c k rest))) ∧
  (∀ (c : Fin 8) (met old gap : List Nat) (ref : List (Fin 4)) (s : State), s.ddrStateOf c = ddrActive → s.chanAwake c = true →
    (s.chan c).alert = false → dueRefresh s c ref = none → (s.chan c).rfm = [] → (s.chan c).replay = [] → (s.chan c).drain = true →
    (∀ i w, pick s c ((s.chan c).wq.map (fun w => s.candidate w.line w.pri w.src)) met old gap = some i → (s.chan c).wq[i]? = some w →
      exec (.dramCommandIssue c met old gap none ref) s = .next (issueWrite s c w)) ∧
    (pick s c ((s.chan c).wq.map (fun w => s.candidate w.line w.pri w.src)) met old gap = none →
      exec (.dramCommandIssue c met old gap none ref) s = .next (initLinesTo s c (s.capOf 7)))) ∧
  (∀ (c : Fin 8) (met old gap : List Nat) (ref : List (Fin 4)) (rq : List (Job × Nat)) (s : State), s.ddrStateOf c = ddrActive → s.chanAwake c = true →
    (s.chan c).alert = false → dueRefresh s c ref = none → (s.chan c).rfm = [] → (s.chan c).replay = [] → (s.chan c).drain = false →
    rq = (s.readQueue c).take 64 →
    (∀ i x, pick s c (rq.map (fun x => s.candidate x.2 x.1.req.pri.toNat x.1.req.src.toNat)) met old gap = some i → rq[i]? = some x →
      exec (.dramCommandIssue c met old gap none ref) s = .next (issueRead s c x.2 x.1.req.src.toNat)) ∧
    (pick s c (rq.map (fun x => s.candidate x.2 x.1.req.pri.toNat x.1.req.src.toNat)) met old gap = none →
      exec (.dramCommandIssue c met old gap none ref) s = .next (initLinesTo s c (s.capOf 7)))) ∧
  (∀ (c : Fin 8) (met old gap : List Nat) (b : BitVec 12) (rank : Bool) (ref : List (Fin 4)) (s : State), exec (.dramCommandIssue c met old gap (some (b, rank)) ref) s =
    exec (.dramCommandIssue c met old gap none ref) (s.setChan c { s.chan c with
      rfm := NSet.add (s.chan c).rfm (if rank then 4096 + b.toNat / 1024 else b.toNat) }))

/-- Each command of a configuration load has its effect (R258, R261, R262, R263, R264, R265, R266, R267, R277, R287, R288). With the
conditions its rules set, each command answers a next state with exactly these changes. OPEN, by the manager or by the self-load port,
with no load running begins one under the next sequence number; an abort ends it with the code ABORTED. A stream write that its load
accepts, an xSPI read that the burin makes (its port and address for the next byte, its command code and dummy cycles) and a self-load
data write add their bytes to the image; a write after which the load was fenced off is answered FENCED. A source that times out fails the
load. A frame that the budget does not admit is held. The next frame, once its bytes are there and the budget admits it, is charged 8
beats and, inside the fence, with its CRC right and no channel driven twice, written into the inactive plane; a frame misrouted outside
the fence fails the load with FENCE. The next memory record, once the budget has admitted its beats, is written, and the last with its
padding ends the section. The checks of the planes, once the budget has admitted their 384 reads for each region written, pass on to the
signature block where none fails; a load in whose block nothing fails, too, is VERIFIED. -/
def Obligations.LoadCommandsComplete : Prop :=
  (∀ (src : BitVec 4) (icls : BitVec 3) (s : State), cfgAccepts s icls.toNat = true → src.toNat < 2 → s.cfg.load = none → s.pinControl = false →
    ∀ s1, s1 = (((((s.setFld uCfg F.cfgLoadSeqSeq (s.fld uCfg F.cfgLoadSeqSeq + 1)).setFld uCfg F.cfgStatusFailCode 0).setFld uCfg F.cfgStatusBusy 1).setFld uCfg
      F.cfgStreamPosLoPos 0).setFld uCfg F.cfgStreamPosHiPos 0) →
    ∀ l : Load, l = { source := src.toNat, icls := icls.toNat, boot := false, seq := s1.fld uCfg F.cfgLoadSeqSeq } →
    exec (.openLoad src icls) s = .next ((showPhase { s1 with cfg := { s1.cfg with load := some l, fenced := none, lastSelf := false } } 1).answer .ok)) ∧
  (∀ (icls : BitVec 3) (l : Load) (s : State), cfgAccepts s icls.toNat = true → s.cfg.load = some l →
    exec (.abortLoad icls) s = .next ((failLoad s l failAborted l.bytes.length).answer .ok)) ∧
  (∀ (p : Packet) (l : Load) (s : State), mapAddr (p.a48 / 0x800000 * 0x800000) = .csr uCfg 0x800000 → isRequest p.op = true → s.arrived p = true →
    streamDecide s 1 p.icls.toNat p = some .ok → s.cfg.load = some l → ∀ s1, s1 = appendImage s l p.payload →
    exec (.streamWrite p) s = .next (if s1.cfg.fenced = some 1 then { s1 with cfg := { s1.cfg with fenced := none } }.reply p .fenced else s1.reply p .ok)) ∧
  (∀ (p : Packet) (l : Load) (s : State), mapAddr (p.a48 / 0x200000 * 0x200000) = .csr uCfg 0x600000 → isRequest p.op = true → s.arrived p = true →
    slAdmitted s p.icls.toNat p.src.toNat = true → streamDecide s 2 p.icls.toNat p = some .ok → s.cfg.load = some l → ∀ s1, s1 = appendImage s l p.payload →
    exec (.slDataWrite p) s = .next (if s1.cfg.fenced = some 2 then { s1 with cfg := { s1.cfg with fenced := none } }.reply p .fenced else s1.reply p .ok)) ∧
  (∀ (misrouted : Option (BitVec 7)) (l : Load) (n0 n o : Nat) (s : State), s.loading = some l → l.phase = 4 → frameAt l.runs l.frame 0 = some (n0, o, none) →
    n = (misrouted.map (·.toNat)).getD n0 → itemsNow s (dieOfRegion n) 8 1 = 0 →
    exec (.frameWrite misrouted) s = .next (s.hold 0 (dieOfRegion n))) ∧
  (∀ (l : Load) (n o : Nat) (place : Option Nat) (f : Frame) (want : Word32) (s : State), s.loading = some l → l.phase = 4 →
    frameAt l.runs l.frame 0 = some (n, o, place) → ∀ off, off = 256 + imgManifestLen l.bytes + 256 * place.getD 0 →
    place = none ∨ off + 256 ≤ l.bytes.length → itemsNow s (dieOfRegion n) 8 1 ≠ 0 →
    f = (match place with | some _ => BitVec.ofNat 2048 (imgField l.bytes off 256) | none => 0) →
    want = (match place with
      | some i => BitVec.ofNat 32 (imgField l.bytes (256 + 16 * (imgRuns l.bytes + imgInits l.bytes) + 4 * i) 4)
      | none => zeroFrameCrc) →
    n ∈ l.fence → frameCrc f = want → (if blockOf o = 1 then firstTwice (frameDrivers f) else none) = none →
    exec (.frameWrite none) s = .next (afterFrames ((loadCharge s (dieOfRegion n) 8).setFrame ((loadCharge s (dieOfRegion n) 8).inactive n) n o f)
      { l with frame := l.frame + 1, crc := SMap.store zeroFrameCrc l.crc (n * 22528 + o) want, written := if blockOf o = 1 then NSet.add l.written n else l.written })) ∧
  (∀ (r : BitVec 7) (l : Load) (n0 o : Nat) (s : State), s.loading = some l → l.phase = 4 → frameAt l.runs l.frame 0 = some (n0, o, none) →
    itemsNow s (dieOfRegion r.toNat) 8 1 ≠ 0 → r.toNat ∉ l.fence →
    exec (.frameWrite (some r)) s = .next (failLoad (loadCharge s (dieOfRegion r.toNat) 8) l failFence (farOf r.toNat o))) ∧
  (∀ (l : Load) (s : State) (r : State × SMap Nat), s.loading = some l → l.phase = 6 → l.checked = false →
    r = paced 8 (dieWork 384 l.written) s l.paid → allPaid (dieWork 384 l.written) r.2 = true →
    l.written.findSome? (fun n => spanBreach s (s.inactive n) n) = none → recordBreach s l = none →
    ∀ l1, l1 = { l with checked := true, paid := [] } →
    exec .verify s = .next (judgeBlock (r.1.setLoad (some l1)) l1)) ∧
  (∀ (icls : BitVec 3) (src : BitVec 11) (s : State), slAdmitted s icls.toNat src.toNat = true → s.cfg.load = none → s.pinControl = false →
    ∀ s1, s1 = (((((s.setFld uCfg F.cfgLoadSeqSeq (s.fld uCfg F.cfgLoadSeqSeq + 1)).setFld uCfg F.cfgStatusFailCode 0).setFld uCfg F.cfgStatusBusy 1).setFld uCfg
      F.cfgStreamPosLoPos 0).setFld uCfg F.cfgStreamPosHiPos 0) →
    ∀ l : Load, l = { source := 2, icls := icls.toNat, boot := false, seq := s1.fld uCfg F.cfgLoadSeqSeq } →
    exec (.slOpen icls src) s = .next ((showPhase { s1 with cfg := { s1.cfg with load := some l, fenced := none, lastSelf := true } } 1).answer .ok)) ∧
  (∀ (icls : BitVec 3) (src : BitVec 11) (l : Load) (s : State), slAdmitted s icls.toNat src.toNat = true → s.cfg.load = some l → l.source = 2 →
    exec (.slAbort icls src) s = .next ((failLoad s l failAborted l.bytes.length).answer .ok)) ∧
  (∀ (r : XspiBurst) (s : State), ∀ l, s.loading = some l → l.source = 0 →
    xspiPlace s l.bytes.length = (r.port.val, r.addr.toNat) → s.fld uCfg F.cfgXspiCfgRdOpc = r.opc.toNat → s.fld uCfg F.cfgXspiCfgDummy = r.dummy.toNat →
    l.bytes.length < 256 →
    exec (.xspiRead r) s = .next (appendImage s l (r.data.take (256 - l.bytes.length)))) ∧
  (∀ (r : XspiBurst) (s : State), ∀ l, s.loading = some l → l.source = 0 →
    xspiPlace s l.bytes.length = (r.port.val, r.addr.toNat) → s.fld uCfg F.cfgXspiCfgRdOpc = r.opc.toNat → s.fld uCfg F.cfgXspiCfgDummy = r.dummy.toNat →
    256 ≤ l.bytes.length → ∀ b, b = l.bytes.length →
    exec (.xspiRead r) s = .next (appendImage s l (r.data.take (min (4096 - b % 4096) (imgLength l.bytes - b))))) ∧
  (∀ (s : State), ∀ l, s.loading = some l → l.source = 0 →
    exec (.sourceTimeout) s = .next (failLoad s l failSource l.bytes.length)) ∧
  (∀ (e : MemEnv) (s : State), ∀ l, s.loading = some l → l.phase = 5 → ∀ x, l.entries[l.entry]? = some x → ∀ off, off = entryOff l.entries l.entry →
    imgInitOff l.bytes + off + x.len ≤ l.bytes.length → ∀ data, data = (l.bytes.drop (imgInitOff l.bytes + off)).take x.len →
    ∀ work, work = dieWork (x.len / 256) (if (s.active x.region).isNone then [x.region] else []) →
    ∀ r, r = paced 8 work s l.paid → allPaid work r.2 = true →
    ∀ s1, s1 = (if (s.active x.region).isNone then loadTarget r.1 x data else r.1) →
    exec (.initDataWrite e) s = .next ((stageBytes s1 l off data e (fun t => t.setLoad (some { l with entry := l.entry + 1, paid := [] }))).getD
      (r.1.setLoad (some { l with paid := r.2 })))) ∧
  (∀ (e : MemEnv) (s : State), ∀ l, s.loading = some l → l.phase = 5 → l.entries[l.entry]? = none → imgInitOff l.bytes + imgInitLen l.bytes ≤ l.bytes.length →
    ∀ work, work = dieWork 352 (l.regions.filter (fun n => (s.active n).isNone)) → ∀ r, r = paced 8 work s l.paid → allPaid work r.2 = true →
    exec (.initDataWrite e) s = .next ((finishInit r.1 l e).getD (r.1.setLoad (some { l with paid := r.2 })))) ∧
  (∀ (l : Load) (s : State), s.loading = some l → l.phase = 6 → l.checked = true → imgLength l.bytes ≤ l.bytes.length → signatureFail s l.bytes = none →
    exec .verify s = .next (verified s l))

/-- Each command of a flip and COMMIT_SVN has its effect (R267, R269, R270, R271, R272, R273, R274, R275, R288, R290). With the conditions its
rules set, each command answers a next state with exactly these changes. A flip that is not refused wakes the regions of its mask (or of
the self-load's set) and waits; one whose regions do not run in time is refused. Executed, it is refused if what R269 asks no longer
holds; else it flips each region and replaces what a faulted flip of those regions left. Its memories initialised, it goes on, or faults
with class 0x03 at the first region that fails. OUTPUTS, ENABLES and RESETS take its regions through their stages: pins released, enables
on, engines and flip-flops released and CFG_STATUS.FLIPPED set. COMMIT_SVN by the manager, with every active plane at one SVN v, burns
CFG_SVN to the greater of v and what is burned, and makes STALE every VERIFIED plane below it. -/
def Obligations.FlipCommandsComplete : Prop :=
  (∀ (icls : BitVec 3) (s : State), cfgAccepts s icls.toNat = true → flipRefused s (flipMaskSet s) = false →
    ∀ s1, s1 = (flipMaskSet s).foldl (fun (t : State) n => t.wakeDom n) s →
    exec (.flip icls) s = .next (({ s1 with cfg := { s1.cfg with flips := s1.cfg.flips ++ [{ regions := flipMaskSet s }] } } : State).answer .ok)) ∧
  (∀ (icls : BitVec 3) (src : BitVec 11) (s : State), slAdmitted s icls.toNat src.toNat = true →
    s.cfg.slSet.any (fun n => !bitOf (s.fld uCfg F.cfgSlGrantRegions (n / 32)) (n % 32)) = false → flipRefused s s.cfg.slSet = false →
    ∀ s1, s1 = s.cfg.slSet.foldl (fun (t : State) n => t.wakeDom n) s →
    exec (.slFlip icls src) s = .next (({ s1 with cfg := { s1.cfg with flips := s1.cfg.flips ++ [{ regions := s.cfg.slSet }] } } : State).answer .ok)) ∧
  (∀ (v : Nat) (r : List Nat) (s : State), cfgAccepts s 4 = true → (List.range 128).filterMap (fun n => (s.active n).map (fun p => s.planeSvn n p)) = v :: r →
    (∀ w ∈ r, w = v) → ∀ svn, svn = max v s.fuse.svn →
    exec (.commitSvn 4) s = .next ((((List.range 128).flatMap (fun n => [(n, 0), (n, 1)])).foldl (fun (t : State) x =>
      if t.planeState x.1 x.2 = planeVerified ∧ t.planeSvn x.1 x.2 < svn then t.setPlane x.1 x.2 planeStale else t)
      (({ s with fuse := { s.fuse with svn := svn } } : State).setFld uCfg F.cfgSvnCounter svn)).answer .ok)) ∧
  (∀ (i : Nat) (s : State), ∀ f, s.cfg.flips[i]? = some f → f.phase = 0 → f.regions.any (fun n => !s.regionRuns n) = true →
    exec (.flipWakeTimeout i) s = .next (cfgRefuse (s.dropFlip f))) ∧
  (∀ (i : Nat) (s : State), ∀ f, s.cfg.flips[i]? = some f → f.phase = 0 → f.regions.any (fun n => !s.regionRuns n) = false → s.bm.clearing = false → s.span.calibrated = true →
    (flipBarred s f.regions = true → exec (.flipExecute i) s = .next (cfgRefuse (s.dropFlip f))) ∧
    (flipBarred s f.regions = false → ∀ blank, blank = f.regions.filter (fun n => (s.active n).isNone) →
      ∀ s1, s1 = s.setFlip i { f with phase := 1, blank := blank } →
      ∀ s2, s2 = f.regions.foldl flipRegion s1 →
      ∀ s3 : State, s3 = ({ s2 with cfg := { s2.cfg with flips := s2.cfg.flips.filter (fun g => !(g.fault && g.regions.any (fun n => f.regions.contains n))) } }) →
      exec (.flipExecute i) s = .next (showReleasing s3))) ∧
  (∀ (i : Nat) (e : MemEnv) (s : State), ∀ f, s.cfg.flips[i]? = some f → f.phase = 1 → f.fault = false → ∀ t, initRegions s e (f.regions.filter (fun n => !f.blank.contains n)) = some (t, none) →
    exec (.initComplete i e) s = .next (t.setFlip i { f with phase := 2 })) ∧
  (∀ (i : Nat) (e : MemEnv) (s : State), ∀ f, s.cfg.flips[i]? = some f → f.phase = 1 → f.fault = false → ∀ t n, initRegions s e (f.regions.filter (fun n => !f.blank.contains n)) = some (t, some n) →
    exec (.initComplete i e) s = .next (initFault t i f n)) ∧
  (∀ (i : Nat) (s : State), ∀ f, s.cfg.flips[i]? = some f → f.phase = 2 → f.fault = false →
    exec (.outputs i) s = .next (f.regions.foldl releasePins ((setStage s f 1).setFlip i { f with phase := 3 }))) ∧
  (∀ (i : Nat) (s : State), ∀ f, s.cfg.flips[i]? = some f → f.phase = 3 →
    exec (.enables i) s = .next ((setStage s f 2).setFlip i { f with phase := 4 })) ∧
  (∀ (i : Nat) (s : State), ∀ f, s.cfg.flips[i]? = some f → f.phase = 4 → ∀ s1, s1 = (setStage s f 3).dropFlip f →
    ∀ s2 : State, s2 = { s1 with fab := { s1.fab with trackEdges := s1.fab.trackEdges.filter (fun x => !f.regions.contains (x.1 / 8)) } } →
    ∀ s3, s3 = f.regions.foldl releaseEngines s2 →
    exec (.resets i) s = .next (cfgEvent ((showReleasing s3).setFld uCfg F.cfgStatusFlipped 1)))

/-- Each command of the scrubber has its effect (R291, R295, R296, R298, R299, R300, R302, R424). With the census domain running and no frame
in hand, a scrub engine at the end of its lap ends it; otherwise it reads the frame of its next visit (of its lap, of a region placed
first, of the census) when the bus serves its channel, charged 8 beats: a frame that passes is passed, one that fails is taken in hand
with the first repair source. A candidate comes from zero (where ZERO_TRY is set), a repair slot, or the image in the xSPI flash (where
XSPI_TRY is set), and is offered. A repair, where the region has not flipped since and the bus serves it, is charged 16 beats; of a frame
that in truth was right it counts a false detection; of one that was not it writes the candidate, and read back right sets CORRECTED and
counts it; read back wrong the frame stays unrepaired. A TMR correction is counted and raises class 0x15. -/
def Obligations.ScrubCommandsComplete : Prop :=
  (∀ (d : Fin 8) (upset misread : Frame) (tableUpset lapUs : Word32) (e : MemEnv) (s : State), (s.scrub d).hand = none → s.clocked 154 = true →
    nextVisit s d = .lapEnd → exec (.scrubFrameRead d upset misread tableUpset lapUs e) s = .next (endLap s d lapUs.toNat)) ∧
  (∀ (d : Fin 8) (upset misread : Frame) (tableUpset lapUs : Word32) (e : MemEnv) (n o p ch : Nat) (s : State), (s.scrub d).hand = none → s.clocked 154 = true →
    (∃ pos, nextVisit s d = .lap pos ∧ n = d.val * 16 + pos / 22528 ∧ o = pos % 22528 ∧ ch = 2) ∨ (nextVisit s d = .first n o ∧ ch = 2) ∨
      (∃ k, nextVisit s d = .census k ∧ n = k / 22528 ∧ o = k % 22528 ∧ ch = 1) →
    s.active n = some p → busServes s ch d = true → ∀ (t : State) (f : Frame), readFrame (s.charge ch d 8) n p o upset misread tableUpset e = some (t, f, true) →
    exec (.scrubFrameRead d upset misread tableUpset lapUs e) s = .next (passFrame t d (nextVisit s d))) ∧
  (∀ (d : Fin 8) (upset misread : Frame) (tableUpset lapUs : Word32) (e : MemEnv) (n o p ch : Nat) (s : State), (s.scrub d).hand = none → s.clocked 154 = true →
    (∃ pos, nextVisit s d = .lap pos ∧ n = d.val * 16 + pos / 22528 ∧ o = pos % 22528 ∧ ch = 2) ∨ (nextVisit s d = .first n o ∧ ch = 2) ∨
      (∃ k, nextVisit s d = .census k ∧ n = k / 22528 ∧ o = k % 22528 ∧ ch = 1) →
    s.active n = some p → busServes s ch d = true → ∀ (t : State) (f : Frame), readFrame (s.charge ch d 8) n p o upset misread tableUpset e = some (t, f, false) →
    exec (.scrubFrameRead d upset misread tableUpset lapUs e) s = .next (t.setScrub d { t.scrub d with hand := some ⟨n, p, o, t.fcEntry n o, 0, none, decide (ch = 1), isFirst (nextVisit s d), false⟩ })) ∧
  (∀ (d : Fin 8) (h : Search) (c : Frame) (ch : Nat) (s : State), s.searching d = some h → h.cand = some c → ch = (if h.census then 1 else 2) →
    h.flipped = false → s.active h.region = some h.plane → busServes s ch d = true → c = s.frame h.plane h.region h.ordinal → ∀ t, t = (s.charge ch d 16).countSat uScb F.scbFalseCntCount →
    ∀ r, exec (.repair d r) s = .next (passFrame (t.setScrub d { t.scrub d with hand := none }) d (searchVisit h))) ∧
  (∀ (d : Fin 8) (h : Search) (c : Frame) (ch : Nat) (s : State), s.searching d = some h → h.cand = some c → ch = (if h.census then 1 else 2) →
    h.flipped = false → s.active h.region = some h.plane → busServes s ch d = true → c ≠ s.frame h.plane h.region h.ordinal → ∀ s1, s1 = (s.charge ch d 16).setFrame h.plane h.region h.ordinal c →
    ∀ s2 : State, s2 = { s1 with cns := { s1.cns with unrepaired := NSet.del s1.cns.unrepaired (h.region * 22528 + h.ordinal) } } →
    ∀ t, t = (s2.setFld uScb F.scbStatusCorrected 1).countSat uScb F.scbCorrCntCount →
    exec (.repair d true) s = .next (passFrame (t.setScrub d { t.scrub d with hand := none }) d (searchVisit h))) ∧
  (∀ (d : Fin 8) (h : Search) (c : Frame) (ch : Nat) (s : State), s.searching d = some h → h.cand = some c → ch = (if h.census then 1 else 2) →
    h.flipped = false → s.active h.region = some h.plane → busServes s ch d = true → c ≠ s.frame h.plane h.region h.ordinal →
    exec (.repair d false) s = .next (unrepaired (s.charge ch d 16) d h)) ∧
  (∀ (d : Fin 8) (xspi : Option (List Byte)) (e : MemEnv) (s : State), ∀ h, s.searching d = some h → h.cand = none → h.source = 0 →
    exec (.candidateFetch d xspi e) s = .next (offerFrame s d h (if s.flag uScb F.scbCtrlZeroTry then some 0 else none))) ∧
  (∀ (d : Fin 8) (xspi : Option (List Byte)) (e : MemEnv) (s : State), ∀ h, s.searching d = some h → h.cand = none → h.source ≠ 0 → h.source ≤ 4 → ∀ i, i = h.source - 1 →
    s.fld uScb F.scbRepairSizeUnits i ≠ 0 → ∀ t f, slotFrame s i h.region h.ordinal e = some (t, f) →
    exec (.candidateFetch d xspi e) s = .next (offerFrame t d h f)) ∧
  (∀ (d : Fin 8) (xspi : Option (List Byte)) (e : MemEnv) (s : State), ∀ h, s.searching d = some h → h.cand = none → h.source ≠ 0 → 4 < h.source →
    exec (.candidateFetch d xspi e) s = .next (offerFrame s d h (if s.flag uScb F.scbCtrlXspiTry then xspi.bind (fun bs => imageFrame bs h.region h.ordinal) else none))) ∧
  (∀ (s : State), s.clocked 154 = true →
    exec (.tmrCorrect) s = .next (((s.setFld uScb F.scbStatusTmr 1).countSat uScb F.scbTmrCntCount).raise uScb 0x15))

/-- Each command of the census has its effect (R297, R301, R302, R304, R305, R306, R307). A digest run steps over a dynamic frame; it reads
every other frame of an active plane in the scope it began with, at its engine's next position once the region is in stage 3 and the bus
serves the census, charged 8 beats: one that passes is entered in the digest, one that fails and is not known to be unrepaired is handed
to the scrubber. A run that has read every frame shows the digest, marks it current or invalid, and is adopted as the reference where a
root that takes part waits for it, else compared. DIGEST_NOW starts a run; CENSUS_START goes by the rule of START (a root that takes part
starts a round), and so does the period where it is not 0. A REF of a new round is adopted; a SUMMARY not yet got from its port is added
to the round; a DISSENT of the round is noted at the root while the round is open and sent on toward it elsewhere. When its wait ends at a
device that takes part, a round finishes with what it has, its own dissent made if it had not compared. -/
def Obligations.CensusCommandsComplete : Prop :=
  (∀ (d : Fin 8) (upset misread : Frame) (tableUpset : Word32) (e : MemEnv) (r : DigestRun) (pos n o p : Nat) (s : State), s.computing = some r → pos = SMap.get 0 r.pos d →
    pos < 16 * 22528 → n = d.val * 16 + pos / 22528 → o = pos % 22528 → (n * 22528 + o) ∉ s.scb.handed → scopeHas r.scope n = true → s.active n = some p →
    ∀ next, next = { r with pos := SMap.put r.pos d (pos + 1) } → dynamicFrame n o = true →
    exec (.digestFrameRead d upset misread tableUpset e) s = .next (s.setRun next)) ∧
  (∀ (d : Fin 8) (upset misread : Frame) (tableUpset : Word32) (e : MemEnv) (r : DigestRun) (pos n o p : Nat) (s : State), s.computing = some r → pos = SMap.get 0 r.pos d →
    pos < 16 * 22528 → n = d.val * 16 + pos / 22528 → o = pos % 22528 → (n * 22528 + o) ∉ s.scb.handed → scopeHas r.scope n = true → s.active n = some p →
    ∀ next, next = { r with pos := SMap.put r.pos d (pos + 1) } → dynamicFrame n o = false → 3 ≤ s.stage n → busServes s 1 d = true →
    ∀ (t : State) (f : Frame), readFrame (s.charge 1 d 8) n p o upset misread tableUpset e = some (t, f, true) →
    exec (.digestFrameRead d upset misread tableUpset e) s = .next (t.setRun { next with seen := SMap.store 0 r.seen (n * 22528 + o) f })) ∧
  (∀ (d : Fin 8) (upset misread : Frame) (tableUpset : Word32) (e : MemEnv) (r : DigestRun) (pos n o p : Nat) (s : State), s.computing = some r → pos = SMap.get 0 r.pos d →
    pos < 16 * 22528 → n = d.val * 16 + pos / 22528 → o = pos % 22528 → (n * 22528 + o) ∉ s.scb.handed → scopeHas r.scope n = true → s.active n = some p →
    ∀ next, next = { r with pos := SMap.put r.pos d (pos + 1) } → dynamicFrame n o = false → 3 ≤ s.stage n → busServes s 1 d = true →
    ∀ (t : State) (f : Frame), readFrame (s.charge 1 d 8) n p o upset misread tableUpset e = some (t, f, false) → (n * 22528 + o) ∉ s.cns.unrepaired →
    exec (.digestFrameRead d upset misread tableUpset e) s = .next { t with scb := { t.scb with handed := NSet.add t.scb.handed (n * 22528 + o) } }) ∧
  (∀ (s : State),
    exec (.digestNow) s = .next (startDigest s)) ∧
  (∀ (s : State),
    exec (.censusStart) s = .next (startRound s)) ∧
  (∀ (s : State), s.fld uCns F.cnsCtrlPeriod ≠ 0 → s.clocked 154 = true →
    exec (.roundPeriod) s = .next (startRound s)) ∧
  (∀ (s : State), ∀ r, s.computing = some r → (List.range 8).all (fun d => decide (16 * 22528 ≤ SMap.get 0 r.pos d)) = true → ∀ v, v = leBytes (deviceDigest s r) →
    ∀ s1, s1 = (List.range 12).foldl (fun (t : State) k => t.setFld uCns F.cnsDigestDigest (v / 2 ^ (32 * k)) k) s →
    ∀ s2, s2 = (s1.setFld uCns F.cnsStatusInvalid (boolNat (!r.bad.isEmpty))).setFld uCns F.cnsStatusCurrent (boolNat r.bad.isEmpty) →
    ∀ s3, s3 = showCns { s2 with cns := { s2.cns with run := none } } →
    s3.cns.starting = true → takesPart s3 = true → s3.flag uCns F.cnsCtrlRoot = true →
    exec (.digestDone) s = .next (adopt s3 s3.digest)) ∧
  (∀ (s : State), ∀ r, s.computing = some r → (List.range 8).all (fun d => decide (16 * 22528 ≤ SMap.get 0 r.pos d)) = true → ∀ v, v = leBytes (deviceDigest s r) →
    ∀ s1, s1 = (List.range 12).foldl (fun (t : State) k => t.setFld uCns F.cnsDigestDigest (v / 2 ^ (32 * k)) k) s →
    ∀ s2, s2 = (s1.setFld uCns F.cnsStatusInvalid (boolNat (!r.bad.isEmpty))).setFld uCns F.cnsStatusCurrent (boolNat r.bad.isEmpty) →
    ∀ s3, s3 = showCns { s2 with cns := { s2.cns with run := none } } →
    (s3.cns.starting = false ∨ takesPart s3 = false ∨ s3.flag uCns F.cnsCtrlRoot = false) →
    exec (.digestDone) s = .next (compareOwn { s3 with cns := { s3.cns with starting := false } })) ∧
  (∀ (p : Packet) (s : State), forCensus s p = true → ctype p ≠ 2 → ctype p ≠ 3 → ctype p = 1 → takesPart s = true → s.flag uCns F.cnsCtrlRoot = false → cmsgRound p ≠ s.fld uCns F.cnsRoundRound → ∀ s1, s1 = (s.takeReq p).setFld uCns F.cnsRoundRound (cmsgRound p) →
    exec (.ref p) s = .next (adopt s1 (BitVec.ofNat 384 ((p.body.getD 0 0).toNat)))) ∧
  (∀ (p : Packet) (s : State), forCensus s p = true → ctype p = 2 → ∀ r, s.cns.round = some r → takesPart s = true → cmsgRound p = s.fld uCns F.cnsRoundRound → (cmsgPort p) ∉ r.got → r.done = false →
    exec (.summary p) s = .next (tryFinish ((s.takeReq p).setRound { r with
          got := NSet.add r.got (cmsgPort p)
          count := r.count + p.aux.toNat
          dissents := r.dissents + p.hdata.toNat % 2 ^ 32 }))) ∧
  (∀ (p : Packet) (s : State), forCensus s p = true → ctype p = 3 → takesPart s = true → cmsgRound p = s.fld uCns F.cnsRoundRound → ∀ r, s.cns.round = some r → ∀ s1, s1 = s.takeReq p →
    ∀ subject, subject = p.ext.toNat % 65536 →
    s.flag uCns F.cnsCtrlRoot = true →
    exec (.dissent p) s = .next (if r.done then s1 else s1.setRound (r.note subject))) ∧
  (∀ (p : Packet) (s : State), forCensus s p = true → ctype p = 3 → takesPart s = true → s.cns.round ≠ none → cmsgRound p = s.fld uCns F.cnsRoundRound → ∀ s1, s1 = s.takeReq p →
    ∀ subject, subject = p.ext.toNat % 65536 →
    s.flag uCns F.cnsCtrlRoot = false →
    exec (.dissent p) s = .next ((rolePorts s 1).foldl (fun (t : State) q => sendCmsg t q 3 subject 0 0 (BitVec.ofNat 384 (p.body.getD 0 0).toNat)) s1)) ∧
  (∀ (s : State), ∀ r, s.cns.round = some r → r.done = false → takesPart s = true → s.clocked 154 = true → ∀ s1, s1 = (if r.compared then s else dissent s r) →
    ∀ r1, s1.cns.round = some r1 →
    exec (.censusWaitExpire) s = .next (finishRound s1 r1))

/-- Each command of the PCIe controllers has its effect (R384, R385, R386, R387, R389, R391, R392, R393, R394, R395, R396). With the
conditions its rules set, on a controller whose domain has its clock, each command answers a next state with exactly these changes. Enable
fixes the bifurcation, the modes and the VF counts of the controller. An enabled port comes up at a speed and a width it can train to; a
drop clears it, sets LINK_DROP and raises class 0x09. A request of a function that exists to its mailbox (PF 0) or its BAR4 is performed
at once, one within its BAR0 waits its turn. A mailbox doorbell queues the request record, or marks an overrun while one is in progress.
An outbound memory write goes out posted, in TLPs of at most Max Payload Size, and is answered OK; a read goes out in requests of at most
Max Read Request Size and waits for its completions; each such request has its outcome with the last of its data, with a bad completion,
which is counted, or BUSY when its timer expires. A DMA doorbell by the channel's own function (or the device) writes PI, by another is
dropped and counted. A descriptor of a ring in host memory with room for it is checked: it has ended, waits at its FENCE for those before
it, or its transfer starts; one of a ring in device memory is read first. One at the head that has ended has STATUS and DONE written into
its ring, CI advances, its interrupt goes out where INT asks for it, and a bad status halts the channel. A function-level reset empties
and halts the function's channels. -/
def Obligations.PcieCommandsComplete : Prop :=
  (∀ (c : Fin 2) (s : State), ∀ u, u = uPci c → ∀ x, x = s.pciCtl c → s.flag u F.pciCtrlEn = false →
    exec (.pcieEnable c) s = .next ((s.setFld u F.pciCtrlEn 1).setPci c { x with
      bifur := s.flag u F.pciCtrlBifur
      modeA := s.fld u F.pciCtrlModeA
      modeB := s.fld u F.pciCtrlModeB
      totalVf := (List.range 8).foldl (fun m f => SMap.store 0 m f (s.fld u F.pciPfTotalVf f)) [] })) ∧
  (∀ (c : Fin 2) (r : PciReq) (s : State), s.flag (uPci c) F.pciCtrlEn = true → portUp s c r.port = true →
    (if r.port then (s.pciCtl c).modeB else (s.pciCtl c).modeA) = 0 → r.bar = .bar2 → r.vf = false → r.func = 0 →
    exec (.inboundRequest c r) s = .next (mailboxRequest s c r)) ∧
  (∀ (c : Fin 2) (port : Bool) (speed : BitVec 3) (width : BitVec 5) (s : State), s.flag (uPci c) F.pciCtrlEn = true → s.clocked (148 + c) = true →
    (port = false ∨ (s.pciCtl c).bifur = true) → 1 ≤ speed.toNat ∧ speed.toNat ≤ 5 → width.toNat ∈ [1, 2, 4, 8, 16] → ((s.pciCtl c).bifur = false ∨ width.toNat ≤ 8) →
    exec (.pcieLinkUp c port speed width) s = .next (showPort s c port 1 speed.toNat width.toNat)) ∧
  (∀ (c : Fin 2) (port : Bool) (s : State), s.flag (uPci c) F.pciCtrlEn = true → portUp s c port = true →
    exec (.pcieLinkDrop c port) s = .next (((showPort s c port 0 0 0).setFld (uPci c) F.pciStatusLinkDrop 1).raise (uPci c) 0x09)) ∧
  (∀ (c : Fin 2) (r : PciReq) (s : State), ∀ x, x = s.pciCtl c →
    s.flag (uPci c) F.pciCtrlEn = true → portUp s c r.port = true → (if r.port then x.modeB else x.modeA) = 0 → hasFunc s c r.vf r.func.toNat = true → r.bar = .bar0 →
    inBar0 s c r = true →
    exec (.inboundRequest c r) s = .next (pciRun (s.setPci c { x with inq := x.inq ++ [⟨r, false, []⟩] }) c)) ∧
  (∀ (c : Fin 2) (i : Nat) (s : State), s.clocked (148 + c) = true → ∀ o, (s.pciCtl c).ob[i]? = some o → o.stat = none →
    ∀ s1, s1 = (s.setFld (uPci c) F.pciStatusCplTmo 1).countSat (uPci c) F.pciCplTmoCntCount →
    exec (.completionTimeout c i) s = .next (pciRun (obDone s1 c i o .busy []) c)) ∧
  (∀ (c : Fin 2) (k : BitVec 8) (pi : BitVec 16) (fn : Option (Bool × BitVec 9)) (s : State), s.clocked (148 + c) = true → ∀ vf f, fn = some (vf, f) → boolNat vf = dmaFld s c k.toNat F.pciDmaCtrlVf → f.toNat = dmaFld s c k.toNat F.pciDmaCtrlFunc →
    exec (.dmaDoorbell c k pi fn) s = .next (writePi s c k.toNat pi.toNat)) ∧
  (∀ (c : Fin 2) (k : BitVec 8) (pi : BitVec 16) (fn : Option (Bool × BitVec 9)) (s : State), s.clocked (148 + c) = true → ∀ vf f, fn = some (vf, f) → (boolNat vf ≠ dmaFld s c k.toNat F.pciDmaCtrlVf ∨ f.toNat ≠ dmaFld s c k.toNat F.pciDmaCtrlFunc) →
    exec (.dmaDoorbell c k pi fn) s = .next (s.countSat (uPci c) F.pciDbDropCntCount)) ∧
  (∀ (c : Fin 2) (k : BitVec 8) (pi : BitVec 16) (fn : Option (Bool × BitVec 9)) (s : State), s.clocked (148 + c) = true → fn = none →
    exec (.dmaDoorbell c k pi fn) s = .next (writePi s c k.toNat pi.toNat)) ∧
  (∀ (c : Fin 2) (k : BitVec 8) (desc : BitVec 256) (s : State), s.clocked (148 + c) = true → ∀ ch, ch = k.toNat → ∀ l, l = s.flight c ch → ∀ v, v = desc.toNat →
    ∀ d : DmaDesc, d = { src := bitsOf v 63 0, dst := bitsOf v 127 64, len := bitsOf v 151 128, flags := bitsOf v 159 152, moved := 0, tag := none, chunk := 0, status := 0 } →
    dmaFld s c ch F.pciDmaCtrlEn ≠ 0 → dmaFld s c ch F.pciDmaStatHalted ≠ 1 → l.length < 4 → (dmaFld s c ch F.pciDmaCiCi + l.length) % 65536 ≠ dmaFld s c ch F.pciDmaPiPi → l.any (fun x => decide (1 < x.status)) = false →
    dmaFld s c ch F.pciDmaCtrlRingHost = 1 → ∀ s1, s1 = s.setFlight c ch (l ++ [d]) →
    ∀ st, st = descStatus s1 d →
    exec (.dmaDescriptorCheck c k desc) s = .next (pciRun (if st ≠ 0 then s1.putFlight c ch l.length { d with status := st }
      else if bitOf d.flags 3 = true ∧ l ≠ [] then s1.putFlight c ch l.length { d with stage := .fence }
      else dmaRead s1 c ch l.length d) c)) ∧
  (∀ (c : Fin 2) (k : BitVec 8) (desc : BitVec 256) (s : State), s.clocked (148 + c) = true → ∀ ch, ch = k.toNat → ∀ l, l = s.flight c ch →
    dmaFld s c ch F.pciDmaCtrlEn ≠ 0 → dmaFld s c ch F.pciDmaStatHalted ≠ 1 → l.length < 4 → (dmaFld s c ch F.pciDmaCiCi + l.length) % 65536 ≠ dmaFld s c ch F.pciDmaPiPi → l.any (fun x => decide (1 < x.status)) = false →
    dmaFld s c ch F.pciDmaCtrlRingHost = 0 → ∀ a, a = (dmaFld s c ch F.pciDmaRingHiAddr * 2 ^ 32 + dmaFld s c ch F.pciDmaRingLoAddr) / 32 * 32 + 32 * ((dmaFld s c ch F.pciDmaCiCi + l.length) % 2 ^ dmaFld s c ch F.pciDmaCtrlSize) →
    ∀ t, t = (takeTag s c).1 → ∀ s1, s1 = (takeTag s c).2.setFlight c ch (l ++ [{ parseDesc 0 with src := a, tag := some t, stage := .fetch }]) →
    exec (.dmaDescriptorCheck c k desc) s = .next (pciRun (ingress s1.draw (pciCode c) (byteReq opRead (s1.fresh % 3) t a 32 [])) c)) ∧
  (∀ (c : Fin 2) (vf : Bool) (func : BitVec 9) (s : State),
    exec (.functionLevelReset c vf func) s = .next ((List.range 256).foldl (fun (t : State) k =>
    if resets s c k vf func.toNat then
      dropReads ((t.setFlight c k []).setFld (uPci c) F.pciDmaStatHalted 1 k) c k
    else t) s)) ∧
  (∀ (c : Fin 2) (seq : BitVec 16) (m : Mailbox) (s : State), s.flag (uPci c) F.pciCtrlEn = true → portUp s c false = true → (s.pciCtl c).modeA = 0 →
    m = s.mailbox c → ∀ s1, s1 = s.setMailbox c { m with busy := true, ready := false } →
    exec (.mailboxDoorbell c seq) s = .next (if m.busy then s.setMailbox c { m with overrun := true }
      else { s1 with dict := { s1.dict with queue := s1.dict.queue ++ [⟨2 + c.val, seq.toNat, .mailbox c, recordArea m.request⟩] } })) ∧
  (∀ (p : Packet) (c off r : Nat) (port : Bool) (s : State), pciOf p = some c → s.arrived p = true → mapAddr p.a48 = .pcie c off → r = off / 2 ^ 36 →
    s.fld (uPci c) F.pciObType r = 1 → port = s.flag (uPci c) F.pciObPort r → portUp s c port = true → p.op = opWrite →
    exec (.outboundRequest p) s = .next ((hostWrite s c port (s.fld (uPci c) F.pciObFunc r) (obHost s c r + off % 2 ^ 36) p.writeBytes).reply p .ok)) ∧
  (∀ (p : Packet) (c off r fn : Nat) (port : Bool) (s : State), pciOf p = some c → s.arrived p = true → mapAddr p.a48 = .pcie c off → r = off / 2 ^ 36 →
    s.fld (uPci c) F.pciObType r = 1 → port = s.flag (uPci c) F.pciObPort r → portUp s c port = true → p.op = opRead → fn = s.fld (uPci c) F.pciObFunc r →
    ∀ l, l = hostReads c fn p.rangeLen → (s.pciCtl c).ob.length + l.length ≤ 768 →
    ∀ s1, s1 = l.foldl (fun t q => sendTlp t c (.read port fn (obHost s c r + off % 2 ^ 36 + q.1) q.2)) (s.takeReq p) →
    exec (.outboundRequest p) s = .next (s1.setPci c { s1.pciCtl c with
      ob := (s1.pciCtl c).ob ++ l.map (fun q => { req := some p, chan := 0, bytes := q.2, data := [] }) })) ∧
  (∀ (c : Fin 2) (i : Nat) (data got : List Byte) (x : PciCtl) (o : PciOb) (s : State), s.clocked (148 + c) = true → x = s.pciCtl c → x.ob[i]? = some o → o.stat = none → got = o.data ++ data →
    exec (.outboundCompletion c i .success data) s = .next (pciRun (if o.bytes ≤ got.length then obDone s c i o .ok got
      else s.setPci c { x with ob := x.ob.set i { o with data := got } }) c)) ∧
  (∀ (c : Fin 2) (i : Nat) (w : CplOutcome) (data : List Byte) (o : PciOb) (s : State), s.clocked (148 + c) = true → (s.pciCtl c).ob[i]? = some o → o.stat = none → w ≠ .success →
    ∀ s1, s1 = s.countSat (uPci c) F.pciObErrCntCount →
    exec (.outboundCompletion c i w data) s = .next (pciRun (obDone s1 c i o (match w with
      | .success => .ok
      | .unsupported => .decode
      | .abort => .prot
      | .retry => .busy
      | .poisoned => .poison) (o.data ++ data)) c)) ∧
  (∀ (c : Fin 2) (k : BitVec 8) (s : State), dmaFld s c k.toNat F.pciDmaCtrlEn ≠ 1 →
    exec (.dmaEnable c k) s = .next ((s.setFld (uPci c) F.pciDmaCtrlEn 1 k.toNat).setFld (uPci c) F.pciDmaStatHalted 0 k.toNat)) ∧
  (∀ (c : Fin 2) (k : BitVec 8) (d : DmaDesc) (rest : List DmaDesc) (ch addr : Nat) (s : State), s.clocked (148 + c) = true → ch = k.toNat → s.flight c ch = d :: rest →
    d.status ≠ 0 → addr = ringEntry s c ch 0 →
    ∀ s1, s1 = (if d.status = 1 then (shiftReads s c ch).setFlight c ch rest else (dropReads s c ch).setFlight c ch []) →
    ∀ s2, s2 = (ringWrite (ringWrite s1 c ch (addr + 24) [BitVec.ofNat 8 d.status]) c ch (addr + 28) (toLeBytes 4 d.moved)).setFld (uPci c) F.pciDmaCiCi
      (dmaFld s c ch F.pciDmaCiCi + 1) ch →
    ∀ s3, s3 = (if bitOf d.flags 2 then dmaInterrupt s2 c ch else s2) →
    exec (.dmaWriteBack c k) s = .next (pciRun (if d.status = 1 then passFence s3 c ch
      else (s3.setFld (uPci c) F.pciDmaStatHalted 1 ch).setFld (uPci c) F.pciDmaStatLast d.status ch) c)) ∧
  (∀ (c : Fin 2) (r : PciReq) (s : State), s.flag (uPci c) F.pciCtrlEn = true → portUp s c r.port = true →
    (if r.port then (s.pciCtl c).modeB else (s.pciCtl c).modeA) = 0 → hasFunc s c r.vf r.func.toNat = true → r.bar = .bar4 →
    exec (.inboundRequest c r) s = .next (bar4Request s c r))

/-- Each command of the pins has its effect (R542, R544, R545, R546, R548, R549). The pads of a bank that does not sleep are those given with
the clock. At the first bank clock a pin whose function changes holds its pad as it is driven; two later its new function drives. A GPIO
write changes only pins its sender owns and is answered OK. A pattern-match unit whose condition has held a new state starts again; where
MODE selects that edge it is marked FIRED and, with SWEN, sends its EVT_SWSET write with ICLS 4 unless its last one is still outstanding.
A conversion makes the next ADC channel's code valid: the code given where one pin is connected, else 0. -/
def Obligations.PinCommandsComplete : Prop :=
  (∀ (i : Fin 192) (pads : BitVec 192) (h : Nat) (s s1 : State), s.bankAsleep i = false → s1 = setPinPads s pads → SMap.find s1.pin.hold i = some h →
    exec (.functionSwitch i true pads) s =
      .next (noteConflicts { s1 with pin := { s1.pin with hold := SMap.erase s1.pin.hold i, func := SMap.erase s1.pin.func i } })) ∧
  (∀ (i : Fin 192) (pads : BitVec 192) (f : Nat) (s s1 : State), s.bankAsleep i = false → s1 = setPinPads s pads → SMap.find s1.pin.func i = some f →
    SMap.find s1.pin.hold i = none →
    exec (.functionSwitch i false pads) s = .next (noteConflicts { s1 with pin := { s1.pin with hold := SMap.put s1.pin.hold i (driveCode (padDrive s1 i)) } })) ∧
  (∀ (bank : Fin 6) (oe : Bool) (value : Word32) (icls : BitVec 3) (src : BitVec 11) (s : State), ∀ u, u = (if bank.val < 5 then uPin else uAo) →
    ∀ f, f = (if bank.val < 5 then (if oe then F.pinOeOe else F.pinDoutDout) else if oe then F.pinAoOeOe else F.pinAoDoutDout) →
    ∀ k, k = (if bank.val < 5 then bank.val else 0) →
    ∀ new, new = ((List.range 32).map (fun t => boolNat (bitOf (if ownsPin s (bank * 32 + t) icls.toNat src.toNat then value.toNat else s.fld u f k) t) * 2 ^ t)).sum →
    ∀ s1, s1 = s.setFld u f new k →
    exec (.gpioWrite bank oe value icls src) s = .next ((if new = value.toNat % 2 ^ 32 then s1 else s1.countSat uPin F.pinDenyCntCount).answer .ok)) ∧
  (∀ (b : Fin 5) (k : Fin 8) (pads : Word32) (s : State), s.dom 158 = domRun → s.flag uPin F.pinPmCtrlEn b k = true → ∀ kept, kept = s.pin.pads.filter (fun i => i / 32 ≠ b.val) →
    ∀ s1 : State, s1 = { s with pin := { s.pin with
      pads := ((List.range 32).filter (fun t => pads.getLsbD t)).foldl (fun l t => NSet.add l (b * 32 + t)) kept, tick := false } } →
    ∀ was, was = s1.pin.cond.contains (b * 8 + k) →
    ∀ now, now = pmCondition s1 b k →
    now ≠ was → ∀ s2, s2 = pmStart s1 b k →
    ∀ mode, mode = s2.fld uPin F.pinPmCtrlMode b k →
    mode = 2 ∨ (mode = 1 ∧ now = false) ∨ (mode ≠ 1 ∧ now = true) → ∀ s3, s3 = s2.setFld uPin F.pinPmStatFired (withBit (s2.fld uPin F.pinPmStatFired b) k true) b →
    s3.flag uPin F.pinPmCtrlSwen b k = true →
    exec (.patternFire b k pads) s = .next (if (s3.netPort (codeOf 96 9)).outst.any (fun o => o.req.tag.toNat == b * 8 + k) then s3
      else ingress s3.draw (codeOf 96 9) { byteReq opWrite (s3.fresh % 3) (b * 8 + k) 0x0E0024004400 4 (toLeBytes 4 (s3.fld uPin F.pinPmCtrlSwnum b k)) with icls := 4 })) ∧
  (∀ (b : Fin 5) (k : Fin 8) (pads : Word32) (s : State), s.dom 158 = domRun → s.flag uPin F.pinPmCtrlEn b k = true → ∀ kept, kept = s.pin.pads.filter (fun i => i / 32 ≠ b.val) →
    ∀ s1 : State, s1 = { s with pin := { s.pin with pads := ((List.range 32).filter (fun t => pads.getLsbD t)).foldl (fun l t => NSet.add l (b * 32 + t)) kept, tick := false } } →
    ∀ was, was = s1.pin.cond.contains (b * 8 + k) →
    ∀ now, now = pmCondition s1 b k →
    now ≠ was → ∀ s2, s2 = pmStart s1 b k →
    ∀ mode, mode = s2.fld uPin F.pinPmCtrlMode b k →
    mode = 2 ∨ (mode = 1 ∧ now = false) ∨ (mode ≠ 1 ∧ now = true) → ∀ s3, s3 = s2.setFld uPin F.pinPmStatFired (withBit (s2.fld uPin F.pinPmStatFired b) k true) b →
    s3.flag uPin F.pinPmCtrlSwen b k = false →
    exec (.patternFire b k pads) s = .next s3) ∧
  (∀ (b : Fin 5) (k : Fin 8) (pads : Word32) (s : State), s.dom 158 = domRun → s.flag uPin F.pinPmCtrlEn b k = true → ∀ kept, kept = s.pin.pads.filter (fun i => i / 32 ≠ b.val) →
    ∀ s1 : State, s1 = { s with pin := { s.pin with pads := ((List.range 32).filter (fun t => pads.getLsbD t)).foldl (fun l t => NSet.add l (b * 32 + t)) kept, tick := false } } →
    ∀ was, was = s1.pin.cond.contains (b * 8 + k) →
    ∀ now, now = pmCondition s1 b k →
    now ≠ was → ∀ s2, s2 = pmStart s1 b k →
    ∀ mode, mode = s2.fld uPin F.pinPmCtrlMode b k →
    mode ≠ 2 → (mode ≠ 1 ∨ now = true) → (mode = 1 ∨ now = false) →
    exec (.patternFire b k pads) s = .next s2) ∧
  (∀ (code : BitVec 12) (s : State), ∀ k, k = s.pin.adcNext % 16 →
    ∀ s1 : State, s1 = { s with pin := { s.pin with adcNext := (k + 1) % 16 } } →
    ∀ v, v = (match signalPins s (160 + k) with | [_] => code.toNat | _ => 0) →
    exec (.adcConversion code) s = .next ((s1.setFld uPin F.pinAdcResValid 1 k).setFld uPin F.pinAdcResCode v k))

/-- The oscillator and PLL commands have their effects (R399, R404, R405, R406, R408). A crystal that stays within 2 % of the running HF
oscillator is qualified, and SREF follows the controls. A measurement over an interval of the source, which is taken once, is discarded
and counted where it is more than 2 % from its expected count; any other is kept: ERR, CODE and LOCKED follow from the nearest number of
ppm. EN of a PLL that firmware programs is set where the VCO and every consumer's output are in range, and every region's records are
judged anew; clearing it clears LOCK and STANDBY. An enabled PLL locks. A PLL that feeds no running domain enters STANDBY. The way a tie
is rounded is a free value of the model (log entry 10). -/
def Obligations.OscillatorAndPllCommandsComplete : Prop :=
  (∀ (s : State), s.flag uClk F.clkOscStatusHfRun = true → s.clk.fallback = false → s.mode.dormant = false →
    exec (.xtalQualify) s = .next (settleOsc (s.setFld uClk F.clkOscStatusXtalQual 1))) ∧
  (∀ (count : Nat) (s : State), ∀ e, trimExpected s = some e → s.flag uClk F.clkOscStatusHfRun = true → e ≠ 0 → ∀ dev : Int, dev = (count : Int) - e →
    e < 50 * dev.natAbs →
    exec (.trimMeasurement count e) s = .next ((takeMark s).countSat uClk F.clkTrimCntDiscard)) ∧
  (∀ (count : Nat) (s : State), ∀ e, trimExpected s = some e → s.flag uClk F.clkOscStatusHfRun = true → e ≠ 0 → ∀ dev : Int, dev = (count : Int) - e →
    50 * dev.natAbs ≤ e → ∀ n, n = nearest (takeMark s) (dev * 1000000) e →
    exec (.trimMeasurement count e) s = .next (keepMeasure (takeMark s) n.1 n.2)) ∧
  (∀ (k : Fin 64) (s : State), pllByFirmware k = true → s.flag uClk F.clkPllCfgEn k = false → s.vcoInRange k = true → s.consumersFit k (s.vfCur 2) = true →
    exec (.pllEnable k true) s = .next (s.setFld uClk F.clkPllCfgEn 1 k).noteAllRecords) ∧
  (∀ (k : Fin 64) (s : State), pllByFirmware k = true →
    exec (.pllEnable k false) s = .next (((s.setFld uClk F.clkPllCfgEn 0 k).setFld uClk F.clkPllCfgLock 0 k).setFld uClk F.clkPllOutStandby 0 k)) ∧
  (∀ (k : Fin 64) (s : State), s.flag uClk F.clkPllCfgEn k = true →
    exec (.pllLock k) s = .next (s.setFld uClk F.clkPllCfgLock 1 k)) ∧
  (∀ (k : Fin 64) (s : State), ∀ feeds, feeds = ((pllConsumers s k).any (fun c => s.regionRuns c.1) || (k.val == 52 && !s.clk.spanOff)) →
    pllByFirmware k = true → s.fld uClk F.clkPllIdleUs ≠ 0 → s.flag uClk F.clkPllCfgEn k = true → feeds = false →
    exec (.pllStandby k) s = .next (s.setFld uClk F.clkPllOutStandby 1 k))

/-- The clock-domain commands have their effects (R411, R412, R413). GATE, OFF and an automatic close make a running domain CLOSING; OFF takes
a gated region off at once, or is denied while the region refuses. RUN wakes a gated or off domain, and a closing one is noted to be
woken. READY, given where no request is outstanding, stops the clock and the domain is gated or off; a refusal, a region that refuses to
be off and a missing answer deny the close, the last with class 0x0F and CLK_DENY. A woken domain runs again. -/
def Obligations.DomainCommandsComplete : Prop :=
  (∀ (i : Fin 160) (s : State), i ≠ 156 → i ≠ 157 → ∀ s1, s1 = s.setFld uClk F.clkDomReq 1 i → s1.dom i = domRun →
    ∀ s2, s2 = s1.setDom i domClosing →
    exec (.domainGate i) s = .next { s2 with clk := { s2.clk with offs := NSet.del s2.clk.offs i } }) ∧
  (∀ (n : Fin 128) (s : State), s.dom n = domGated → refusesOff s n = false →
    exec (.domainOff n) s = .next ((s.setFld uClk F.clkDomReq 2 n).setDom n domOff)) ∧
  (∀ (n : Fin 128) (s : State), s.dom n = domGated → ∀ s1, s1 = s.setFld uClk F.clkDomReq 2 n → refusesOff s n = true →
    exec (.domainOff n) s = .next (denyClose s1 n)) ∧
  (∀ (n : Fin 128) (s : State), s.dom n = domRun → ∀ s1, s1 = s.setFld uClk F.clkDomReq 2 n → s1.dom n = domRun → ∀ s2, s2 = s1.setDom n domClosing →
    exec (.domainOff n) s = .next { s2 with clk := { s2.clk with offs := NSet.add s2.clk.offs n } }) ∧
  (∀ (i : Fin 160) (s : State), i ≠ 156 → i ≠ 157 → ∀ s1, s1 = s.setFld uClk F.clkDomReq 0 i →
    (s1.dom i = domGated → exec (.domainRun i) s = .next ((s1.setDom i domWaking).setFld uClk F.clkDomReq 0 i)) ∧
    (s1.dom i = domOff → exec (.domainRun i) s = .next (({ s1 with clk := { s1.clk with fromOff := NSet.add s1.clk.fromOff i } }.setDom i domWaking).setFld uClk F.clkDomReq 0 i))) ∧
  (∀ (i : Fin 160) (s : State), i ≠ 156 → i ≠ 157 → ∀ s1, s1 = s.setFld uClk F.clkDomReq 0 i → s1.dom i = domClosing →
    exec (.domainRun i) s = .next (({ s1 with clk := { s1.clk with wakes := NSet.add s1.clk.wakes i } } : State).setFld uClk F.clkDomReq 0 i)) ∧
  (∀ (i : Fin 160) (s : State), i ≠ 156 → i ≠ 157 → s.flag uClk F.clkDomAuto i = true → s.fld uClk F.clkIdleCycles ≠ 0 → s.dom i = domRun →
    ∀ s1, s1 = s.setDom i domClosing →
    exec (.autoClose i) s = .next { s1 with clk := { s1.clk with offs := NSet.del s1.clk.offs i } }) ∧
  (∀ (i : Fin 160) (s : State), s.dom i = domClosing → answersReady s i = true → i.val ∈ s.clk.offs → refusesOff s i = true →
    exec (.closeReady i) s = .next (settleMoves (denyClose s i))) ∧
  (∀ (i : Fin 160) (s : State), s.dom i = domClosing → answersReady s i = true → (i.val ∉ s.clk.offs ∨ refusesOff s i = false) → ∀ s1, s1 = domStops s i →
    ∀ s2, s2 = s1.setDom i (if s.clk.offs.contains i.val then domOff else domGated) →
    exec (.closeReady i) s = .next (settleMoves (wakeClosed { s2 with clk := { s2.clk with offs := NSet.del s2.clk.offs i } } i))) ∧
  (∀ (i : Fin 160) (s : State), s.dom i = domClosing →
    exec (.closeRefuse i) s = .next (settleMoves (denyClose s i))) ∧
  (∀ (i : Fin 160) (s : State), s.dom i = domClosing → s.clk.fallback = false → ∀ s1, s1 = denyClose s i →
    ∀ s2, s2 = (if s1.flag uClk F.clkDenyValid then s1 else (s1.setFld uClk F.clkDenyValid 1).setFld uClk F.clkDenyDomain i) →
    exec (.closeTimeout i) s = .next (settleMoves (s2.raise uClk 0x0F i))) ∧
  (∀ (i : Fin 160) (s : State), s.dom i = domWaking →
    exec (.wakeDone i) s = .next (settleMoves (domStarts (s.setDom i domRun) i)))

/-- The performance-point commands have their effects (R416). A TARGET written while a sequence runs is kept for later; otherwise a raise
begins with the voltage and a lower of group 0 or 1 with the frequency. A voltage within 10 mV of the target settles the sequence, one
retry is allowed, and a fault, a second miss or PMBus without pins fails it. A settled sequence completes or fails with its event, and a
TARGET written meanwhile is taken up. -/
def Obligations.PerformancePointCommandsComplete : Prop :=
  (∀ (g : Fin 3) (target : Fin 8) (s : State), ∀ s1, s1 = s.setFld uClk F.clkVfCtrlTarget target g → s.flag uClk F.clkVfStatusBusy g = true →
    exec (.vfTarget g target) s = .next s1) ∧
  (∀ (g : Fin 3) (target : Fin 8) (s : State), ∀ s1, s1 = s.setFld uClk F.clkVfCtrlTarget target g → s.flag uClk F.clkVfStatusBusy g = false →
    ∀ t, t = s1.fld uClk F.clkVfCtrlTarget g → t < s1.vfCur g → ∀ s2, s2 = s1.setFld uClk F.clkVfStatusBusy 1 g →
    exec (.vfTarget g target) s = .next { s2 with clk := { s2.clk with vf := SMap.put s1.clk.vf g { target := t, raise := true } } }) ∧
  (∀ (g : Fin 3) (target : Fin 8) (s : State), g.val < 2 → ∀ s1, s1 = s.setFld uClk F.clkVfCtrlTarget target g → s.flag uClk F.clkVfStatusBusy g = false →
    ∀ t, t = s1.fld uClk F.clkVfCtrlTarget g → s1.vfCur g < t → ∀ s2, s2 = switchPoint s1 g t → ∀ s3, s3 = s2.setFld uClk F.clkVfStatusBusy 1 g →
    exec (.vfTarget g target) s = .next { s3 with clk := { s3.clk with vf := SMap.put s2.clk.vf g { target := t, raise := false } } }) ∧
  (∀ (g : Fin 3) (millivolt : BitVec 16) (fault : Bool) (s : State), ∀ v, SMap.find s.clk.vf g = some v → v.settled = false → ∀ want, want = (Config.avsMillivolt g v.target).toNat →
    ∀ close, close = (decide (millivolt.toNat ≤ want + 10) && decide (want ≤ millivolt.toNat + 10)) →
    fault = true ∨ pmbPins s = false →
    exec (.vfSettle g millivolt fault) s = .next (s.setVf g { v with settled := true, failed := true })) ∧
  (∀ (g : Fin 3) (millivolt : BitVec 16) (fault : Bool) (s : State), ∀ v, SMap.find s.clk.vf g = some v → v.settled = false → ∀ want, want = (Config.avsMillivolt g v.target).toNat →
    ∀ close, close = (decide (millivolt.toNat ≤ want + 10) && decide (want ≤ millivolt.toNat + 10)) →
    fault = false → pmbPins s = true → close = true →
    exec (.vfSettle g millivolt fault) s = .next (s.setVf g { v with settled := true })) ∧
  (∀ (g : Fin 3) (millivolt : BitVec 16) (fault : Bool) (s : State), ∀ v, SMap.find s.clk.vf g = some v → v.settled = false → ∀ want, want = (Config.avsMillivolt g v.target).toNat →
    ∀ close, close = (decide (millivolt.toNat ≤ want + 10) && decide (want ≤ millivolt.toNat + 10)) →
    fault = false → pmbPins s = true → close = false → v.retried = true →
    exec (.vfSettle g millivolt fault) s = .next (s.setVf g { v with settled := true, failed := true })) ∧
  (∀ (g : Fin 3) (millivolt : BitVec 16) (fault : Bool) (s : State), ∀ v, SMap.find s.clk.vf g = some v → v.settled = false → ∀ want, want = (Config.avsMillivolt g v.target).toNat →
    ∀ close, close = (decide (millivolt.toNat ≤ want + 10) && decide (want ≤ millivolt.toNat + 10)) →
    fault = false → pmbPins s = true → close = false → v.retried = false →
    exec (.vfSettle g millivolt fault) s = .next (s.setVf g { v with retried := true })) ∧
  (∀ (g : Fin 3) (s : State), ∀ v, SMap.find s.clk.vf g = some v → v.settled = true → ∀ s1 : State, s1 = { s.setFld uClk F.clkVfStatusBusy 0 g with clk := { s.clk with vf := SMap.erase s.clk.vf g } } →
    ∀ s2, s2 = (if v.failed then ((if v.raise then s1 else s1.setFld uClk F.clkVfStatusVfail 1 g).setFld uClk F.clkVfStatusFail 1 g).edge (8 + g.val) else ((if v.raise then switchPoint s1 g v.target else s1).setFld uClk F.clkVfStatusVfail 0 g).edge (5 + g.val)) →
    s2.fld uClk F.clkVfCtrlTarget g = v.target →
    exec (.vfDone g) s = .next (settleMoves s2)) ∧
  (∀ (g : Fin 3) (s : State), ∀ v, SMap.find s.clk.vf g = some v → v.settled = true → ∀ s1 : State, s1 = { s.setFld uClk F.clkVfStatusBusy 0 g with clk := { s.clk with vf := SMap.erase s.clk.vf g } } →
    ∀ s2, s2 = (if v.failed then ((if v.raise then s1 else s1.setFld uClk F.clkVfStatusVfail 1 g).setFld uClk F.clkVfStatusFail 1 g).edge (8 + g.val) else ((if v.raise then switchPoint s1 g v.target else s1).setFld uClk F.clkVfStatusVfail 0 g).edge (5 + g.val)) →
    s2.fld uClk F.clkVfCtrlTarget g ≠ v.target →
    exec (.vfDone g) s = .next (settleMoves (startVf s2 g)))

/-- CONTAIN, its causes and its resume, and the oscillator fallbacks (R400, R401, R402, R403, R434, R435, R452, R453, R454). CONTAIN commanded
by ICLS 4 from a mode that may enter it records PREV, cause 5 and RESUMABLE, idles the lanes and PCIe ports, puts DRAM in self-refresh,
aborts a load and stops every domain; otherwise it is refused and only REFUSED is set. RESUME with RESUMABLE 1 starts everything again and
returns to the mode held before (to SERVICE with the regions stopped again); otherwise it is refused. A junction at or above CRIT enters
CONTAIN with cause 3 and class 0x0C; a core rail lost while PWR_REQ is high with cause 4. RESUMABLE follows its condition. A settled HF
oscillator ends a fallback; a crystal count more than MON_TOL off, or a crystal without edges, drops the crystal, sets TRIP and raises
class 0x0B; the fallback that takes too long, an HF count more than 5 % off while SREF is the HF oscillator and a failed self-test enter
CONTAIN. What the burin's, lanes' and DRAM's own part is, is said by the functions named. -/
def Obligations.ContainCommandsComplete : Prop :=
  (∀ (icls : BitVec 3) (s : State), icls = 4 → s.mode.dormant = false → s.mode.overlay ≠ .contain → s.modeBusy = false →
    ∀ under, under = (if s.mode.overlay = .drowse ∧ !s.mode.moving.isEmpty ∧ !s.mode.exiting then .none else s.mode.overlay) →
    ∀ prev, prev = ({ s with mode := { s.mode with overlay := under } } : State).modeNo →
    ∀ s1, s1 = (((s.setFld uMgt F.mgtModePrev prev).setFld uMgt F.mgtModeStatusCause 5).setFld uMgt F.mgtModeStatusContained 1).setFld
      uMgt F.mgtModeStatusResumable (boolNat !s.mode.never) →
    ∀ s2, s2 = stopDomains (cfgAbort (restDram (idlePcie (idleLanes s1)))) allDomains →
    ∀ s3 : State, s3 = { s2 with
      clk := { s2.clk with halted := true }
      mode := { s2.mode with overlay := .contain, under := under, moving := [], exiting := false } } →
    exec (.contain icls) s = .next (s3.answer .ok)) ∧
  (∀ (icls : BitVec 3) (s : State), icls = 4 → s.mode.dormant = true ∨ s.mode.overlay = .contain ∨ s.modeBusy = true →
    exec (.contain icls) s = .next ((s.setFld uMgt F.mgtModeStatusRefused 1).answer .ok)) ∧
  (∀ (icls : BitVec 3) (s : State), icls = 4 → s.mode.overlay = .contain → s.mode.dormant = false → s.flag uMgt F.mgtModeStatusResumable = true →
    ∀ s1, s1 = (restart s).setFld uMgt F.mgtModeStatusResumable 0 → s1.mode.under ≠ .service →
    exec (.resume icls) s = .next (({ s1 with mode := { s1.mode with overlay := s1.mode.under, under := .none } } : State).answer .ok)) ∧
  (∀ (icls : BitVec 3) (s : State), icls = 4 → s.mode.overlay = .contain → s.mode.dormant = false → s.flag uMgt F.mgtModeStatusResumable = true →
    ∀ s1, s1 = (restart s).setFld uMgt F.mgtModeStatusResumable 0 → s1.mode.under = .service →
    exec (.resume icls) s = .next ((stopDomains ({ s1 with mode := { s1.mode with overlay := .service, under := .none } } : State) regionDomains).answer .ok)) ∧
  (∀ (icls : BitVec 3) (s : State), icls = 4 → s.mode.overlay ≠ .contain ∨ s.mode.dormant = true ∨ s.flag uMgt F.mgtModeStatusResumable = false →
    exec (.resume icls) s = .next ((s.setFld uMgt F.mgtModeStatusRefused 1).answer .ok)) ∧
  (∀ (cause : ContainCause) (s : State), s.mode.dormant = false → ∀ c, cause = .thermal c → s.fld uMgt F.mgtThermCrit ≤ c.toNat → s.mode.overlay ≠ .contain →
    exec (.containCause cause) s = .next (enterContain (s.raise uMgt 0x0C c.toNat) 3)) ∧
  (∀ (cause : ContainCause) (s : State), s.mode.dormant = false → ∀ rails, cause = .supply rails → rails ≠ 0 → s.mode.pwrReq = true → ∀ lost, lost = ((List.range 7).filter (fun i => rails.getLsbD i)).foldl NSet.add s.mode.lost →
    ∀ good, good = s.fld uMgt F.mgtSupplyCore &&& (127 - rails.toNat) →
    ∀ s1 : State, s1 = ({ s.setFld uMgt F.mgtSupplyCore good with mode := { s.mode with lost := lost, never := s.mode.never || lost.any (fun i => i < 5) } }) →
    ∀ s2, s2 = (if s1.mode.never then s1.setFld uMgt F.mgtModeStatusResumable 0 else s1) →
    exec (.containCause cause) s = .next (enterContain s2 4)) ∧
  (∀ (celsius : BitVec 8) (s : State), s.mode.overlay = .contain → s.mode.never = false → ∀ ok, ok = (match s.fld uMgt F.mgtModeStatusCause with | 1 => s.flag uClk F.clkOscStatusHfRun | 2 => s.flag uClk F.clkOscStatusHfRun | 3 => decide (celsius.toNat + 10 ≤ s.fld uMgt F.mgtThermCrit) | _ => true) →
    ok = true → ∀ s1, s1 = s.setFld uMgt F.mgtModeStatusResumable 1 →
    s.fld uMgt F.mgtModeStatusCause = 4 →
    exec (.resumable celsius) s = .next { s1.setFld uMgt F.mgtSupplyCore 127 with mode := { s1.mode with lost := [] } }) ∧
  (∀ (celsius : BitVec 8) (s : State), s.mode.overlay = .contain → s.mode.never = false → ∀ ok, ok = (match s.fld uMgt F.mgtModeStatusCause with | 1 => s.flag uClk F.clkOscStatusHfRun | 2 => s.flag uClk F.clkOscStatusHfRun | 3 => decide (celsius.toNat + 10 ≤ s.fld uMgt F.mgtThermCrit) | _ => true) →
    ok = true → ∀ s1, s1 = s.setFld uMgt F.mgtModeStatusResumable 1 →
    s.fld uMgt F.mgtModeStatusCause ≠ 4 →
    exec (.resumable celsius) s = .next { s1 with clk := { s1.clk with hfBarred := false } }) ∧
  (∀ (c : Fin 8) (s : State), s.mode.overlay = .contain → c.val ∉ s.mode.selfRefresh →
    exec (.contentLost c) s = .next (s.loseContents c)) ∧
  (∀ (s : State), s.clk.hfStart = true → s.flag uClk F.clkOscStatusHfRun = false → ∀ s1 : State, s1 = { s.setFld uClk F.clkOscStatusHfRun 1 with clk := { s.clk with hfStart := false } } →
    s.clk.fallback = true → s.clk.hfBarred = false → s.mode.overlay ≠ .contain → ∀ s2 : State, s2 = { s1.setFld uClk F.clkOscStatusSref 0 with clk := { s1.clk with fallback := false } } →
    exec (.hfSettle) s = .next (showQual (restoreDomains s2))) ∧
  (∀ (s : State), s.clk.hfStart = true → s.flag uClk F.clkOscStatusHfRun = false → ∀ s1 : State, s1 = { s.setFld uClk F.clkOscStatusHfRun 1 with clk := { s.clk with hfStart := false } } →
    (s.clk.fallback = false ∨ s.clk.hfBarred = true ∨ s.mode.overlay = .contain) → s.clk.fallback = true →
    exec (.hfSettle) s = .next s1) ∧
  (∀ (s : State), s.clk.hfStart = true → s.flag uClk F.clkOscStatusHfRun = false → ∀ s1 : State, s1 = { s.setFld uClk F.clkOscStatusHfRun 1 with clk := { s.clk with hfStart := false } } →
    (s.clk.fallback = false ∨ s.clk.hfBarred = true ∨ s.mode.overlay = .contain) → s.clk.fallback = false →
    exec (.hfSettle) s = .next (settleOsc { s1 with clk := { s1.clk with hfBarred := false } })) ∧
  (∀ (count : Option Nat) (s : State), s.flag uClk F.clkOscCtrlMonEn = true → s.flag uClk F.clkOscStatusXtalQual = true →
    (count = none ∨ ∃ (n : Nat) (e : Int), count = some n ∧ e = (if s.flag uClk F.clkOscStatusHfRun then 500 else 1526) ∧ (s.fld uClk F.clkMonTol : Int) * e < 1000 * ((n : Int) - e).natAbs) →
    ∀ s1, s1 = ((s.setFld uClk F.clkOscStatusXtalQual 0).setFld uClk F.clkOscStatusTrip 1).raise uClk 0x0B →
    ∀ s2, s2 = (if s.fld uClk F.clkOscCtrlTrimSrc = 1 then loseLock s1 else s1) →
    s.srefXtal = false ∨ s.flag uClk F.clkOscStatusHfRun = true →
    exec (.monitorTrip count) s = .next (showQual (s2.setFld uClk F.clkOscStatusSref 0))) ∧
  (∀ (count : Option Nat) (s : State), s.flag uClk F.clkOscCtrlMonEn = true → s.flag uClk F.clkOscStatusXtalQual = true →
    (count = none ∨ ∃ n : Nat, count = some n ∧ (s.fld uClk F.clkMonTol : Int) * 1526 < 1000 * ((n : Int) - 1526).natAbs) →
    ∀ s1, s1 = ((s.setFld uClk F.clkOscStatusXtalQual 0).setFld uClk F.clkOscStatusTrip 1).raise uClk 0x0B →
    ∀ s2, s2 = (if s.fld uClk F.clkOscCtrlTrimSrc = 1 then loseLock s1 else s1) →
    s.srefXtal = true → s.flag uClk F.clkOscStatusHfRun = false → ∀ s3, s3 = stopDomains s2 allDomains →
    exec (.monitorTrip count) s = .next (showQual { s3 with clk := { s3.clk with fallback := true, hfStart := true, halted := true } })) ∧
  (∀ (s : State), s.clk.fallback = true →
    exec (.fallbackTimeout) s = .next (enterContain (s.setFld uClk F.clkOscStatusFbfail 1) 1)) ∧
  (∀ (count : Nat) (s : State), s.flag uClk F.clkOscStatusHfRun = true → 3052 < 20 * ((count : Int) - 3052).natAbs → ∀ s1, s1 = (s.setFld uClk F.clkOscStatusHffail 1).raise uClk 0x0B →
    s.srefXtal = true →
    exec (.hfCheckFail count) s = .next { s1.setFld uClk F.clkOscStatusHfRun 0 with clk := { s1.clk with hfBarred := true, hfStart := false } }) ∧
  (∀ (count : Nat) (s : State), s.flag uClk F.clkOscStatusHfRun = true → 3052 < 20 * ((count : Int) - 3052).natAbs → ∀ s1, s1 = (s.setFld uClk F.clkOscStatusHffail 1).raise uClk 0x0B →
    s.srefXtal = false →
    exec (.hfCheckFail count) s = .next (enterContain s1 2)) ∧
  (∀ (s : State), s.mode.dormant = false → s.bootPhase ≠ 5 → ∀ s1 : State, s1 = { s.setFld uMgt F.mgtBootSelftestFail 1 with mode := { s.mode with never := true } } →
    exec (.selftestFail) s = .next (enterContain s1 5))

/-- DROWSE, DORMANT, their wakes, SERVICE and the supplies (R434, R435, R437, R438, R450, R451, R455). Of the commands from ICLS 4, DROWSE and
DORMANT enter their modes where R434 and R435 allow it and WAKE leaves DROWSE; refused, each sets REFUSED and nothing else. An enabled
wake source that occurs is recorded: in DORMANT at rest (sources 0 to 3) it performs a system reset with cause DORMANT_EXIT, in DROWSE it
leaves it. SERVICE is entered with presence and an intact seal from MANAGE, STAGED or CONTAIN, with the regions stopped. A VCCIO rail is
shown as it stands; the fall of the always-on one is a power-on reset. -/
def Obligations.SleepCommandsComplete : Prop :=
  (∀ (icls : BitVec 3) (s : State), icls = 4 → drowseRefused s = false →
    exec (.drowse icls) s = .next ((enterDrowse s).answer .ok)) ∧
  (∀ (icls : BitVec 3) (s : State), icls = 4 → drowseRefused s = true →
    exec (.drowse icls) s = .next ((s.setFld uMgt F.mgtModeStatusRefused 1).answer .ok)) ∧
  (∀ (icls : BitVec 3) (s : State), icls = 4 → s.drowsing = true → s.modeBusy = false →
    exec (.wake icls) s = .next ((leaveDrowse s).answer .ok)) ∧
  (∀ (icls : BitVec 3) (s : State), icls = 4 → s.drowsing = false ∨ s.modeBusy = true →
    exec (.wake icls) s = .next ((s.setFld uMgt F.mgtModeStatusRefused 1).answer .ok)) ∧
  (∀ (icls : BitVec 3) (s : State), icls = 4 → dormantRefused s = false →
    exec (.dormant icls) s = .next ((enterDormant s).answer .ok)) ∧
  (∀ (icls : BitVec 3) (s : State), icls = 4 → dormantRefused s = true →
    exec (.dormant icls) s = .next ((s.setFld uMgt F.mgtModeStatusRefused 1).answer .ok)) ∧
  (∀ (src : Fin 5) (s : State), bitOf (s.fld uMgt F.mgtWakeEnSrc) src = true → wakeOccurs s src = true → s.mode.dormant = true → s.mode.pwrReq = false → s.mode.strapWindow = false →
    src.val ≠ 4 → ∀ noted, noted = s.setFld uMgt F.mgtWakeSrcSrc (withBit (s.fld uMgt F.mgtWakeSrcSrc) src true) →
    ∀ t, t = systemReset noted F.mgtResetCauseDormantExit →
    exec (.wakeSource src) s = .next { t.setFld uClk F.clkOscStatusHfRun 1 with clk := { t.clk with hfStart := false } }) ∧
  (∀ (src : Fin 5) (s : State), bitOf (s.fld uMgt F.mgtWakeEnSrc) src = true → wakeOccurs s src = true → ∀ noted, noted = s.setFld uMgt F.mgtWakeSrcSrc (withBit (s.fld uMgt F.mgtWakeSrcSrc) src true) →
    s.mode.dormant = false → s.drowsing = true →
    exec (.wakeSource src) s = .next (leaveDrowse noted)) ∧
  (∀ (s : State), s.present = true → s.flag uMgt F.mgtPresStatusSealBroken = false → s.mode.dormant = false → s.modeNo = 1 ∨ s.modeNo = 3 → s.mode.overlay ≠ .contain → s.modeBusy = false →
    ∀ s1, s1 = stopDomains (s.setFld uMgt F.mgtModePrev s.modeNo) regionDomains →
    exec .serviceEnter s = .next { s1 with mode := { s1.mode with overlay := .service, under := .none } }) ∧
  (∀ (s : State), s.present = true → s.flag uMgt F.mgtPresStatusSealBroken = false → s.mode.dormant = false → s.modeNo = 6 → s.mode.overlay = .contain → s.modeBusy = false →
    ∀ s1, s1 = stopDomains ((restart s).setFld uMgt F.mgtModePrev 6) regionDomains →
    exec .serviceEnter s = .next { s1 with mode := { s1.mode with overlay := .service, under := .none } }) ∧
  (∀ (bank : Fin 30) (good : Bool) (s : State), ∀ b, b = bank.val →
    b < 24 →
    exec (.vccioChange bank good) s = .next (s.setFld uMgt F.mgtSupplyIoVccioU (withBit (s.fld uMgt F.mgtSupplyIoVccioU) b good))) ∧
  (∀ (bank : Fin 30) (good : Bool) (s : State), ∀ b, b = bank.val →
    24 ≤ b → b < 29 →
    exec (.vccioChange bank good) s = .next (s.setFld uMgt F.mgtSupplyVccioS (withBit (s.fld uMgt F.mgtSupplyVccioS) (b - 24) good))) ∧
  (∀ (bank : Fin 30) (good : Bool) (s : State), ∀ b, b = bank.val →
    24 ≤ b → 29 ≤ b → good = false →
    exec (.vccioChange bank good) s = .next (powerOnReset s (s.flag uMgt F.mgtPresStatusSealIntact)))

/-- The resets, the straps and the start of the supplies (R438, R439, R440, R441, R442, R457). A power-on reset is as its function says. A low
of 8 µs or shorter on RESET_N does nothing, one of 10 µs or longer is a pin reset, and one between is or is not by a free value (log entry
3). The keyed reset commands from ICLS 4 schedule their reset, which then takes effect, marked as SERVICE_EXIT out of SERVICE. The fifth
management reset within 10 s enters CONTAIN with cause 6; any other empties the management core's memory, slots and queues, clears
MGT_BOOT and starts the boot ROM again. The strap window closes once and raises PWR_REQ; group B good starts the boot ROM in MANAGE; a
timeout sets SUPPLY_TMO and lowers PWR_REQ. -/
def Obligations.ResetCommandsComplete : Prop :=
  (∀ (lowNs : Nat) (s : State), lowNs ≤ 8000 → exec (.pinReset lowNs) s = .next s) ∧
  (∀ (sealIntact : Bool) (s : State),
    exec (.powerOnReset sealIntact) s = .next (powerOnReset s sealIntact)) ∧
  (∀ (lowNs : Nat) (s : State), 8000 < lowNs → 10000 ≤ lowNs →
    exec (.pinReset lowNs) s = .next (pinReset s)) ∧
  (∀ (lowNs : Nat) (s : State), 8000 < lowNs → lowNs < 10000 →
    exec (.pinReset lowNs) s = .next (if bitOf s.fresh 0 then (pinReset s).draw else s.draw)) ∧
  (∀ (key : Byte) (icls : BitVec 3) (s : State), icls = 4 → key = 0xA5 →
    exec (.resetSystemCmd key icls) s = .next ({ s with mode := { s.mode with reset := 2 } }.answer .ok)) ∧
  (∀ (key : Byte) (icls : BitVec 3) (s : State), icls = 4 → key = 0xA5 →
    exec (.resetManagementCmd key icls) s = .next ({ s with mode := { s.mode with reset := 1 } }.answer .ok)) ∧
  (∀ (s : State), s.mode.reset = 2 → ∀ t, t = systemReset s F.mgtResetCauseSysCmd →
    s.mode.overlay = .service →
    exec (.systemReset) s = .next (t.setFld uMgt F.mgtResetCauseServiceExit 1)) ∧
  (∀ (s : State), s.mode.reset = 2 → ∀ t, t = systemReset s F.mgtResetCauseSysCmd →
    s.mode.overlay ≠ .service →
    exec (.systemReset) s = .next t) ∧
  (∀ (s : State), s.mode.dormant = true → s.mode.pwrReq = true →
    exec (.groupBGood) s = .next (bootStart { s.setFld uMgt F.mgtSupplyCore 127 with mode := { s.mode with dormant := false } })) ∧
  (∀ (s : State), s.mode.dormant = true → s.mode.pwrReq = true →
    exec (.supplyTimeout) s = .next { s.setFld uMgt F.mgtResetCauseSupplyTmo 1 with mode := { s.mode with pwrReq := false } }) ∧
  (∀ (bootsrc : Fin 8) (pull : Fin 3) (node : BitVec 7) (s : State), s.mode.strapWindow = true → ∀ s1, s1 = ((s.setFld uMgt F.mgtStrapBootsrc bootsrc).setFld uMgt F.mgtStrapHoldPull pull).setFld uMgt F.mgtStrapNodeId node.toNat →
    exec (.strapSample bootsrc pull node) s = .next (keepFuncs s { s1 with mode := { s1.mode with strapWindow := false, pwrReq := true } })) ∧
  (∀ (recent : Nat) (s : State), s.mode.reset = 1 → s.mode.dormant = false → 4 ≤ min recent s.mode.mgmtResets →
    ∀ s1, s1 = s.setFld uMgt F.mgtResetCauseMgtCmd 1 →
    exec (.managementReset recent) s = .next (enterContain
      { s1.setFld uMgt F.mgtResetCauseMgtloop 1 with mode := { s1.mode with reset := 0, mgmtResets := 0 } } 6)) ∧
  (∀ (recent : Nat) (s : State), s.mode.reset = 1 → s.mode.dormant = false → min recent s.mode.mgmtResets < 4 →
    ∀ s1, s1 = s.setFld uMgt F.mgtResetCauseMgtCmd 1 →
    ∀ s2 : State, s2 = { s1 with
      mode := { s1.mode with code := [], meas := [], container := [], reset := 0, mgmtResets := s1.mode.mgmtResets + 1 }
      dict := { s1.dict with queue := [], session := [], wrong := false }
      dbg := { s1.dbg with mgmtRegs := [] } } →
    ∀ s3, s3 = ([F.mgtBootPhase, F.mgtBootStrapErr, F.mgtBootSelftestFail, F.mgtBootFwFail, F.mgtBootAutoload].foldl
      (fun (t : State) f => t.setFld uMgt f 0) s2) →
    exec (.managementReset recent) s = .next (bootFetch (((s3.setFld uDbg F.dbgHstatHalted 0 32).setFld uDbg F.dbgHstatCause 0 32).setFld uDbg
      F.dbgStatusSession 0)))

/-- The boot ROM's commands have their effects (R443, R444, R445, R447, R448, R449). A container that passes every check is loaded and
measured, its version is shown, PHASE becomes RUNNING, and for BOOTSRC 0 fetched from xSPI with no region ACTIVE the xSPI load is opened.
A container that fails (in the boot window, once complete), or none from xSPI, sets FW_FAIL and the boot ROM waits at the boot window. A
boot-window WRITE with all enables and ICLS 2 in WAIT_FW appends its bytes, or is TOO_LONG past the container's length rounded up to 64.
AUTOFLIP flips the region set the boot ROM's load verified. -/
def Obligations.BootCommandsComplete : Prop :=
  (∀ (container bs : List Byte) (n : Nat) (s : State), s.mode.dormant = false → s.bootPhase = 2 ∨ s.bootPhase = 4 →
    bs = (if s.bootPhase = 4 then s.mode.container else container) → fwValid s bs = true → fwCodeLen bs = some n →
    ∀ s1 : State, s1 = { s with mode := { s.mode with code := (bs.drop 64).take n, container := [] } } →
    ∀ s2, s2 = measureFw ((s1.setFld uMgt F.mgtFwVersionLoVersion (fwField bs 16 4)).setFld uMgt F.mgtFwVersionHiVersion (fwField bs 20 4)) bs n →
    s.bootSrc ≠ 0 ∨ s.bootPhase = 4 ∨ s.anyActive = true →
    exec (.handover container) s = .next (s2.setFld uMgt F.mgtBootPhase 5)) ∧
  (∀ (container : List Byte) (n : Nat) (s : State), s.mode.dormant = false → s.bootPhase = 2 → fwValid s container = true → fwCodeLen container = some n →
    ∀ s1 : State, s1 = { s with mode := { s.mode with code := (container.drop 64).take n, container := [] } } →
    ∀ s2, s2 = measureFw ((s1.setFld uMgt F.mgtFwVersionLoVersion (fwField container 16 4)).setFld uMgt F.mgtFwVersionHiVersion
      (fwField container 20 4)) container n →
    s.bootSrc = 0 → s.anyActive = false →
    exec (.handover container) s = .next ((openFrom (((s2.wakeDom 154).setFld uCfg F.cfgXspiBaseAddr (fwField container 12 4)).setFld uMgt F.mgtBootAutoload 1) 0 4
      true).setFld uMgt F.mgtBootPhase 5)) ∧
  (∀ (container : Option (List Byte)) (s : State), s.mode.dormant = false → (s.bootPhase = 2 ∨ s.bootPhase = 4) → container = none → s.bootPhase = 2 →
    exec (.fwFail container) s = .next (fwFailed s)) ∧
  (∀ (container : Option (List Byte)) (s : State), s.mode.dormant = false → (s.bootPhase = 2 ∨ s.bootPhase = 4) → ∀ bs, container = some bs → ∀ bs', bs' = (if s.bootPhase = 4 then s.mode.container else bs) →
    (s.bootPhase = 4 → fwComplete bs' = true) → fwValid s bs' = false →
    exec (.fwFail container) s = .next (fwFailed s)) ∧
  (∀ (p : Packet) (off : Nat) (s : State), isRequest p.op = true → s.arrived p = true → mapAddr p.a48 = .csr uMgt off → 0x800000 ≤ off → off < 0xA00000 →
    p.op = opWrite → p.fullEnables = true → p.icls = 2 → s.bootPhase = 4 → ∀ bs, bs = s.mode.container ++ p.payload →
    (if 8 ≤ bs.length then fwRoom bs else none) = none →
    exec (.bootWindowWrite p) s = .next (({ s with mode := { s.mode with container := bs } } : State).reply p .ok)) ∧
  (∀ (p : Packet) (off room : Nat) (s : State), isRequest p.op = true → s.arrived p = true → mapAddr p.a48 = .csr uMgt off → 0x800000 ≤ off →
    off < 0xA00000 → p.op = opWrite → p.fullEnables = true → p.icls = 2 → s.bootPhase = 4 → ∀ bs, bs = s.mode.container ++ p.payload →
    8 ≤ bs.length → fwRoom bs = some room →
    exec (.bootWindowWrite p) s = .next (if room < bs.length then s.reply p .tooLong
      else ({ s with mode := { s.mode with container := bs } } : State).reply p .ok)) ∧
  (∀ (s : State), s.flag uMgt F.mgtBootAutoflip = true → s.cfg.bootSet ≠ [] → s.bm.clearing = false → s.span.calibrated = true → s.mode.overlay ≠ .contain →
    exec (.autoflip) s = .next (flipSet { s with cfg := { s.cfg with bootSet := [] } } s.cfg.bootSet))

/-- The event distributor's, core-run and watchdog commands have their effects (R505, R508, R509, R510, R511, R513, R514, R515, R516, R531). A
rising edge of a source is latched or made pending and assigned; a fabric event follows FE of its region. A claim returns the source
assigned to its target with the highest PRIO, clears PEND, sets ACTIVE and notes the claimer; 0 where none is assigned, and with ICLS 3
under PEEK nothing changes. A completion by the claimer clears ACTIVE and a source still high is pending again. A write of MGT_CORE_RUN
from ICLS 4 starts the cores whose bits rise and resets those whose bits fall. A kick with KEY 0x5A reloads COUNT, another is ignored; a
warning sets COUNT to RELOAD div 8 with its edge; an expiry raises class 0x0D and restarts the worker, or resets the management core. What
COUNT holds after an expiry is a free value (log entry 79). -/
def Obligations.EventCommandsComplete : Prop :=
  (∀ (n : BitVec 12) (v : Bool) (s : State), ∀ k, k = n.toNat → k < 2048 → v = true → exec (.eventEdge n v) s = .next (s.edge k)) ∧
  (∀ (n : BitVec 12) (v fe : Bool) (s : State), ∀ k, k = n.toNat → 2048 ≤ k → fe = feInput s ((k - 2048) / 16) (k % 16) →
    s.regionRuns ((k - 2048) / 16) = true ∨ fe = false →
    exec (.eventEdge n v) s = .next (s.level k fe)) ∧
  (∀ (n : BitVec 12) (s : State), exec (.eventReassign n) s = .next (s.assignEvt n.toNat)) ∧
  (∀ (num : BitVec 6) (s : State), exec (.swset num) s = .next (s.edge (1024 + num.toNat % 64))) ∧
  (∀ (t : Fin 65) (icls : BitVec 3) (n : Nat) (s : State), icls.toNat ≠ 3 ∨ s.flag uDbg F.dbgCtrlPeek = false → n = claimOf s t → n ≠ 0 →
    ∀ s1, s1 = (s.setPend n false).setActive n true →
    exec (.claim t icls) s = .next (({ s1 with evt := { s1.evt with
      assigned := SMap.erase s1.evt.assigned n
      lastClaim := SMap.put s1.evt.lastClaim n t
      claimer := SMap.put s1.evt.claimer n t } } : State).answer .ok (toLeBytes 4 n))) ∧
  (∀ (t : Fin 65) (icls : BitVec 3) (s : State), icls.toNat ≠ 3 ∨ s.flag uDbg F.dbgCtrlPeek = false → claimOf s t = 0 →
    exec (.claim t icls) s = .next (s.answer .ok (toLeBytes 4 0))) ∧
  (∀ (t : Fin 65) (icls : BitVec 3) (s : State), icls = 3 → s.flag uDbg F.dbgCtrlPeek = true →
    exec (.claim t icls) s = .next (s.answer .ok (toLeBytes 4 (claimOf s t)))) ∧
  (∀ (t : Fin 65) (n : BitVec 12) (icls : BitVec 3) (k : Nat) (s : State), evtWriter icls.toNat = true → k = n.toNat → s.evtActive k = true →
    SMap.find s.evt.claimer k = some t.val → ∀ s1, s1 = s.setActive k false →
    ∀ s2 : State, s2 = { s1 with evt := { s1.evt with claimer := SMap.erase s1.evt.claimer k } } →
    exec (.completion t n icls) s = .next (((if s.evt.level.contains k then s2.setPend k true else s2).assignEvt k).answer .ok)) ∧
  (∀ (run : Word32) (icls : BitVec 3) (s : State), icls = 4 → ∀ s1, s1 = s.setFld uMgt F.mgtCoreRunRun run.toNat →
    exec (.coreRun run icls) s = .next (((List.range 32).foldl (fun (t : State) i =>
      if bitOf run.toNat i && !s.coreRuns i then startCore t i else if !bitOf run.toNat i && s.coreRuns i then resetCore t i else t) s1).answer .ok)) ∧
  (∀ (i : Fin 33) (icls : BitVec 3) (s : State), wdWriter i icls.toNat = true → wdFrozen s i = false →
    exec (.watchdogKick i 0x5A icls) s = .next ((wdSetCount s i (wdReload s i)).answer .ok)) ∧
  (∀ (i : Fin 33) (key : Byte) (icls : BitVec 3) (s : State), wdWriter i icls.toNat = true → key.toNat ≠ 0x5A →
    exec (.watchdogKick i key icls) s = .next (s.answer .ok)) ∧
  (∀ (i : Fin 33) (s : State), wdCounts s i = true → wdReload s i / 8 < wdCount s i →
    exec (.watchdogWarning i) s = .next ((wdSetCount s i (wdReload s i / 8)).edge (48 + i.val))) ∧
  (∀ (i : Fin 33) (recent : Nat) (s : State), wdCounts s i = true → ∀ s1, s1 = (wdSetCount s i s.fresh).draw →
    i.val < 32 →
    exec (.watchdogExpire i recent) s = .next (startCore (resetCore (s1.raise uEvt 0x0D i) i) i)) ∧
  (∀ (i : Fin 33) (recent : Nat) (s : State), wdCounts s i = true → ∀ s1, s1 = (wdSetCount s i s.fresh).draw →
    32 ≤ i.val →
    exec (.watchdogExpire i recent) s = .next (managementReset ((s1.raise uMgt 0x0D i).setFld uMgt F.mgtResetCauseMgtWdog 1) recent))

/-- The worker cores' accesses have their effects (R239, R501, R502, R503). An aligned access of a core that executes is performed at its
address. A load that hits its cluster's cache answers the bytes of the line, a store that hits writes them into the line and breaks the
other cores' reservations on it. A load elsewhere than DRAM or cacheable plate memory is sent as a READ from the cluster's port, which
takes what is answered at once. A take load reads 128 bytes of its window, and a take-buffer load answers from the buffer, 0 where the
core last took from another window. -/
def Obligations.CoreAccessesComplete : Prop :=
  (∀ (core : Fin 32) (va : Word64) (addr : BitVec 56) (size : Fin 4) (data : Word64) (victim : Option (BitVec 50)) (l : CacheLine) (x : ClusterX) (s : State),
    coreReady s core = true → addr.toNat % 2 ^ size.val = 0 → takeWindowOf addr.toNat = none → isCacheable addr.toNat = true →
    x = s.clusterX (core / 8) → SMap.find x.cache (addr.toNat / 64) = some l →
    ∀ s1, s1 = s.setCluster (core / 8) { x with cache := SMap.put x.cache (addr.toNat / 64) { l with core := core } } →
    exec (.coreMemoryAccess core .load va addr size data victim) s =
      .next (absorbCore (coreValue s1 core (lineBytes l.data (addr.toNat % 64) (2 ^ size.val))) (core / 8))) ∧
  (∀ (core : Fin 32) (va : Word64) (addr : BitVec 56) (size : Fin 4) (data : Word64) (victim : Option (BitVec 50)) (l : CacheLine) (x : ClusterX) (s : State),
    coreReady s core = true → addr.toNat % 2 ^ size.val = 0 → takeWindowOf addr.toNat = none → isCacheable addr.toNat = true →
    x = s.clusterX (core / 8) → SMap.find x.cache (addr.toNat / 64) = some l →
    ∀ s1, s1 = s.setCluster (core / 8) { x with cache := SMap.put x.cache (addr.toNat / 64) { l with core := core } } →
    exec (.coreMemoryAccess core .store va addr size data victim) s = .next (absorbCore (coreValue (writeCache s1 core (addr.toNat / 64)
      (lineWith l.data (addr.toNat % 64) (2 ^ size.val) data.toNat)) core 0) (core / 8))) ∧
  (∀ (core : Fin 32) (va : Word64) (addr : BitVec 56) (size : Fin 4) (data : Word64) (victim : Option (BitVec 50)) (s : State),
    coreReady s core = true → addr.toNat % 2 ^ size.val = 0 → takeWindowOf addr.toNat = none → isCacheable addr.toNat = false →
    exec (.coreMemoryAccess core .load va addr size data victim) s = .next (absorbCore (coreSend s (core / 8)
      (byteReq opRead 2 0 addr.toNat (2 ^ size.val) [])
      (some { core := core, op := .load, va := va, addr := addr.toNat, size := 2 ^ size.val, data := data })) (core / 8))) ∧
  (∀ (core : Fin 32) (op : CoreOp) (va : Word64) (addr : BitVec 56) (size : Fin 4) (data : Word64) (victim : Option (BitVec 50)) (s : State), ∀ n, n = 2 ^ size.val →
    coreReady s core = true → addr.toNat % n = 0 → ((isAmo op = false ∧ op ≠ .lr ∧ op ≠ .sc) ∨ 4 ≤ n) →
    exec (.coreMemoryAccess core op va addr size data victim) s = .next (coreAccess s { core := core, op := op, va := va, addr := addr.toNat, size := n, data := data } (victim.map (·.toNat)))) ∧
  (∀ (core : Fin 32) (slice : Fin 8) (profile : Fin 64) (va : Word64) (s : State), coreReady s core = true → ∀ a, a = takeAddr slice profile 0 →
    exec (.takeLoad core slice profile va) s = .next (absorbCore (coreSend s (core / 8) (byteReq opRead 2 0 a 128 [])
      (some { core := core, op := .load, va := va, addr := a, size := 8, data := 0, take := true })) (core / 8))) ∧
  (∀ (core : Fin 32) (slice : Fin 8) (profile : Fin 64) (off : Fin 128) (size : Fin 4) (va : Word64) (s : State),
    coreReady s core = true → 8 ≤ off.val → off.val % 2 ^ size.val = 0 →
    exec (.takeBufferLoad core slice profile off size va) s = .next (absorbCore (coreValue s core
      (takeBufferValue (s.coreX core) (slice * 64 + profile) off (2 ^ size.val))) (core / 8)))

/-- The debug commands have their effects (R516, R520, R521, R524, R525, R526, R532). A key exchange starts with a drawn key and challenge, a
correct answer in time opens the session, a late one sets KX_FAIL and raises class 0x14, and a close or 30 minutes end it. With full debug
of a core, HALT, STEP and EBREAK enter debug halt with their cause, RESUME leaves it and its watchdog starts again, and a register of a
halted core is read to DBG_REGDATA or written from it; x0 is 0 and keeps nothing. Comparators and watches that match take their actions.
The key pair and the challenge are drawn as free values (log entry 111). -/
def Obligations.DebugCommandsComplete : Prop :=
  (∀ (soon : Bool) (icls : BitVec 3) (s : State), s.fuse.debugKey ≠ none → s.fuse.returned = false → s.dbg.kxWrong = false ∨ soon = false →
    ∀ d, d = beBytes (s.freshBytes 48) % (Crypto.n384 - 1) + 1 → ∀ s1, s1 = s.drawBytes 48 → ∀ ch, ch = s1.freshBytes 48 → ∀ s2, s2 = s1.drawBytes 48 →
    ∀ s3 : State, s3 = { s2 with dbg := { s2.dbg with kxKey := some d, kxChallenge := ch, kxWrong := false } } →
    exec (.kxStart soon icls) s = .next ((setKxBytes (setKxBytes s3 0 (uncompressed (Crypto.publicKey d))) 128 ch).answer .ok)) ∧
  (∀ (icls : BitVec 3) (d : Nat) (a : List Byte) (s : State), s.dbg.kxKey = some d → s.fuse.debugKey = some a →
    kxBytes s 192 48 = kxExpected d a s.dbg.kxChallenge →
    ∀ s1 : State, s1 = { s with dbg := { s.dbg with kxKey := none, kxChallenge := [] } } →
    exec (.kxAnswer false icls) s = .next ((s1.setFld uDbg F.dbgStatusSession 1).answer .ok)) ∧
  (∀ (icls : BitVec 3) (s : State), ∀ s1 : State, s1 = { s with dbg := { s.dbg with kxKey := none, kxChallenge := [], kxWrong := true } } →
    exec (.kxAnswer true icls) s = .next (((s1.setFld uDbg F.dbgStatusKxFail 1).raise uDbg 0x14).answer .ok)) ∧
  (∀ (icls : BitVec 3) (s : State), exec (.kxClose icls) s = .next ((s.setFld uDbg F.dbgStatusSession 0).answer .ok)) ∧
  (∀ s : State, exec .kxSessionTimeout s = .next (s.setFld uDbg F.dbgStatusSession 0)) ∧
  (∀ (i : Fin 33) (regs : List (BitVec 16 × Word64)) (s : State), dbgFull s i = true → coreAlive s i = true → halted s i = false →
    exec (.dbgHalt i regs) s = .next ((enterHalt s i 1 regs).answer .ok)) ∧
  (∀ (i : Fin 33) (s : State), dbgFull s i = true → halted s i = true →
    exec (.dbgResume i) s = .next (((thawWatchdog s i).setFld uDbg F.dbgHstatHalted 0 i).answer .ok)) ∧
  (∀ (i : Fin 33) (regs : List (BitVec 16 × Word64)) (s : State), dbgFull s i = true → halted s i = true →
    exec (.dbgStep i regs) s = .next ((enterHalt (thawWatchdog s i) i 2 regs).answer .ok)) ∧
  (∀ (i : Fin 33) (regs : List (BitVec 16 × Word64)) (s : State), s.flag uDbg F.dbgHctlEbreakEn i = true → dbgFull s i = true → coreAlive s i = true → halted s i = false →
    exec (.ebreakHalt i regs) s = .next (enterHalt s i 5 regs)) ∧
  (∀ (i : Fin 33) (reg : BitVec 16) (r : Nat) (s : State), dbgFull s i = true → halted s i = true → r = reg.toNat → isReg r = true → r ≠ 0 →
    exec (.registerAccess i true reg) s = .next ((setCoreRegs s i (SMap.store 0 (coreRegs s i) r (regData s i))).answer .ok)) ∧
  (∀ (i : Fin 33) (s : State), dbgFull s i = true → halted s i = true → exec (.registerAccess i true 0) s = .next (s.answer .ok)) ∧
  (∀ (i : Fin 33) (reg : BitVec 16) (r : Nat) (s : State), dbgFull s i = true → halted s i = true → r = reg.toNat → isReg r = true →
    ∀ v, v = (if r = 0 then 0 else (SMap.get 0 (coreRegs s i) r).toNat) →
    exec (.registerAccess i false reg) s = .next (((s.setFld uDbg F.dbgRegdataLoData v i).setFld uDbg F.dbgRegdataHiData (v / 2 ^ 32) i).answer .ok)) ∧
  (∀ (i : Fin 33) (pc : Word64) (acc : List (Bool × Word64)) (scontext : BitVec 16) (regs : List (BitVec 16 × Word64)) (s : State), dbgSome s i = true → coreAlive s i = true → halted s i = false →
    exec (.comparatorMatch i pc acc scontext regs) s = .next (act s i 3 (cmpActions s i pc.toNat acc scontext.toNat) regs)) ∧
  (∀ (i : Fin 33) (w : Fin 4) (pc : Word64) (write : Bool) (addr : Word64) (size : Fin 4) (value : Word64) (scontext : BitVec 16) (regs : List (BitVec 16 × Word64)) (s : State), dbgSome s i = true → coreAlive s i = true → halted s i = false → watchMatches s i w pc.toNat write addr size value.toNat scontext.toNat = true →
    exec (.watchMatch i w pc write addr size value scontext regs) s = .next (act s i 4 [s.fld uDbg F.dbgWcfgAction i w] regs))

/-- The span clock edge and the capture commands have their effects (R70, R71, R528, R529, R533). An edge of the span clock moves the bridges
and samples the probe lines. ARM above FABRIC level 0 with a SIZE other than 0 starts capture at offset 0; STOP ends it. The latest sample
that meets MASK and VAL triggers capture, and DONE is set once the flits after the trigger are written. -/
def Obligations.ProbeCommandsComplete : Prop :=
  (∀ (s : State), s.clk.halted = false → s.clk.spanOff = false →
    exec (.spanEdge) s = .next (probeEdge (spanEdge s.latchAsync))) ∧
  (∀ s : State, fabricLevel s ≠ 0 → s.fld uPrb F.prbCapSizePages ≠ 0 →
    exec .captureArm s = .next ((((({ s with dbg := { s.dbg with samples := [], flits := [], post := 0 } } : State).setFld uPrb F.prbCapStatRunning 1).setFld uPrb
      F.prbCapStatTriggered 0).setFld uPrb F.prbCapPtrOffset 0).answer .ok)) ∧
  (∀ s : State, exec .captureStop s = .next ((({ s with dbg := { s.dbg with samples := [], flits := [] } } : State).setFld uPrb F.prbCapStatRunning 0).answer .ok)) ∧
  (∀ (mask val : Nat) (s : State), mask = s.fld uPrb F.prbCapMaskHiMask * 2 ^ 32 + s.fld uPrb F.prbCapMaskLoMask →
    val = s.fld uPrb F.prbCapValHiVal * 2 ^ 32 + s.fld uPrb F.prbCapValLoVal → capturing s = true → s.flag uPrb F.prbCapStatTriggered = false →
    (s.dbg.line.getLastD 0).toNat &&& mask = val →
    exec .captureTrigger s = .next (captureDone { s.setFld uPrb F.prbCapStatTriggered 1 with dbg := { s.dbg with post := s.fld uPrb F.prbCapPostFlits } })) ∧
  (∀ s : State, capturing s = true → s.flag uPrb F.prbCapStatTriggered = true → s.dbg.post = 0 →
    exec .captureDone s = .next ((({ s with dbg := { s.dbg with samples := [], flits := [] } } : State).setFld uPrb F.prbCapStatDone 1).setFld uPrb
      F.prbCapStatRunning 0))

/-- An access of another size or alignment completes with DECODE and touches no register (R12). Whatever the register and the class, a CSR
access is 4 or 8 bytes wide and naturally aligned, or it completes with STAT DECODE and leaves every register as it was, a write or a
read. An 8-byte access that is accepted is an access of the register at the lower offset and then of the next one. -/
def Obligations.RegisterAccessShape : Prop :=
  (∀ (a : CsrAccess) (s : State), (a.size = 4 ∧ a.off.toNat % 4 = 0) ∨ (a.size = 8 ∧ a.off.toNat % 8 = 0) ∨
    (csrWrite s a = (s, .decode) ∧ csrReadAccess s a = (s, .decode, 0) ∧ exec (.csrWrite a) s = .next (s.answer .decode))) ∧
  (∀ (a : CsrAccess) (s : State), a.size = 8 → a.off.toNat % 8 = 0 → csrDecide s a true = .ok →
    ∀ s1, s1 = csrWriteReg s a.unit.toNat a.off.toNat (BitVec.ofNat 32 a.data.toNat) a.icls.toNat a.src.toNat a.priv →
    csrWrite s a = (csrWriteReg s1 a.unit.toNat (a.off.toNat + 4) (BitVec.ofNat 32 (a.data.toNat / 2 ^ 32)) a.icls.toNat a.src.toNat a.priv, .ok)) ∧
  (∀ (a : CsrAccess) (s : State), a.size = 8 → a.off.toNat % 8 = 0 → csrDecide s a false = .ok →
    ∀ lo, lo = csrRead s a.unit.toNat a.off.toNat a.icls.toNat → ∀ hi, hi = csrRead lo.1 a.unit.toNat (a.off.toNat + 4) a.icls.toNat →
    csrReadAccess s a = (hi.1, .ok, lo.2.toNat + hi.2.toNat * 2 ^ 32))

/-- A register write has its effect (R9, R11, R12, R13). A write that is accepted is performed on its register, one of 8 bytes on the register
at the lower offset and then on the next, and is answered OK. One that is refused is answered with its reason, and nothing else changes;
an offset without a register, for either half, is answered DECODE. -/
def Obligations.RegisterWriteCompletes : Prop :=
  (∀ (a : CsrAccess) (s : State), a.size = 4 → a.off.toNat % 4 = 0 → csrDecide s a true = .ok →
    exec (.csrWrite a) s = .next ((csrWriteReg s a.unit.toNat a.off.toNat (BitVec.ofNat 32 a.data.toNat) a.icls.toNat a.src.toNat a.priv).answer .ok)) ∧
  (∀ (a : CsrAccess) (s : State), a.size = 8 → a.off.toNat % 8 = 0 → csrDecide s a true = .ok →
    ∀ s1, s1 = csrWriteReg s a.unit.toNat a.off.toNat (BitVec.ofNat 32 a.data.toNat) a.icls.toNat a.src.toNat a.priv →
    exec (.csrWrite a) s = .next ((csrWriteReg s1 a.unit.toNat (a.off.toNat + 4) (BitVec.ofNat 32 (a.data.toNat / 2 ^ 32)) a.icls.toNat a.src.toNat
      a.priv).answer .ok)) ∧
  (∀ (a : CsrAccess) (st : Stat) (s : State), csrDecide s a true = st → st ≠ .ok → exec (.csrWrite a) s = .next (s.answer st)) ∧
  (∀ (a : CsrAccess) (s : State), a.unit.toNat ≠ uCfg → (∃ o ∈ csrOffsets a.off.toNat a.size, csrImplemented a.unit.toNat o = false) →
    exec (.csrWrite a) s = .next (s.answer .decode))

/-- The stylus wire's commands and the fret boundary have their effects (R422, R424, R517, R518, R519, R520, R522). A break, a framing error
and a frame timeout leave no bit of an unfinished frame; the entry pattern enters a session and 1 s of silence ends it. In an entered
session with no request under way, outside CONTAIN and DORMANT, RD at level 1 or more and WR at level 2 send their 4-byte request once the
debug unit's budget admits it, or hold it; below the level PROTECTED is the response. DRD and DWR reach the debug unit's registers, EXIT
is answered and leaves the session, a bad frame is answered MALFORMED, and outside a session no request is performed. A slot reads the
next bit of the response, or 0. The fret boundary lets what waited for its budget go on. -/
def Obligations.StylusCommandsComplete : Prop :=
  (∀ s : State, exec .stylusBreak s = .next s ∧ exec .stylusFramingError s = .next s ∧ exec .stylusFrameTimeout s = .next s) ∧
  (∀ s : State, exec .stylusEntry s = .next (s.setFld uDbg F.dbgStatusStylus 1) ∧ exec .stylusTimeout s = .next (s.setFld uDbg F.dbgStatusStylus 0)) ∧
  (∀ (addr : BitVec 56) (s : State), s.entered = true → s.dbg.waiting = none → s.dbg.held = none → s.modeNo ≠ 0 → s.modeNo ≠ 6 →
    ∀ t : State, t = { s with dbg := { s.dbg with response := [] } } → 1 ≤ rangeLevel t addr.toNat → t.admits 8 0 = true →
    exec (.rd addr) s = .next (stylusSend t (byteReq opRead 1 0 addr.toNat 4 (toLeBytes 4 0)))) ∧
  (∀ (addr : BitVec 56) (p : Packet) (s : State), s.entered = true → s.dbg.waiting = none → s.dbg.held = none → s.modeNo ≠ 0 → s.modeNo ≠ 6 →
    ∀ t : State, t = { s with dbg := { s.dbg with response := [] } } → 1 ≤ rangeLevel t addr.toNat → t.admits 8 0 = false → p = byteReq opRead 1 0 addr.toNat 4 (toLeBytes 4 0) →
    exec (.rd addr) s = .next { t.hold 8 0 with dbg := { (t.hold 8 0).dbg with held := some p } }) ∧
  (∀ (addr : BitVec 56) (data : Word32) (s : State), s.entered = true → s.dbg.waiting = none → s.dbg.held = none → s.modeNo ≠ 0 → s.modeNo ≠ 6 →
    ∀ t : State, t = { s with dbg := { s.dbg with response := [] } } → 2 ≤ rangeLevel t addr.toNat → t.admits 8 0 = true →
    exec (.wr addr data) s = .next (stylusSend t (byteReq opWrite 1 0 addr.toNat 4 (toLeBytes 4 data.toNat)))) ∧
  (∀ (addr : BitVec 56) (data : Word32) (s : State), s.entered = true → s.dbg.waiting = none → s.dbg.held = none → s.modeNo ≠ 0 → s.modeNo ≠ 6 →
    ∀ t : State, t = { s with dbg := { s.dbg with response := [] } } → rangeLevel t addr.toNat < 2 →
    exec (.wr addr data) s = .next (stylusRespond t Stat.prot.code 0)) ∧
  (∀ (ofs : BitVec 24) (s : State), s.entered = true → s.dbg.waiting = none → s.dbg.held = none → s.modeNo ≠ 0 → s.modeNo ≠ 6 →
    ∀ t : State, t = { s with dbg := { s.dbg with response := [] } } → ∀ r, r = csrReadAccess t (debugReg ofs.toNat 0) →
    exec (.drd ofs) s = .next (stylusRespond r.1 r.2.1.code r.2.2)) ∧
  (∀ (ofs : BitVec 24) (data : Word32) (s : State), s.entered = true → s.dbg.waiting = none → s.dbg.held = none → s.modeNo ≠ 0 → s.modeNo ≠ 6 →
    ∀ t : State, t = { s with dbg := { s.dbg with response := [] } } → ∀ r, r = csrWrite t (debugReg ofs.toNat data) →
    exec (.dwr ofs data) s = .next (stylusRespond r.1 r.2.code 0)) ∧
  (∀ s : State, s.entered = true → s.dbg.waiting = none → s.dbg.held = none → s.modeNo ≠ 0 → s.modeNo ≠ 6 →
    ∀ t : State, t = { s with dbg := { s.dbg with response := [] } } → exec .stylusExit s = .next (stylusRespond (t.setFld uDbg F.dbgStatusStylus 0) 0 0)) ∧
  (∀ s : State, s.entered = true → s.dbg.waiting = none → s.dbg.held = none → exec .stylusBadFrame s = .next (stylusRespond s Stat.malformed.code 0)) ∧
  (∀ (addr : BitVec 56) (data : Word32) (s : State), s.entered = false → exec (.rd addr) s = .next s ∧ exec (.wr addr data) s = .next s) ∧
  (∀ (s : State), s.dbg.response = [] →
    exec (.stylusSlot) s = .next (s.answer .ok [0])) ∧
  (∀ (s : State), ∀ b r, s.dbg.response = b :: r →
    exec (.stylusSlot) s = .next ({ s with dbg := { s.dbg with response := r } }.answer .ok [if b then 1 else 0])) ∧
  (∀ (s : State), s.clk.fallback = false → s.mode.dormant = false →
    exec (.fretBoundary) s = .next (drainDebug (fretBoundary s)))

/-- The boundary-scan instructions have their effects (R569, R570, R571). IDCODE, SAMPLE/PRELOAD and BYPASS select their registers,
SAMPLE/PRELOAD loads the boundary cells, and each ends a pin-control instruction. EXTEST, its two variants, CLAMP and HIGHZ take the pins
in MANAGE, CONTAIN and SERVICE; in other modes they act as BYPASS, and Capture-IR says so. Test-Logic-Reset selects IDCODE. -/
def Obligations.ScanCommandsComplete : Prop :=
  (∀ (s : State),
    exec (.idcode) s = .next ((loadIr s 0x01 ((List.range 32).map (bitOf idcode))).answer .ok [captureIr s])) ∧
  (∀ (sampled shifted : List Bool) (s : State), ∀ s1, s1 = loadIr s 0x02 sampled →
    exec (.samplePreload sampled shifted) s = .next ({ s1 with scan := { s1.scan with boundary := shifted } }.answer .ok [captureIr s])) ∧
  (∀ (s : State),
    exec (.bypass) s = .next ((loadIr s 0xFF [false]).answer .ok [captureIr s])) ∧
  (∀ (s : State),
    exec (.testLogicReset) s = .next (loadIr s 0x01 ((List.range 32).map (bitOf idcode)))) ∧
  (∀ (sampled shifted : List Bool) (s : State), pinControlAllowed s = true → ∀ s1, s1 = (if s.scan.control then s else takePins s) →
    exec (.extest sampled shifted) s = .next (({ s1 with scan := { ir := 0x03, control := true, highz := false, boundary := shifted, shift := sampled } } : State).answer .ok [1])) ∧
  (∀ (sampled shifted : List Bool) (s : State), pinControlAllowed s = true → ∀ s1, s1 = (if s.scan.control then s else takePins s) →
    exec (.extestPulse sampled shifted) s = .next (({ s1 with scan := { ir := 0x04, control := true, highz := false, boundary := shifted, shift := sampled } } : State).answer .ok [1])) ∧
  (∀ (sampled shifted : List Bool) (s : State), pinControlAllowed s = true → ∀ s1, s1 = (if s.scan.control then s else takePins s) →
    exec (.extestTrain sampled shifted) s = .next (({ s1 with scan := { ir := 0x05, control := true, highz := false, boundary := shifted, shift := sampled } } : State).answer .ok [1])) ∧
  (∀ (s : State), pinControlAllowed s = true → ∀ s1, s1 = (if s.scan.control then s else takePins s) →
    exec (.clamp) s = .next (({ s1 with scan := { ir := 0x06, control := true, highz := false, boundary := s.scan.boundary, shift := [false] } } : State).answer .ok [1])) ∧
  (∀ (s : State), pinControlAllowed s = true → ∀ s1, s1 = (if s.scan.control then s else takePins s) →
    exec (.highz) s = .next (({ s1 with scan := { ir := 0x07, control := true, highz := true, boundary := s.scan.boundary, shift := [false] } } : State).answer .ok [1])) ∧
  (∀ (sampled shifted : List Bool) (s : State), pinControlAllowed s = false →
    exec (.extest sampled shifted) s = .next ((loadIr s 0x03 [false]).answer .ok [5]))

/-- The steps of a verification have their effects (R265, R327, R328, R330, R333, R335, R336, R504). A verification that passes ends, and the
answer it held goes out; one that fails is to be refetched, with the alarm of its data once where its tags fail. 4 µs after the response
of a read whose data is out the VTIME alarm is signalled once, the refetches of a failing node going on. A refetch, where its channel can
be read, walks the tree and reads the lines again: where all passes it ends the verification and completes what waited; a first that fails
leaves one more attempt; a second that fails is the failure of its lines or its node; one that meets a dead root answers POISON, or alarms
where the data is out. The alarms signalled are handled by the initiator they name. -/
def Obligations.VerificationCommandsComplete : Prop :=
  (∀ (i : Nat) (v : Verif) (s : State), s.ipe.verif[i]? = some v → v.failed = false → v.bad = [] → v.node = none → v.spec = false →
    exec (.verifyDone i) s = .next (handleAlarms (answerHeld (dropVerif s v) v v.stat v.data 0))) ∧
  (∀ (i : Nat) (v : Verif) (s : State), s.ipe.verif[i]? = some v → v.failed = false → v.bad = [] → v.node = none → v.spec = true →
    exec (.verifyDone i) s = .next (handleAlarms (dropVerif s v))) ∧
  (∀ (i : Nat) (v : Verif) (s : State), s.ipe.verif[i]? = some v → v.failed = false →
    (v.bad ≠ [] → v.node = none → exec (.verifyDone i) s = .next (handleAlarms (alarmOnce (setVerif s i { v with failed := true, alarmed := true }) v 0))) ∧
    (v.node ≠ none → exec (.verifyDone i) s = .next (handleAlarms (setVerif s i { v with failed := true })))) ∧
  (∀ (i : Nat) (v : Verif) (s : State), s.ipe.verif[i]? = some v → v.spec = true → v.alarmed = false →
    (v.failed = false → exec (.vtimeAlarm i) s = .next (handleAlarms (lateAlarm (dropVerif s v) v.req 3))) ∧
    (v.failed = true → exec (.vtimeAlarm i) s = .next (handleAlarms (lateAlarm (setVerif s i { v with alarmed := true }) v.req 3)))) ∧
  (∀ (i : Nat) (e : MemEnv) (v : Verif) (s : State), s.ipe.verif[i]? = some v → v.failed = true → refetchWaits s v.req = false →
    ∀ r, r = refetch s v e → r.1.dead = false → r.2.bad = [] → r.1.fail = none →
    exec (.verifyRefetch i e) s = .next (handleAlarms (refetchPass r.2.st v r.2 e))) ∧
  (∀ (i : Nat) (e : MemEnv) (v : Verif) (s : State), s.ipe.verif[i]? = some v → v.failed = true → refetchWaits s v.req = false →
    ∀ r, r = refetch s v e → r.1.dead = true → ∀ t, t = dropVerif r.1.st v →
    exec (.verifyRefetch i e) s = .next (handleAlarms (if v.spec then alarmOnce t v 1
      else answerHeld (loggedFault t v.req 1) v .poison (poisonBody v.req) 0))) ∧
  (∀ (i : Nat) (e : MemEnv) (v : Verif) (s : State), s.ipe.verif[i]? = some v → v.failed = true → refetchWaits s v.req = false →
    ∀ r, r = refetch s v e → r.1.dead = false → (r.2.bad ≠ [] ∨ r.1.fail ≠ none) → v.attempts = 0 →
    exec (.verifyRefetch i e) s = .next (handleAlarms (verifyFail r.2.st i { v with attempts := 1, bad := r.2.bad, node := r.1.fail }))) ∧
  (∀ (i : Nat) (e : MemEnv) (v : Verif) (s : State), s.ipe.verif[i]? = some v → v.failed = true → refetchWaits s v.req = false →
    ∀ r, r = refetch s v e → r.1.dead = false → (r.2.bad ≠ [] ∨ r.1.fail ≠ none) → v.attempts ≠ 0 →
    exec (.verifyRefetch i e) s = .next (handleAlarms (refetchFail r.2.st v r.2.bad r.1.fail)))

/-- An access to general plate memory has its effect (R34, R35, R36, R173). The window serves the first request it holds, after the bit errors
given have come about. A read answers the bytes of its range, its single-bit errors corrected; a word with a double-bit error makes it
POISON with class 0x03 against the partition's owner, its bytes a free value (log entry 94). A write stores the bytes it enables, reading
first the words it enables only in part. An ATOMIC stores its result and answers the old value. -/
def Obligations.PlateSramCommandCompletes : Prop :=
  (∀ (p : Packet) (single double : List Nat) (off : Nat) (s : State), sramOff p = some off → s.arrived p = true →
    sramTurn s p = true → partitionOf off = .general → p.op = opRead → p.len ≠ 0 →
    ∀ s1, s1 = double.foldl (upsetWord true) (single.foldl (upsetWord false) s) → ∀ ws, ws = wordsOf off p.rangeLen → ∀ t : State, t = { ws.foldl scrubWord s1 with free := s1.free + ws.length + 1 } → ws.any (badWord s1) = false →
    exec (.plateSramAccess p single double) s = .next (t.reply p .ok (p.readBody (sramBytes s1 off p.rangeLen)))) ∧
  (∀ (p : Packet) (single double : List Nat) (off : Nat) (s : State), sramOff p = some off → s.arrived p = true →
    sramTurn s p = true → partitionOf off = .general → p.op = opRead → p.len ≠ 0 →
    ∀ s1, s1 = double.foldl (upsetWord true) (single.foldl (upsetWord false) s) → ∀ ws, ws = wordsOf off p.rangeLen → ∀ t : State, t = { ws.foldl scrubWord s1 with free := s1.free + ws.length + 1 } → ws.any (badWord s1) = true →
    exec (.plateSramAccess p single double) s = .next ((t.raise (partitionOwner off) 0x03 off).reply p .poison (p.readBody (sramBytes s1 off p.rangeLen)))) ∧
  (∀ (p : Packet) (single double : List Nat) (off : Nat) (s : State), sramOff p = some off → s.arrived p = true →
    sramTurn s p = true → partitionOf off = .general → p.op = opWrite → p.len ≠ 0 →
    ∀ s1, s1 = double.foldl (upsetWord true) (single.foldl (upsetWord false) s) → ∀ ws, ws = wordsOf off p.rangeLen →
    (ws.filter (fun w => !coversWord off p.rangeLen w)).any (badWord s1) = false →
    ∀ t : State, t = { s1 with sram := { s1.sram with ecc := ws.foldl (fun m w => SMap.erase m w) s1.sram.ecc } } →
    exec (.plateSramAccess p single double) s = .next ((setSram t off p.writeBytes).reply p .ok)) ∧
  (∀ (p : Packet) (single double : List Nat) (off : Nat) (s : State), sramOff p = some off → s.arrived p = true →
    sramTurn s p = true → partitionOf off = .general → p.op = opAtomic →
    ∀ s1, s1 = double.foldl (upsetWord true) (single.foldl (upsetWord false) s) → ∀ n, n = p.atomicBytes → (wordsOf off n).any (badWord s1) = false → ∀ t, t = (wordsOf off n).foldl scrubWord s1 →
    ∀ old, old = leBytes (sramBytes t off n) →
    exec (.plateSramAccess p single double) s = .next ((setSram t off (toLeBytes n (atomicResult p.aop (8 * n) old p.operand p.compare))).reply p .ok [] old))

/-- A READ, a WRITE or an ATOMIC is performed by the target of its address (R6, R12, R22, R35, R116, R172, R173, R227, R238). A READ, a WRITE
or an ATOMIC without a label that has arrived is performed by the target its address lies in: DRAM, where a request in hand goes on as
well, with its protection and the alarms it signals; the fabric-port windows; plate SRAM in its turn; the PCIe windows; and the registers
of a unit: a read that is served answers the register's value, a write answers its completion, an ATOMIC answers DECODE, as every request
does where the address map has nothing. -/
def Obligations.AccessCommandsComplete : Prop :=
  (∀ (p : Packet) (e : MemEnv) (s : State), p.op = opRead → p.label = 0 → s.atTarget p = true → mapAddr p.a48 = .dram →
    exec (.read p e) s = .next (handleAlarms (memRequest s p e))) ∧
  (∀ (p : Packet) (e : MemEnv) (n o : Nat) (s : State), p.op = opRead → p.label = 0 → s.arrived p = true → mapAddr p.a48 = .fabric n o →
    exec (.read p e) s = .next (windowRequest s n o p)) ∧
  (∀ (p : Packet) (e : MemEnv) (off : Nat) (s : State), p.op = opRead → p.label = 0 → s.arrived p = true → mapAddr p.a48 = .sram off → sramTurn s p = true →
    exec (.read p e) s = .next (sramRequest s off p)) ∧
  (∀ (p : Packet) (e : MemEnv) (c off : Nat) (s : State), p.op = opRead → p.label = 0 → s.arrived p = true → mapAddr p.a48 = .pcie c off →
    exec (.read p e) s = .next (outbound s c off p)) ∧
  (∀ (p : Packet) (e : MemEnv) (s : State), p.op = opRead → p.label = 0 → s.arrived p = true → mapAddr p.a48 = .none →
    exec (.read p e) s = .next (s.reply p .decode)) ∧
  (∀ (p : Packet) (e : MemEnv) (u off : Nat) (r : State × Stat × Nat) (s : State), p.op = opRead → p.label = 0 → s.arrived p = true → mapAddr p.a48 = .csr u off → unitKind u ≠ .dsp → u ≠ uCfg → u ≠ uMgt ∨ off < 0x800000 →
    r = csrReadAccess s ⟨BitVec.ofNat 8 u, BitVec.ofNat 24 off, p.rangeLen, BitVec.ofNat 64 (leBytes p.writeBytes), p.icls, p.src, false⟩ → r.2.1 = .ok →
    exec (.read p e) s = .next (r.1.reply p .ok (p.readBody (toLeBytes p.rangeLen r.2.2)))) ∧
  (∀ (p : Packet) (e : MemEnv) (s : State), p.op = opWrite → p.label = 0 → s.atTarget p = true → mapAddr p.a48 = .dram →
    exec (.write p e) s = .next (handleAlarms (memRequest s p e))) ∧
  (∀ (p : Packet) (e : MemEnv) (n o : Nat) (s : State), p.op = opWrite → p.label = 0 → s.arrived p = true → mapAddr p.a48 = .fabric n o →
    exec (.write p e) s = .next (windowRequest s n o p)) ∧
  (∀ (p : Packet) (e : MemEnv) (off : Nat) (s : State), p.op = opWrite → p.label = 0 → s.arrived p = true → mapAddr p.a48 = .sram off → sramTurn s p = true →
    exec (.write p e) s = .next (sramRequest s off p)) ∧
  (∀ (p : Packet) (e : MemEnv) (c off : Nat) (s : State), p.op = opWrite → p.label = 0 → s.arrived p = true → mapAddr p.a48 = .pcie c off →
    exec (.write p e) s = .next (outbound s c off p)) ∧
  (∀ (p : Packet) (e : MemEnv) (s : State), p.op = opWrite → p.label = 0 → s.arrived p = true → mapAddr p.a48 = .none →
    exec (.write p e) s = .next (s.reply p .decode)) ∧
  (∀ (p : Packet) (e : MemEnv) (u off : Nat) (r : State × Stat) (s : State), p.op = opWrite → p.label = 0 → s.arrived p = true → mapAddr p.a48 = .csr u off → unitKind u ≠ .dsp → u ≠ uCfg → u ≠ uMgt ∨ off < 0x800000 →
    r = csrWrite s ⟨BitVec.ofNat 8 u, BitVec.ofNat 24 off, p.rangeLen, BitVec.ofNat 64 (leBytes p.writeBytes), p.icls, p.src, false⟩ →
    exec (.write p e) s = .next (r.1.reply p r.2)) ∧
  (∀ (p : Packet) (e : MemEnv) (s : State), p.op = opAtomic → p.label = 0 → s.atTarget p = true → mapAddr p.a48 = .dram →
    exec (.atomic p e) s = .next (handleAlarms (memRequest s p e))) ∧
  (∀ (p : Packet) (e : MemEnv) (n o : Nat) (s : State), p.op = opAtomic → p.label = 0 → s.arrived p = true → mapAddr p.a48 = .fabric n o →
    exec (.atomic p e) s = .next (windowRequest s n o p)) ∧
  (∀ (p : Packet) (e : MemEnv) (off : Nat) (s : State), p.op = opAtomic → p.label = 0 → s.arrived p = true → mapAddr p.a48 = .sram off → sramTurn s p = true →
    exec (.atomic p e) s = .next (sramRequest s off p)) ∧
  (∀ (p : Packet) (e : MemEnv) (c off : Nat) (s : State), p.op = opAtomic → p.label = 0 → s.arrived p = true → mapAddr p.a48 = .pcie c off →
    exec (.atomic p e) s = .next (outbound s c off p)) ∧
  (∀ (p : Packet) (e : MemEnv) (s : State), p.op = opAtomic → p.label = 0 → s.arrived p = true → mapAddr p.a48 = .none →
    exec (.atomic p e) s = .next (s.reply p .decode)) ∧
  (∀ (p : Packet) (e : MemEnv) (u off : Nat) (s : State), p.op = opAtomic → p.label = 0 → s.arrived p = true → mapAddr p.a48 = .csr u off →
    exec (.atomic p e) s = .next (s.reply p .decode))

/-- What enters at the ports and what comes back to them (R171, R182, R183, R184, R198, R203, R204, R209, R480). The oldest packet of a
receiving lane is handled, and its flits are freed once it is taken. A packet handed to an occupied port enters the network there, and the
attachment takes what has been delivered to it. A response whose turn it is completes the request outstanding under its tag, which is
erased, and what waited may be issued. A deadline that passes delivers TIMEOUT with the request's own fields restored, retires the tag,
counts, and raises class 0x01. A relay response completes the relay it matches. -/
def Obligations.PortCommandsComplete : Prop :=
  (∀ (p : Fin 16) (pri : Fin 4) (response : Bool) (lane : Nat) (l : Link) (pkt : Packet) (r : List Packet) (s : State), lane = 2 * pri + boolNat response → s.dom (150 + p.val / 4) = domRun →
    s.clk.halted = false → l = s.lnk p → SMap.get [] l.arrived lane = pkt :: r → ∀ out, out = linkPacket s p lane pkt → out.1 = true →
    ∀ m, m = out.2.lnk p → ∀ old, old = SMap.get 0 m.stale lane →
    ∀ s1, s1 = out.2.setLnk p { m with
      arrived := SMap.store [] m.arrived lane r
      stale := SMap.store 0 m.stale lane (old - 1)
      freed := if old = 0 then SMap.store 0 m.freed lane ((SMap.get 0 m.freed lane + 1 + pkt.body.length) % 4096) else m.freed } →
    exec (.linkPacketReceive p pri response) s = .next (absorbLink s1 p)) ∧
  (∀ (node : BitVec 7) (port : BitVec 4) (p : Packet) (s : State), ∀ n, n = node.toNat →
    ∀ k, k = port.toNat →
    portOccupied n k = true → k ≠ 1 → k < 9 → (k ≠ 0 ∨ (s.regionRuns n = true ∧ fpActs s n = true)) → s.clk.halted = false →
    exec (.ingressAccept node port p) s = .next (absorbAt (ingress s (codeOf n k) p) n k)) ∧
  (∀ (p : Packet) (n k code : Nat) (o : Outst) (np : NetPort) (s : State), n = p.dst.toNat / 16 → k = p.dst.toNat % 16 →
    p ∈ s.net.rsps → portOccupied n k = true → k ≠ 12 → rspWaits s p = false → rspTurn s p = true → code = codeOf n k →
    ∀ s1 : State, s1 = { s with net := { s.net with rsps := s.net.rsps.erase p } } → np = s1.netPort code →
    np.outst.find? (fun o => o.wireTag == p.tag.toNat) = some o →
    ∀ s2, s2 = s1.setNetPort code { np with outst := np.outst.erase o, delivered := np.delivered ++ [restoreRsp code o p] } →
    exec (.responseAccept p) s = .next (absorbAt (drainWaiting s2 code np.waiting.length) n k)) ∧
  (∀ (node : BitVec 7) (port : BitVec 4) (tag : BitVec 16) (k : Nat) (o : Outst) (np : NetPort) (s : State), s.clk.halted = false →
    k = codeOf node.toNat port.toNat → np = s.netPort k → np.outst.find? (fun o => o.wireTag == tag.toNat) = some o →
    ∀ s1, s1 = s.setNetPort k { np with
      outst := np.outst.erase o
      retired := NSet.add np.retired tag.toNat
      delivered := np.delivered ++ [restoreRsp k o (localAnswer o.req.tag o.sent .timeout)] } →
    ∀ s2, s2 = (((s1.countSat (uNoc (k / 16)) F.nocTmoCntCount 1 (k % 16)).setFld (uNoc (k / 16)) F.nocPortStatusTimeout 1 (k % 16)).raise
      (portUnit (k / 16) (k % 16)) 0x01 tag.toNat) →
    exec (.requestTimeout node port tag) s = .next (absorbAt (drainWaiting s2 k np.waiting.length) node.toNat port.toNat)) ∧
  (∀ (p : Packet) (n : Nat) (x : Session) (t s : State), p ∈ s.net.reqs → p.op = opLmsg → p.dst.toNat = codeOf 96 6 → p.ext.toNat / 2 ^ 60 = 2 →
    t = s.takeReq p → relaySession t p = some n → x = t.ses n →
    exec (.relayResponse p) s = .next (t.setSes n { x with relay := { x.relay with
      state := 2, response := p.payload.take (responseLen p.payload) } }))

/-- The records of the dictionary have their effects (R462, R467, R468, R471, R472, R473, R474). The oldest request, served for the first time
by the running firmware, closes an open transfer of its session unless it is a SEGMENT. A READ of a subindex that may be read answers its
value where it fits; a SEG_READ opens a transfer of it. A WRITE that is admitted and whose value is accepted is answered after it is
written; a SEG_WRITE that is admitted opens a transfer. The next segment of a read answers its bytes; of a write its bytes are kept, and
after the last the value is written whole. An ABORT closes the transfer and has no response. The response is kept for a repeat and sent
the way the request came. A transfer with no request for 1 s closes without effect. -/
def Obligations.DictionaryRecordsComplete : Prop :=
  (∀ (e : DictEnv) (q : DictReq) (o : ObjSub) (bs : List Byte) (s0 t s : State), ServesFirst s q s0 → ∀ s1, s1 = closeXfer s0 q.session → recCs q.record = 1 →
    findSub s1 q.session e (recIndex q.record) (recSub q.record) = .ok o → o.acc ≠ .wo →
    readValue s1 q.session e (recIndex q.record) (recSub q.record) o = (t, .ok bs) → bs.length ≤ rmax q.via - 8 →
    exec (.objectRead e) s = .next (answered t q (rspRecord q.record 0x81 bs.length bs))) ∧
  (∀ (e : DictEnv) (q : DictReq) (o : ObjSub) (s0 t s : State), ServesFirst s q s0 → ∀ s1, s1 = closeXfer s0 q.session → recCs q.record = 2 →
    admitWrite s1 q.session e (recIndex q.record) (recSub q.record) (recArg q.record) (q.record.getD 8 0) = .ok o → recArg q.record ≤ rmax q.via - 8 →
    writeValue s1 q.session e (recIndex q.record) (recSub q.record) o ((q.record.drop 8).take (recArg q.record)) = (t, none) →
    exec (.objectWrite e) s = .next (answered t q (rspRecord q.record 0x82 0))) ∧
  (∀ (e : DictEnv) (q : DictReq) (o : ObjSub) (bs : List Byte) (s0 t s : State), ServesFirst s q s0 → ∀ s1, s1 = closeXfer s0 q.session → recCs q.record = 3 →
    findSub s1 q.session e (recIndex q.record) (recSub q.record) = .ok o → o.acc ≠ .wo →
    readValue s1 q.session e (recIndex q.record) (recSub q.record) o = (t, .ok bs) → bs ≠ [] →
    exec (.segRead e) s = .next (answered (t.setSes q.session { t.ses q.session with
      xfer := some ⟨false, recIndex q.record, recSub q.record, bs.length, rmax q.via - 8, 0, bs, []⟩ }) q (rspRecord q.record 0x83 bs.length))) ∧
  (∀ (q : DictReq) (o : ObjSub) (s0 s : State), ServesFirst s q s0 → ∀ s1, s1 = closeXfer s0 q.session → recCs q.record = 4 → recArg q.record ≠ 0 →
    admitWrite s1 q.session quiet (recIndex q.record) (recSub q.record) (recArg q.record) 0 = .ok o →
    exec .segWrite s = .next (answered (s1.setSes q.session { s1.ses q.session with
      xfer := some ⟨true, recIndex q.record, recSub q.record, recArg q.record, rmax q.via - 8, 0, [], []⟩ }) q (rspRecord q.record 0x84 0))) ∧
  (∀ (e : DictEnv) (q : DictReq) (x : Xfer) (k : Nat) (s0 s : State), ServesFirst s q s0 → recCs q.record = 5 → (s0.ses q.session).silent = false →
    (s0.ses q.session).xfer = some x → x.write = false → k = recArg q.record → k = x.last + 1 → k ≤ (x.total + x.room - 1) / x.room →
    ∀ rsp, rsp = rspRecord q.record 0x85 k ((x.data.drop ((k - 1) * x.room)).take (min x.room (x.total - (k - 1) * x.room))) →
    exec (.segment e) s = .next (answered (s0.setSes q.session { s0.ses q.session with xfer := some { x with last := k, rsp := rsp } }) q rsp)) ∧
  (∀ (e : DictEnv) (q : DictReq) (x : Xfer) (k need : Nat) (s0 s : State), ServesFirst s q s0 → recCs q.record = 5 → (s0.ses q.session).silent = false →
    (s0.ses q.session).xfer = some x → x.write = true → k = recArg q.record → k = x.last + 1 → k < (x.total + x.room - 1) / x.room →
    need = min x.room (x.total - (k - 1) * x.room) → need ≤ (q.record.drop 8).length → ((q.record.drop 8).drop need).any (· != 0) = false →
    ∀ rsp, rsp = rspRecord q.record 0x85 k →
    exec (.segment e) s = .next (answered (s0.setSes q.session { s0.ses q.session with
      xfer := some { x with last := k, data := x.data ++ (q.record.drop 8).take need, rsp := rsp } }) q rsp)) ∧
  (∀ (e : DictEnv) (q : DictReq) (x y : Xfer) (o : ObjSub) (k need : Nat) (s0 t s : State), ServesFirst s q s0 → recCs q.record = 5 →
    (s0.ses q.session).silent = false → (s0.ses q.session).xfer = some x → x.write = true → k = recArg q.record → k = x.last + 1 →
    k = (x.total + x.room - 1) / x.room → need = min x.room (x.total - (k - 1) * x.room) → need ≤ (q.record.drop 8).length →
    ((q.record.drop 8).drop need).any (· != 0) = false → ∀ rsp, rsp = rspRecord q.record 0x85 k →
    y = { x with last := k, data := x.data ++ (q.record.drop 8).take need, rsp := rsp } → findSub s0 q.session e x.index x.sub = .ok o → o.acc ≠ .rwp →
    y.data ≠ [1] → writeValue s0 q.session e x.index x.sub o y.data = (t, none) →
    exec (.segment e) s = .next (answered (t.setSes q.session { t.ses q.session with xfer := some y }) q rsp)) ∧
  (∀ (q : DictReq) (s0 s : State), ServesFirst s q s0 → ∀ s1, s1 = closeXfer s0 q.session → recCs q.record = 7 → exec .recordAbort s = .next (answered s1 q [])) ∧
  (∀ (session : Fin 32) (s : State), ∀ x, (s.ses session).xfer = some x → x.last * x.room < x.total →
    exec (.transferTimeout session) s = .next (s.setSes session { s.ses session with xfer := none, silent := true }))

/-- The security objects and the presence, seal and measurement commands have their effects (R447, R481, R482, R485, R486, R487, R488, R489,
R491, R573, R574). With presence and an intact seal a free key slot is provisioned with the hash written, a slot is revoked while another
valid one remains, a key is wrapped under the device's key, and the expert key is written once. A challenge is drawn and answered, but not
within 1 s of a wrong answer; the right answer in time unlocks the session, as presence does, and a 0 locks it. An attestation object is
built, signed and answered. Return preparation in SERVICE burns its five steps and schedules the system reset, or stops where power is
lost, and the boot ROM completes it. PRES_N, its window and the seal loop show what they saw; a broken seal is burned and has its event. A
measurement slot is extended, but slots 0 and 1 refuse once the firmware runs. Challenges and signature secrets are free values (log entry
111). -/
def Obligations.SecurityObjectsComplete : Prop :=
  (∀ (q : DictReq) (k : Nat) (s0 s : State), ServesFirst s q s0 → ∀ s1, s1 = closeXfer s0 q.session → recCs q.record = 2 → recIndex q.record = 0xA001 → recSub q.record = 2 → recArg q.record = 48 →
    ∀ d, d = (q.record.drop 8).take 48 → presenceCheck s1 = none → k = s1.selOf q.session 0xA001 1 →
    keySlotState s1 k = 0 → exec .keySlotProvision s = .next (answered { s1 with fuse := { s1.fuse with
      slots := SMap.put s1.fuse.slots k (BitVec.ofNat 384 (beBytes d)) } } q (rspRecord q.record 0x82 0))) ∧
  (∀ (q : DictReq) (k : Nat) (s0 s : State), ServesFirst s q s0 → ∀ s1, s1 = closeXfer s0 q.session → recCs q.record = 2 → recIndex q.record = 0xA001 → recSub q.record = 3 → recArg q.record = 1 →
    (q.record.drop 8).take 1 = [0x52] → presenceCheck s1 = none →
    k = s1.selOf q.session 0xA001 1 → (∃ j < 4, j ≠ k ∧ keySlotState s1 j = 1) →
    exec .keySlotRevoke s = .next (answered { s1 with fuse := { s1.fuse with revoked := NSet.add s1.fuse.revoked k } } q (rspRecord q.record 0x82 0))) ∧
  (∀ (q : DictReq) (s0 s : State), ServesFirst s q s0 → ∀ s1, s1 = closeXfer s0 q.session → recCs q.record = 2 → recIndex q.record = 0xA002 → recSub q.record = 1 → recArg q.record = 32 →
    ∀ d, d = (q.record.drop 8).take 32 → presenceCheck s1 = none →
    exec .keyWrap s = .next (answered (s1.setSes q.session { s1.ses q.session with
      wrapped := toBeBytes 40 (Crypto.keyWrap s1.kek (beBytes d)) }) q (rspRecord q.record 0x82 0))) ∧
  (∀ (q : DictReq) (s0 s : State), ServesFirst s q s0 → ∀ s1, s1 = closeXfer s0 q.session → recCs q.record = 2 → recIndex q.record = 0xA003 → recSub q.record = 4 → recArg q.record = 48 →
    ∀ d, d = (q.record.drop 8).take 48 → presenceCheck s1 = none → s1.fuse.expert = none →
    exec .expertKeyWrite s = .next (answered { s1 with fuse := { s1.fuse with expert := some (BitVec.ofNat 384 (beBytes d)) } } q (rspRecord q.record 0x82 0))) ∧
  (∀ (e : DictEnv) (q : DictReq) (s0 s : State), ServesFirst s q s0 → ∀ s1, s1 = closeXfer s0 q.session → recCs q.record = 1 → recIndex q.record = 0xA003 → recSub q.record = 1 →
    s1.dict.wrong = false ∨ e.soon = false → ∀ c, c = s1.freshBytes 48 → c.length = 48 →
    ∀ t : State, t = { s1.drawBytes 48 with dict := { s1.dict with wrong := false } } →
    exec (.challengeRead e) s = .next (answered (t.setSes q.session { t.ses q.session with challenge := some (BitVec.ofNat 384 (beBytes c)) }) q
      (rspRecord q.record 0x81 48 c))) ∧
  (∀ (e : DictEnv) (q : DictReq) (key c : BitVec 384) (s0 s : State), ServesFirst s q s0 → ∀ s1, s1 = closeXfer s0 q.session → recCs q.record = 2 → recIndex q.record = 0xA003 → recSub q.record = 2 → recArg q.record = 48 →
    s1.fuse.expert = some key → s1.fuse.returned = false →
    (s1.ses q.session).challenge = some c → e.late = false →
    (q.record.drop 8).take 48 = Crypto.hmac384 (toBeBytes 48 key.toNat) (toBeBytes 48 c.toNat ++ uid ++ [BitVec.ofNat 8 q.session]) →
    exec (.challengeAnswer e) s = .next (answered (s1.setSes q.session { s1.ses q.session with challenge := none, unlocked := true }) q (rspRecord q.record 0x82 0))) ∧
  (∀ (q : DictReq) (s0 s : State), ServesFirst s q s0 → ∀ s1, s1 = closeXfer s0 q.session → recCs q.record = 2 → recIndex q.record = 0xA003 → recSub q.record = 3 → recArg q.record = 1 →
    (q.record.drop 8).take 1 = [1] → presenceCheck s1 = none →
    exec .presenceUnlock s = .next (answered (s1.setSes q.session { s1.ses q.session with unlocked := true }) q (rspRecord q.record 0x82 0))) ∧
  (∀ (q : DictReq) (s0 s : State), ServesFirst s q s0 → ∀ s1, s1 = closeXfer s0 q.session → recCs q.record = 2 → recIndex q.record = 0xA003 → recSub q.record = 3 → recArg q.record = 1 →
    (q.record.drop 8).take 1 = [0] →
    exec .lock s = .next (answered (s1.setSes q.session { s1.ses q.session with unlocked := false }) q (rspRecord q.record 0x82 0))) ∧
  (∀ (q : DictReq) (r : State × List Byte) (s0 s : State), ServesFirst s q s0 → ∀ s1, s1 = closeXfer s0 q.session → recCs q.record = 1 → recIndex q.record = 0xB001 → recSub q.record = 2 →
    r = attest s1 q.session → r.2.length ≤ rmax q.via - 8 →
    exec .attestationRead s = .next (answered r.1 q (rspRecord q.record 0x81 r.2.length r.2))) ∧
  (∀ (q : DictReq) (s0 s : State), ServesFirst s q s0 → ∀ s1, s1 = closeXfer s0 q.session → recCs q.record = 2 → recIndex q.record = 0xA0F0 → recSub q.record = 1 → recArg q.record = 1 →
    (q.record.drop 8).take 1 = [0x52] → presenceCheck s1 = none → s1.modeNo = 7 →
    ∀ t, t = returnSteps s1 [1, 2, 3, 4, 5] →
    exec (.returnPreparation 5) s = .next (answered { t with mode := { t.mode with reset := 2 } } q (rspRecord q.record 0x82 0))) ∧
  (∀ (steps : Fin 6) (q : DictReq) (rest : List DictReq) (s : State), s.serving = true → s.dict.queue = q :: rest → recCs q.record = 2 → recIndex q.record = 0xA0F0 → recSub q.record = 1 → recArg q.record = 1 →
    q.record.getD 8 0 = 0x52 →
    presenceCheck s = none → s.modeNo = 7 → s.fuse.returned = false → steps.val < 5 →
    ∀ t, t = returnSteps { s with dict := { s.dict with queue := rest } } ((List.range steps).map (· + 1)) →
    exec (.returnPreparation steps) s = .next t) ∧
  (∀ (held : Bool) (s : State), ∀ t, t = (s.setFld uMgt F.mgtPresStatusHeld (boolNat held)).setFld uMgt F.mgtPresStatusPresent 1 →
    held = true →
    exec (.presencePress held) s = .next t) ∧
  (∀ (held : Bool) (s : State), ∀ t, t = (s.setFld uMgt F.mgtPresStatusHeld (boolNat held)).setFld uMgt F.mgtPresStatusPresent 1 →
    held = false → s.flag uMgt F.mgtPresStatusHeld = true →
    exec (.presencePress held) s = .next (t.setFld uMgt F.mgtPresStatusWindowS 60)) ∧
  (∀ (s : State),
    exec (.presenceExpire) s = .next ((s.setFld uMgt F.mgtPresStatusWindowS 0).setFld uMgt F.mgtPresStatusPresent (s.fld uMgt F.mgtPresStatusHeld))) ∧
  (∀ (s : State), s.flag uMgt F.mgtPresStatusSealIntact = true → ∀ n, n = (if s.fuse.sealEvents < 32 then s.fuse.sealEvents + 1 else s.fuse.sealEvents) →
    ∀ t : State, t = { s with fuse := { s.fuse with sealEvents := n } } →
    exec (.sealBreak) s = .next ((((t.setFld uMgt F.mgtPresStatusSealIntact 0).setFld uMgt F.mgtPresStatusSealBroken 1).setFld uMgt F.mgtPresStatusSealEvents n).edge 2)) ∧
  (∀ (session : Fin 32) (s : State),
    exec (.unlockExpire session) s = .next (s.setSes session { s.ses session with unlocked := false })) ∧
  (∀ (s : State), returnOpen s = true → s.bootPhase ≠ 5 → s.mode.dormant = false →
    exec (.returnCompletion) s = .next (returnSteps s [2, 3, 4, 5])) ∧
  (∀ (slot : Fin 8) (icls : BitVec 3) (s : State), icls = 4 → 2 ≤ slot.val ∨ s.bootPhase ≠ 5 →
    exec (.measurementExtend slot icls) s = .next ((extendMeas s slot ((List.range 12).flatMap (fun k =>
      toLeBytes 4 (s.reg uMgt (F.mgtMeasValData.at k 0)).toNat))).answer .ok)) ∧
  (∀ (slot : Fin 8) (icls : BitVec 3) (s : State), icls = 4 → slot.val < 2 → s.bootPhase = 5 →
    exec (.measurementExtend slot icls) s = .next ((s.setFld uMgt F.mgtMeasCmdRefused 1).answer .ok))

/-- The CAN FD and relay commands have their effects (R476, R477, R479, R480). A frame of a length CAN FD has, received by a controller on the
bus, is counted; one with the Bafimer prefix, the device's node-ID and a whole record joins the requests that wait. A bus error raises a
count, and a transmit count above 255 is bus-off, which the rejoin ends with its counts at 0. A relay request with legal ports is sent as
an LMSG under the next relay sequence number and is pending; it times out when no response comes. -/
def Obligations.CanAndRelayCommandsComplete : Prop :=
  (∀ (c : Fin 2) (id : BitVec 29) (data : List Byte) (s : State), canOn s c = true → s.mode.dormant = false → canLength data.length = data.length → ∀ t, t = canReceived s c →
    ∀ x, x = id.toNat →
    bitsOf x 28 21 = 0xB7 → bitsOf x 20 14 = s.fld uMgt F.mgtStrapNodeId → bitOf x 13 = false → recordNeed data ≤ data.length ∨ (8 ≤ data.length ∧ 64 < recordNeed data) →
    exec (.canFrameReceive c id data) s = .next { t with dict := { t.dict with queue := t.dict.queue ++ [⟨c, x % 8192, .can c, data⟩] } }) ∧
  (∀ (c : Fin 2) (id : BitVec 29) (data : List Byte) (s : State), canOn s c = true → s.mode.dormant = false → canLength data.length = data.length → ∀ t, t = canReceived s c →
    ∀ x, x = id.toNat →
    (bitsOf x 28 21 ≠ 0xB7 ∨ bitsOf x 20 14 ≠ s.fld uMgt F.mgtStrapNodeId ∨ bitOf x 13 = true ∨ (data.length < recordNeed data ∧ (data.length < 8 ∨ recordNeed data ≤ 64))) →
    exec (.canFrameReceive c id data) s = .next t) ∧
  (∀ (c : Fin 2) (transmit : Bool) (step : BitVec 4) (s : State), canOn s c = true → (step = 8 ∨ (step = 1 ∧ transmit = false)) → transmit = true → ∀ n, n = s.fld uCan F.mgtCanStatTec c + 8 →
    255 < n →
    exec (.canBusError c transmit step) s = .next ((s.setFld uCan F.mgtCanStatTec 255 c).setFld uCan F.mgtCanStatState 2 c)) ∧
  (∀ (c : Fin 2) (transmit : Bool) (step : BitVec 4) (s : State), canOn s c = true → (step = 8 ∨ (step = 1 ∧ transmit = false)) → transmit = true → ∀ n, n = s.fld uCan F.mgtCanStatTec c + 8 →
    n ≤ 255 →
    exec (.canBusError c transmit step) s = .next (showCan (s.setFld uCan F.mgtCanStatTec n c) c)) ∧
  (∀ (c : Fin 2) (transmit : Bool) (step : BitVec 4) (s : State), canOn s c = true → (step = 8 ∨ (step = 1 ∧ transmit = false)) → transmit = false →
    exec (.canBusError c transmit step) s = .next (showCan (s.setFld uCan F.mgtCanStatRec (addSat 8 (s.fld uCan F.mgtCanStatRec c) step.toNat) c) c)) ∧
  (∀ (c : Fin 2) (s : State), s.fld uCan F.mgtCanStatState c = 2 →
    exec (.busOffRejoin c) s = .next ((((s.setFld uCan F.mgtCanStatTec 0 c).setFld uCan F.mgtCanStatRec 0 c).setFld uCan F.mgtCanStatState 0 c).countSat uCan
      F.mgtCanBusoffCntCount 1 c)) ∧
  (∀ (q : DictReq) (d : List Byte) (x : Session) (n : Nat) (s0 s : State), ServesFirst s q s0 → ∀ s1, s1 = closeXfer s0 q.session → recCs q.record = 2 → recIndex q.record = 0xC000 → recSub q.record = 1 →
    16 ≤ recArg q.record → recArg q.record ≤ 4104 → recArg q.record ≤ rmax q.via - 8 → d = (q.record.drop 8).take (recArg q.record) →
    ∀ b : Nat → Nat, b = (fun i => (d.getD i 0).toNat) → b 0 ≤ 15 → b 6 ≤ 15 → x = s1.ses q.session → x.relay.state ≠ 1 → n = s1.dict.relaySeq →
    ∀ ext, ext = 2 ^ 60 + b 6 * 2 ^ 56 + b 7 * 2 ^ 48 + (b 4 + 256 * b 5) * 2 ^ 32 + s1.fld uCns F.cnsSysidSysid * 2 ^ 16 + n →
    ∀ t, t = s1.setSes q.session { x with relay := { x.relay with state := 1, seq := n, response := [] } } →
    ∀ t1 : State, t1 = { t with dict := { t.dict with relaySeq := (n + 1) % 8192 } } →
    exec .relaySend s = .next (answered (ingress t1 (codeOf 96 6) (recordLmsg 2 (b 0) (b 2 + 256 * b 3) (b 1) ext (d.drop 8))) q (rspRecord q.record 0x82 0))) ∧
  (∀ (session : Fin 32) (s : State), ∀ x, x = s.ses session →
    x.relay.state = 1 →
    exec (.relayTimeout session) s = .next (s.setSes session { x with relay := { x.relay with state := 3 } }))

/-- An item is admitted while U is below CAP, and over any run of frets the work exceeds CAP per fret by at most one item (R424, R427). An
item is admitted exactly while U < CAP; its whole cost is then added, so U stays below CAP plus that cost, and an item that is not
admitted leaves U as it was. At the boundary U becomes max(0, U - CAP). The meters of other instances are not touched. Over any run of
frets, from a meter whose U is the debt it carries and no more than one item, the work charged in all is at most CAP for each fret plus
one item. -/
def Obligations.BudgetsAdmitAndCarryDebt : Prop :=
  (∀ (s : State) (c i : Nat), s.admits c i = true ↔ (s.meter c i).u < s.capOf c) ∧
  (∀ (s : State) (c i cost : Nat), s.admits c i = true → ((s.charge c i cost).meter c i).u = (s.meter c i).u + cost ∧
    ((s.charge c i cost).meter c i).u < s.capOf c + cost ∧ (s.charge c i cost).capOf c = s.capOf c ∧
    (∀ c' i', budKey c' i' ≠ budKey c i → (s.charge c i cost).meter c' i' = s.meter c' i')) ∧
  (∀ (s : State) (c i cost : Nat), s.admits c i = false → s.budgeted c i cost id = s.hold c i ∧ ((s.hold c i).meter c i).u = (s.meter c i).u) ∧
  (∀ (s : State) (c i : Nat), ((meterBoundary s c i).meter c i).u = (s.meter c i).u - s.capOf c ∧
    (∀ c' i', budKey c' i' ≠ budKey c i → (meterBoundary s c i).meter c' i' = s.meter c' i')) ∧
  (∀ (s : State) (c i item : Nat) (frets : List (List Nat)), (s.meter c i).u = (s.meter c i).debt → (s.meter c i).u ≤ item →
    (∀ f ∈ frets, ∀ x ∈ f, x ≤ item) → (budRun c i frets s).2 ≤ frets.length * s.capOf c + item)

/-- What is written to general plate memory, to DRAM and to a plane reads back, and nothing else changes (R34, R35, R64, R247). A byte stored
in general plate memory reads back, every byte outside the bytes stored reads as before, and nothing else of the state changes. A DRAM
line written reads back and its bit errors are gone, every other line reads as before, and nothing else changes. A frame written reads
back in its plane, region and ordinal, every other frame reads as before, and nothing else changes. What DRAM holds after its contents are
lost is a free value (log entry 9), and reading back does not depend on it. -/
def Obligations.MemoriesReadBack : Prop :=
  (∀ (s : State) (off i : Nat) (bs : List Byte), i < bs.length → partitionOf (off + i) = .general → sramByte (setSram s off bs) (off + i) = bs.getD i 0) ∧
  (∀ (s : State) (off o : Nat) (bs : List Byte), o < off ∨ off + bs.length ≤ o → sramByte (setSram s off bs) o = sramByte s o) ∧
  (∀ (s : State) (off : Nat) (bs : List Byte), setSram s off bs = { s with sram := { s.sram with mem := (setSram s off bs).sram.mem } }) ∧
  (∀ (s : State) (l l' : Nat) (v : Line), (s.setDramLine l v).dramLine l = v ∧ (l' ≠ l → (s.setDramLine l v).dramLine l' = s.dramLine l') ∧
    s.setDramLine l v = { s with ddr := { s.ddr with mem := (s.setDramLine l v).ddr.mem, err := SMap.erase s.ddr.err l } }) ∧
  (∀ (s : State) (p n o p' n' o' : Nat) (f : Frame), o < 22528 → n < 128 → o' < 22528 → n' < 128 → (s.setFrame p n o f).frame p n o = f ∧
    ((p', n', o') ≠ (p, n, o) → (s.setFrame p n o f).frame p' n' o' = s.frame p' n' o') ∧
    s.setFrame p n o f = { s with fab := { s.fab with frames := (s.setFrame p n o f).fab.frames } })

/-- What a flip-flop shows and captures (R43). Q is 0 with no ACTIVE plane, and INIT while its track is in hold or DSEL is 3, whose cell no
edge clocks; otherwise it is SRVAL while an asynchronous set/reset acts and its pin is high, and what the flip-flop stores while not. At
an active edge SRVAL is captured while the set/reset is enabled and high, whatever the clock enable; else, with the clock enable off or
high, the data input DSEL chooses: O, the bypass input, or COUT; else Q is unchanged. -/
def Obligations.FlipFlopsFollowTheirRule : Prop :=
  (∀ (s : State) (n col row c : Nat), s.active n = none → qOf s n col row c = false) ∧
  (∀ (s : State) (n col row c p : Nat), s.active n = some p → ∀ cs, cs = controlSet s n col row (cellField s n col row c 19 1) →
    s.ffHeld n (bitsOf cs 2 0) = true ∨ cellField s n col row c 17 2 = 3 →
    qOf s n col row c = (cellField s n col row c 20 1 != 0)) ∧
  (∀ (s : State) (n col row c p : Nat), s.active n = some p → ∀ cs, cs = controlSet s n col row (cellField s n col row c 19 1) →
    s.ffHeld n (bitsOf cs 2 0) = false → cellField s n col row c 17 2 ≠ 3 →
    ∀ sr, sr = (asyncActs s n col row c && pinOf s n col row (81 + 2 * cellField s n col row c 19 1)) →
    (sr = true → qOf s n col row c = (cellField s n col row c 21 1 != 0)) ∧
    (sr = false → qOf s n col row c = SMap.get false s.fab.q (cellKey n row col c))) ∧
  (∀ (s : State) (n col row c csn cs : Nat), csn = cellField s n col row c 19 1 → cs = controlSet s n col row csn → bitOf cs 5 = true →
    pinOf s n col row (81 + 2 * csn) = true → captureCell s n col row c = (cellField s n col row c 21 1 != 0)) ∧
  (∀ (s : State) (n col row c csn cs : Nat), csn = cellField s n col row c 19 1 → cs = controlSet s n col row csn →
    bitOf cs 5 = false ∨ pinOf s n col row (81 + 2 * csn) = false → bitOf cs 4 = false ∨ pinOf s n col row (80 + 2 * csn) = true →
    (cellField s n col row c 17 2 = 0 → captureCell s n col row c = oOf s n col row c) ∧
    (cellField s n col row c 17 2 = 1 → captureCell s n col row c = pinOf s n col row (5 * c + 4)) ∧
    (cellField s n col row c 17 2 = 2 →
      captureCell s n col row c = evalSig s (n / 16) evalDepth (.co (regionX0 n + col) (regionY0 n + row) c))) ∧
  (∀ (s : State) (n col row c csn cs : Nat), csn = cellField s n col row c 19 1 → cs = controlSet s n col row csn →
    bitOf cs 5 = false ∨ pinOf s n col row (81 + 2 * csn) = false → bitOf cs 4 = true → pinOf s n col row (80 + 2 * csn) = false →
    captureCell s n col row c = SMap.get false s.fab.q (cellKey n row col c)) ∧
  (∀ (s : State) (n col row c track edge : Nat), cellField s n col row c 17 2 = 3 → clockedBy s n col row c track edge = false)

/-- A mode, reset or measurement command from another class than 4 is answered PROTECTED and changes nothing (R458, R490). Written from any
class but 4, the mode commands, the reset commands and an extension of a measurement slot complete with STAT PROTECTED, and the machine is
otherwise as it was. -/
def Obligations.ModeCommandsNeedManagement : Prop :=
  ∀ (icls : BitVec 3) (key : Byte) (slot : Fin 8) (s : State), icls ≠ 4 →
    exec (.contain icls) s = .next (s.answer .prot) ∧ exec (.resume icls) s = .next (s.answer .prot) ∧
    exec (.drowse icls) s = .next (s.answer .prot) ∧ exec (.wake icls) s = .next (s.answer .prot) ∧
    exec (.dormant icls) s = .next (s.answer .prot) ∧ exec (.resetSystemCmd key icls) s = .next (s.answer .prot) ∧
    exec (.resetManagementCmd key icls) s = .next (s.answer .prot) ∧ exec (.measurementExtend slot icls) s = .next (s.answer .prot)

/-- A claim takes the assigned source of highest priority, of the lowest number among equals (R510, R511). Where sources are assigned to a
target, none of them source 0, what a claim returns is one of them, and every source assigned to the target has a lower PRIO, or the same
PRIO and no lower number. -/
def Obligations.ClaimTakesBestSource : Prop :=
  ∀ (s : State) (t n : Nat), (n, t) ∈ s.evt.assigned → n ≠ 0 → (∀ e ∈ s.evt.assigned, e.1 ≠ 0) →
    (claimOf s t, t) ∈ s.evt.assigned ∧ (s.fld uEvt F.evtPrioPrio n < s.fld uEvt F.evtPrioPrio (claimOf s t) ∨
      (s.fld uEvt F.evtPrioPrio n = s.fld uEvt F.evtPrioPrio (claimOf s t) ∧ claimOf s t ≤ n))

/-- What power-on reset leaves (R10, R247, R279, R434, R440). Every register reads its value of the register tables; no command waits, and the
device is DORMANT with PWR_REQ low; every region is without an ACTIVE plane and its planes are EMPTY; every frame reads 0. General plate
memory, whose contents after reset the spec does not give, reads 0: the model's choice (log entry 24). Fields without a Reset value are
the model's choice (log entry 118). -/
def Obligations.ResetLeaves : Prop :=
  (∀ u off : Nat, State.reset.reg u off = csrReset (csrHome u off)) ∧
  (State.reset.pending = [] ∧ State.reset.modeNo = 0 ∧ State.reset.mode.pwrReq = false) ∧
  (∀ n : Fin 128, State.reset.active n = none ∧ State.reset.planeState n 0 = planeEmpty ∧ State.reset.planeState n 1 = planeEmpty) ∧
  (∀ (p n o : Nat), State.reset.frame p n o = 0) ∧
  (∀ o : Nat, SMap.get 0 State.reset.sram.mem o = 0)
end

