-- ==== Sys2Proof/Laws/Map.lean ====
section
/-! SUPPORT. Laws of sparse tables and sets: what is found after each operation, and that each keeps the canonical form. -/

namespace Sys2Proof.Machine

open Sys2Proof

variable {α : Type}

/-! ### What is found -/

@[simp] theorem SMap.find_nil (k : Nat) : SMap.find ([] : SMap α) k = none := rfl

theorem SMap.find_erase_self (m : SMap α) (k : Nat) : SMap.find (SMap.erase m k) k = none := by
  induction m with
  | nil => rfl
  | cons e r ih =>
    obtain ⟨j, v⟩ := e
    by_cases h : j = k
    · simp [SMap.erase, h, ih]
    · simp [SMap.erase, SMap.find, h, ih]

theorem SMap.find_erase_ne (m : SMap α) {k j : Nat} (h : j ≠ k) : SMap.find (SMap.erase m k) j = SMap.find m j := by
  induction m with
  | nil => rfl
  | cons e r ih =>
    obtain ⟨i, v⟩ := e
    by_cases hk : i = k
    · subst hk; simp [SMap.erase, SMap.find, ih, Ne.symm h]
    · by_cases hj : i = j
      · subst hj; simp [SMap.erase, SMap.find, hk]
      · simp [SMap.erase, SMap.find, hk, hj, ih]

theorem SMap.find_insert_ne (m : SMap α) {k j : Nat} (v : α) (h : j ≠ k) : SMap.find (SMap.insert m k v) j = SMap.find m j := by
  induction m with
  | nil => simp [SMap.insert, SMap.find, Ne.symm h]
  | cons e r ih =>
    obtain ⟨i, w⟩ := e
    by_cases hk : k < i
    · simp [SMap.insert, SMap.find, hk, Ne.symm h]
    · by_cases hj : i = j
      · subst hj; simp [SMap.insert, SMap.find, hk]
      · simp [SMap.insert, SMap.find, hk, hj, ih]

theorem SMap.find_insert_self (m : SMap α) {k : Nat} (v : α) (h : SMap.find m k = none) : SMap.find (SMap.insert m k v) k = some v := by
  induction m with
  | nil => simp [SMap.insert, SMap.find]
  | cons e r ih =>
    obtain ⟨i, w⟩ := e
    by_cases hi : i = k
    · simp [SMap.find, hi] at h
    · have h2 : SMap.find r k = none := by simpa [SMap.find, hi] using h
      by_cases hk : k < i <;> simp [SMap.insert, SMap.find, hk, hi, ih h2]

theorem SMap.find_put_self (m : SMap α) (k : Nat) (v : α) : SMap.find (SMap.put m k v) k = some v :=
  SMap.find_insert_self _ v (SMap.find_erase_self m k)

theorem SMap.find_put_ne (m : SMap α) {k j : Nat} (v : α) (h : j ≠ k) : SMap.find (SMap.put m k v) j = SMap.find m j := by
  rw [SMap.put, SMap.find_insert_ne _ v h, SMap.find_erase_ne m h]

theorem SMap.get_put_self (d : α) (m : SMap α) (k : Nat) (v : α) : SMap.get d (SMap.put m k v) k = v := by
  simp [SMap.get, SMap.find_put_self]

theorem SMap.get_put_ne (d : α) (m : SMap α) {k j : Nat} (v : α) (h : j ≠ k) : SMap.get d (SMap.put m k v) j = SMap.get d m j := by
  simp [SMap.get, SMap.find_put_ne m v h]

theorem SMap.get_erase_self (d : α) (m : SMap α) (k : Nat) : SMap.get d (SMap.erase m k) k = d := by
  simp [SMap.get, SMap.find_erase_self]

theorem SMap.get_erase_ne (d : α) (m : SMap α) {k j : Nat} (h : j ≠ k) : SMap.get d (SMap.erase m k) j = SMap.get d m j := by
  simp [SMap.get, SMap.find_erase_ne m h]

/-- A stored value is read back. -/
@[simp] theorem SMap.get_store_self [DecidableEq α] (d : α) (m : SMap α) (k : Nat) (v : α) : SMap.get d (SMap.store d m k v) k = v := by
  by_cases h : v = d
  · subst h; simp [SMap.store, SMap.get_erase_self]
  · simp [SMap.store, h, SMap.get_put_self]

/-- A store leaves every other key as it was. -/
theorem SMap.get_store_ne [DecidableEq α] (d : α) (m : SMap α) {k j : Nat} (v : α) (h : j ≠ k) :
    SMap.get d (SMap.store d m k v) j = SMap.get d m j := by
  by_cases hv : v = d
  · simp [SMap.store, hv, SMap.get_erase_ne d m h]
  · simp [SMap.store, hv, SMap.get_put_ne d m v h]

/-! ### Rising keys -/

/-- A table filtered by its keys. -/
theorem SMap.find_filter_key (m : SMap α) (p : Nat → Bool) (k : Nat) :
    SMap.find (m.filter (fun e => p e.1)) k = if p k then SMap.find m k else none := by
  induction m with
  | nil => simp
  | cons e r ih =>
    obtain ⟨j, v⟩ := e
    by_cases hj : p j = true
    · rw [List.filter_cons_of_pos (by simpa using hj)]
      simp only [SMap.find, ih]
      by_cases hk : j = k
      · subst hk; simp [hj]
      · simp [hk]
    · rw [List.filter_cons_of_neg (by simpa using hj), ih]
      simp only [SMap.find]
      by_cases hk : j = k
      · subst hk; simp [hj]
      · simp [hk]

/-- The entries of a table changed, each at its key. -/
theorem SMap.find_map (m : SMap α) (f : Nat × α → α) (k : Nat) :
    SMap.find (m.map (fun e => (e.1, f e))) k = (SMap.find m k).map (fun v => f (k, v)) := by
  induction m with
  | nil => rfl
  | cons e r ih =>
    obtain ⟨j, v⟩ := e
    simp only [List.map_cons, SMap.find]
    by_cases hk : j = k
    · subst hk; simp
    · simp [hk, ih]

theorem SMap.Rising.nil : SMap.Rising ([] : SMap α) := List.Pairwise.nil

theorem SMap.Rising.filter {m : SMap α} (h : m.Rising) (p : Nat × α → Bool) : SMap.Rising (m.filter p) :=
  List.Pairwise.sublist (List.Sublist.map _ List.filter_sublist) h

theorem SMap.erase_eq_filter (m : SMap α) (k : Nat) : SMap.erase m k = m.filter (fun e => !decide (e.1 = k)) := by
  induction m with
  | nil => rfl
  | cons e r ih =>
    obtain ⟨j, v⟩ := e
    by_cases h : j = k <;> simp [SMap.erase, h, ih]

theorem SMap.Rising.erase {m : SMap α} (h : m.Rising) (k : Nat) : SMap.Rising (SMap.erase m k) := by
  rw [SMap.erase_eq_filter]; exact h.filter _

theorem SMap.mem_insert {m : SMap α} {k : Nat} {v : α} {e : Nat × α} : e ∈ SMap.insert m k v ↔ e = (k, v) ∨ e ∈ m := by
  induction m with
  | nil => simp [SMap.insert]
  | cons f r ih =>
    obtain ⟨j, w⟩ := f
    by_cases h : k < j
    · simp [SMap.insert, h]
    · simp [SMap.insert, h, ih]; tauto

theorem SMap.Rising.insert {m : SMap α} (h : m.Rising) {k : Nat} (v : α) (hk : ∀ e ∈ m, e.1 ≠ k) : SMap.Rising (SMap.insert m k v) := by
  induction m with
  | nil => simp [SMap.insert, SMap.Rising]
  | cons f r ih =>
    obtain ⟨j, w⟩ := f
    have hr : SMap.Rising r := by
      have := h; simp only [SMap.Rising, List.map_cons, List.pairwise_cons] at this; exact this.2
    have hj : ∀ e ∈ r, j < e.1 := by
      have := h; simp only [SMap.Rising, List.map_cons, List.pairwise_cons, List.mem_map] at this
      intro e he; exact this.1 e.1 ⟨e, he, rfl⟩
    have hne : j ≠ k := hk (j, w) (by simp)
    by_cases hlt : k < j
    · simp only [SMap.insert, hlt, if_true, SMap.Rising, List.map_cons, List.pairwise_cons, List.mem_cons, List.mem_map]
      refine ⟨?_, ?_, ?_⟩
      · rintro a (rfl | ⟨e, he, rfl⟩)
        · exact hlt
        · exact lt_trans hlt (hj e he)
      · rintro a ⟨e, he, rfl⟩; exact hj e he
      · exact hr
    · have ihr := ih hr (fun e he => hk e (by simp [he]))
      simp only [SMap.insert, hlt, if_false, SMap.Rising, List.map_cons, List.pairwise_cons, List.mem_map]
      refine ⟨?_, ihr⟩
      rintro a ⟨e, he, rfl⟩
      rcases SMap.mem_insert.1 he with rfl | he
      · simp only; omega
      · exact hj e he

theorem SMap.mem_erase {m : SMap α} {k : Nat} {e : Nat × α} : e ∈ SMap.erase m k ↔ e ∈ m ∧ e.1 ≠ k := by
  rw [SMap.erase_eq_filter]; simp

theorem SMap.mem_put {m : SMap α} {k : Nat} {v : α} {e : Nat × α} (h : e ∈ SMap.put m k v) : e = (k, v) ∨ e ∈ m := by
  rw [SMap.put, SMap.mem_insert, SMap.mem_erase] at h; tauto

theorem SMap.Rising.put {m : SMap α} (h : m.Rising) (k : Nat) (v : α) : SMap.Rising (SMap.put m k v) :=
  (h.erase k).insert v (fun _ he => (SMap.mem_erase.1 he).2)

/-! ### The canonical form -/

theorem SMap.Canon.nil (d : Nat → α) : SMap.Canon d [] := ⟨SMap.Rising.nil, by simp⟩

theorem SMap.Canon.filter {d : Nat → α} {m : SMap α} (h : m.Canon d) (p : Nat × α → Bool) : SMap.Canon d (m.filter p) :=
  ⟨h.1.filter p, fun e he => h.2 e (List.mem_of_mem_filter he)⟩

theorem SMap.Canon.drop {d : Nat → α} {m : SMap α} (h : m.Canon d) (p : Nat → Bool) : SMap.Canon d (SMap.drop m p) := h.filter _

theorem SMap.Canon.erase {d : Nat → α} {m : SMap α} (h : m.Canon d) (k : Nat) : SMap.Canon d (SMap.erase m k) := by
  rw [SMap.erase_eq_filter]; exact h.filter _

theorem SMap.Canon.put {d : Nat → α} {m : SMap α} (h : m.Canon d) {k : Nat} {v : α} (hv : v ≠ d k) : SMap.Canon d (SMap.put m k v) :=
  ⟨h.1.put k v, fun e he => by rcases SMap.mem_put he with rfl | he; exacts [hv, h.2 e he]⟩

theorem SMap.Canon.store [DecidableEq α] {d : α} {m : SMap α} (h : m.Canon (fun _ => d)) (k : Nat) (v : α) :
    SMap.Canon (fun _ => d) (SMap.store d m k v) := by
  by_cases hv : v = d
  · simpa [SMap.store, hv] using h.erase k
  · simpa [SMap.store, hv] using h.put (k := k) hv

theorem SMap.wfFrom_iff [DecidableEq α] (d : α) (m : SMap α) (lo : Nat) :
    SMap.wfFrom d lo m = true ↔ SMap.Canon (fun _ => d) m ∧ ∀ e ∈ m, lo ≤ e.1 := by
  induction m generalizing lo with
  | nil => simp [SMap.wfFrom, SMap.Canon.nil]
  | cons e r ih =>
    obtain ⟨k, v⟩ := e
    simp only [SMap.wfFrom, Bool.and_eq_true, decide_eq_true_eq, ih, SMap.Canon, SMap.Rising, List.map_cons, List.pairwise_cons,
      List.mem_map, List.mem_cons]
    constructor
    · rintro ⟨⟨h1, h2⟩, ⟨h3, h4⟩, h5⟩
      refine ⟨⟨⟨?_, h3⟩, ?_⟩, ?_⟩
      · rintro a ⟨e, he, rfl⟩; exact h5 e he
      · rintro e (rfl | he)
        · exact h2
        · exact h4 e he
      · rintro e (rfl | he)
        · exact h1
        · exact le_trans (by omega) (h5 e he)
    · rintro ⟨⟨⟨h1, h2⟩, h3⟩, h4⟩
      refine ⟨⟨h4 _ (Or.inl rfl), h3 _ (Or.inl rfl)⟩, ⟨h2, fun e he => h3 e (Or.inr he)⟩, fun e he => h1 _ ⟨e, he, rfl⟩⟩

/-- The computable canonical form says that keys rise and no entry is the default. -/
theorem SMap.wf_iff [DecidableEq α] (d : α) (m : SMap α) : SMap.wf d m = true ↔ SMap.Canon (fun _ => d) m := by
  simp [SMap.wf, SMap.wfFrom_iff]

theorem SMap.wf_store [DecidableEq α] {d : α} {m : SMap α} (h : SMap.wf d m = true) (k : Nat) (v : α) : SMap.wf d (SMap.store d m k v) = true :=
  (SMap.wf_iff _ _).2 (((SMap.wf_iff _ _).1 h).store k v)

theorem SMap.wf_erase [DecidableEq α] {d : α} {m : SMap α} (h : SMap.wf d m = true) (k : Nat) : SMap.wf d (SMap.erase m k) = true :=
  (SMap.wf_iff _ _).2 (((SMap.wf_iff _ _).1 h).erase k)

theorem SMap.wf_filter [DecidableEq α] {d : α} {m : SMap α} (h : SMap.wf d m = true) (p : Nat × α → Bool) : SMap.wf d (m.filter p) = true :=
  (SMap.wf_iff _ _).2 (((SMap.wf_iff _ _).1 h).filter p)

/-! ### Sets -/

theorem NSet.mem_add (s : NSet) (k j : Nat) : j ∈ NSet.add s k ↔ j = k ∨ j ∈ s := by
  induction s with
  | nil => simp [NSet.add]
  | cons i r ih =>
    simp only [NSet.add]
    split
    · simp
    · split
      · subst_vars; simp
      · simp [ih]; tauto

theorem NSet.mem_del (s : NSet) (k j : Nat) : j ∈ NSet.del s k ↔ j ∈ s ∧ j ≠ k := by simp [NSet.del]

end Sys2Proof.Machine
end

