-- ==== Sys2Proof/Laws/State.lean ====
section
/-! SUPPORT. The named updates of the state, field by field: what each leaves as it was. -/

namespace Sys2Proof.Machine

open Sys2Proof

variable (s : State)

/-! ### State.setReg -/

@[simp] theorem State.setReg_reports (u off : Nat) (w : Word32) : (s.setReg u off w).reports = s.reports := rfl
@[simp] theorem State.setReg_path (u off : Nat) (w : Word32) : (s.setReg u off w).path = s.path := rfl
@[simp] theorem State.setReg_cpl (u off : Nat) (w : Word32) : (s.setReg u off w).cpl = s.cpl := rfl
@[simp] theorem State.setReg_bud (u off : Nat) (w : Word32) : (s.setReg u off w).bud = s.bud := rfl
@[simp] theorem State.setReg_evt (u off : Nat) (w : Word32) : (s.setReg u off w).evt = s.evt := rfl
@[simp] theorem State.setReg_sram (u off : Nat) (w : Word32) : (s.setReg u off w).sram = s.sram := rfl
@[simp] theorem State.setReg_fab (u off : Nat) (w : Word32) : (s.setReg u off w).fab = s.fab := rfl
@[simp] theorem State.setReg_span (u off : Nat) (w : Word32) : (s.setReg u off w).span = s.span := rfl
@[simp] theorem State.setReg_net (u off : Nat) (w : Word32) : (s.setReg u off w).net = s.net := rfl
@[simp] theorem State.setReg_bm (u off : Nat) (w : Word32) : (s.setReg u off w).bm = s.bm := rfl
@[simp] theorem State.setReg_eng (u off : Nat) (w : Word32) : (s.setReg u off w).eng = s.eng := rfl
@[simp] theorem State.setReg_fp (u off : Nat) (w : Word32) : (s.setReg u off w).fp = s.fp := rfl
@[simp] theorem State.setReg_link (u off : Nat) (w : Word32) : (s.setReg u off w).link = s.link := rfl
@[simp] theorem State.setReg_lane (u off : Nat) (w : Word32) : (s.setReg u off w).lane = s.lane := rfl
@[simp] theorem State.setReg_dsp (u off : Nat) (w : Word32) : (s.setReg u off w).dsp = s.dsp := rfl
@[simp] theorem State.setReg_ddr (u off : Nat) (w : Word32) : (s.setReg u off w).ddr = s.ddr := rfl
@[simp] theorem State.setReg_ipe (u off : Nat) (w : Word32) : (s.setReg u off w).ipe = s.ipe := rfl
@[simp] theorem State.setReg_pci (u off : Nat) (w : Word32) : (s.setReg u off w).pci = s.pci := rfl
@[simp] theorem State.setReg_fuse (u off : Nat) (w : Word32) : (s.setReg u off w).fuse = s.fuse := rfl
@[simp] theorem State.setReg_cfg (u off : Nat) (w : Word32) : (s.setReg u off w).cfg = s.cfg := rfl
@[simp] theorem State.setReg_scb (u off : Nat) (w : Word32) : (s.setReg u off w).scb = s.scb := rfl
@[simp] theorem State.setReg_cns (u off : Nat) (w : Word32) : (s.setReg u off w).cns = s.cns := rfl
@[simp] theorem State.setReg_pin (u off : Nat) (w : Word32) : (s.setReg u off w).pin = s.pin := rfl
@[simp] theorem State.setReg_scan (u off : Nat) (w : Word32) : (s.setReg u off w).scan = s.scan := rfl
@[simp] theorem State.setReg_clk (u off : Nat) (w : Word32) : (s.setReg u off w).clk = s.clk := rfl
@[simp] theorem State.setReg_mode (u off : Nat) (w : Word32) : (s.setReg u off w).mode = s.mode := rfl
@[simp] theorem State.setReg_dict (u off : Nat) (w : Word32) : (s.setReg u off w).dict = s.dict := rfl
@[simp] theorem State.setReg_err (u off : Nat) (w : Word32) : (s.setReg u off w).err = s.err := rfl
@[simp] theorem State.setReg_cores (u off : Nat) (w : Word32) : (s.setReg u off w).cores = s.cores := rfl
@[simp] theorem State.setReg_dbg (u off : Nat) (w : Word32) : (s.setReg u off w).dbg = s.dbg := rfl
@[simp] theorem State.setReg_free (u off : Nat) (w : Word32) : (s.setReg u off w).free = s.free := rfl
@[simp] theorem State.setReg_pending (u off : Nat) (w : Word32) : (s.setReg u off w).pending = s.pending := rfl

/-! ### State.setFld -/

@[simp] theorem State.setFld_reports (u : Nat) (f : Fld) (v i j : Nat) : (s.setFld u f v i j).reports = s.reports := rfl
@[simp] theorem State.setFld_path (u : Nat) (f : Fld) (v i j : Nat) : (s.setFld u f v i j).path = s.path := rfl
@[simp] theorem State.setFld_cpl (u : Nat) (f : Fld) (v i j : Nat) : (s.setFld u f v i j).cpl = s.cpl := rfl
@[simp] theorem State.setFld_bud (u : Nat) (f : Fld) (v i j : Nat) : (s.setFld u f v i j).bud = s.bud := rfl
@[simp] theorem State.setFld_evt (u : Nat) (f : Fld) (v i j : Nat) : (s.setFld u f v i j).evt = s.evt := rfl
@[simp] theorem State.setFld_sram (u : Nat) (f : Fld) (v i j : Nat) : (s.setFld u f v i j).sram = s.sram := rfl
@[simp] theorem State.setFld_fab (u : Nat) (f : Fld) (v i j : Nat) : (s.setFld u f v i j).fab = s.fab := rfl
@[simp] theorem State.setFld_span (u : Nat) (f : Fld) (v i j : Nat) : (s.setFld u f v i j).span = s.span := rfl
@[simp] theorem State.setFld_net (u : Nat) (f : Fld) (v i j : Nat) : (s.setFld u f v i j).net = s.net := rfl
@[simp] theorem State.setFld_bm (u : Nat) (f : Fld) (v i j : Nat) : (s.setFld u f v i j).bm = s.bm := rfl
@[simp] theorem State.setFld_eng (u : Nat) (f : Fld) (v i j : Nat) : (s.setFld u f v i j).eng = s.eng := rfl
@[simp] theorem State.setFld_fp (u : Nat) (f : Fld) (v i j : Nat) : (s.setFld u f v i j).fp = s.fp := rfl
@[simp] theorem State.setFld_link (u : Nat) (f : Fld) (v i j : Nat) : (s.setFld u f v i j).link = s.link := rfl
@[simp] theorem State.setFld_lane (u : Nat) (f : Fld) (v i j : Nat) : (s.setFld u f v i j).lane = s.lane := rfl
@[simp] theorem State.setFld_dsp (u : Nat) (f : Fld) (v i j : Nat) : (s.setFld u f v i j).dsp = s.dsp := rfl
@[simp] theorem State.setFld_ddr (u : Nat) (f : Fld) (v i j : Nat) : (s.setFld u f v i j).ddr = s.ddr := rfl
@[simp] theorem State.setFld_ipe (u : Nat) (f : Fld) (v i j : Nat) : (s.setFld u f v i j).ipe = s.ipe := rfl
@[simp] theorem State.setFld_pci (u : Nat) (f : Fld) (v i j : Nat) : (s.setFld u f v i j).pci = s.pci := rfl
@[simp] theorem State.setFld_fuse (u : Nat) (f : Fld) (v i j : Nat) : (s.setFld u f v i j).fuse = s.fuse := rfl
@[simp] theorem State.setFld_cfg (u : Nat) (f : Fld) (v i j : Nat) : (s.setFld u f v i j).cfg = s.cfg := rfl
@[simp] theorem State.setFld_scb (u : Nat) (f : Fld) (v i j : Nat) : (s.setFld u f v i j).scb = s.scb := rfl
@[simp] theorem State.setFld_cns (u : Nat) (f : Fld) (v i j : Nat) : (s.setFld u f v i j).cns = s.cns := rfl
@[simp] theorem State.setFld_pin (u : Nat) (f : Fld) (v i j : Nat) : (s.setFld u f v i j).pin = s.pin := rfl
@[simp] theorem State.setFld_scan (u : Nat) (f : Fld) (v i j : Nat) : (s.setFld u f v i j).scan = s.scan := rfl
@[simp] theorem State.setFld_clk (u : Nat) (f : Fld) (v i j : Nat) : (s.setFld u f v i j).clk = s.clk := rfl
@[simp] theorem State.setFld_mode (u : Nat) (f : Fld) (v i j : Nat) : (s.setFld u f v i j).mode = s.mode := rfl
@[simp] theorem State.setFld_dict (u : Nat) (f : Fld) (v i j : Nat) : (s.setFld u f v i j).dict = s.dict := rfl
@[simp] theorem State.setFld_err (u : Nat) (f : Fld) (v i j : Nat) : (s.setFld u f v i j).err = s.err := rfl
@[simp] theorem State.setFld_cores (u : Nat) (f : Fld) (v i j : Nat) : (s.setFld u f v i j).cores = s.cores := rfl
@[simp] theorem State.setFld_dbg (u : Nat) (f : Fld) (v i j : Nat) : (s.setFld u f v i j).dbg = s.dbg := rfl
@[simp] theorem State.setFld_free (u : Nat) (f : Fld) (v i j : Nat) : (s.setFld u f v i j).free = s.free := rfl
@[simp] theorem State.setFld_pending (u : Nat) (f : Fld) (v i j : Nat) : (s.setFld u f v i j).pending = s.pending := rfl

/-! ### State.countSat -/

@[simp] theorem State.countSat_reports (u : Nat) (f : Fld) (n i j : Nat) : (s.countSat u f n i j).reports = s.reports := rfl
@[simp] theorem State.countSat_path (u : Nat) (f : Fld) (n i j : Nat) : (s.countSat u f n i j).path = s.path := rfl
@[simp] theorem State.countSat_cpl (u : Nat) (f : Fld) (n i j : Nat) : (s.countSat u f n i j).cpl = s.cpl := rfl
@[simp] theorem State.countSat_bud (u : Nat) (f : Fld) (n i j : Nat) : (s.countSat u f n i j).bud = s.bud := rfl
@[simp] theorem State.countSat_evt (u : Nat) (f : Fld) (n i j : Nat) : (s.countSat u f n i j).evt = s.evt := rfl
@[simp] theorem State.countSat_sram (u : Nat) (f : Fld) (n i j : Nat) : (s.countSat u f n i j).sram = s.sram := rfl
@[simp] theorem State.countSat_fab (u : Nat) (f : Fld) (n i j : Nat) : (s.countSat u f n i j).fab = s.fab := rfl
@[simp] theorem State.countSat_span (u : Nat) (f : Fld) (n i j : Nat) : (s.countSat u f n i j).span = s.span := rfl
@[simp] theorem State.countSat_net (u : Nat) (f : Fld) (n i j : Nat) : (s.countSat u f n i j).net = s.net := rfl
@[simp] theorem State.countSat_bm (u : Nat) (f : Fld) (n i j : Nat) : (s.countSat u f n i j).bm = s.bm := rfl
@[simp] theorem State.countSat_eng (u : Nat) (f : Fld) (n i j : Nat) : (s.countSat u f n i j).eng = s.eng := rfl
@[simp] theorem State.countSat_fp (u : Nat) (f : Fld) (n i j : Nat) : (s.countSat u f n i j).fp = s.fp := rfl
@[simp] theorem State.countSat_link (u : Nat) (f : Fld) (n i j : Nat) : (s.countSat u f n i j).link = s.link := rfl
@[simp] theorem State.countSat_lane (u : Nat) (f : Fld) (n i j : Nat) : (s.countSat u f n i j).lane = s.lane := rfl
@[simp] theorem State.countSat_dsp (u : Nat) (f : Fld) (n i j : Nat) : (s.countSat u f n i j).dsp = s.dsp := rfl
@[simp] theorem State.countSat_ddr (u : Nat) (f : Fld) (n i j : Nat) : (s.countSat u f n i j).ddr = s.ddr := rfl
@[simp] theorem State.countSat_ipe (u : Nat) (f : Fld) (n i j : Nat) : (s.countSat u f n i j).ipe = s.ipe := rfl
@[simp] theorem State.countSat_pci (u : Nat) (f : Fld) (n i j : Nat) : (s.countSat u f n i j).pci = s.pci := rfl
@[simp] theorem State.countSat_fuse (u : Nat) (f : Fld) (n i j : Nat) : (s.countSat u f n i j).fuse = s.fuse := rfl
@[simp] theorem State.countSat_cfg (u : Nat) (f : Fld) (n i j : Nat) : (s.countSat u f n i j).cfg = s.cfg := rfl
@[simp] theorem State.countSat_scb (u : Nat) (f : Fld) (n i j : Nat) : (s.countSat u f n i j).scb = s.scb := rfl
@[simp] theorem State.countSat_cns (u : Nat) (f : Fld) (n i j : Nat) : (s.countSat u f n i j).cns = s.cns := rfl
@[simp] theorem State.countSat_pin (u : Nat) (f : Fld) (n i j : Nat) : (s.countSat u f n i j).pin = s.pin := rfl
@[simp] theorem State.countSat_scan (u : Nat) (f : Fld) (n i j : Nat) : (s.countSat u f n i j).scan = s.scan := rfl
@[simp] theorem State.countSat_clk (u : Nat) (f : Fld) (n i j : Nat) : (s.countSat u f n i j).clk = s.clk := rfl
@[simp] theorem State.countSat_mode (u : Nat) (f : Fld) (n i j : Nat) : (s.countSat u f n i j).mode = s.mode := rfl
@[simp] theorem State.countSat_dict (u : Nat) (f : Fld) (n i j : Nat) : (s.countSat u f n i j).dict = s.dict := rfl
@[simp] theorem State.countSat_err (u : Nat) (f : Fld) (n i j : Nat) : (s.countSat u f n i j).err = s.err := rfl
@[simp] theorem State.countSat_cores (u : Nat) (f : Fld) (n i j : Nat) : (s.countSat u f n i j).cores = s.cores := rfl
@[simp] theorem State.countSat_dbg (u : Nat) (f : Fld) (n i j : Nat) : (s.countSat u f n i j).dbg = s.dbg := rfl
@[simp] theorem State.countSat_free (u : Nat) (f : Fld) (n i j : Nat) : (s.countSat u f n i j).free = s.free := rfl
@[simp] theorem State.countSat_pending (u : Nat) (f : Fld) (n i j : Nat) : (s.countSat u f n i j).pending = s.pending := rfl

/-! ### State.countWrap -/

@[simp] theorem State.countWrap_reports (u : Nat) (f : Fld) (n i j : Nat) : (s.countWrap u f n i j).reports = s.reports := rfl
@[simp] theorem State.countWrap_path (u : Nat) (f : Fld) (n i j : Nat) : (s.countWrap u f n i j).path = s.path := rfl
@[simp] theorem State.countWrap_cpl (u : Nat) (f : Fld) (n i j : Nat) : (s.countWrap u f n i j).cpl = s.cpl := rfl
@[simp] theorem State.countWrap_bud (u : Nat) (f : Fld) (n i j : Nat) : (s.countWrap u f n i j).bud = s.bud := rfl
@[simp] theorem State.countWrap_evt (u : Nat) (f : Fld) (n i j : Nat) : (s.countWrap u f n i j).evt = s.evt := rfl
@[simp] theorem State.countWrap_sram (u : Nat) (f : Fld) (n i j : Nat) : (s.countWrap u f n i j).sram = s.sram := rfl
@[simp] theorem State.countWrap_fab (u : Nat) (f : Fld) (n i j : Nat) : (s.countWrap u f n i j).fab = s.fab := rfl
@[simp] theorem State.countWrap_span (u : Nat) (f : Fld) (n i j : Nat) : (s.countWrap u f n i j).span = s.span := rfl
@[simp] theorem State.countWrap_net (u : Nat) (f : Fld) (n i j : Nat) : (s.countWrap u f n i j).net = s.net := rfl
@[simp] theorem State.countWrap_bm (u : Nat) (f : Fld) (n i j : Nat) : (s.countWrap u f n i j).bm = s.bm := rfl
@[simp] theorem State.countWrap_eng (u : Nat) (f : Fld) (n i j : Nat) : (s.countWrap u f n i j).eng = s.eng := rfl
@[simp] theorem State.countWrap_fp (u : Nat) (f : Fld) (n i j : Nat) : (s.countWrap u f n i j).fp = s.fp := rfl
@[simp] theorem State.countWrap_link (u : Nat) (f : Fld) (n i j : Nat) : (s.countWrap u f n i j).link = s.link := rfl
@[simp] theorem State.countWrap_lane (u : Nat) (f : Fld) (n i j : Nat) : (s.countWrap u f n i j).lane = s.lane := rfl
@[simp] theorem State.countWrap_dsp (u : Nat) (f : Fld) (n i j : Nat) : (s.countWrap u f n i j).dsp = s.dsp := rfl
@[simp] theorem State.countWrap_ddr (u : Nat) (f : Fld) (n i j : Nat) : (s.countWrap u f n i j).ddr = s.ddr := rfl
@[simp] theorem State.countWrap_ipe (u : Nat) (f : Fld) (n i j : Nat) : (s.countWrap u f n i j).ipe = s.ipe := rfl
@[simp] theorem State.countWrap_pci (u : Nat) (f : Fld) (n i j : Nat) : (s.countWrap u f n i j).pci = s.pci := rfl
@[simp] theorem State.countWrap_fuse (u : Nat) (f : Fld) (n i j : Nat) : (s.countWrap u f n i j).fuse = s.fuse := rfl
@[simp] theorem State.countWrap_cfg (u : Nat) (f : Fld) (n i j : Nat) : (s.countWrap u f n i j).cfg = s.cfg := rfl
@[simp] theorem State.countWrap_scb (u : Nat) (f : Fld) (n i j : Nat) : (s.countWrap u f n i j).scb = s.scb := rfl
@[simp] theorem State.countWrap_cns (u : Nat) (f : Fld) (n i j : Nat) : (s.countWrap u f n i j).cns = s.cns := rfl
@[simp] theorem State.countWrap_pin (u : Nat) (f : Fld) (n i j : Nat) : (s.countWrap u f n i j).pin = s.pin := rfl
@[simp] theorem State.countWrap_scan (u : Nat) (f : Fld) (n i j : Nat) : (s.countWrap u f n i j).scan = s.scan := rfl
@[simp] theorem State.countWrap_clk (u : Nat) (f : Fld) (n i j : Nat) : (s.countWrap u f n i j).clk = s.clk := rfl
@[simp] theorem State.countWrap_mode (u : Nat) (f : Fld) (n i j : Nat) : (s.countWrap u f n i j).mode = s.mode := rfl
@[simp] theorem State.countWrap_dict (u : Nat) (f : Fld) (n i j : Nat) : (s.countWrap u f n i j).dict = s.dict := rfl
@[simp] theorem State.countWrap_err (u : Nat) (f : Fld) (n i j : Nat) : (s.countWrap u f n i j).err = s.err := rfl
@[simp] theorem State.countWrap_cores (u : Nat) (f : Fld) (n i j : Nat) : (s.countWrap u f n i j).cores = s.cores := rfl
@[simp] theorem State.countWrap_dbg (u : Nat) (f : Fld) (n i j : Nat) : (s.countWrap u f n i j).dbg = s.dbg := rfl
@[simp] theorem State.countWrap_free (u : Nat) (f : Fld) (n i j : Nat) : (s.countWrap u f n i j).free = s.free := rfl
@[simp] theorem State.countWrap_pending (u : Nat) (f : Fld) (n i j : Nat) : (s.countWrap u f n i j).pending = s.pending := rfl

/-! ### State.draw -/

@[simp] theorem State.draw_csr : (s.draw).csr = s.csr := rfl
@[simp] theorem State.draw_reports : (s.draw).reports = s.reports := rfl
@[simp] theorem State.draw_path : (s.draw).path = s.path := rfl
@[simp] theorem State.draw_cpl : (s.draw).cpl = s.cpl := rfl
@[simp] theorem State.draw_bud : (s.draw).bud = s.bud := rfl
@[simp] theorem State.draw_evt : (s.draw).evt = s.evt := rfl
@[simp] theorem State.draw_sram : (s.draw).sram = s.sram := rfl
@[simp] theorem State.draw_fab : (s.draw).fab = s.fab := rfl
@[simp] theorem State.draw_span : (s.draw).span = s.span := rfl
@[simp] theorem State.draw_net : (s.draw).net = s.net := rfl
@[simp] theorem State.draw_bm : (s.draw).bm = s.bm := rfl
@[simp] theorem State.draw_eng : (s.draw).eng = s.eng := rfl
@[simp] theorem State.draw_fp : (s.draw).fp = s.fp := rfl
@[simp] theorem State.draw_link : (s.draw).link = s.link := rfl
@[simp] theorem State.draw_lane : (s.draw).lane = s.lane := rfl
@[simp] theorem State.draw_dsp : (s.draw).dsp = s.dsp := rfl
@[simp] theorem State.draw_ddr : (s.draw).ddr = s.ddr := rfl
@[simp] theorem State.draw_ipe : (s.draw).ipe = s.ipe := rfl
@[simp] theorem State.draw_pci : (s.draw).pci = s.pci := rfl
@[simp] theorem State.draw_fuse : (s.draw).fuse = s.fuse := rfl
@[simp] theorem State.draw_cfg : (s.draw).cfg = s.cfg := rfl
@[simp] theorem State.draw_scb : (s.draw).scb = s.scb := rfl
@[simp] theorem State.draw_cns : (s.draw).cns = s.cns := rfl
@[simp] theorem State.draw_pin : (s.draw).pin = s.pin := rfl
@[simp] theorem State.draw_scan : (s.draw).scan = s.scan := rfl
@[simp] theorem State.draw_clk : (s.draw).clk = s.clk := rfl
@[simp] theorem State.draw_mode : (s.draw).mode = s.mode := rfl
@[simp] theorem State.draw_dict : (s.draw).dict = s.dict := rfl
@[simp] theorem State.draw_err : (s.draw).err = s.err := rfl
@[simp] theorem State.draw_cores : (s.draw).cores = s.cores := rfl
@[simp] theorem State.draw_dbg : (s.draw).dbg = s.dbg := rfl
@[simp] theorem State.draw_pending : (s.draw).pending = s.pending := rfl

/-! ### State.raise -/

@[simp] theorem State.raise_csr (u cls detail : Nat) : (s.raise u cls detail).csr = s.csr := rfl
@[simp] theorem State.raise_path (u cls detail : Nat) : (s.raise u cls detail).path = s.path := rfl
@[simp] theorem State.raise_cpl (u cls detail : Nat) : (s.raise u cls detail).cpl = s.cpl := rfl
@[simp] theorem State.raise_bud (u cls detail : Nat) : (s.raise u cls detail).bud = s.bud := rfl
@[simp] theorem State.raise_evt (u cls detail : Nat) : (s.raise u cls detail).evt = s.evt := rfl
@[simp] theorem State.raise_sram (u cls detail : Nat) : (s.raise u cls detail).sram = s.sram := rfl
@[simp] theorem State.raise_fab (u cls detail : Nat) : (s.raise u cls detail).fab = s.fab := rfl
@[simp] theorem State.raise_span (u cls detail : Nat) : (s.raise u cls detail).span = s.span := rfl
@[simp] theorem State.raise_net (u cls detail : Nat) : (s.raise u cls detail).net = s.net := rfl
@[simp] theorem State.raise_bm (u cls detail : Nat) : (s.raise u cls detail).bm = s.bm := rfl
@[simp] theorem State.raise_eng (u cls detail : Nat) : (s.raise u cls detail).eng = s.eng := rfl
@[simp] theorem State.raise_fp (u cls detail : Nat) : (s.raise u cls detail).fp = s.fp := rfl
@[simp] theorem State.raise_link (u cls detail : Nat) : (s.raise u cls detail).link = s.link := rfl
@[simp] theorem State.raise_lane (u cls detail : Nat) : (s.raise u cls detail).lane = s.lane := rfl
@[simp] theorem State.raise_dsp (u cls detail : Nat) : (s.raise u cls detail).dsp = s.dsp := rfl
@[simp] theorem State.raise_ddr (u cls detail : Nat) : (s.raise u cls detail).ddr = s.ddr := rfl
@[simp] theorem State.raise_ipe (u cls detail : Nat) : (s.raise u cls detail).ipe = s.ipe := rfl
@[simp] theorem State.raise_pci (u cls detail : Nat) : (s.raise u cls detail).pci = s.pci := rfl
@[simp] theorem State.raise_fuse (u cls detail : Nat) : (s.raise u cls detail).fuse = s.fuse := rfl
@[simp] theorem State.raise_cfg (u cls detail : Nat) : (s.raise u cls detail).cfg = s.cfg := rfl
@[simp] theorem State.raise_scb (u cls detail : Nat) : (s.raise u cls detail).scb = s.scb := rfl
@[simp] theorem State.raise_cns (u cls detail : Nat) : (s.raise u cls detail).cns = s.cns := rfl
@[simp] theorem State.raise_pin (u cls detail : Nat) : (s.raise u cls detail).pin = s.pin := rfl
@[simp] theorem State.raise_scan (u cls detail : Nat) : (s.raise u cls detail).scan = s.scan := rfl
@[simp] theorem State.raise_clk (u cls detail : Nat) : (s.raise u cls detail).clk = s.clk := rfl
@[simp] theorem State.raise_mode (u cls detail : Nat) : (s.raise u cls detail).mode = s.mode := rfl
@[simp] theorem State.raise_dict (u cls detail : Nat) : (s.raise u cls detail).dict = s.dict := rfl
@[simp] theorem State.raise_err (u cls detail : Nat) : (s.raise u cls detail).err = s.err := rfl
@[simp] theorem State.raise_cores (u cls detail : Nat) : (s.raise u cls detail).cores = s.cores := rfl
@[simp] theorem State.raise_dbg (u cls detail : Nat) : (s.raise u cls detail).dbg = s.dbg := rfl
@[simp] theorem State.raise_free (u cls detail : Nat) : (s.raise u cls detail).free = s.free := rfl
@[simp] theorem State.raise_pending (u cls detail : Nat) : (s.raise u cls detail).pending = s.pending := rfl

/-! ### State.answer -/

@[simp] theorem State.answer_csr (st : Stat) (data : List Byte) : (s.answer st data).csr = s.csr := rfl
@[simp] theorem State.answer_reports (st : Stat) (data : List Byte) : (s.answer st data).reports = s.reports := rfl
@[simp] theorem State.answer_path (st : Stat) (data : List Byte) : (s.answer st data).path = s.path := rfl
@[simp] theorem State.answer_bud (st : Stat) (data : List Byte) : (s.answer st data).bud = s.bud := rfl
@[simp] theorem State.answer_evt (st : Stat) (data : List Byte) : (s.answer st data).evt = s.evt := rfl
@[simp] theorem State.answer_sram (st : Stat) (data : List Byte) : (s.answer st data).sram = s.sram := rfl
@[simp] theorem State.answer_fab (st : Stat) (data : List Byte) : (s.answer st data).fab = s.fab := rfl
@[simp] theorem State.answer_span (st : Stat) (data : List Byte) : (s.answer st data).span = s.span := rfl
@[simp] theorem State.answer_net (st : Stat) (data : List Byte) : (s.answer st data).net = s.net := rfl
@[simp] theorem State.answer_bm (st : Stat) (data : List Byte) : (s.answer st data).bm = s.bm := rfl
@[simp] theorem State.answer_eng (st : Stat) (data : List Byte) : (s.answer st data).eng = s.eng := rfl
@[simp] theorem State.answer_fp (st : Stat) (data : List Byte) : (s.answer st data).fp = s.fp := rfl
@[simp] theorem State.answer_link (st : Stat) (data : List Byte) : (s.answer st data).link = s.link := rfl
@[simp] theorem State.answer_lane (st : Stat) (data : List Byte) : (s.answer st data).lane = s.lane := rfl
@[simp] theorem State.answer_dsp (st : Stat) (data : List Byte) : (s.answer st data).dsp = s.dsp := rfl
@[simp] theorem State.answer_ddr (st : Stat) (data : List Byte) : (s.answer st data).ddr = s.ddr := rfl
@[simp] theorem State.answer_ipe (st : Stat) (data : List Byte) : (s.answer st data).ipe = s.ipe := rfl
@[simp] theorem State.answer_pci (st : Stat) (data : List Byte) : (s.answer st data).pci = s.pci := rfl
@[simp] theorem State.answer_fuse (st : Stat) (data : List Byte) : (s.answer st data).fuse = s.fuse := rfl
@[simp] theorem State.answer_cfg (st : Stat) (data : List Byte) : (s.answer st data).cfg = s.cfg := rfl
@[simp] theorem State.answer_scb (st : Stat) (data : List Byte) : (s.answer st data).scb = s.scb := rfl
@[simp] theorem State.answer_cns (st : Stat) (data : List Byte) : (s.answer st data).cns = s.cns := rfl
@[simp] theorem State.answer_pin (st : Stat) (data : List Byte) : (s.answer st data).pin = s.pin := rfl
@[simp] theorem State.answer_scan (st : Stat) (data : List Byte) : (s.answer st data).scan = s.scan := rfl
@[simp] theorem State.answer_clk (st : Stat) (data : List Byte) : (s.answer st data).clk = s.clk := rfl
@[simp] theorem State.answer_mode (st : Stat) (data : List Byte) : (s.answer st data).mode = s.mode := rfl
@[simp] theorem State.answer_dict (st : Stat) (data : List Byte) : (s.answer st data).dict = s.dict := rfl
@[simp] theorem State.answer_err (st : Stat) (data : List Byte) : (s.answer st data).err = s.err := rfl
@[simp] theorem State.answer_cores (st : Stat) (data : List Byte) : (s.answer st data).cores = s.cores := rfl
@[simp] theorem State.answer_dbg (st : Stat) (data : List Byte) : (s.answer st data).dbg = s.dbg := rfl
@[simp] theorem State.answer_free (st : Stat) (data : List Byte) : (s.answer st data).free = s.free := rfl
@[simp] theorem State.answer_pending (st : Stat) (data : List Byte) : (s.answer st data).pending = s.pending := rfl

/-! ### State.setMeter -/

@[simp] theorem State.setMeter_csr (c i : Nat) (m : BudInst) : (s.setMeter c i m).csr = s.csr := rfl
@[simp] theorem State.setMeter_reports (c i : Nat) (m : BudInst) : (s.setMeter c i m).reports = s.reports := rfl
@[simp] theorem State.setMeter_path (c i : Nat) (m : BudInst) : (s.setMeter c i m).path = s.path := rfl
@[simp] theorem State.setMeter_cpl (c i : Nat) (m : BudInst) : (s.setMeter c i m).cpl = s.cpl := rfl
@[simp] theorem State.setMeter_evt (c i : Nat) (m : BudInst) : (s.setMeter c i m).evt = s.evt := rfl
@[simp] theorem State.setMeter_sram (c i : Nat) (m : BudInst) : (s.setMeter c i m).sram = s.sram := rfl
@[simp] theorem State.setMeter_fab (c i : Nat) (m : BudInst) : (s.setMeter c i m).fab = s.fab := rfl
@[simp] theorem State.setMeter_span (c i : Nat) (m : BudInst) : (s.setMeter c i m).span = s.span := rfl
@[simp] theorem State.setMeter_net (c i : Nat) (m : BudInst) : (s.setMeter c i m).net = s.net := rfl
@[simp] theorem State.setMeter_bm (c i : Nat) (m : BudInst) : (s.setMeter c i m).bm = s.bm := rfl
@[simp] theorem State.setMeter_eng (c i : Nat) (m : BudInst) : (s.setMeter c i m).eng = s.eng := rfl
@[simp] theorem State.setMeter_fp (c i : Nat) (m : BudInst) : (s.setMeter c i m).fp = s.fp := rfl
@[simp] theorem State.setMeter_link (c i : Nat) (m : BudInst) : (s.setMeter c i m).link = s.link := rfl
@[simp] theorem State.setMeter_lane (c i : Nat) (m : BudInst) : (s.setMeter c i m).lane = s.lane := rfl
@[simp] theorem State.setMeter_dsp (c i : Nat) (m : BudInst) : (s.setMeter c i m).dsp = s.dsp := rfl
@[simp] theorem State.setMeter_ddr (c i : Nat) (m : BudInst) : (s.setMeter c i m).ddr = s.ddr := rfl
@[simp] theorem State.setMeter_ipe (c i : Nat) (m : BudInst) : (s.setMeter c i m).ipe = s.ipe := rfl
@[simp] theorem State.setMeter_pci (c i : Nat) (m : BudInst) : (s.setMeter c i m).pci = s.pci := rfl
@[simp] theorem State.setMeter_fuse (c i : Nat) (m : BudInst) : (s.setMeter c i m).fuse = s.fuse := rfl
@[simp] theorem State.setMeter_cfg (c i : Nat) (m : BudInst) : (s.setMeter c i m).cfg = s.cfg := rfl
@[simp] theorem State.setMeter_scb (c i : Nat) (m : BudInst) : (s.setMeter c i m).scb = s.scb := rfl
@[simp] theorem State.setMeter_cns (c i : Nat) (m : BudInst) : (s.setMeter c i m).cns = s.cns := rfl
@[simp] theorem State.setMeter_pin (c i : Nat) (m : BudInst) : (s.setMeter c i m).pin = s.pin := rfl
@[simp] theorem State.setMeter_scan (c i : Nat) (m : BudInst) : (s.setMeter c i m).scan = s.scan := rfl
@[simp] theorem State.setMeter_clk (c i : Nat) (m : BudInst) : (s.setMeter c i m).clk = s.clk := rfl
@[simp] theorem State.setMeter_mode (c i : Nat) (m : BudInst) : (s.setMeter c i m).mode = s.mode := rfl
@[simp] theorem State.setMeter_dict (c i : Nat) (m : BudInst) : (s.setMeter c i m).dict = s.dict := rfl
@[simp] theorem State.setMeter_err (c i : Nat) (m : BudInst) : (s.setMeter c i m).err = s.err := rfl
@[simp] theorem State.setMeter_cores (c i : Nat) (m : BudInst) : (s.setMeter c i m).cores = s.cores := rfl
@[simp] theorem State.setMeter_dbg (c i : Nat) (m : BudInst) : (s.setMeter c i m).dbg = s.dbg := rfl
@[simp] theorem State.setMeter_free (c i : Nat) (m : BudInst) : (s.setMeter c i m).free = s.free := rfl
@[simp] theorem State.setMeter_pending (c i : Nat) (m : BudInst) : (s.setMeter c i m).pending = s.pending := rfl

/-! ### State.charge -/

@[simp] theorem State.charge_csr (c i cost : Nat) : (s.charge c i cost).csr = s.csr := rfl
@[simp] theorem State.charge_reports (c i cost : Nat) : (s.charge c i cost).reports = s.reports := rfl
@[simp] theorem State.charge_path (c i cost : Nat) : (s.charge c i cost).path = s.path := rfl
@[simp] theorem State.charge_cpl (c i cost : Nat) : (s.charge c i cost).cpl = s.cpl := rfl
@[simp] theorem State.charge_evt (c i cost : Nat) : (s.charge c i cost).evt = s.evt := rfl
@[simp] theorem State.charge_sram (c i cost : Nat) : (s.charge c i cost).sram = s.sram := rfl
@[simp] theorem State.charge_fab (c i cost : Nat) : (s.charge c i cost).fab = s.fab := rfl
@[simp] theorem State.charge_span (c i cost : Nat) : (s.charge c i cost).span = s.span := rfl
@[simp] theorem State.charge_net (c i cost : Nat) : (s.charge c i cost).net = s.net := rfl
@[simp] theorem State.charge_bm (c i cost : Nat) : (s.charge c i cost).bm = s.bm := rfl
@[simp] theorem State.charge_eng (c i cost : Nat) : (s.charge c i cost).eng = s.eng := rfl
@[simp] theorem State.charge_fp (c i cost : Nat) : (s.charge c i cost).fp = s.fp := rfl
@[simp] theorem State.charge_link (c i cost : Nat) : (s.charge c i cost).link = s.link := rfl
@[simp] theorem State.charge_lane (c i cost : Nat) : (s.charge c i cost).lane = s.lane := rfl
@[simp] theorem State.charge_dsp (c i cost : Nat) : (s.charge c i cost).dsp = s.dsp := rfl
@[simp] theorem State.charge_ddr (c i cost : Nat) : (s.charge c i cost).ddr = s.ddr := rfl
@[simp] theorem State.charge_ipe (c i cost : Nat) : (s.charge c i cost).ipe = s.ipe := rfl
@[simp] theorem State.charge_pci (c i cost : Nat) : (s.charge c i cost).pci = s.pci := rfl
@[simp] theorem State.charge_fuse (c i cost : Nat) : (s.charge c i cost).fuse = s.fuse := rfl
@[simp] theorem State.charge_cfg (c i cost : Nat) : (s.charge c i cost).cfg = s.cfg := rfl
@[simp] theorem State.charge_scb (c i cost : Nat) : (s.charge c i cost).scb = s.scb := rfl
@[simp] theorem State.charge_cns (c i cost : Nat) : (s.charge c i cost).cns = s.cns := rfl
@[simp] theorem State.charge_pin (c i cost : Nat) : (s.charge c i cost).pin = s.pin := rfl
@[simp] theorem State.charge_scan (c i cost : Nat) : (s.charge c i cost).scan = s.scan := rfl
@[simp] theorem State.charge_clk (c i cost : Nat) : (s.charge c i cost).clk = s.clk := rfl
@[simp] theorem State.charge_mode (c i cost : Nat) : (s.charge c i cost).mode = s.mode := rfl
@[simp] theorem State.charge_dict (c i cost : Nat) : (s.charge c i cost).dict = s.dict := rfl
@[simp] theorem State.charge_err (c i cost : Nat) : (s.charge c i cost).err = s.err := rfl
@[simp] theorem State.charge_cores (c i cost : Nat) : (s.charge c i cost).cores = s.cores := rfl
@[simp] theorem State.charge_dbg (c i cost : Nat) : (s.charge c i cost).dbg = s.dbg := rfl
@[simp] theorem State.charge_free (c i cost : Nat) : (s.charge c i cost).free = s.free := rfl
@[simp] theorem State.charge_pending (c i cost : Nat) : (s.charge c i cost).pending = s.pending := rfl

/-! ### State.hold -/

@[simp] theorem State.hold_csr (c i : Nat) : (s.hold c i).csr = s.csr := rfl
@[simp] theorem State.hold_reports (c i : Nat) : (s.hold c i).reports = s.reports := rfl
@[simp] theorem State.hold_path (c i : Nat) : (s.hold c i).path = s.path := rfl
@[simp] theorem State.hold_cpl (c i : Nat) : (s.hold c i).cpl = s.cpl := rfl
@[simp] theorem State.hold_evt (c i : Nat) : (s.hold c i).evt = s.evt := rfl
@[simp] theorem State.hold_sram (c i : Nat) : (s.hold c i).sram = s.sram := rfl
@[simp] theorem State.hold_fab (c i : Nat) : (s.hold c i).fab = s.fab := rfl
@[simp] theorem State.hold_span (c i : Nat) : (s.hold c i).span = s.span := rfl
@[simp] theorem State.hold_net (c i : Nat) : (s.hold c i).net = s.net := rfl
@[simp] theorem State.hold_bm (c i : Nat) : (s.hold c i).bm = s.bm := rfl
@[simp] theorem State.hold_eng (c i : Nat) : (s.hold c i).eng = s.eng := rfl
@[simp] theorem State.hold_fp (c i : Nat) : (s.hold c i).fp = s.fp := rfl
@[simp] theorem State.hold_link (c i : Nat) : (s.hold c i).link = s.link := rfl
@[simp] theorem State.hold_lane (c i : Nat) : (s.hold c i).lane = s.lane := rfl
@[simp] theorem State.hold_dsp (c i : Nat) : (s.hold c i).dsp = s.dsp := rfl
@[simp] theorem State.hold_ddr (c i : Nat) : (s.hold c i).ddr = s.ddr := rfl
@[simp] theorem State.hold_ipe (c i : Nat) : (s.hold c i).ipe = s.ipe := rfl
@[simp] theorem State.hold_pci (c i : Nat) : (s.hold c i).pci = s.pci := rfl
@[simp] theorem State.hold_fuse (c i : Nat) : (s.hold c i).fuse = s.fuse := rfl
@[simp] theorem State.hold_cfg (c i : Nat) : (s.hold c i).cfg = s.cfg := rfl
@[simp] theorem State.hold_scb (c i : Nat) : (s.hold c i).scb = s.scb := rfl
@[simp] theorem State.hold_cns (c i : Nat) : (s.hold c i).cns = s.cns := rfl
@[simp] theorem State.hold_pin (c i : Nat) : (s.hold c i).pin = s.pin := rfl
@[simp] theorem State.hold_scan (c i : Nat) : (s.hold c i).scan = s.scan := rfl
@[simp] theorem State.hold_clk (c i : Nat) : (s.hold c i).clk = s.clk := rfl
@[simp] theorem State.hold_mode (c i : Nat) : (s.hold c i).mode = s.mode := rfl
@[simp] theorem State.hold_dict (c i : Nat) : (s.hold c i).dict = s.dict := rfl
@[simp] theorem State.hold_err (c i : Nat) : (s.hold c i).err = s.err := rfl
@[simp] theorem State.hold_cores (c i : Nat) : (s.hold c i).cores = s.cores := rfl
@[simp] theorem State.hold_dbg (c i : Nat) : (s.hold c i).dbg = s.dbg := rfl
@[simp] theorem State.hold_free (c i : Nat) : (s.hold c i).free = s.free := rfl
@[simp] theorem State.hold_pending (c i : Nat) : (s.hold c i).pending = s.pending := rfl

end Sys2Proof.Machine
end

