-- ==== Sys2Proof/Laws/Csr.lean ====
section
/-! SUPPORT. What a register or a field reads after a register is written, and how a state is made of the words its registers hold. -/

namespace Sys2Proof.Machine

open Sys2Proof

theorem State.reg_setReg_self (s : State) (u off : Nat) (w : Word32) : (s.setReg u off w).reg u off = w := by
  unfold State.reg State.setReg
  by_cases h : w = csrReset (csrHome u off)
  · simp [h, SMap.find_erase_self]
  · simp [h, SMap.find_put_self]

theorem State.reg_setReg_ne (s : State) {u off v o : Nat} (w : Word32) (h : csrHome v o ≠ csrHome u off) :
    (s.setReg u off w).reg v o = s.reg v o := by
  unfold State.reg State.setReg
  by_cases hw : w = csrReset (csrHome u off)
  · simp [hw, SMap.find_erase_ne _ h]
  · simp [hw, SMap.find_put_ne _ _ h]

theorem fieldMask_testBit (hi lo k : Nat) (h : lo ≤ hi) : (fieldMask hi lo).testBit k = (decide (lo ≤ k) && decide (k ≤ hi)) := by
  unfold fieldMask
  rw [Nat.testBit_mul_two_pow, Nat.testBit_two_pow_sub_one]
  by_cases hk : lo ≤ k <;> simp [hk]
  omega

theorem getBits_testBit (w : Word32) (hi lo k : Nat) : (getBits w hi lo).testBit k = (decide (k < hi + 1 - lo) && w.getLsbD (lo + k)) := by
  unfold getBits
  rw [Nat.testBit_mod_two_pow, Nat.testBit_div_two_pow, ← BitVec.testBit_toNat, Nat.add_comm k lo]

theorem putBits_getLsbD (w : Word32) (hi lo v k : Nat) (h : lo ≤ hi) (hk : k < 32) :
    (putBits w hi lo v).getLsbD k = if lo ≤ k ∧ k ≤ hi then v.testBit (k - lo) else w.getLsbD k := by
  unfold putBits
  simp only [BitVec.getLsbD_or, BitVec.getLsbD_and, BitVec.getLsbD_not, BitVec.getLsbD_ofNat, fieldMask_testBit _ _ _ h, hk, decide_true,
    Bool.true_and, Nat.testBit_mul_two_pow, Nat.testBit_mod_two_pow]
  by_cases h1 : lo ≤ k <;> by_cases h2 : k ≤ hi <;> simp [h1, h2]
  · exact fun _ => by omega
  · intro h3; omega

theorem getBits_putBits_self (w : Word32) (hi lo v : Nat) (h : lo ≤ hi) (h32 : hi < 32) :
    getBits (putBits w hi lo v) hi lo = v % 2 ^ (hi + 1 - lo) := by
  apply Nat.eq_of_testBit_eq
  intro k
  rw [getBits_testBit, Nat.testBit_mod_two_pow]
  by_cases hk : k < hi + 1 - lo
  · rw [putBits_getLsbD _ _ _ _ _ h (by omega)]
    simp [hk, show lo + k ≤ hi by omega]
  · simp [hk]

theorem getBits_putBits_ne (w : Word32) (hi lo v hi' lo' : Nat) (h : lo ≤ hi) (h' : hi' < 32) (hd : hi < lo' ∨ hi' < lo) :
    getBits (putBits w hi lo v) hi' lo' = getBits w hi' lo' := by
  apply Nat.eq_of_testBit_eq
  intro k
  rw [getBits_testBit, getBits_testBit]
  by_cases hk : k < hi' + 1 - lo'
  · rw [putBits_getLsbD _ _ _ _ _ h (by omega), if_neg (by omega)]
  · simp [hk]

theorem getBits_lt (w : Word32) (hi lo : Nat) : getBits w hi lo < 2 ^ (hi + 1 - lo) := Nat.mod_lt _ (by positivity)

end Sys2Proof.Machine
end

