-- ==== Sys2Proof/Laws/Dict.lean ====
section
/-! SUPPORT. What serving the oldest dictionary request does: the request as first served, and each kind of record (R467, R471-R473). -/

namespace Sys2Proof.Machine

open Sys2Proof

variable {s s0 t : State} {q : DictReq} {e : DictEnv} {o : ObjSub}

/-- A request served for the first time is performed and answered. -/
theorem serve_first (h : ServesFirst s q s0) :
    serve s e = answered (performRecord s0 q.session e q.via q.record).1 q (performRecord s0 q.session e q.via q.record).2 := by
  obtain ⟨-, -, hq, hn, hl, rfl⟩ := h
  cases hd : s.dict.queue with
  | nil => rw [hd] at hq; cases hq
  | cons a r =>
    rw [hd] at hq
    cases hq
    unfold serve
    rw [hd]
    dsimp only
    rw [if_neg hn]
    have e1 : ∀ d : List DictReq, ({ s with dict := { s.dict with queue := d } } : State).ses q.session = s.ses q.session := fun _ => rfl
    rw [e1]
    cases hs : (s.ses q.session).last with
    | none => rfl
    | some x =>
      obtain ⟨a, b⟩ := x
      rw [hs] at hl
      dsimp only
      rw [if_neg (fun hh => hl (congrArg some hh))]
      rfl

/-- The head of the queue, where it is served. -/
theorem headReq_first (h : ServesFirst s q s0) : s.headReq = some q := by
  obtain ⟨h1, -, hq, -⟩ := h
  unfold State.headReq
  rw [if_pos h1, hq]

/-- CS of the oldest request. -/
theorem headCs_first (h : ServesFirst s q s0) (l : List Nat) : headCs s l = l.contains (recCs q.record) := by
  unfold headCs
  rw [headReq_first h]

/-- The boot ROM has handed over. -/
theorem bootPhase_first (h : ServesFirst s q s0) : s0.bootPhase = 5 := by
  obtain ⟨-, h2, -, -, -, rfl⟩ := h
  exact h2

/-- After the handover the boot ROM refuses nothing. -/
theorem romRefuses_running (h : s0.bootPhase = 5) (n : Nat) (req : List Byte) : romRefuses s0 n req = false := by
  unfold romRefuses
  rw [h]
  rfl

/-- A WRITE that is admitted and performed. -/
theorem performRecord_write {n : Nat} {via : DictVia} {req : List Byte} (h : s0.bootPhase = 5) (hc : recCs req = 2)
    (ha : admitWrite (closeXfer s0 n) n e (recIndex req) (recSub req) (recArg req) (req.getD 8 0) = .ok o)
    (hr : recArg req ≤ rmax via - 8)
    (hw : writeValue (closeXfer s0 n) n e (recIndex req) (recSub req) o ((req.drop 8).take (recArg req)) = (t, none)) :
    performRecord s0 n e via req = (t, rspRecord req 0x82 0) := by
  unfold performRecord
  rw [romRefuses_running h, hc]
  simp only [Bool.false_eq_true, if_false]
  unfold serveWrite
  dsimp only
  rw [ha]
  dsimp only
  rw [if_neg (Nat.not_lt.2 hr), hw]

/-- A READ whose value fits. -/
theorem performRecord_read {n : Nat} {via : DictVia} {req bs : List Byte} (h : s0.bootPhase = 5) (hc : recCs req = 1)
    (hf : findSub (closeXfer s0 n) n e (recIndex req) (recSub req) = .ok o) (ha : o.acc ≠ .wo)
    (hv : readValue (closeXfer s0 n) n e (recIndex req) (recSub req) o = (t, .ok bs)) (hr : bs.length ≤ rmax via - 8) :
    performRecord s0 n e via req = (t, rspRecord req 0x81 bs.length bs) := by
  unfold performRecord
  rw [romRefuses_running h, hc]
  simp only [Bool.false_eq_true, if_false]
  unfold serveRead
  dsimp only
  rw [hf]
  dsimp only
  rw [if_neg ha, hv]
  simp [hr]

/-- A SEG_READ of a value that is not empty. -/
theorem performRecord_segRead {n : Nat} {via : DictVia} {req bs : List Byte} (h : s0.bootPhase = 5) (hc : recCs req = 3)
    (hf : findSub (closeXfer s0 n) n e (recIndex req) (recSub req) = .ok o) (ha : o.acc ≠ .wo)
    (hv : readValue (closeXfer s0 n) n e (recIndex req) (recSub req) o = (t, .ok bs)) (hb : bs ≠ []) :
    performRecord s0 n e via req = (t.setSes n { t.ses n with
      xfer := some ⟨false, recIndex req, recSub req, bs.length, rmax via - 8, 0, bs, []⟩ }, rspRecord req 0x83 bs.length) := by
  unfold performRecord
  rw [romRefuses_running h, hc]
  simp only [Bool.false_eq_true, if_false]
  unfold serveRead
  dsimp only
  rw [hf]
  dsimp only
  rw [if_neg ha, hv]
  cases bs with
  | nil => exact absurd rfl hb
  | cons _ _ => simp

/-- A SEG_WRITE that is admitted. -/
theorem performRecord_segWrite {n : Nat} {via : DictVia} {req : List Byte} (h : s0.bootPhase = 5) (hc : recCs req = 4)
    (ha : admitWrite (closeXfer s0 n) n e (recIndex req) (recSub req) (recArg req) 0 = .ok o) (hn : recArg req ≠ 0) :
    performRecord s0 n e via req = ((closeXfer s0 n).setSes n { (closeXfer s0 n).ses n with
      xfer := some ⟨true, recIndex req, recSub req, recArg req, rmax via - 8, 0, [], []⟩ }, rspRecord req 0x84 0) := by
  unfold performRecord
  rw [romRefuses_running h, hc]
  simp only [Bool.false_eq_true, if_false]
  unfold serveSegWrite
  dsimp only
  rw [ha]
  dsimp only
  rw [if_neg hn]

/-- An ABORT has no response. -/
theorem performRecord_abort {n : Nat} {via : DictVia} {req : List Byte} (h : s0.bootPhase = 5) (hc : recCs req = 7) :
    performRecord s0 n e via req = (closeXfer s0 n, []) := by
  unfold performRecord
  rw [romRefuses_running h, hc]
  rfl

/-- A SEGMENT of an open transfer. -/
theorem performRecord_segment {n : Nat} {via : DictVia} {req : List Byte} {x : Xfer} (h : s0.bootPhase = 5) (hc : recCs req = 5)
    (hs : (s0.ses n).silent = false) (hx : (s0.ses n).xfer = some x) : performRecord s0 n e via req = segment s0 n e via req x := by
  unfold performRecord
  rw [romRefuses_running h, hc]
  simp only [Bool.false_eq_true, if_false]
  unfold serveSegment
  rw [hs, hx]
  rfl

/-- The oldest request, a WRITE, writes the subindex it names. -/
theorem headIs_write {i k : Nat} (h : ServesFirst s q s0) (hc : recCs q.record = 2) (hi : recIndex q.record = i) (hs : recSub q.record = k) :
    headIs s true i k = true := by
  unfold headIs
  rw [headReq_first h]
  dsimp only
  rw [if_neg (by rw [hc]; decide), hi, hs, hc]
  simp

/-- The oldest request, a READ, reads the subindex it names. -/
theorem headIs_read {i k : Nat} (h : ServesFirst s q s0) (hc : recCs q.record = 1) (hi : recIndex q.record = i) (hs : recSub q.record = k) :
    headIs s false i k = true := by
  unfold headIs
  rw [headReq_first h]
  dsimp only
  rw [if_neg (by rw [hc]; decide), hi, hs, hc]
  simp

/-- A WRITE of a given subindex and length that is admitted and performed, served. -/
theorem serve_write {s1 : State} {i k len : Nat} (h : ServesFirst s q s0) (h1 : s1 = closeXfer s0 q.session) (hc : recCs q.record = 2)
    (hi : recIndex q.record = i) (hs : recSub q.record = k) (hl : recArg q.record = len)
    (ha : admitWrite s1 q.session e i k len (q.record.getD 8 0) = .ok o) (hr : len ≤ rmax q.via - 8)
    (hw : writeValue s1 q.session e i k o ((q.record.drop 8).take len) = (t, none)) :
    serve s e = answered t q (rspRecord q.record 0x82 0) := by
  subst h1 hi hs hl
  rw [serve_first h, performRecord_write (bootPhase_first h) hc ha hr hw]

/-- A READ of a given subindex whose value fits, served. -/
theorem serve_read {s1 : State} {i k : Nat} {bs : List Byte} (h : ServesFirst s q s0) (h1 : s1 = closeXfer s0 q.session) (hc : recCs q.record = 1)
    (hi : recIndex q.record = i) (hs : recSub q.record = k) (hf : findSub s1 q.session e i k = .ok o) (ha : o.acc ≠ .wo)
    (hv : readValue s1 q.session e i k o = (t, .ok bs)) (hr : bs.length ≤ rmax q.via - 8) :
    serve s e = answered t q (rspRecord q.record 0x81 bs.length bs) := by
  subst h1 hi hs
  rw [serve_first h, performRecord_read (bootPhase_first h) hc hf ha hv hr]

/-- Every transport carries a value of up to 56 bytes. -/
theorem rmax_room (v : DictVia) {n : Nat} (h : n ≤ 56) : n ≤ rmax v - 8 := by
  cases v <;> simp only [rmax]
  · omega
  · omega
  · split <;> omega

/-! ### The subindices of the special functions -/

theorem findSub_keyHash (s : State) (n : Nat) (e : DictEnv) : findSub s n e 0xA001 2 =
    .ok (actSub 48 48 .rwp .keyHash (toBeBytes 48 ((SMap.find s.fuse.slots (s.selOf n 0xA001 1)).getD 0).toNat)) := rfl

theorem findSub_revoke (s : State) (n : Nat) (e : DictEnv) : findSub s n e 0xA001 3 = .ok (actSub 1 1 .rwp .revoke [0]) := rfl

theorem findSub_wrapKey (s : State) (n : Nat) (e : DictEnv) : findSub s n e 0xA002 1 = .ok (actSub 32 32 .rwp .wrapKey (zeros 32)) := rfl

theorem findSub_challenge (s : State) (n : Nat) (e : DictEnv) : findSub s n e 0xA003 1 = .ok ⟨48, 48, .ro, .challenge⟩ := rfl

theorem findSub_answer (s : State) (n : Nat) (e : DictEnv) : findSub s n e 0xA003 2 = .ok (actSub 48 48 .wo .answer []) := rfl

theorem findSub_unlock (s : State) (n : Nat) (e : DictEnv) : findSub s n e 0xA003 3 =
    .ok (actSub 1 1 .rw .unlock [BitVec.ofNat 8 (boolNat (s.ses n).unlocked)]) := rfl

theorem findSub_expertKey (s : State) (n : Nat) (e : DictEnv) : findSub s n e 0xA003 4 = .ok (actSub 48 48 .rwp .expertKey (zeros 48)) := rfl

theorem findSub_returnPrep (s : State) (n : Nat) (e : DictEnv) : findSub s n e 0xA0F0 1 = .ok (actSub 1 1 .rwp .returnPrep [0]) := rfl

theorem findSub_attest (s : State) (n : Nat) (e : DictEnv) : findSub s n e 0xB001 2 = .ok ⟨608, 608, .ro, .attest⟩ := rfl

theorem findSub_relay (s : State) (n : Nat) (e : DictEnv) : findSub s n e 0xC000 1 = .ok (actSub 16 4104 .wo .relay []) := rfl

/-- A write to a subindex of fixed length that needs presence is admitted where presence holds. -/
theorem admitWrite_rwp {n index sub len : Nat} {first : Byte} {a : ObjAct} {bs : List Byte} (hf : findSub s n e index sub = .ok (actSub len len .rwp a bs))
    (hp : presenceCheck s = none) : admitWrite s n e index sub len first = .ok (actSub len len .rwp a bs) := by
  unfold admitWrite
  rw [hf]
  simp [accessCheck, actSub, lengthCheck, hp]

/-! ### Zeroising keys -/

/-- A fold of steps that burn no fuse burns none. -/
theorem foldl_fuse {α : Type} (f : State → α → State) (h : ∀ t a, (f t a).fuse = t.fuse) (l : List α) (s : State) : (l.foldl f s).fuse = s.fuse := by
  induction l generalizing s with
  | nil => rfl
  | cons a r ih => rw [List.foldl_cons, ih, h]

/-- Zeroising every key burns no fuse. -/
theorem zeroiseKeys_fuse (s : State) : (zeroiseKeys s).fuse = s.fuse := by
  have h1 : ∀ t : State, (showMeta t).fuse = t.fuse := fun t => foldl_fuse _ (fun _ _ => State.setFld_fuse _ _ _ _ _ _) _ _
  have h2 : ∀ (t : State) (k : Nat), (if t.kidState k = kidFree then t else t.setKid k kidFree).fuse = t.fuse := by
    intro t k
    split
    · rfl
    · exact State.setFld_fuse _ _ _ _ _ _
  unfold zeroiseKeys
  dsimp only
  rw [h1, State.setFld_fuse]
  exact foldl_fuse _ h2 _ _

/-- Only step 5 of return preparation burns RETURNED. -/
theorem returnStep_returned (s : State) {k : Nat} (h : k ≠ 5) : (returnStep s k).fuse.returned = s.fuse.returned := by
  unfold returnStep
  split
  · rfl
  · rw [zeroiseKeys_fuse]
  · rfl
  · rfl
  · exact absurd rfl h
  · rfl

/-- Steps without step 5 leave RETURNED as it was. -/
theorem returnSteps_returned (l : List Nat) (h : 5 ∉ l) (s : State) : (returnSteps s l).fuse.returned = s.fuse.returned := by
  unfold returnSteps
  induction l generalizing s with
  | nil => rfl
  | cons a r ih =>
    rw [List.foldl_cons, ih (fun hh => h (List.mem_cons_of_mem _ hh)), returnStep_returned s (fun hh => h (hh ▸ List.mem_cons_self))]

end Sys2Proof.Machine
end

