-- ==== Sys2Proof/Laws/Dispatch.lean ====
section
/-! SUPPORT. The dispatch of each command to its meaning, one equation a command. -/

namespace Sys2Proof.Machine

open Sys2Proof

@[simp] theorem exec_csrWrite a (s : State) : exec (.csrWrite a) s = execCsrWrite a s := rfl
@[simp] theorem exec_plateSramAccess p single double (s : State) : exec (.plateSramAccess p single double) s = execPlateSramAccess p single double s := rfl
@[simp] theorem exec_errorReportSend u (s : State) : exec (.errorReportSend u) s = execErrorReportSend u s := rfl
@[simp] theorem exec_spanFence c (s : State) : exec (.spanFence c) s = execSpanFence c s := rfl
@[simp] theorem exec_fenceClearChannel d c (s : State) : exec (.fenceClearChannel d c) s = execFenceClearChannel d c s := rfl
@[simp] theorem exec_fenceClearAll d (s : State) : exec (.fenceClearAll d) s = execFenceClearAll d s := rfl
@[simp] theorem exec_rotation d site wire (s : State) : exec (.rotation d site wire) s = execRotation d site wire s := rfl
@[simp] theorem exec_rotationSelectSpare d site matched s0Pass lapUs (s : State) : exec (.rotationSelectSpare d site matched s0Pass lapUs) s = execRotationSelectSpare d site matched s0Pass s lapUs := rfl
@[simp] theorem exec_rotationSweepDone d site lo width drv lapUs (s : State) : exec (.rotationSweepDone d site lo width drv lapUs) s = execRotationSweepDone d site lo width drv s lapUs := rfl
@[simp] theorem exec_rotationReturn d site lapUs (s : State) : exec (.rotationReturn d site lapUs) s = execRotationReturn d site lapUs s := rfl
@[simp] theorem exec_spareCalibration d site spare lo width drv (s : State) : exec (.spareCalibration d site spare lo width drv) s = execSpareCalibration d site spare lo width drv s := rfl
@[simp] theorem exec_startupCalibration d site wire lo width drv (s : State) : exec (.startupCalibration d site wire lo width drv) s = execStartupCalibration d site wire lo width drv s := rfl
@[simp] theorem exec_forceRepair d (s : State) : exec (.forceRepair d) s = execForceRepair d s := rfl
@[simp] theorem exec_calNow d (s : State) : exec (.calNow d) s = execCalNow d s := rfl
@[simp] theorem exec_bmRead m port inp other (s : State) : exec (.bmRead m port inp other) s = execBmRead m port inp s other := rfl
@[simp] theorem exec_bmWrite m port inp other (s : State) : exec (.bmWrite m port inp other) s = execBmWrite m port inp other s := rfl
@[simp] theorem exec_lineRefetch m side (s : State) : exec (.lineRefetch m side) s = execLineRefetch m side s := rfl
@[simp] theorem exec_refetchTimeout m side (s : State) : exec (.refetchTimeout m side) s = execRefetchTimeout m side s := rfl
@[simp] theorem exec_lineCmdRefetch d m line (s : State) : exec (.lineCmdRefetch d m line) s = execLineCmdRefetch d m line s := rfl
@[simp] theorem exec_lineCmdRecompute d m line (s : State) : exec (.lineCmdRecompute d m line) s = execLineCmdRecompute d m line s := rfl
@[simp] theorem exec_lineCmdExecute d (s : State) : exec (.lineCmdExecute d) s = execLineCmdExecute d s := rfl
@[simp] theorem exec_push m inp (s : State) : exec (.push m inp) s = execPush m inp s := rfl
@[simp] theorem exec_pop m inp (s : State) : exec (.pop m inp) s = execPop m inp s := rfl
@[simp] theorem exec_flush qn (s : State) : exec (.flush qn) s = execFlush qn s := rfl
@[simp] theorem exec_aperturePush p (s : State) : exec (.aperturePush p) s = execAperturePush p s := rfl
@[simp] theorem exec_aperturePop p (s : State) : exec (.aperturePop p) s = execAperturePop p s := rfl
@[simp] theorem exec_peek p (s : State) : exec (.peek p) s = execPeek p s := rfl
@[simp] theorem exec_heldRequestProceed qn (s : State) : exec (.heldRequestProceed qn) s = execHeldRequestProceed qn s := rfl
@[simp] theorem exec_holdTimeout n ix (s : State) : exec (.holdTimeout n ix) s = execHoldTimeout n ix s := rfl
@[simp] theorem exec_networkTransferDone qn (s : State) : exec (.networkTransferDone qn) s = execNetworkTransferDone qn s := rfl
@[simp] theorem exec_memoryClearDone (s : State) : exec .memoryClearDone s = execMemoryClearDone s := rfl
@[simp] theorem exec_nop ix upset (s : State) : exec (.nop ix upset) s = execNop ix s upset := rfl
@[simp] theorem exec_halt ix upset (s : State) : exec (.halt ix upset) s = execHalt ix s upset := rfl
@[simp] theorem exec_sig ix upset (s : State) : exec (.sig ix upset) s = execSig ix s upset := rfl
@[simp] theorem exec_jmp ix upset (s : State) : exec (.jmp ix upset) s = execJmp ix s upset := rfl
@[simp] theorem exec_loop ix upset (s : State) : exec (.loop ix upset) s = execLoop ix s upset := rfl
@[simp] theorem exec_waitd ix upset (s : State) : exec (.waitd ix upset) s = execWaitd ix s upset := rfl
@[simp] theorem exec_agset ix upset (s : State) : exec (.agset ix upset) s = execAgset ix s upset := rfl
@[simp] theorem exec_agadd ix upset (s : State) : exec (.agadd ix upset) s = execAgadd ix s upset := rfl
@[simp] theorem exec_ftap ix upset (s : State) : exec (.ftap ix upset) s = execFtap ix s upset := rfl
@[simp] theorem exec_mac ix upset (s : State) : exec (.mac ix upset) s = execMac ix s upset := rfl
@[simp] theorem exec_lddl ix upset (s : State) : exec (.lddl ix upset) s = execLddl ix s upset := rfl
@[simp] theorem exec_ldc ix upset (s : State) : exec (.ldc ix upset) s = execLdc ix s upset := rfl
@[simp] theorem exec_st ix upset (s : State) : exec (.st ix upset) s = execSt ix s upset := rfl
@[simp] theorem exec_inp ix upset (s : State) : exec (.inp ix upset) s = execIn ix s upset := rfl
@[simp] theorem exec_out ix upset (s : State) : exec (.out ix upset) s = execOut ix s upset := rfl
@[simp] theorem exec_outa ix upset (s : State) : exec (.outa ix upset) s = execOuta ix s upset := rfl
@[simp] theorem exec_bfly ix upset (s : State) : exec (.bfly ix upset) s = execBfly ix s upset := rfl
@[simp] theorem exec_bexp ix upset (s : State) : exec (.bexp ix upset) s = execBexp ix s upset := rfl
@[simp] theorem exec_engineWaitResume ix waited (s : State) : exec (.engineWaitResume ix waited) s = execEngineWaitResume ix waited s := rfl
@[simp] theorem exec_fifoInput ix data (s : State) : exec (.fifoInput ix data) s = execFifoInput ix data s := rfl
@[simp] theorem exec_fifoOutput ix rdy data (s : State) : exec (.fifoOutput ix rdy data) s = execFifoOutput ix rdy data s := rfl
@[simp] theorem exec_engineApertureRequest p (s : State) : exec (.engineApertureRequest p) s = execEngineApertureRequest p s := rfl
@[simp] theorem exec_engineStart ix (s : State) : exec (.engineStart ix) s = execEngineStart ix s := rfl
@[simp] theorem exec_startPin ix high (s : State) : exec (.startPin ix high) s = execStartPin ix high s := rfl
@[simp] theorem exec_engineStop ix (s : State) : exec (.engineStop ix) s = execEngineStop ix s := rfl
@[simp] theorem exec_engineStopComplete ix (s : State) : exec (.engineStopComplete ix) s = execEngineStopComplete ix s := rfl
@[simp] theorem exec_engineClear ix (s : State) : exec (.engineClear ix) s = execEngineClear ix s := rfl
@[simp] theorem exec_doorbellAdd ix v (s : State) : exec (.doorbellAdd ix v) s = execDoorbellAdd ix v s := rfl
@[simp] theorem exec_imemDomainWrite ix data (s : State) : exec (.imemDomainWrite ix data) s = execImemDomainWrite ix data s := rfl
@[simp] theorem exec_ingressAccept node port p (s : State) : exec (.ingressAccept node port p) s = execIngressAccept node port p s := rfl
@[simp] theorem exec_read p e (s : State) : exec (.read p e) s = execRead p e s := rfl
@[simp] theorem exec_write p e (s : State) : exec (.write p e) s = execWrite p e s := rfl
@[simp] theorem exec_atomic p e (s : State) : exec (.atomic p e) s = execAtomic p e s := rfl
@[simp] theorem exec_responseAccept p (s : State) : exec (.responseAccept p) s = execResponseAccept p s := rfl
@[simp] theorem exec_requestTimeout node port tag (s : State) : exec (.requestTimeout node port tag) s = execRequestTimeout node port tag s := rfl
@[simp] theorem exec_tagRelease node port tag (s : State) : exec (.tagRelease node port tag) s = execTagRelease node port tag s := rfl
@[simp] theorem exec_noRoute p (s : State) : exec (.noRoute p) s = execNoRoute p s := rfl
@[simp] theorem exec_wakeHold p (s : State) : exec (.wakeHold p) s = execWakeHold p s := rfl
@[simp] theorem exec_heldPacketDeliver d (s : State) : exec (.heldPacketDeliver d) s = execHeldPacketDeliver d s := rfl
@[simp] theorem exec_wakeFail node d (s : State) : exec (.wakeFail node d) s = execWakeFail node d s := rfl
@[simp] theorem exec_iqSubmit n data eop pri (s : State) : exec (.iqSubmit n data eop pri) s = execIqSubmit n data eop pri s := rfl
@[simp] theorem exec_tsResponse n x (s : State) : exec (.tsResponse n x) s = execTsResponse n x s := rfl
@[simp] theorem exec_linkFrameReceive p syms (s : State) : exec (.linkFrameReceive p syms) s = execLinkFrameReceive p syms s := rfl
@[simp] theorem exec_ackTimeout p (s : State) : exec (.ackTimeout p) s = execAckTimeout p s := rfl
@[simp] theorem exec_linkEnable p (s : State) : exec (.linkEnable p) s = execLinkEnable p s := rfl
@[simp] theorem exec_linkDisable p (s : State) : exec (.linkDisable p) s = execLinkDisable p s := rfl
@[simp] theorem exec_linkRetrain p (s : State) : exec (.linkRetrain p) s = execLinkRetrain p s := rfl
@[simp] theorem exec_linkTransmit p pkt (s : State) : exec (.linkTransmit p pkt) s = execLinkTransmit p pkt s := rfl
@[simp] theorem exec_linkPacketReceive p pri response (s : State) : exec (.linkPacketReceive p pri response) s = execLinkPacketReceive p pri response s := rfl
@[simp] theorem exec_markSend p offset (s : State) : exec (.markSend p offset) s = execMarkSend p offset s := rfl
@[simp] theorem exec_dopnd p lost (s : State) : exec (.dopnd p lost) s = execDopnd p lost s := rfl
@[simp] theorem exec_tokenWindowWrite p lost (s : State) : exec (.tokenWindowWrite p lost) s = execTokenWindowWrite p lost s := rfl
@[simp] theorem exec_descriptorFetch sl lost (s : State) : exec (.descriptorFetch sl lost) s = execDescriptorFetch sl s lost := rfl
@[simp] theorem exec_heldTokenMatch sl completing lost (s : State) : exec (.heldTokenMatch sl completing lost) s = execHeldTokenMatch sl completing s lost := rfl
@[simp] theorem exec_tokenHoldTimeout sl ix (s : State) : exec (.tokenHoldTimeout sl ix) s = execTokenHoldTimeout sl ix s := rfl
@[simp] theorem exec_tick (s : State) : exec .tick s = execTick s := rfl
@[simp] theorem exec_delayedTokenRelease sl lost (s : State) : exec (.delayedTokenRelease sl lost) s = execDelayedTokenRelease sl lost s := rfl
@[simp] theorem exec_firingRingArrive sl src lost (s : State) : exec (.firingRingArrive sl src lost) s = execFiringRingArrive sl src s lost := rfl
@[simp] theorem exec_dtake p lost (s : State) : exec (.dtake p lost) s = execDtake p lost s := rfl
@[simp] theorem exec_takeWaitExpire sl ix (s : State) : exec (.takeWaitExpire sl ix) s = execTakeWaitExpire sl ix s := rfl
@[simp] theorem exec_takeWindowRead p lost (s : State) : exec (.takeWindowRead p lost) s = execTakeWindowRead p lost s := rfl
@[simp] theorem exec_takeLoad core slice profile va (s : State) : exec (.takeLoad core slice profile va) s = execTakeLoad core slice profile va s := rfl
@[simp] theorem exec_takeBufferLoad core slice profile off size va (s : State) : exec (.takeBufferLoad core slice profile off size va) s = execTakeBufferLoad core slice profile off size va s := rfl
@[simp] theorem exec_execTake n prof (s : State) : exec (.execTake n prof) s = execExecTake n prof s := rfl
@[simp] theorem exec_purge g (s : State) : exec (.purge g) s = execPurge g s := rfl
@[simp] theorem exec_purgeDone g (s : State) : exec (.purgeDone g) s = execPurgeDone g s := rfl
@[simp] theorem exec_inval g (s : State) : exec (.inval g) s = execInval g s := rfl
@[simp] theorem exec_openLoad src icls (s : State) : exec (.openLoad src icls) s = execOpen src icls s := rfl
@[simp] theorem exec_abortLoad icls (s : State) : exec (.abortLoad icls) s = execAbort icls s := rfl
@[simp] theorem exec_flip icls (s : State) : exec (.flip icls) s = execFlip icls s := rfl
@[simp] theorem exec_commitSvn icls (s : State) : exec (.commitSvn icls) s = execCommitSvn icls s := rfl
@[simp] theorem exec_streamWrite p (s : State) : exec (.streamWrite p) s = execStreamWrite p s := rfl
@[simp] theorem exec_xspiRead r (s : State) : exec (.xspiRead r) s = execXspiRead r s := rfl
@[simp] theorem exec_sourceTimeout (s : State) : exec .sourceTimeout s = execSourceTimeout s := rfl
@[simp] theorem exec_frameWrite misrouted (s : State) : exec (.frameWrite misrouted) s = execFrameWrite misrouted s := rfl
@[simp] theorem exec_initDataWrite e (s : State) : exec (.initDataWrite e) s = execInitDataWrite e s := rfl
@[simp] theorem exec_verify (s : State) : exec .verify s = execVerify s := rfl
@[simp] theorem exec_flipWakeTimeout ix (s : State) : exec (.flipWakeTimeout ix) s = execFlipWakeTimeout ix s := rfl
@[simp] theorem exec_flipExecute ix (s : State) : exec (.flipExecute ix) s = execFlipExecute ix s := rfl
@[simp] theorem exec_initComplete ix e (s : State) : exec (.initComplete ix e) s = execInitComplete ix e s := rfl
@[simp] theorem exec_outputs ix (s : State) : exec (.outputs ix) s = execOutputs ix s := rfl
@[simp] theorem exec_enables ix (s : State) : exec (.enables ix) s = execEnables ix s := rfl
@[simp] theorem exec_resets ix (s : State) : exec (.resets ix) s = execResets ix s := rfl
@[simp] theorem exec_slOpen icls src (s : State) : exec (.slOpen icls src) s = execSlOpen icls src s := rfl
@[simp] theorem exec_slAbort icls src (s : State) : exec (.slAbort icls src) s = execSlAbort icls src s := rfl
@[simp] theorem exec_slFlip icls src (s : State) : exec (.slFlip icls src) s = execSlFlip icls src s := rfl
@[simp] theorem exec_slDataWrite p (s : State) : exec (.slDataWrite p) s = execSlDataWrite p s := rfl
@[simp] theorem exec_scrubFrameRead d upset misread tableUpset lapUs e (s : State) : exec (.scrubFrameRead d upset misread tableUpset lapUs e) s = execScrubFrameRead d upset misread tableUpset lapUs e s := rfl
@[simp] theorem exec_candidateFetch d xspi e (s : State) : exec (.candidateFetch d xspi e) s = execCandidateFetch d xspi e s := rfl
@[simp] theorem exec_repair d readBack (s : State) : exec (.repair d readBack) s = execRepair d readBack s := rfl
@[simp] theorem exec_tmrCorrect (s : State) : exec .tmrCorrect s = execTmrCorrect s := rfl
@[simp] theorem exec_digestNow (s : State) : exec .digestNow s = execDigestNow s := rfl
@[simp] theorem exec_digestFrameRead d upset misread tableUpset e (s : State) : exec (.digestFrameRead d upset misread tableUpset e) s = execDigestFrameRead d upset misread tableUpset e s := rfl
@[simp] theorem exec_digestDone (s : State) : exec .digestDone s = execDigestDone s := rfl
@[simp] theorem exec_censusStart (s : State) : exec .censusStart s = execCensusStart s := rfl
@[simp] theorem exec_roundPeriod (s : State) : exec .roundPeriod s = execRoundPeriod s := rfl
@[simp] theorem exec_ref p (s : State) : exec (.ref p) s = execRef p s := rfl
@[simp] theorem exec_summary p (s : State) : exec (.summary p) s = execSummary p s := rfl
@[simp] theorem exec_dissent p (s : State) : exec (.dissent p) s = execDissent p s := rfl
@[simp] theorem exec_censusWaitExpire (s : State) : exec .censusWaitExpire s = execCensusWaitExpire s := rfl
@[simp] theorem exec_kidLoad e kid (s : State) : exec (.kidLoad e kid) s = execKidLoad e kid s := rfl
@[simp] theorem exec_generate kid (s : State) : exec (.generate kid) s = execGenerate kid s := rfl
@[simp] theorem exec_kidInit kid (s : State) : exec (.kidInit kid) s = execKidInit kid s := rfl
@[simp] theorem exec_kidInitDone kid (s : State) : exec (.kidInitDone kid) s = execKidInitDone kid s := rfl
@[simp] theorem exec_kidEnable kid (s : State) : exec (.kidEnable kid) s = execKidEnable kid s := rfl
@[simp] theorem exec_retire kid (s : State) : exec (.retire kid) s = execRetire kid s := rfl
@[simp] theorem exec_retireDone kid (s : State) : exec (.retireDone kid) s = execRetireDone kid s := rfl
@[simp] theorem exec_verifyDone ix (s : State) : exec (.verifyDone ix) s = execVerifyDone ix s := rfl
@[simp] theorem exec_vtimeAlarm ix (s : State) : exec (.vtimeAlarm ix) s = execVtimeAlarm ix s := rfl
@[simp] theorem exec_verifyRefetch ix e (s : State) : exec (.verifyRefetch ix e) s = execVerifyRefetch ix e s := rfl
@[simp] theorem exec_alarmPop e (s : State) : exec (.alarmPop e) s = execAlarmPop e s := rfl
@[simp] theorem exec_drainMode c aged (s : State) : exec (.drainMode c aged) s = execDrainMode c aged s := rfl
@[simp] theorem exec_readMode c aged (s : State) : exec (.readMode c aged) s = execReadMode c aged s := rfl
@[simp] theorem exec_refreshDebt c rank (s : State) : exec (.refreshDebt c rank) s = execRefreshDebt c rank s := rfl
@[simp] theorem exec_refresh c rank bank (s : State) : exec (.refresh c rank bank) s = execRefresh c rank bank s := rfl
@[simp] theorem exec_rdThreshold c bank (s : State) : exec (.rdThreshold c bank) s = execRdThreshold c bank s := rfl
@[simp] theorem exec_throttleExpire c ix (s : State) : exec (.throttleExpire c ix) s = execThrottleExpire c ix s := rfl
@[simp] theorem exec_trackerClear c (s : State) : exec (.trackerClear c) s = execTrackerClear c s := rfl
@[simp] theorem exec_parityAlert c done (s : State) : exec (.parityAlert c done) s = execParityAlert c done s := rfl
@[simp] theorem exec_alertClear c (s : State) : exec (.alertClear c) s = execAlertClear c s := rfl
@[simp] theorem exec_ddrRetrain c t lost (s : State) : exec (.ddrRetrain c t lost) s = execDdrRetrain c t lost s := rfl
@[simp] theorem exec_ddrDisable c (s : State) : exec (.ddrDisable c) s = execDdrDisable c s := rfl
@[simp] theorem exec_dramTrainingDone t (s : State) : exec (.dramTrainingDone t) s = execDramTrainingDone t s := rfl
@[simp] theorem exec_driftCheck c rank drift (s : State) : exec (.driftCheck c rank drift) s = execDriftCheck c rank drift s := rfl
@[simp] theorem exec_retrainingWindow c rank unmet (s : State) : exec (.retrainingWindow c rank unmet) s = execRetrainingWindow c rank s unmet := rfl
@[simp] theorem exec_retrainingWindowEnd c rank (s : State) : exec (.retrainingWindowEnd c rank) s = execRetrainingWindowEnd c rank s := rfl
@[simp] theorem exec_energyDetect k lane (s : State) : exec (.energyDetect k lane) s = execEnergyDetect k lane s := rfl
@[simp] theorem exec_trainLock k lane seed (s : State) : exec (.trainLock k lane seed) s = execTrainLock k lane seed s := rfl
@[simp] theorem exec_trainTimeout k lane (s : State) : exec (.trainTimeout k lane) s = execTrainTimeout k lane s := rfl
@[simp] theorem exec_capsFrameReceive k lane syms at_ (s : State) : exec (.capsFrameReceive k lane syms at_) s = execCapsFrameReceive k lane syms at_ s := rfl
@[simp] theorem exec_laneSlip k lane n (s : State) : exec (.laneSlip k lane n) s = execLaneSlip k lane n s := rfl
@[simp] theorem exec_laneDrop k lane (s : State) : exec (.laneDrop k lane) s = execLaneDrop k lane s := rfl
@[simp] theorem exec_txSleep k lane v (s : State) : exec (.txSleep k lane v) s = execTxSleep k lane v s := rfl
@[simp] theorem exec_rxSleep k lane v (s : State) : exec (.rxSleep k lane v) s = execRxSleep k lane v s := rfl
@[simp] theorem exec_tuningStep k lane ns here below above (s : State) : exec (.tuningStep k lane ns here below above) s = execTuningStep k lane ns here below above s := rfl
@[simp] theorem exec_eyeScanStart k lane (s : State) : exec (.eyeScanStart k lane) s = execEyeScanStart k lane s := rfl
@[simp] theorem exec_eyeScanSlice k lane (s : State) : exec (.eyeScanSlice k lane) s = execEyeScanSlice k lane s := rfl
@[simp] theorem exec_eyeScanDone k lane mismatches (s : State) : exec (.eyeScanDone k lane mismatches) s = execEyeScanDone k lane mismatches s := rfl
@[simp] theorem exec_laneModeWrite k lane mode (s : State) : exec (.laneModeWrite k lane mode) s = execLaneModeWrite k lane mode s := rfl
@[simp] theorem exec_pcieEnable c (s : State) : exec (.pcieEnable c) s = execPcieEnable c s := rfl
@[simp] theorem exec_pcieLinkDrop c port (s : State) : exec (.pcieLinkDrop c port) s = execPcieLinkDrop c port s := rfl
@[simp] theorem exec_inboundRequest c r (s : State) : exec (.inboundRequest c r) s = execInboundRequest c r s := rfl
@[simp] theorem exec_outboundRequest p (s : State) : exec (.outboundRequest p) s = execOutboundRequest p s := rfl
@[simp] theorem exec_outboundCompletion c ix outcome data (s : State) : exec (.outboundCompletion c ix outcome data) s = execOutboundCompletion c ix outcome data s := rfl
@[simp] theorem exec_completionTimeout c ix (s : State) : exec (.completionTimeout c ix) s = execCompletionTimeout c ix s := rfl
@[simp] theorem exec_dmaDoorbell c k pi fn (s : State) : exec (.dmaDoorbell c k pi fn) s = execDmaDoorbell c k pi fn s := rfl
@[simp] theorem exec_dmaDescriptorCheck c k desc (s : State) : exec (.dmaDescriptorCheck c k desc) s = execDmaDescriptorCheck c k desc s := rfl
@[simp] theorem exec_dmaWriteBack c k (s : State) : exec (.dmaWriteBack c k) s = execDmaWriteBack c k s := rfl
@[simp] theorem exec_dmaEnable c k (s : State) : exec (.dmaEnable c k) s = execDmaEnable c k s := rfl
@[simp] theorem exec_functionLevelReset c vf func (s : State) : exec (.functionLevelReset c vf func) s = execFunctionLevelReset c vf func s := rfl
@[simp] theorem exec_xtalQualify (s : State) : exec .xtalQualify s = execXtalQualify s := rfl
@[simp] theorem exec_hfSettle (s : State) : exec .hfSettle s = execHfSettle s := rfl
@[simp] theorem exec_monitorTrip count (s : State) : exec (.monitorTrip count) s = execMonitorTrip s count := rfl
@[simp] theorem exec_fallbackTimeout (s : State) : exec .fallbackTimeout s = execFallbackTimeout s := rfl
@[simp] theorem exec_hfCheckFail count (s : State) : exec (.hfCheckFail count) s = execHfCheckFail s count := rfl
@[simp] theorem exec_trimMeasurement count expected (s : State) : exec (.trimMeasurement count expected) s = execTrimMeasurement count expected s := rfl
@[simp] theorem exec_pllEnable k en (s : State) : exec (.pllEnable k en) s = execPllEnable k en s := rfl
@[simp] theorem exec_pllLock k (s : State) : exec (.pllLock k) s = execPllLock k s := rfl
@[simp] theorem exec_pllStandby k (s : State) : exec (.pllStandby k) s = execPllStandby k s := rfl
@[simp] theorem exec_domainGate ix (s : State) : exec (.domainGate ix) s = execDomainGate ix s := rfl
@[simp] theorem exec_domainOff n (s : State) : exec (.domainOff n) s = execDomainOff n s := rfl
@[simp] theorem exec_domainRun ix (s : State) : exec (.domainRun ix) s = execDomainRun ix s := rfl
@[simp] theorem exec_autoClose ix (s : State) : exec (.autoClose ix) s = execAutoClose ix s := rfl
@[simp] theorem exec_closeReady ix (s : State) : exec (.closeReady ix) s = execCloseReady ix s := rfl
@[simp] theorem exec_closeRefuse ix (s : State) : exec (.closeRefuse ix) s = execCloseRefuse ix s := rfl
@[simp] theorem exec_closeTimeout ix (s : State) : exec (.closeTimeout ix) s = execCloseTimeout ix s := rfl
@[simp] theorem exec_wakeDone ix (s : State) : exec (.wakeDone ix) s = execWakeDone ix s := rfl
@[simp] theorem exec_vfTarget g target (s : State) : exec (.vfTarget g target) s = execVfTarget g target s := rfl
@[simp] theorem exec_vfSettle g millivolt fault (s : State) : exec (.vfSettle g millivolt fault) s = execVfSettle g millivolt fault s := rfl
@[simp] theorem exec_vfDone g (s : State) : exec (.vfDone g) s = execVfDone g s := rfl
@[simp] theorem exec_fretBoundary (s : State) : exec .fretBoundary s = execFretBoundary s := rfl
@[simp] theorem exec_drowse icls (s : State) : exec (.drowse icls) s = execDrowse icls s := rfl
@[simp] theorem exec_wake icls (s : State) : exec (.wake icls) s = execWake icls s := rfl
@[simp] theorem exec_wakeSource src (s : State) : exec (.wakeSource src) s = execWakeSource src s := rfl
@[simp] theorem exec_contain icls (s : State) : exec (.contain icls) s = execContain icls s := rfl
@[simp] theorem exec_containCause cause (s : State) : exec (.containCause cause) s = execContainCause cause s := rfl
@[simp] theorem exec_resumable celsius (s : State) : exec (.resumable celsius) s = execResumable celsius s := rfl
@[simp] theorem exec_resume icls (s : State) : exec (.resume icls) s = execResume icls s := rfl
@[simp] theorem exec_dormant icls (s : State) : exec (.dormant icls) s = execDormant icls s := rfl
@[simp] theorem exec_serviceEnter (s : State) : exec .serviceEnter s = execServiceEnter s := rfl
@[simp] theorem exec_powerOnReset sealIntact (s : State) : exec (.powerOnReset sealIntact) s = execPowerOnReset sealIntact s := rfl
@[simp] theorem exec_pinReset lowNs (s : State) : exec (.pinReset lowNs) s = execPinReset lowNs s := rfl
@[simp] theorem exec_resetSystemCmd key icls (s : State) : exec (.resetSystemCmd key icls) s = execResetSystemCmd key icls s := rfl
@[simp] theorem exec_resetManagementCmd key icls (s : State) : exec (.resetManagementCmd key icls) s = execResetManagementCmd key icls s := rfl
@[simp] theorem exec_systemReset (s : State) : exec .systemReset s = execSystemReset s := rfl
@[simp] theorem exec_managementReset recent (s : State) : exec (.managementReset recent) s = execManagementReset recent s := rfl
@[simp] theorem exec_strapSample bootsrc pull node (s : State) : exec (.strapSample bootsrc pull node) s = execStrapSample bootsrc pull node s := rfl
@[simp] theorem exec_groupBGood (s : State) : exec .groupBGood s = execGroupBGood s := rfl
@[simp] theorem exec_supplyTimeout (s : State) : exec .supplyTimeout s = execSupplyTimeout s := rfl
@[simp] theorem exec_bootWindowWrite p (s : State) : exec (.bootWindowWrite p) s = execBootWindowWrite p s := rfl
@[simp] theorem exec_handover container (s : State) : exec (.handover container) s = execHandover container s := rfl
@[simp] theorem exec_autoflip (s : State) : exec .autoflip s = execAutoflip s := rfl
@[simp] theorem exec_objectRead e (s : State) : exec (.objectRead e) s = execObjectRead e s := rfl
@[simp] theorem exec_objectWrite e (s : State) : exec (.objectWrite e) s = execObjectWrite e s := rfl
@[simp] theorem exec_segRead e (s : State) : exec (.segRead e) s = execSegRead e s := rfl
@[simp] theorem exec_segWrite (s : State) : exec .segWrite s = execSegWrite s := rfl
@[simp] theorem exec_segment e (s : State) : exec (.segment e) s = execSegment e s := rfl
@[simp] theorem exec_recordAbort (s : State) : exec .recordAbort s = execRecordAbort s := rfl
@[simp] theorem exec_transferTimeout session (s : State) : exec (.transferTimeout session) s = execTransferTimeout session s := rfl
@[simp] theorem exec_canFrameReceive c id data (s : State) : exec (.canFrameReceive c id data) s = execCanFrameReceive c id data s := rfl
@[simp] theorem exec_busOffRejoin c (s : State) : exec (.busOffRejoin c) s = execBusOffRejoin c s := rfl
@[simp] theorem exec_mailboxDoorbell c seq (s : State) : exec (.mailboxDoorbell c seq) s = execMailboxDoorbell c seq s := rfl
@[simp] theorem exec_relaySend (s : State) : exec .relaySend s = execRelaySend s := rfl
@[simp] theorem exec_relayResponse p (s : State) : exec (.relayResponse p) s = execRelayResponse p s := rfl
@[simp] theorem exec_relayTimeout session (s : State) : exec (.relayTimeout session) s = execRelayTimeout session s := rfl
@[simp] theorem exec_presencePress held (s : State) : exec (.presencePress held) s = execPresencePress held s := rfl
@[simp] theorem exec_presenceExpire (s : State) : exec .presenceExpire s = execPresenceExpire s := rfl
@[simp] theorem exec_sealBreak (s : State) : exec .sealBreak s = execSealBreak s := rfl
@[simp] theorem exec_challengeRead e (s : State) : exec (.challengeRead e) s = execChallengeRead e s := rfl
@[simp] theorem exec_challengeAnswer e (s : State) : exec (.challengeAnswer e) s = execChallengeAnswer e s := rfl
@[simp] theorem exec_presenceUnlock (s : State) : exec .presenceUnlock s = execPresenceUnlock s := rfl
@[simp] theorem exec_lock (s : State) : exec .lock s = execLock s := rfl
@[simp] theorem exec_unlockExpire session (s : State) : exec (.unlockExpire session) s = execUnlockExpire session s := rfl
@[simp] theorem exec_keySlotProvision (s : State) : exec .keySlotProvision s = execKeySlotProvision s := rfl
@[simp] theorem exec_keySlotRevoke (s : State) : exec .keySlotRevoke s = execKeySlotRevoke s := rfl
@[simp] theorem exec_keyWrap (s : State) : exec .keyWrap s = execKeyWrap s := rfl
@[simp] theorem exec_expertKeyWrite (s : State) : exec .expertKeyWrite s = execExpertKeyWrite s := rfl
@[simp] theorem exec_measurementExtend slot icls (s : State) : exec (.measurementExtend slot icls) s = execMeasurementExtend slot icls s := rfl
@[simp] theorem exec_attestationRead (s : State) : exec .attestationRead s = execAttestationRead s := rfl
@[simp] theorem exec_errorReportReceive remote now (s : State) : exec (.errorReportReceive remote now) s = execErrorReportReceive remote now s := rfl
@[simp] theorem exec_errWindowEnd entry (s : State) : exec (.errWindowEnd entry) s = execErrWindowEnd entry s := rfl
@[simp] theorem exec_errDeliveryQueued (s : State) : exec .errDeliveryQueued s = execErrDeliveryQueued s := rfl
@[simp] theorem exec_errPop (s : State) : exec .errPop s = execErrPop s := rfl
@[simp] theorem exec_returnPreparation steps (s : State) : exec (.returnPreparation steps) s = execReturnPreparation steps s := rfl
@[simp] theorem exec_returnCompletion (s : State) : exec .returnCompletion s = execReturnCompletion s := rfl
@[simp] theorem exec_coreRun run icls (s : State) : exec (.coreRun run icls) s = execCoreRun run icls s := rfl
@[simp] theorem exec_eventEdge n v (s : State) : exec (.eventEdge n v) s = execEventEdge n v s := rfl
@[simp] theorem exec_eventReassign n (s : State) : exec (.eventReassign n) s = execEventReassign n s := rfl
@[simp] theorem exec_claim t icls (s : State) : exec (.claim t icls) s = execClaim t icls s := rfl
@[simp] theorem exec_completion t n icls (s : State) : exec (.completion t n icls) s = execCompletion t n icls s := rfl
@[simp] theorem exec_swset num (s : State) : exec (.swset num) s = execSwset num s := rfl
@[simp] theorem exec_watchdogKick ix key icls (s : State) : exec (.watchdogKick ix key icls) s = execWatchdogKick ix key icls s := rfl
@[simp] theorem exec_watchdogWarning ix (s : State) : exec (.watchdogWarning ix) s = execWatchdogWarning ix s := rfl
@[simp] theorem exec_watchdogExpire ix recent (s : State) : exec (.watchdogExpire ix recent) s = execWatchdogExpire ix recent s := rfl
@[simp] theorem exec_stylusBreak (s : State) : exec .stylusBreak s = execStylusBreak s := rfl
@[simp] theorem exec_stylusEntry (s : State) : exec .stylusEntry s = execStylusEntry s := rfl
@[simp] theorem exec_rd addr (s : State) : exec (.rd addr) s = execRd addr s := rfl
@[simp] theorem exec_wr addr data (s : State) : exec (.wr addr data) s = execWr addr data s := rfl
@[simp] theorem exec_drd ofs (s : State) : exec (.drd ofs) s = execDrd ofs s := rfl
@[simp] theorem exec_dwr ofs data (s : State) : exec (.dwr ofs data) s = execDwr ofs data s := rfl
@[simp] theorem exec_stylusExit (s : State) : exec .stylusExit s = execStylusExit s := rfl
@[simp] theorem exec_stylusTimeout (s : State) : exec .stylusTimeout s = execStylusTimeout s := rfl
@[simp] theorem exec_kxStart soon icls (s : State) : exec (.kxStart soon icls) s = execKxStart soon icls s := rfl
@[simp] theorem exec_kxAnswer late icls (s : State) : exec (.kxAnswer late icls) s = execKxAnswer late icls s := rfl
@[simp] theorem exec_kxClose icls (s : State) : exec (.kxClose icls) s = execKxClose icls s := rfl
@[simp] theorem exec_kxSessionTimeout (s : State) : exec .kxSessionTimeout s = execKxSessionTimeout s := rfl
@[simp] theorem exec_dbgHalt ix regs (s : State) : exec (.dbgHalt ix regs) s = execDbgHalt ix regs s := rfl
@[simp] theorem exec_dbgResume ix (s : State) : exec (.dbgResume ix) s = execDbgResume ix s := rfl
@[simp] theorem exec_dbgStep ix regs (s : State) : exec (.dbgStep ix regs) s = execDbgStep ix regs s := rfl
@[simp] theorem exec_ebreakHalt ix regs (s : State) : exec (.ebreakHalt ix regs) s = execEbreakHalt ix regs s := rfl
@[simp] theorem exec_comparatorMatch ix pc acc scontext regs (s : State) : exec (.comparatorMatch ix pc acc scontext regs) s = execComparatorMatch ix pc acc scontext regs s := rfl
@[simp] theorem exec_watchMatch ix w pc write addr size value scontext regs (s : State) : exec (.watchMatch ix w pc write addr size value scontext regs) s = execWatchMatch ix w pc write addr size value scontext regs s := rfl
@[simp] theorem exec_registerAccess ix write reg (s : State) : exec (.registerAccess ix write reg) s = execRegisterAccess ix write reg s := rfl
@[simp] theorem exec_captureArm (s : State) : exec .captureArm s = execCaptureArm s := rfl
@[simp] theorem exec_captureStop (s : State) : exec .captureStop s = execCaptureStop s := rfl
@[simp] theorem exec_captureTrigger (s : State) : exec .captureTrigger s = execCaptureTrigger s := rfl
@[simp] theorem exec_captureDone (s : State) : exec .captureDone s = execCaptureDone s := rfl
@[simp] theorem exec_functionSwitch ix second pads (s : State) : exec (.functionSwitch ix second pads) s = execFunctionSwitch ix second pads s := rfl
@[simp] theorem exec_gpioWrite bank oe value icls src (s : State) : exec (.gpioWrite bank oe value icls src) s = execGpioWrite bank oe value icls src s := rfl
@[simp] theorem exec_patternFire b k pads (s : State) : exec (.patternFire b k pads) s = execPatternFire b k pads s := rfl
@[simp] theorem exec_adcConversion code (s : State) : exec (.adcConversion code) s = execAdcConversion code s := rfl
@[simp] theorem exec_idcode (s : State) : exec .idcode s = execIdcode s := rfl
@[simp] theorem exec_samplePreload sampled shifted (s : State) : exec (.samplePreload sampled shifted) s = execSamplePreload sampled shifted s := rfl
@[simp] theorem exec_extest sampled shifted (s : State) : exec (.extest sampled shifted) s = execExtest sampled shifted s := rfl
@[simp] theorem exec_extestPulse sampled shifted (s : State) : exec (.extestPulse sampled shifted) s = execExtestPulse sampled shifted s := rfl
@[simp] theorem exec_extestTrain sampled shifted (s : State) : exec (.extestTrain sampled shifted) s = execExtestTrain sampled shifted s := rfl
@[simp] theorem exec_clamp (s : State) : exec .clamp s = execClamp s := rfl
@[simp] theorem exec_highz (s : State) : exec .highz s = execHighz s := rfl
@[simp] theorem exec_bypass (s : State) : exec .bypass s = execBypass s := rfl
@[simp] theorem exec_testLogicReset (s : State) : exec .testLogicReset s = execTestLogicReset s := rfl
@[simp] theorem exec_regionalClockEdge n track falling pads also (s : State) : exec (.regionalClockEdge n track falling pads also) s = execRegionalClockEdge n track falling pads s also := rfl
@[simp] theorem exec_asyncSetReset n x y set rises when (s : State) : exec (.asyncSetReset n x y set rises when) s = execAsyncSetReset n x y set rises when s := rfl
@[simp] theorem exec_spanEdge (s : State) : exec .spanEdge s = execSpanEdge s := rfl
@[simp] theorem exec_dramCommandIssue c met old gap raa ref (s : State) : exec (.dramCommandIssue c met old gap raa ref) s = execDramCommandIssue c met old gap raa s ref := rfl
@[simp] theorem exec_invalDone g (s : State) : exec (.invalDone g) s = execInvalDone g s := rfl
@[simp] theorem exec_pcieLinkUp c port speed width (s : State) : exec (.pcieLinkUp c port speed width) s = execPcieLinkUp c port speed width s := rfl
@[simp] theorem exec_canBusError c transmit step (s : State) : exec (.canBusError c transmit step) s = execCanBusError c transmit step s := rfl
@[simp] theorem exec_stylusFramingError (s : State) : exec .stylusFramingError s = execStylusFramingError s := rfl
@[simp] theorem exec_stylusFrameTimeout (s : State) : exec .stylusFrameTimeout s = execStylusFrameTimeout s := rfl
@[simp] theorem exec_stylusBadFrame (s : State) : exec .stylusBadFrame s = execStylusBadFrame s := rfl
@[simp] theorem exec_stylusSlot (s : State) : exec .stylusSlot s = execStylusSlot s := rfl
@[simp] theorem exec_fwFail container (s : State) : exec (.fwFail container) s = execFwFail container s := rfl
@[simp] theorem exec_selftestFail (s : State) : exec .selftestFail s = execSelftestFail s := rfl
@[simp] theorem exec_contentLost c (s : State) : exec (.contentLost c) s = execContentLost c s := rfl
@[simp] theorem exec_vccioChange bank good (s : State) : exec (.vccioChange bank good) s = execVccioChange bank good s := rfl
@[simp] theorem exec_coreMemoryAccess core op va addr size data victim (s : State) : exec (.coreMemoryAccess core op va addr size data victim) s = execCoreMemoryAccess core op va addr size data victim s := rfl
@[simp] theorem exec_laneSignal k lane v (s : State) : exec (.laneSignal k lane v) s = execLaneSignal k lane v s := rfl

end Sys2Proof.Machine
end

