-- ==== Sys2Proof/Laws/Kept.lean ====
section
/-! SUPPORT. Kept as the machine's functions preserve it: how it passes through updates, branches, folds and outcomes. -/

namespace Sys2Proof.Machine

open Sys2Proof

theorem FuseState.Burns.refl (a : FuseState) : a.Burns a :=
  ⟨le_rfl, le_rfl, fun _ _ h => h, fun _ h => h, id, id, id, id, id⟩

theorem FuseState.Burns.trans {a b c : FuseState} (h : a.Burns b) (k : b.Burns c) : a.Burns c :=
  ⟨h.svn.trans k.svn, h.sealed.trans k.sealed, fun i v e => k.slots i v (h.slots i v e), fun i e => k.revoked i (h.revoked i e),
    fun e => k.expert (h.expert e), fun e => k.debugKey (h.debugKey e), fun e => k.started (h.started e), fun e => k.kek (h.kek e),
    fun e => k.returned (h.returned e)⟩

@[simp] theorem Kept.refl (s : State) : Kept s s := ⟨rfl, FuseState.Burns.refl _, id⟩

theorem Kept.trans {a b c : State} (h : Kept a b) (k : Kept b c) : Kept a c :=
  ⟨k.pending.trans h.pending, h.fuse.trans k.fuse, fun x => k.canon (h.canon x)⟩

/-- The canonical form kept by given parts. -/
def KeptC (s0 : State) (reports : List Report) (csr : SMap Word32) (sram : SMap Byte) (ecc : SMap Nat) (lines : SMap Word72)
    (dram : SMap Line) (frames : SMap Frame) (q : SMap Bool) : Prop := s0.Canonical → CanonParts reports csr sram ecc lines dram frames q

variable {s0 s : State}

@[simp] theorem Kept.pend_iff (h : Kept s0 s) : (s.pending = s0.pending) ↔ True := iff_true_intro h.pending
@[simp] theorem Kept.fuse_iff (h : Kept s0 s) : (s0.fuse.Burns s.fuse) ↔ True := iff_true_intro h.fuse
@[simp] theorem Kept.canon_iff (h : Kept s0 s) :
    KeptC s0 s.reports s.csr s.sram.mem s.sram.ecc s.bm.lines s.ddr.mem s.fab.frames s.fab.q ↔ True := iff_true_intro h.canon

/-- A state written out: what matters are its queue, fuses, registers and memories. -/
@[simp] theorem Kept.mk_iff (csr reports path cpl bud evt sram fab span net bm eng fp link lane dsp ddr ipe pci fuse cfg scb cns pin scan clk
    mode dict err cores dbg free pending) :
    Kept s0 (State.mk csr reports path cpl bud evt sram fab span net bm eng fp link lane dsp ddr ipe pci fuse cfg scb cns pin scan clk
      mode dict err cores dbg free pending) ↔
    pending = s0.pending ∧ s0.fuse.Burns fuse ∧ KeptC s0 reports csr sram.mem sram.ecc bm.lines ddr.mem fab.frames fab.q :=
  ⟨fun h => ⟨h.pending, h.fuse, h.canon⟩, fun h => ⟨h.1, h.2.1, h.2.2⟩⟩

@[simp] theorem Kept.ite {a b : State} {c : Prop} [Decidable c] (ha : Kept s0 a) (hb : Kept s0 b) : Kept s0 (if c then a else b) := by
  split <;> assumption

@[simp] theorem Kept.foldl {β : Type} {f : State → β → State} {l : List β} (h : Kept s0 s) (hf : ∀ t x, Kept s0 t → Kept s0 (f t x)) :
    Kept s0 (l.foldl f s) := by
  induction l generalizing s with
  | nil => exact h
  | cons x r ih => exact ih (hf s x h)

@[simp] theorem Kept.foldl_fst {α β : Type} {f : State × α → β → State × α} {l : List β} {a : State × α} (h : Kept s0 a.1)
    (hf : ∀ b x, Kept s0 b.1 → Kept s0 (f b x).1) : Kept s0 (l.foldl f a).1 := by
  induction l generalizing a with
  | nil => exact h
  | cons x r ih => exact ih (hf a x h)

@[simp] theorem Kept.foldl_snd {α β : Type} {f : α × State → β → α × State} {l : List β} {a : α × State} (h : Kept s0 a.2)
    (hf : ∀ b x, Kept s0 b.2 → Kept s0 (f b x).2) : Kept s0 (l.foldl f a).2 := by
  induction l generalizing a with
  | nil => exact h
  | cons x r ih => exact ih (hf a x h)

/-- A fold over a record that holds a state. -/
theorem Kept.foldl_of {α β : Type} {π : α → State} {f : α → β → α} {l : List β} {a : α} (h : Kept s0 (π a))
    (hf : ∀ b x, Kept s0 (π b) → Kept s0 (π (f b x))) : Kept s0 (π (l.foldl f a)) := by
  induction l generalizing a with
  | nil => exact h
  | cons x r ih => exact ih (hf a x h)

/-- An outcome that is a next state that keeps what is to be kept. -/
def KeptOut (s0 : State) (o : Out) : Prop := ∃ t, o = .next t ∧ Kept s0 t

@[simp] theorem KeptOut.next_iff {t : State} : KeptOut s0 (.next t) ↔ Kept s0 t :=
  ⟨fun ⟨u, e, h⟩ => by cases e; exact h, fun h => ⟨t, rfl, h⟩⟩

@[simp] theorem KeptOut.ite {a b : Out} {c : Prop} [Decidable c] (ha : KeptOut s0 a) (hb : KeptOut s0 b) : KeptOut s0 (if c then a else b) := by
  split <;> assumption

/-- An optional state that keeps what is to be kept where there is one. -/
def KeptOpt (s0 : State) (o : Option State) : Prop := ∀ t, o = some t → Kept s0 t

@[simp] theorem KeptOpt.some_iff {t : State} : KeptOpt s0 (some t) ↔ Kept s0 t :=
  ⟨fun h => h t rfl, fun h u e => by cases e; exact h⟩
@[simp] theorem KeptOpt.none : KeptOpt s0 Option.none := fun _ e => nomatch e
@[simp] theorem KeptOpt.ite {a b : Option State} {c : Prop} [Decidable c] (ha : KeptOpt s0 a) (hb : KeptOpt s0 b) :
    KeptOpt s0 (if c then a else b) := by split <;> assumption

@[simp] theorem Kept.getD {o : Option State} (ho : KeptOpt s0 o) (h : Kept s0 s) : Kept s0 (o.getD s) := by
  cases o with
  | none => exact h
  | some t => exact ho t rfl

@[simp] theorem KeptOpt.map {o : Option State} {f : State → State} (ho : KeptOpt s0 o) (hf : ∀ t, Kept s0 t → Kept s0 (f t)) :
    KeptOpt s0 (o.map f) := by
  cases o with
  | none => exact KeptOpt.none
  | some t => exact KeptOpt.some_iff.2 (hf t (ho t rfl))

/-- An optional state with an answer beside it. -/
def KeptOptP {β : Type} (s0 : State) (o : Option (State × β)) : Prop := ∀ t, o = some t → Kept s0 t.1

@[simp] theorem KeptOptP.some_iff {β : Type} {t : State × β} : KeptOptP s0 (some t) ↔ Kept s0 t.1 :=
  ⟨fun h => h t rfl, fun h u e => by cases e; exact h⟩
@[simp] theorem KeptOptP.none {β : Type} : KeptOptP s0 (Option.none : Option (State × β)) := fun _ e => nomatch e
@[simp] theorem KeptOptP.ite {β : Type} {a b : Option (State × β)} {c : Prop} [Decidable c] (ha : KeptOptP s0 a) (hb : KeptOptP s0 b) :
    KeptOptP s0 (if c then a else b) := by split <;> assumption

theorem KeptOptP.foldl {β γ : Type} {f : Option (State × β) → γ → Option (State × β)} {l : List γ} {a : Option (State × β)}
    (h : KeptOptP s0 a) (hf : ∀ b x, KeptOptP s0 b → KeptOptP s0 (f b x)) : KeptOptP s0 (l.foldl f a) := by
  induction l generalizing a with
  | nil => exact h
  | cons x r ih => exact ih (hf a x h)

@[simp] theorem Kept.fst_ite {β : Type} {a b : State × β} {c : Prop} [Decidable c] (ha : Kept s0 a.1) (hb : Kept s0 b.1) :
    Kept s0 (if c then a else b).1 := by split <;> assumption
@[simp] theorem Kept.snd_ite {β : Type} {a b : β × State} {c : Prop} [Decidable c] (ha : Kept s0 a.2) (hb : Kept s0 b.2) :
    Kept s0 (if c then a else b).2 := by split <;> assumption

/-- Fuses replaced by fuses burned further. -/
theorem Kept.burn {f : FuseState} (h : Kept s0 s) (hf : s.fuse.Burns f) : Kept s0 { s with fuse := f } :=
  ⟨h.pending, h.fuse.trans hf, h.canon⟩

/-! ### The operations that touch registers, fuses or memories -/

@[simp] theorem State.setReg_kept {u off : Nat} {w : Word32} (h : Kept s0 s) : Kept s0 (s.setReg u off w) := by
  simp only [State.setReg, Kept.mk_iff]
  refine ⟨h.pending, h.fuse, fun c => ?_⟩
  have := h.canon c
  refine { this with csr := ?_ }
  by_cases hw : w = csrReset (csrHome u off)
  · simpa [hw] using this.csr.erase _
  · simpa [hw] using this.csr.put hw

/-- A table of a kept state in canonical form. -/
def CanonIf {α : Type} (s0 : State) (d : Nat → α) (m : SMap α) : Prop := s0.Canonical → m.Canon d

theorem KeptC.split_iff {reports csr sram ecc lines dram frames q} : KeptC s0 reports csr sram ecc lines dram frames q ↔
    (s0.Canonical → OneReportEach reports) ∧ CanonIf s0 csrReset csr ∧ CanonIf s0 (fun _ => 0#8) sram ∧ CanonIf s0 (fun _ => 0) ecc ∧ CanonIf s0 (fun _ => zeroLine) lines ∧
      CanonIf s0 (fun _ => 0#512) dram ∧ CanonIf s0 (fun _ => 0#2048) frames ∧ CanonIf s0 (fun _ => false) q :=
  ⟨fun h => ⟨fun c => (h c).reports, fun c => (h c).csr, fun c => (h c).sram, fun c => (h c).ecc, fun c => (h c).lines, fun c => (h c).dram, fun c => (h c).frames,
    fun c => (h c).q⟩, fun h c => ⟨h.1 c, h.2.1 c, h.2.2.1 c, h.2.2.2.1 c, h.2.2.2.2.1 c, h.2.2.2.2.2.1 c, h.2.2.2.2.2.2.1 c, h.2.2.2.2.2.2.2 c⟩⟩

@[simp] theorem Kept.reports_if (h : Kept s0 s) : (s0.Canonical → OneReportEach s.reports) ↔ True :=
  iff_true_intro fun c => (h.canon c).reports
@[simp] theorem Kept.csr_if (h : Kept s0 s) : CanonIf s0 csrReset s.csr := fun c => (h.canon c).csr
@[simp] theorem Kept.sram_if (h : Kept s0 s) : CanonIf s0 (fun _ => 0#8) s.sram.mem := fun c => (h.canon c).sram
@[simp] theorem Kept.ecc_if (h : Kept s0 s) : CanonIf s0 (fun _ => 0) s.sram.ecc := fun c => (h.canon c).ecc
@[simp] theorem Kept.lines_if (h : Kept s0 s) : CanonIf s0 (fun _ => zeroLine) s.bm.lines := fun c => (h.canon c).lines
@[simp] theorem Kept.dram_if (h : Kept s0 s) : CanonIf s0 (fun _ => 0#512) s.ddr.mem := fun c => (h.canon c).dram
@[simp] theorem Kept.frames_if (h : Kept s0 s) : CanonIf s0 (fun _ => 0#2048) s.fab.frames := fun c => (h.canon c).frames
@[simp] theorem Kept.q_if (h : Kept s0 s) : CanonIf s0 (fun _ => false) s.fab.q := fun c => (h.canon c).q

section
variable {α : Type} {d : Nat → α} {m : SMap α}

@[simp] theorem CanonIf.nil : CanonIf s0 d [] := fun _ => ⟨by simp [SMap.Rising], by simp⟩
@[simp] theorem CanonIf.store [DecidableEq α] {v0 : α} {k : Nat} {v : α} (h : CanonIf s0 (fun _ => v0) m) :
    CanonIf s0 (fun _ => v0) (SMap.store v0 m k v) := fun c => (h c).store _ _
@[simp] theorem CanonIf.erase {k : Nat} (h : CanonIf s0 d m) : CanonIf s0 d (SMap.erase m k) := fun c => (h c).erase _
@[simp] theorem CanonIf.filter {p : Nat × α → Bool} (h : CanonIf s0 d m) : CanonIf s0 d (m.filter p) := fun c => (h c).filter _
@[simp] theorem CanonIf.drop {p : Nat → Bool} (h : CanonIf s0 d m) : CanonIf s0 d (SMap.drop m p) := fun c => (h c).filter _
@[simp] theorem CanonIf.put {v0 : α} {k : Nat} {v : α} (hv : v ≠ v0) (h : CanonIf s0 (fun _ => v0) m) :
    CanonIf s0 (fun _ => v0) (SMap.put m k v) := fun c => (h c).put hv
theorem CanonIf.putAll {v0 : α} {l : List (Nat × α)} (h : CanonIf s0 (fun _ => v0) m) (hl : s0.Canonical → ∀ x ∈ l, x.2 ≠ v0) :
    CanonIf s0 (fun _ => v0) (l.foldl (fun m x => SMap.put m x.1 x.2) m) := by
  induction l generalizing m with
  | nil => exact h
  | cons x r ih => exact ih (fun c => (h c).put (hl c x (by simp))) fun c y hy => hl c y (by simp [hy])
@[simp] theorem CanonIf.ite {c : Prop} [Decidable c] {n : SMap α} (h : CanonIf s0 d m) (k : CanonIf s0 d n) :
    CanonIf s0 d (if c then m else n) := by split <;> assumption
@[simp] theorem CanonIf.foldl {β : Type} {f : SMap α → β → SMap α} {l : List β} (h : CanonIf s0 d m)
    (hf : ∀ m x, CanonIf s0 d m → CanonIf s0 d (f m x)) : CanonIf s0 d (l.foldl f m) := by
  induction l generalizing m with
  | nil => exact h
  | cons x r ih => exact ih (hf m x h)
end

end Sys2Proof.Machine
end

