-- ==== Sys2Proof/Laws/KeptOps.lean ====
section
/-! SUPPORT. What each function of Machine/Ops.lean keeps: the queue, the burned fuses, the canonical form. -/

namespace Sys2Proof.Machine

open Sys2Proof

set_option linter.all false

@[simp] theorem State.setFld_kept {a0 : State} {s : State} {u : Nat} {f : Fld} {v : Nat} {i : Nat} {j : Nat} (h : Kept a0 s) : Kept a0 (State.setFld s u f v i j) := by
  unfold State.setFld; simp (maxDischargeDepth := 99) +contextual [h]

@[simp] theorem State.countSat_kept {a0 : State} {s : State} {u : Nat} {f : Fld} {n : Nat} {i : Nat} {j : Nat} (h : Kept a0 s) : Kept a0 (State.countSat s u f n i j) := by
  unfold State.countSat; simp (maxDischargeDepth := 99) +contextual [h]

@[simp] theorem State.countWrap_kept {a0 : State} {s : State} {u : Nat} {f : Fld} {n : Nat} {i : Nat} {j : Nat} (h : Kept a0 s) : Kept a0 (State.countWrap s u f n i j) := by
  unfold State.countWrap; simp (maxDischargeDepth := 99) +contextual [h]

@[simp] theorem State.draw_kept {a0 : State} {s : State} (h : Kept a0 s) : Kept a0 (State.draw s) := by
  unfold State.draw; simp (maxDischargeDepth := 99) +contextual [h]

theorem mem_addReport {u cls detail : Nat} {l : List Report} {r : Report} (h : r ∈ addReport u cls detail l) :
    (r.unit = u ∧ r.cls = cls) ∨ ∃ x ∈ l, x.unit = r.unit ∧ x.cls = r.cls := by
  induction l with
  | nil => simp only [addReport, List.mem_singleton] at h; subst h; exact Or.inl ⟨rfl, rfl⟩
  | cons x xs ih =>
    unfold addReport at h
    split at h
    · rcases List.mem_cons.1 h with rfl | h
      · exact Or.inr ⟨x, by simp, rfl, rfl⟩
      · exact Or.inr ⟨r, by simp [h], rfl, rfl⟩
    · rcases List.mem_cons.1 h with rfl | h
      · exact Or.inr ⟨r, by simp, rfl, rfl⟩
      · rcases ih h with h | ⟨y, hy, e⟩
        · exact Or.inl h
        · exact Or.inr ⟨y, by simp [hy], e⟩

theorem OneReportEach.addReport {u cls detail : Nat} {l : List Report} (h : OneReportEach l) :
    OneReportEach (Sys2Proof.Machine.addReport u cls detail l) := by
  induction l with
  | nil => simp [OneReportEach, Machine.addReport]
  | cons x xs ih =>
    have hx := List.pairwise_cons.1 h
    unfold Machine.addReport
    split
    · exact List.pairwise_cons.2 ⟨fun y hy => hx.1 y hy, hx.2⟩
    · rename_i hne
      refine List.pairwise_cons.2 ⟨fun y hy => ?_, ih hx.2⟩
      rcases mem_addReport hy with ⟨h1, h2⟩ | ⟨z, hz, e1, e2⟩
      · rw [h1, h2]; exact hne
      · rw [← e1, ← e2]; exact hx.1 z hz

@[simp] theorem State.raise_kept {a0 s : State} {u cls detail : Nat} (h : Kept a0 s) : Kept a0 (s.raise u cls detail) :=
  ⟨h.pending, h.fuse, fun c => { h.canon c with reports := (h.canon c).reports.addReport }⟩

@[simp] theorem State.answer_kept {a0 : State} {s : State} {st : Stat} {data : List Byte} (h : Kept a0 s) : Kept a0 (State.answer s st data) := by
  unfold State.answer; simp (maxDischargeDepth := 99) +contextual [h]

@[simp] theorem State.setDom_kept {a0 : State} {s : State} {i : Nat} {v : Nat} (h : Kept a0 s) : Kept a0 (State.setDom s i v) := by
  unfold State.setDom; simp (maxDischargeDepth := 99) +contextual [h]

@[simp] theorem State.wakeDom_kept {a0 : State} {s : State} {i : Nat} (h : Kept a0 s) : Kept a0 (State.wakeDom s i) := by
  unfold State.wakeDom; simp (maxDischargeDepth := 99) +contextual [h]

@[simp] theorem State.setPend_kept {a0 : State} {s : State} {n : Nat} {b : Bool} (h : Kept a0 s) : Kept a0 (State.setPend s n b) := by
  unfold State.setPend; simp (maxDischargeDepth := 99) +contextual [h]

@[simp] theorem State.setActive_kept {a0 : State} {s : State} {n : Nat} {b : Bool} (h : Kept a0 s) : Kept a0 (State.setActive s n b) := by
  unfold State.setActive; simp (maxDischargeDepth := 99) +contextual [h]

@[simp] theorem State.assignEvt_kept {a0 : State} {s : State} {n : Nat} (h : Kept a0 s) : Kept a0 (State.assignEvt s n) := by
  unfold State.assignEvt; try dsimp only
  repeat' (first | (simp (maxDischargeDepth := 99) +contextual [h, KeptC.split_iff]; done) | split)

@[simp] theorem State.edge_kept {a0 : State} {s : State} {n : Nat} (h : Kept a0 s) : Kept a0 (State.edge s n) := by
  unfold State.edge; simp (maxDischargeDepth := 99) +contextual [h]

@[simp] theorem State.level_kept {a0 : State} {s : State} {n : Nat} {v : Bool} (h : Kept a0 s) : Kept a0 (State.level s n v) := by
  unfold State.level; simp (maxDischargeDepth := 99) +contextual [h]

@[simp] theorem State.unlatch_kept {a0 : State} {s : State} (h : Kept a0 s) : Kept a0 (State.unlatch s) := by
  unfold State.unlatch; simp (maxDischargeDepth := 99) +contextual [h]

@[simp] theorem State.setMeter_kept {a0 : State} {s : State} {c : Nat} {i : Nat} {m : BudInst} (h : Kept a0 s) : Kept a0 (State.setMeter s c i m) := by
  unfold State.setMeter; simp (maxDischargeDepth := 99) +contextual [h]

@[simp] theorem State.charge_kept {a0 : State} {s : State} {c : Nat} {i : Nat} {cost : Nat} (h : Kept a0 s) : Kept a0 (State.charge s c i cost) := by
  unfold State.charge; simp (maxDischargeDepth := 99) +contextual [h]

@[simp] theorem State.hold_kept {a0 : State} {s : State} {c : Nat} {i : Nat} (h : Kept a0 s) : Kept a0 (State.hold s c i) := by
  unfold State.hold; simp (maxDischargeDepth := 99) +contextual [h]

@[simp] theorem State.budgeted_kept {s0 s : State} {c i cost : Nat} {f : State → State} (h : Kept s0 s)
    (hf : ∀ t, Kept s0 t → Kept s0 (f t)) : Kept s0 (s.budgeted c i cost f) := by
  unfold State.budgeted; split <;> simp (maxDischargeDepth := 99) [h, hf]

end Sys2Proof.Machine
end

