-- ==== Sys2Proof/Laws/KeptFabric.lean ====
section
/-! SUPPORT. What each function of Machine/Fabric.lean keeps: the queue, the burned fuses, the canonical form. -/

namespace Sys2Proof.Machine

open Sys2Proof

set_option linter.all false

@[simp] theorem State.setFrame_kept {a0 : State} {s : State} {p : Nat} {n : Nat} {o : Nat} {f : Frame} (h : Kept a0 s) : Kept a0 (State.setFrame s p n o f) := by
  unfold State.setFrame; simp (maxDischargeDepth := 99) [h, KeptC.split_iff]

@[simp] theorem State.setEngine_kept {a0 : State} {s : State} {i : Nat} {e : Engine} (h : Kept a0 s) : Kept a0 (State.setEngine s i e) := by
  unfold State.setEngine; simp (maxDischargeDepth := 99) +contextual [h]

@[simp] theorem State.setFp_kept {a0 : State} {s : State} {n : Nat} {f : FpPort} (h : Kept a0 s) : Kept a0 (State.setFp s n f) := by
  unfold State.setFp; simp (maxDischargeDepth := 99) +contextual [h]

@[simp] theorem State.setNetPort_kept {a0 : State} {s : State} {k : Nat} {p : NetPort} (h : Kept a0 s) : Kept a0 (State.setNetPort s k p) := by
  unfold State.setNetPort; simp (maxDischargeDepth := 99) +contextual [h]

@[simp] theorem State.noteRecords_kept {a0 : State} {s : State} {n : Nat} (h : Kept a0 s) : Kept a0 (State.noteRecords s n) := by
  unfold State.noteRecords; try dsimp only
  repeat' (first | (simp (maxDischargeDepth := 99) +contextual [h, KeptC.split_iff]; done) | split)

@[simp] theorem State.noteAllRecords_kept {a0 : State} {s : State} (h : Kept a0 s) : Kept a0 (State.noteAllRecords s) := by
  unfold State.noteAllRecords; simp (maxDischargeDepth := 99) +contextual [h]

@[simp] theorem bmEdge_kept {a0 : State} {s0 : State} {s : State} {n : Nat} {track : Nat} {edge : Nat} (h : Kept a0 s) : Kept a0 (bmEdge s0 s n track edge) := by
  unfold bmEdge; simp (maxDischargeDepth := 99) +contextual [h]

@[simp] theorem fpEdge_kept {a0 s0 s : State} {n track edge : Nat} (h : Kept a0 s) : Kept a0 (fpEdge s0 s n track edge) := by
  unfold fpEdge; (repeat' split) <;> simp (maxDischargeDepth := 99) [h]

@[simp] theorem State.setQs_kept {a0 : State} {s : State} {l : List (Nat × Bool)} (h : Kept a0 s) : Kept a0 (State.setQs s l) := by
  unfold State.setQs; simp (maxDischargeDepth := 99) +contextual [h, KeptC.split_iff]

@[simp] theorem State.latchAsync_kept {a0 : State} {s : State} (h : Kept a0 s) : Kept a0 (State.latchAsync s) := by
  unfold State.latchAsync; simp (maxDischargeDepth := 99) +contextual [h]

@[simp] theorem State.stopRegion_kept {a0 : State} {s : State} {n : Nat} (h : Kept a0 s) : Kept a0 (State.stopRegion s n) := by
  unfold State.stopRegion; simp (maxDischargeDepth := 99) +contextual [h]

@[simp] theorem State.countEdge_kept {a0 : State} {s : State} {k : Nat} (h : Kept a0 s) : Kept a0 (State.countEdge s k) := by
  unfold State.countEdge; simp (maxDischargeDepth := 99) +contextual [h]

@[simp] theorem setPads_kept {a0 : State} {s : State} {n : Nat} {pads : Option (BitVec 48)} (h : Kept a0 s) : Kept a0 (setPads s n pads) := by
  unfold setPads; try dsimp only
  repeat' (first | (simp (maxDischargeDepth := 99) +contextual [h, KeptC.split_iff]; done) | split)

@[simp] theorem capturePads_kept {a0 : State} {s : State} {n : Nat} {track : Nat} {edge : Nat} (h : Kept a0 s) : Kept a0 (capturePads s n track edge) := by
  unfold capturePads; try dsimp only
  repeat' (first | (simp (maxDischargeDepth := 99) +contextual [h, KeptC.split_iff]; done) | split)

@[simp] theorem holdEdge_kept {a0 : State} {s : State} {x : Nat × Nat × Nat} (h : Kept a0 s) : Kept a0 (holdEdge s x) := by
  unfold holdEdge; simp (maxDischargeDepth := 99) +contextual [h]

@[simp] theorem edgeAround_kept {a0 : State} {s0 : State} {s : State} {x : Nat × Nat × Nat} (h : Kept a0 s) : Kept a0 (edgeAround s0 s x) := by
  unfold edgeAround; simp (maxDischargeDepth := 99) +contextual [h]

@[simp] theorem noteEdges_kept {a0 : State} {s0 : State} {s : State} {l : List (Nat × Nat × Nat)} (h : Kept a0 s) : Kept a0 (noteEdges s0 s l) := by
  unfold noteEdges; simp (maxDischargeDepth := 99) +contextual [h]

theorem execRegionalClockEdge_kept {a0 : State} {n : Fin 128} {track : Fin 8} {falling : Bool} {pads : Option (BitVec 48)} {s0 : State} {also : List (Fin 128 × Fin 8 × Bool)} (h : Kept a0 s0) : KeptOut a0 (execRegionalClockEdge n track falling pads s0 also) := by
  unfold execRegionalClockEdge; simp (maxDischargeDepth := 99) +contextual [h]

@[simp] theorem setLoad_kept {a0 : State} {s : State} {n : Nat} {col : Nat} {row : Nat} {csn : Nat} (h : Kept a0 s) : Kept a0 (setLoad s n col row csn) := by
  unfold setLoad; simp (maxDischargeDepth := 99) +contextual [h]

theorem execAsyncSetReset_kept {a0 : State} {n : Fin 128} {x : Fin 192} {y : Fin 128} {set : Bool} {rises : Bool} {when : SrTime} {s : State} (h : Kept a0 s) : KeptOut a0 (execAsyncSetReset n x y set rises when s) := by
  unfold execAsyncSetReset; try dsimp only
  repeat' (first | (simp (maxDischargeDepth := 99) +contextual [h, KeptC.split_iff]; done) | split)

end Sys2Proof.Machine
end

