-- ==== Sys2Proof/Laws/KeptOperands.lean ====
section
/-! SUPPORT. What each function of Machine/Operands.lean keeps: the queue, the burned fuses, the canonical form. -/

namespace Sys2Proof.Machine

open Sys2Proof

set_option linter.all false

@[simp] theorem State.inject_kept {a0 : State} {s : State} {k : Nat} {rsp : Bool} {p : Packet} (h : Kept a0 s) : Kept a0 (State.inject s k rsp p) := by
  unfold State.inject; simp (maxDischargeDepth := 99) +contextual [h]

@[simp] theorem State.sendReq_kept {a0 : State} {s : State} {p : Packet} (h : Kept a0 s) : Kept a0 (State.sendReq s p) := by
  unfold State.sendReq; simp (maxDischargeDepth := 99) +contextual [h]

@[simp] theorem State.sendRsp_kept {a0 : State} {s : State} {p : Packet} (h : Kept a0 s) : Kept a0 (State.sendRsp s p) := by
  unfold State.sendRsp; simp (maxDischargeDepth := 99) +contextual [h]

@[simp] theorem State.takeReq_kept {a0 : State} {s : State} {p : Packet} (h : Kept a0 s) : Kept a0 (State.takeReq s p) := by
  unfold State.takeReq; simp (maxDischargeDepth := 99) +contextual [h]

@[simp] theorem State.reply_kept {a0 : State} {s : State} {p : Packet} {st : Stat} {body : List Line} {ext : Nat} (h : Kept a0 s) : Kept a0 (State.reply s p st body ext) := by
  unfold State.reply; simp (maxDischargeDepth := 99) +contextual [h]

end Sys2Proof.Machine
end

