-- ==== Sys2Proof/Laws/KeptBlockMem.lean ====
section
/-! SUPPORT. What each function of Machine/BlockMem.lean keeps: the queue, the burned fuses, the canonical form. -/

namespace Sys2Proof.Machine

open Sys2Proof

set_option linter.all false

@[simp] theorem State.setLine_kept {a0 : State} {s : State} {m : Nat} {l : Nat} {w : Word72} (h : Kept a0 s) : Kept a0 (State.setLine s m l w) := by
  unfold State.setLine; simp (maxDischargeDepth := 99) +contextual [h, KeptC.split_iff]

@[simp] theorem writeLine_kept {a0 : State} {s : State} {m : Nat} {l : Nat} {w : Word72} (h : Kept a0 s) : Kept a0 (writeLine s m l w) := by
  unfold writeLine; simp (maxDischargeDepth := 99) +contextual [h]

@[simp] theorem recordStored_kept {a0 : State} {s : State} {m : Nat} {l : Nat} {src : Nat} (h : Kept a0 s) : Kept a0 (recordStored s m l src) := by
  unfold recordStored; simp (maxDischargeDepth := 99) +contextual [h]

@[simp] theorem recordTransient_kept {a0 : State} {s : State} {m : Nat} (h : Kept a0 s) : Kept a0 (recordTransient s m) := by
  unfold recordTransient; simp (maxDischargeDepth := 99) +contextual [h]

@[simp] theorem oweRefetch_kept {a0 : State} {s : State} {m : Nat} {side : Nat} {l : Nat} (h : Kept a0 s) : Kept a0 (oweRefetch s m side l) := by
  unfold oweRefetch; simp (maxDischargeDepth := 99) +contextual [h]

@[simp] theorem writeMasked_kept {a0 : State} {s : State} {m : Nat} {l : Nat} {data : Nat} {mask : Nat} (h : Kept a0 s) : Kept a0 (writeMasked s m l data mask) := by
  unfold writeMasked; simp (maxDischargeDepth := 99) +contextual [h]

@[simp] theorem State.setPort_kept {a0 : State} {s : State} {m : Nat} {port : Nat} {b : BmPort} (h : Kept a0 s) : Kept a0 (State.setPort s m port b) := by
  unfold State.setPort; simp (maxDischargeDepth := 99) +contextual [h]

@[simp] theorem showData_kept {a0 : State} {s : State} {m : Nat} {port : Nat} {data : Nat} {cerr : Bool} (h : Kept a0 s) : Kept a0 (showData s m port data cerr) := by
  unfold showData; simp (maxDischargeDepth := 99) +contextual [h]

@[simp] theorem portRead_kept {a0 : State} {s : State} {m : Nat} {port : Nat} {i : PortIn} (h : Kept a0 s) : Kept a0 (portRead s m port i) := by
  unfold portRead; simp (maxDischargeDepth := 99) +contextual [h]

@[simp] theorem showWrite_kept {a0 : State} {s : State} {m : Nat} {port : Nat} {i : PortIn} {old : Word72} {written : Nat} (h : Kept a0 s) : Kept a0 (showWrite s m port i old written) := by
  unfold showWrite; split <;> simp (maxDischargeDepth := 99) +contextual [h]

@[simp] theorem portWrite_kept {a0 : State} {s : State} {m : Nat} {port : Nat} {i : PortIn} (h : Kept a0 s) : Kept a0 (portWrite s m port i) := by
  unfold portWrite; simp (maxDischargeDepth := 99) +contextual [h]

@[simp] theorem collide_kept {a0 : State} {s : State} {m : Nat} {a : PortIn} {b : PortIn} (h : Kept a0 s) : Kept a0 (collide s m a b) := by
  unfold collide; simp (maxDischargeDepth := 99) +contextual [h]

@[simp] theorem bothPorts_kept {a0 : State} {s : State} {m : Nat} {a : PortIn} {b : PortIn} (h : Kept a0 s) : Kept a0 (bothPorts s m a b) := by
  unfold bothPorts; try dsimp only
  repeat' (first | (simp (maxDischargeDepth := 99) +contextual [h, KeptC.split_iff]; done) | split)

@[simp] theorem portAccess_kept {a0 : State} {s : State} {m : Nat} {port : Nat} {i : PortIn} {other : Option PortIn} (h : Kept a0 s) : Kept a0 (portAccess s m port i other) := by
  unfold portAccess; try dsimp only
  repeat' (first | (simp (maxDischargeDepth := 99) +contextual [h, KeptC.split_iff]; done) | split)

theorem execBmRead_kept {a0 : State} {m : Fin 16384} {port : Fin 2} {inp : Option PortIn} {s : State} {other : Option PortIn} (h : Kept a0 s) : KeptOut a0 (execBmRead m port inp s other) := by
  unfold execBmRead; simp (maxDischargeDepth := 99) +contextual [h]

theorem execBmWrite_kept {a0 : State} {m : Fin 16384} {port : Fin 2} {inp : Option PortIn} {other : Option PortIn} {s : State} (h : Kept a0 s) : KeptOut a0 (execBmWrite m port inp other s) := by
  unfold execBmWrite; simp (maxDischargeDepth := 99) +contextual [h]

@[simp] theorem dropRefetch_kept {a0 : State} {s : State} {r : Refetch} (h : Kept a0 s) : Kept a0 (dropRefetch s r) := by
  unfold dropRefetch; simp (maxDischargeDepth := 99) +contextual [h]

theorem execLineRefetch_kept {a0 : State} {m : Fin 16384} {side : Fin 3} {s : State} (h : Kept a0 s) : KeptOut a0 (execLineRefetch m side s) := by
  unfold execLineRefetch; try dsimp only
  repeat' (first | (simp (maxDischargeDepth := 99) +contextual [h, KeptC.split_iff]; done) | split)

theorem execRefetchTimeout_kept {a0 : State} {m : Fin 16384} {side : Fin 3} {s : State} (h : Kept a0 s) : KeptOut a0 (execRefetchTimeout m side s) := by
  unfold execRefetchTimeout; try dsimp only
  repeat' (first | (simp (maxDischargeDepth := 99) +contextual [h, KeptC.split_iff]; done) | split)

@[simp] theorem queueLineCmd_kept {a0 : State} {s : State} {d : Nat} {op : Nat} {m : Nat} {line : Nat} (h : Kept a0 s) : Kept a0 (queueLineCmd s d op m line) := by
  unfold queueLineCmd; simp (maxDischargeDepth := 99) +contextual [h]

theorem execLineCmdRefetch_kept {a0 : State} {d : Fin 8} {m : Fin 2048} {line : Fin 1024} {s : State} (h : Kept a0 s) : KeptOut a0 (execLineCmdRefetch d m line s) := by
  unfold execLineCmdRefetch; simp (maxDischargeDepth := 99) +contextual [h]

theorem execLineCmdRecompute_kept {a0 : State} {d : Fin 8} {m : Fin 2048} {line : Fin 1024} {s : State} (h : Kept a0 s) : KeptOut a0 (execLineCmdRecompute d m line s) := by
  unfold execLineCmdRecompute; simp (maxDischargeDepth := 99) +contextual [h]

theorem execLineCmdExecute_kept {a0 : State} {d : Fin 8} {s : State} (h : Kept a0 s) : KeptOut a0 (execLineCmdExecute d s) := by
  unfold execLineCmdExecute; try dsimp only
  repeat' (first | (simp (maxDischargeDepth := 99) +contextual [h, KeptC.split_iff]; done) | split)

@[simp] theorem State.setQueue_kept {a0 : State} {s : State} {qn : Nat} {q : Queue} (h : Kept a0 s) : Kept a0 (State.setQueue s qn q) := by
  unfold State.setQueue; simp (maxDischargeDepth := 99) +contextual [h]

@[simp] theorem putElement_kept {a0 : State} {s : State} {qn : Nat} {i : Nat} {v : Nat} (h : Kept a0 s) : Kept a0 (putElement s qn i v) := by
  unfold putElement; simp (maxDischargeDepth := 99) +contextual [h]

@[simp] theorem refusePush_kept {a0 : State} {s : State} {qn : Nat} {n : Nat} (h : Kept a0 s) : Kept a0 (refusePush s qn n) := by
  unfold refusePush; simp (maxDischargeDepth := 99) +contextual [h]

@[simp] theorem showRefused_kept {a0 : State} {s : State} {m : Nat} {v : Bool} (h : Kept a0 s) : Kept a0 (showRefused s m v) := by
  unfold showRefused; simp (maxDischargeDepth := 99) +contextual [h]

theorem execPush_kept {a0 : State} {m : Fin 16384} {inp : Option PortIn} {s : State} (h : Kept a0 s) : KeptOut a0 (execPush m inp s) := by
  unfold execPush; simp (maxDischargeDepth := 99) +contextual [h]

theorem execPop_kept {a0 : State} {m : Fin 16384} {inp : Option PortIn} {s : State} (h : Kept a0 s) : KeptOut a0 (execPop m inp s) := by
  unfold execPop; simp (maxDischargeDepth := 99) +contextual [h]

@[simp] theorem flushQueue_kept {a0 : State} {s : State} {qn : Nat} (h : Kept a0 s) : Kept a0 (flushQueue s qn) := by
  unfold flushQueue; simp (maxDischargeDepth := 99) +contextual [h]

theorem execFlush_kept {a0 : State} {qn : BitVec 16} {s : State} (h : Kept a0 s) : KeptOut a0 (execFlush qn s) := by
  unfold execFlush; simp (maxDischargeDepth := 99) +contextual [h]

@[simp] theorem replyQueue_kept {a0 : State} {s : State} {qn : Nat} {p : Packet} {st : Stat} {body : List Line} (h : Kept a0 s) : Kept a0 (replyQueue s qn p st body) := by
  unfold replyQueue; simp (maxDischargeDepth := 99) +contextual [h]

@[simp] theorem startTransfer_kept {a0 : State} {s : State} {qn : Nat} {push : Bool} {p : Packet} (h : Kept a0 s) : Kept a0 (startTransfer s qn push p) := by
  unfold startTransfer; simp (maxDischargeDepth := 99) +contextual [h]

@[simp] theorem holdRequest_kept {a0 : State} {s : State} {qn : Nat} {push : Bool} {p : Packet} (h : Kept a0 s) : Kept a0 (holdRequest s qn push p) := by
  unfold holdRequest; simp (maxDischargeDepth := 99) +contextual [h, KeptC.split_iff]

@[simp] theorem plateQueues_kept {a0 : State} {s : State} (h : Kept a0 s) : Kept a0 (plateQueues s) := by
  unfold plateQueues; simp (maxDischargeDepth := 99) +contextual [h]

@[simp] theorem netFlush_kept {a0 : State} {s : State} {qn : Nat} {push : Bool} (h : Kept a0 s) : Kept a0 (netFlush s qn push) := by
  unfold netFlush; simp (maxDischargeDepth := 99) +contextual [h]

@[simp] theorem decideQueue_kept {a0 : State} {s0 : State} {push : Bool} {p : Packet} (h : Kept a0 s0) : Kept a0 (decideQueue s0 push p) := by
  unfold decideQueue; split <;> simp (maxDischargeDepth := 99) +contextual [h]

theorem execAperturePush_kept {a0 : State} {p : Packet} {s : State} (h : Kept a0 s) : KeptOut a0 (execAperturePush p s) := by
  unfold execAperturePush; simp (maxDischargeDepth := 99) +contextual [h]

@[simp] theorem peekQueue_kept {a0 : State} {s : State} {n : Nat} {o : Nat} {p : Packet} (h : Kept a0 s) : Kept a0 (peekQueue s n o p) := by
  unfold peekQueue; simp (maxDischargeDepth := 99) +contextual [h]

@[simp] theorem readQueue_kept {a0 : State} {s : State} {p : Packet} (h : Kept a0 s) : Kept a0 (readQueue s p) := by
  unfold readQueue; try dsimp only
  repeat' (first | (simp (maxDischargeDepth := 99) +contextual [h, KeptC.split_iff]; done) | split)

theorem execAperturePop_kept {a0 : State} {p : Packet} {s : State} (h : Kept a0 s) : KeptOut a0 (execAperturePop p s) := by
  unfold execAperturePop; simp (maxDischargeDepth := 99) +contextual [h]

theorem execPeek_kept {a0 : State} {p : Packet} {s : State} (h : Kept a0 s) : KeptOut a0 (execPeek p s) := by
  unfold execPeek; simp (maxDischargeDepth := 99) +contextual [h]

theorem execHeldRequestProceed_kept {a0 : State} {qn : BitVec 16} {s0 : State} (h : Kept a0 s0) : KeptOut a0 (execHeldRequestProceed qn s0) := by
  unfold execHeldRequestProceed; try dsimp only
  repeat' (first | (simp (maxDischargeDepth := 99) +contextual [h, KeptC.split_iff]; done) | split)

theorem execHoldTimeout_kept {a0 : State} {n : Fin 128} {i : Fin 8} {s : State} (h : Kept a0 s) : KeptOut a0 (execHoldTimeout n i s) := by
  unfold execHoldTimeout; try dsimp only
  repeat' (first | (simp (maxDischargeDepth := 99) +contextual [h, KeptC.split_iff]; done) | split)

@[simp] theorem putElements_kept {a0 s : State} {qn i fuel : Nat} {l : List Nat} (h : Kept a0 s) : Kept a0 (putElements s qn i fuel l) := by
  induction fuel generalizing s i l with
  | zero => unfold putElements; exact h
  | succ n ih =>
    cases l with
    | nil => unfold putElements; exact h
    | cons v vs => unfold putElements; exact ih (writeMasked_kept h)

@[simp] theorem finishPush_kept {a0 : State} {s : State} {t : Transfer} (h : Kept a0 s) : Kept a0 (finishPush s t) := by
  unfold finishPush; simp (maxDischargeDepth := 99) +contextual [h]

@[simp] theorem finishPop_kept {a0 : State} {s : State} {t : Transfer} (h : Kept a0 s) : Kept a0 (finishPop s t) := by
  unfold finishPop; simp (maxDischargeDepth := 99) +contextual [h]

theorem execNetworkTransferDone_kept {a0 : State} {qn : BitVec 16} {s : State} (h : Kept a0 s) : KeptOut a0 (execNetworkTransferDone qn s) := by
  unfold execNetworkTransferDone; try dsimp only
  repeat' (first | (simp (maxDischargeDepth := 99) +contextual [h, KeptC.split_iff]; done) | split)

theorem execMemoryClearDone_kept {a0 : State} {s : State} (h : Kept a0 s) : KeptOut a0 (execMemoryClearDone s) := by
  unfold execMemoryClearDone; try dsimp only
  repeat' (first | (simp (maxDischargeDepth := 99) +contextual [h, KeptC.split_iff]; done) | split)

@[simp] theorem loadQueue_kept {a0 : State} {s : State} {n : Nat} {k : Nat} {q : Nat} {r : Nat} (h : Kept a0 s) : Kept a0 (loadQueue s n k q r) := by
  unfold loadQueue; split <;> simp (maxDischargeDepth := 99) +contextual [h]

@[simp] theorem flipMemory_kept {a0 : State} {n : Nat} {reused : Bool} {old : Nat} {s : State} {kr : Nat × Nat} (h : Kept a0 s) : Kept a0 (flipMemory n reused old s kr) := by
  unfold flipMemory; simp (maxDischargeDepth := 99) +contextual [h, KeptC.split_iff]

@[simp] theorem flipMemories_kept {a0 : State} {s : State} {n : Nat} {p : Nat} {reused : Bool} {old : Nat → Nat} (h : Kept a0 s) : Kept a0 (flipMemories s n p reused old) := by
  unfold flipMemories; simp (maxDischargeDepth := 99) +contextual [h]

end Sys2Proof.Machine
end

