-- ==== Sys2Proof/Laws/KeptTap.lean ====
section
/-! SUPPORT. What each function of Machine/Tap.lean keeps: the queue, the burned fuses, the canonical form. -/

namespace Sys2Proof.Machine

open Sys2Proof

set_option linter.all false

@[simp] theorem State.setEf_kept {a0 : State} {s : State} {i : Nat} {f : Fld} {v : Nat} {j : Nat} (h : Kept a0 s) : Kept a0 (State.setEf s i f v j) := by
  unfold State.setEf; simp (maxDischargeDepth := 99) +contextual [h]

@[simp] theorem tapEvents_kept {a0 : State} {s : State} {d : Nat} (h : Kept a0 s) : Kept a0 (tapEvents s d) := by
  unfold tapEvents; simp (maxDischargeDepth := 99) +contextual [h]

@[simp] theorem setPendBit_kept {a0 : State} {s : State} {i : Nat} {f : Fld} {b : Bool} (h : Kept a0 s) : Kept a0 (setPendBit s i f b) := by
  unfold setPendBit; simp (maxDischargeDepth := 99) +contextual [h]

@[simp] theorem faultEngine_kept {a0 : State} {s : State} {i : Nat} {cause : Nat} (h : Kept a0 s) : Kept a0 (faultEngine s i cause) := by
  unfold faultEngine; simp (maxDischargeDepth := 99) +contextual [h]

@[simp] theorem agAdvance_kept {a0 : State} {s : State} {i : Nat} {g : Nat} (h : Kept a0 s) : Kept a0 (agAdvance s i g) := by
  unfold agAdvance; simp (maxDischargeDepth := 99) +contextual [h]

@[simp] theorem complete_kept {a0 : State} {s : State} {i : Nat} {pc : Nat} {cycles : Nat} {stall : Nat} (h : Kept a0 s) : Kept a0 (complete s i pc cycles stall) := by
  unfold complete; simp (maxDischargeDepth := 99) +contextual [h]

@[simp] theorem completeSeq_kept {a0 : State} {s : State} {i : Nat} {cycles : Nat} {stall : Nat} (h : Kept a0 s) : Kept a0 (completeSeq s i cycles stall) := by
  unfold completeSeq; simp (maxDischargeDepth := 99) +contextual [h]

@[simp] theorem waitEngine_kept {a0 : State} {s : State} {i : Nat} (h : Kept a0 s) : Kept a0 (waitEngine s i) := by
  unfold waitEngine; simp (maxDischargeDepth := 99) +contextual [h]

@[simp] theorem afterMac_kept {a0 : State} {s : State} {i : Nat} (h : Kept a0 s) : Kept a0 (afterMac s i) := by
  unfold afterMac; simp (maxDischargeDepth := 99) +contextual [h]

@[simp] theorem afterWrite_kept {a0 : State} {s : State} {i : Nat} {slots : Nat} (h : Kept a0 s) : Kept a0 (afterWrite s i slots) := by
  unfold afterWrite; simp (maxDischargeDepth := 99) +contextual [h]

@[simp] theorem stallEngine_kept {a0 : State} {s : State} {i : Nat} {n : Nat} (h : Kept a0 s) : Kept a0 (stallEngine s i n) := by
  unfold stallEngine; simp (maxDischargeDepth := 99) +contextual [h]

@[simp] theorem issue_kept {a0 s : State} {i op : Nat} {upset : Bool} {body : Nat → State → State} (h : Kept a0 s)
    (hb : ∀ w t, Kept a0 t → Kept a0 (body w t)) : Kept a0 (issue s i op upset body) := by
  unfold issue; simp (maxDischargeDepth := 99) [h, hb]

theorem execNop_kept {a0 : State} {i : Fin 8192} {s : State} {upset : Bool} (h : Kept a0 s) : KeptOut a0 (execNop i s upset) := by
  unfold execNop; simp (maxDischargeDepth := 99) +contextual [h]

theorem execHalt_kept {a0 : State} {i : Fin 8192} {s : State} {upset : Bool} (h : Kept a0 s) : KeptOut a0 (execHalt i s upset) := by
  unfold execHalt; simp (maxDischargeDepth := 99) +contextual [h]

theorem execSig_kept {a0 : State} {i : Fin 8192} {s : State} {upset : Bool} (h : Kept a0 s) : KeptOut a0 (execSig i s upset) := by
  unfold execSig; simp (maxDischargeDepth := 99) +contextual [h]

theorem execJmp_kept {a0 : State} {i : Fin 8192} {s : State} {upset : Bool} (h : Kept a0 s) : KeptOut a0 (execJmp i s upset) := by
  unfold execJmp; simp (maxDischargeDepth := 99) +contextual [h]

theorem execLoop_kept {a0 : State} {i : Fin 8192} {s : State} {upset : Bool} (h : Kept a0 s) : KeptOut a0 (execLoop i s upset) := by
  unfold execLoop; simp (maxDischargeDepth := 99) +contextual [h]

@[simp] theorem doWaitd_kept {a0 : State} {s : State} {i : Nat} (h : Kept a0 s) : Kept a0 (doWaitd s i) := by
  unfold doWaitd; simp (maxDischargeDepth := 99) +contextual [h]

theorem execWaitd_kept {a0 : State} {i : Fin 8192} {s : State} {upset : Bool} (h : Kept a0 s) : KeptOut a0 (execWaitd i s upset) := by
  unfold execWaitd; simp (maxDischargeDepth := 99) +contextual [h]

theorem execAgset_kept {a0 : State} {i : Fin 8192} {s : State} {upset : Bool} (h : Kept a0 s) : KeptOut a0 (execAgset i s upset) := by
  unfold execAgset; rw [KeptOut.next_iff]; refine issue_kept h fun w t ht => ?_; dsimp only; repeat' (first | (simp (maxDischargeDepth := 99) [ht]; done) | split)

theorem execAgadd_kept {a0 : State} {i : Fin 8192} {s : State} {upset : Bool} (h : Kept a0 s) : KeptOut a0 (execAgadd i s upset) := by
  unfold execAgadd; rw [KeptOut.next_iff]; refine issue_kept h fun w t ht => ?_; dsimp only; repeat' (first | (simp (maxDischargeDepth := 99) [ht]; done) | split)

@[simp] theorem macLanes_kept {a0 : State} {s : State} {i : Nat} {clr : Bool} {sub : Bool} {y : Nat → Nat} (h : Kept a0 s) : Kept a0 (macLanes s i clr sub y) := by
  unfold macLanes; simp (maxDischargeDepth := 99) +contextual [h]

theorem execFtap_kept {a0 : State} {i : Fin 8192} {s : State} {upset : Bool} (h : Kept a0 s) : KeptOut a0 (execFtap i s upset) := by
  unfold execFtap; simp (maxDischargeDepth := 99) +contextual [h]

theorem execMac_kept {a0 : State} {i : Fin 8192} {s : State} {upset : Bool} (h : Kept a0 s) : KeptOut a0 (execMac i s upset) := by
  unfold execMac; simp (maxDischargeDepth := 99) +contextual [h]

@[simp] theorem doLddlFifo_kept {a0 : State} {s : State} {i : Nat} (h : Kept a0 s) : Kept a0 (doLddlFifo s i) := by
  unfold doLddlFifo; try dsimp only
  repeat' (first | (simp (maxDischargeDepth := 99) +contextual [h, KeptC.split_iff]; done) | split)

theorem execLddl_kept {a0 : State} {i : Fin 8192} {s : State} {upset : Bool} (h : Kept a0 s) : KeptOut a0 (execLddl i s upset) := by
  unfold execLddl; simp (maxDischargeDepth := 99) +contextual [h]

theorem execLdc_kept {a0 : State} {i : Fin 8192} {s : State} {upset : Bool} (h : Kept a0 s) : KeptOut a0 (execLdc i s upset) := by
  unfold execLdc; simp (maxDischargeDepth := 99) +contextual [h]

@[simp] theorem setSat_kept {a0 : State} {s : State} {i : Nat} {b : Bool} (h : Kept a0 s) : Kept a0 (setSat s i b) := by
  unfold setSat; simp (maxDischargeDepth := 99) +contextual [h]

@[simp] theorem seeHeadroom_kept {a0 : State} {s : State} {i : Nat} {vs : List Nat} (h : Kept a0 s) : Kept a0 (seeHeadroom s i vs) := by
  unfold seeHeadroom; simp (maxDischargeDepth := 99) +contextual [h]

theorem execSt_kept {a0 : State} {i : Fin 8192} {s : State} {upset : Bool} (h : Kept a0 s) : KeptOut a0 (execSt i s upset) := by
  unfold execSt; simp (maxDischargeDepth := 99) +contextual [h]

@[simp] theorem doIn_kept {a0 : State} {s : State} {i : Nat} {g : Nat} (h : Kept a0 s) : Kept a0 (doIn s i g) := by
  unfold doIn; try dsimp only
  repeat' (first | (simp (maxDischargeDepth := 99) +contextual [h, KeptC.split_iff]; done) | split)

theorem execIn_kept {a0 : State} {i : Fin 8192} {s : State} {upset : Bool} (h : Kept a0 s) : KeptOut a0 (execIn i s upset) := by
  unfold execIn; simp (maxDischargeDepth := 99) +contextual [h]

@[simp] theorem doOut_kept {a0 : State} {s : State} {i : Nat} {w : Nat} (h : Kept a0 s) : Kept a0 (doOut s i w) := by
  unfold doOut; simp (maxDischargeDepth := 99) +contextual [h]

theorem execOut_kept {a0 : State} {i : Fin 8192} {s : State} {upset : Bool} (h : Kept a0 s) : KeptOut a0 (execOut i s upset) := by
  unfold execOut; simp (maxDischargeDepth := 99) +contextual [h]

@[simp] theorem doOuta_kept {a0 : State} {s0 : State} {i : Nat} {w : Nat} (h : Kept a0 s0) : Kept a0 (doOuta s0 i w) := by
  unfold doOuta; simp (maxDischargeDepth := 99) +contextual [h]

theorem execOuta_kept {a0 : State} {i : Fin 8192} {s : State} {upset : Bool} (h : Kept a0 s) : KeptOut a0 (execOuta i s upset) := by
  unfold execOuta; simp (maxDischargeDepth := 99) +contextual [h]

theorem execEngineWaitResume_kept {a0 : State} {i : Fin 8192} {waited : Word32} {s : State} (h : Kept a0 s) : KeptOut a0 (execEngineWaitResume i waited s) := by
  unfold execEngineWaitResume; try dsimp only
  repeat' (first | (simp (maxDischargeDepth := 99) +contextual [h, KeptC.split_iff]; done) | split)

theorem execBfly_kept {a0 : State} {i : Fin 8192} {s : State} {upset : Bool} (h : Kept a0 s) : KeptOut a0 (execBfly i s upset) := by
  unfold execBfly; simp (maxDischargeDepth := 99) +contextual [h]

theorem execBexp_kept {a0 : State} {i : Fin 8192} {s : State} {upset : Bool} (h : Kept a0 s) : KeptOut a0 (execBexp i s upset) := by
  unfold execBexp; simp (maxDischargeDepth := 99) +contextual [h]

@[simp] theorem offerElement_kept {a0 : State} {s : State} {i : Nat} {v : Nat} (h : Kept a0 s) : Kept a0 (offerElement s i v) := by
  unfold offerElement; simp (maxDischargeDepth := 99) +contextual [h]

theorem execFifoInput_kept {a0 : State} {i : Fin 8192} {data : Option (BitVec 36)} {s : State} (h : Kept a0 s) : KeptOut a0 (execFifoInput i data s) := by
  unfold execFifoInput; repeat' (first | (simp (maxDischargeDepth := 99) +contextual [h]; done) | split)

theorem execFifoOutput_kept {a0 : State} {i : Fin 8192} {rdy : Option Bool} {data : Option (BitVec 36)} {s : State} (h : Kept a0 s) : KeptOut a0 (execFifoOutput i rdy data s) := by
  unfold execFifoOutput; repeat' (first | (simp (maxDischargeDepth := 99) +contextual [h]; done) | split)

@[simp] theorem startEngine_kept {a0 : State} {s : State} {i : Nat} (h : Kept a0 s) : Kept a0 (startEngine s i) := by
  unfold startEngine; simp (maxDischargeDepth := 99) +contextual [h]

@[simp] theorem clearEngine_kept {a0 : State} {s : State} {i : Nat} (h : Kept a0 s) : Kept a0 (clearEngine s i) := by
  unfold clearEngine; simp (maxDischargeDepth := 99) +contextual [h]

@[simp] theorem tapCommand_kept {a0 : State} {s : State} {i : Nat} {stop : Bool} {clear : Bool} {start : Bool} (h : Kept a0 s) : Kept a0 (tapCommand s i stop clear start) := by
  unfold tapCommand; simp (maxDischargeDepth := 99) +contextual [h]

theorem execEngineStart_kept {a0 : State} {i : Fin 8192} {s : State} (h : Kept a0 s) : KeptOut a0 (execEngineStart i s) := by
  unfold execEngineStart; simp (maxDischargeDepth := 99) +contextual [h]

theorem execStartPin_kept {a0 : State} {i : Fin 8192} {high : Option Bool} {s : State} (h : Kept a0 s) : KeptOut a0 (execStartPin i high s) := by
  unfold execStartPin; simp (maxDischargeDepth := 99) +contextual [h]

theorem execEngineStop_kept {a0 : State} {i : Fin 8192} {s : State} (h : Kept a0 s) : KeptOut a0 (execEngineStop i s) := by
  unfold execEngineStop; simp (maxDischargeDepth := 99) +contextual [h]

theorem execEngineStopComplete_kept {a0 : State} {i : Fin 8192} {s : State} (h : Kept a0 s) : KeptOut a0 (execEngineStopComplete i s) := by
  unfold execEngineStopComplete; simp (maxDischargeDepth := 99) +contextual [h]

theorem execEngineClear_kept {a0 : State} {i : Fin 8192} {s : State} (h : Kept a0 s) : KeptOut a0 (execEngineClear i s) := by
  unfold execEngineClear; simp (maxDischargeDepth := 99) +contextual [h]

@[simp] theorem addDoorbell_kept {a0 : State} {s : State} {i : Nat} {v : Nat} (h : Kept a0 s) : Kept a0 (addDoorbell s i v) := by
  unfold addDoorbell; simp (maxDischargeDepth := 99) +contextual [h]

theorem execDoorbellAdd_kept {a0 : State} {i : Fin 8192} {v : BitVec 16} {s : State} (h : Kept a0 s) : KeptOut a0 (execDoorbellAdd i v s) := by
  unfold execDoorbellAdd; simp (maxDischargeDepth := 99) +contextual [h]

@[simp] theorem setImem_kept {a0 : State} {s : State} {i : Nat} {k : Nat} {v : Nat} (h : Kept a0 s) : Kept a0 (setImem s i k v) := by
  unfold setImem; simp (maxDischargeDepth := 99) +contextual [h]

@[simp] theorem setApertureByte_kept {a0 : State} {s : State} {i : Nat} {o : Nat} {b : Byte} (h : Kept a0 s) : Kept a0 (setApertureByte s i o b) := by
  unfold setApertureByte; simp (maxDischargeDepth := 99) +contextual [h]

@[simp] theorem setApertureBytes_kept {a0 s : State} {i o : Nat} {l : List Byte} (h : Kept a0 s) : Kept a0 (setApertureBytes s i o l) := by
  induction l generalizing s o with
  | nil => exact h
  | cons v vs ih => exact ih (setApertureByte_kept h)

@[simp] theorem apertureStall_kept {a0 : State} {s : State} {i : Nat} {words : Nat} (h : Kept a0 s) : Kept a0 (apertureStall s i words) := by
  unfold apertureStall; simp (maxDischargeDepth := 99) +contextual [h]

@[simp] theorem engineAperture_kept {a0 : State} {s : State} {n : Nat} {o : Nat} {p : Packet} (h : Kept a0 s) : Kept a0 (engineAperture s n o p) := by
  unfold engineAperture; simp (maxDischargeDepth := 99) +contextual [h]

theorem execEngineApertureRequest_kept {a0 : State} {p : Packet} {s : State} (h : Kept a0 s) : KeptOut a0 (execEngineApertureRequest p s) := by
  unfold execEngineApertureRequest; split <;> simp (maxDischargeDepth := 99) +contextual [h]

@[simp] theorem setImems_kept {a0 s : State} {i k : Nat} {l : List Byte} (h : Kept a0 s) : Kept a0 (setImems s i k l) := by
  fun_induction setImems <;> simp_all

theorem imemDomain_kept {a0 s t : State} {i : Nat} {data : List Byte} (h : Kept a0 s) (e : imemDomain s i data = .ok t) : Kept a0 t := by
  unfold imemDomain at e
  repeat' split at e
  all_goals first | cases e | skip
  simp [h]

theorem execImemDomainWrite_kept {a0 : State} {i : Fin 8192} {data : List Byte} {s : State} (h : Kept a0 s) : KeptOut a0 (execImemDomainWrite i data s) := by
  unfold execImemDomainWrite; split
  · rename_i e; simp [imemDomain_kept h e]
  · simp [h]

@[simp] theorem flipEngine_kept {a0 : State} {n : Nat} {p : Nat} {s : State} {e : Nat} (h : Kept a0 s) : Kept a0 (flipEngine n p s e) := by
  unfold flipEngine; simp (maxDischargeDepth := 99) +contextual [h, KeptC.split_iff]

@[simp] theorem flipEngines_kept {a0 : State} {s : State} {n : Nat} {p : Nat} (h : Kept a0 s) : Kept a0 (flipEngines s n p) := by
  unfold flipEngines; simp (maxDischargeDepth := 99) +contextual [h]

@[simp] theorem releaseEngines_kept {a0 : State} {s : State} {n : Nat} (h : Kept a0 s) : Kept a0 (releaseEngines s n) := by
  unfold releaseEngines; simp (maxDischargeDepth := 99) +contextual [h]

end Sys2Proof.Machine
end

