-- ==== Sys2Proof/Laws/KeptNetwork.lean ====
section
/-! SUPPORT. What each function of Machine/Network.lean keeps: the queue, the burned fuses, the canonical form. -/

namespace Sys2Proof.Machine

open Sys2Proof

set_option linter.all false

@[simp] theorem State.deliverTo_kept {a0 : State} {s : State} {k : Nat} {p : Packet} (h : Kept a0 s) : Kept a0 (State.deliverTo s k p) := by
  unfold State.deliverTo; simp (maxDischargeDepth := 99) +contextual [h]

@[simp] theorem State.countMalformed_kept {a0 : State} {s : State} {node : Nat} {port : Nat} {p : Packet} (h : Kept a0 s) : Kept a0 (State.countMalformed s node port p) := by
  unfold State.countMalformed; simp (maxDischargeDepth := 99) +contextual [h]

@[simp] theorem issueReq_kept {a0 : State} {s : State} {k : Nat} {orig : Packet} {p : Packet} {xt : Bool} (h : Kept a0 s) : Kept a0 (issueReq s k orig p xt) := by
  unfold issueReq; simp (maxDischargeDepth := 99) +contextual [h]

@[simp] theorem issueOrAnswer_kept {a0 : State} {s : State} {k : Nat} {orig : Packet} {p : Packet} {xt : Bool} (h : Kept a0 s) : Kept a0 (issueOrAnswer s k orig p xt) := by
  unfold issueOrAnswer; try dsimp only
  repeat' (first | (simp (maxDischargeDepth := 99) +contextual [h, KeptC.split_iff]; done) | split)

@[simp] theorem admitReq_kept {a0 : State} {s : State} {k : Nat} {orig : Packet} {p : Packet} {xt : Bool} (h : Kept a0 s) : Kept a0 (admitReq s k orig p xt) := by
  unfold admitReq; split <;> simp (maxDischargeDepth := 99) +contextual [h]

@[simp] theorem ingress_kept {a0 : State} {s : State} {k : Nat} {orig : Packet} {xt : Bool} (h : Kept a0 s) : Kept a0 (ingress s k orig xt) := by
  unfold ingress; simp (maxDischargeDepth := 99) +contextual [h]

@[simp] theorem drainWaiting_kept {a0 s : State} {k n : Nat} (h : Kept a0 s) : Kept a0 (drainWaiting s k n) := by
  induction n generalizing s with
  | zero => exact h
  | succ n ih =>
    unfold drainWaiting; dsimp only; repeat' split
    · exact h
    · exact ih (issueOrAnswer_kept (State.setNetPort_kept h))
    · exact h

@[simp] theorem completeRsp_kept {a0 : State} {s : State} {k : Nat} {r : Packet} (h : Kept a0 s) : Kept a0 (completeRsp s k r) := by
  unfold completeRsp; try dsimp only
  repeat' (first | (simp (maxDischargeDepth := 99) +contextual [h, KeptC.split_iff]; done) | split)

@[simp] theorem timeoutReq_kept {a0 : State} {s : State} {k : Nat} {tag : Nat} (h : Kept a0 s) : Kept a0 (timeoutReq s k tag) := by
  unfold timeoutReq; try dsimp only
  repeat' (first | (simp (maxDischargeDepth := 99) +contextual [h, KeptC.split_iff]; done) | split)

theorem execTagRelease_kept {a0 : State} {node : BitVec 7} {port : BitVec 4} {tag : BitVec 16} {s : State} (h : Kept a0 s) : KeptOut a0 (execTagRelease node port tag s) := by
  unfold execTagRelease; simp (maxDischargeDepth := 99) +contextual [h]

@[simp] theorem State.countNoRoute_kept {a0 : State} {s : State} {node : Nat} (h : Kept a0 s) : Kept a0 (State.countNoRoute s node) := by
  unfold State.countNoRoute; simp (maxDischargeDepth := 99) +contextual [h]

theorem execNoRoute_kept {a0 : State} {p : Packet} {s : State} (h : Kept a0 s) : KeptOut a0 (execNoRoute p s) := by
  unfold execNoRoute; simp (maxDischargeDepth := 99) +contextual [h]

@[simp] theorem failHeld_kept {a0 : State} {s : State} {p : Packet} (h : Kept a0 s) : Kept a0 (failHeld s p) := by
  unfold failHeld; simp (maxDischargeDepth := 99) +contextual [h]

@[simp] theorem State.routerWake_kept {a0 : State} {s : State} {node : Nat} {d : Nat} (h : Kept a0 s) : Kept a0 (State.routerWake s node d) := by
  unfold State.routerWake; simp (maxDischargeDepth := 99) +contextual [h]

theorem execWakeHold_kept {a0 : State} {p : Packet} {s : State} (h : Kept a0 s) : KeptOut a0 (execWakeHold p s) := by
  unfold execWakeHold; split <;> simp (maxDischargeDepth := 99) +contextual [h]

theorem execHeldPacketDeliver_kept {a0 : State} {d : Fin 160} {s : State} (h : Kept a0 s) : KeptOut a0 (execHeldPacketDeliver d s) := by
  unfold execHeldPacketDeliver; simp (maxDischargeDepth := 99) +contextual [h]

@[simp] theorem failHeldAt_kept {a0 : State} {s : State} {node : Nat} {d : Nat} (h : Kept a0 s) : Kept a0 (failHeldAt s node d) := by
  unfold failHeldAt; simp (maxDischargeDepth := 99) +contextual [h]

theorem execWakeFail_kept {a0 : State} {node : BitVec 7} {d : Fin 160} {s : State} (h : Kept a0 s) : KeptOut a0 (execWakeFail node d s) := by
  unfold execWakeFail; simp (maxDischargeDepth := 99) +contextual [h]

@[simp] theorem absorbFp_kept {a0 : State} {s : State} {n : Nat} (h : Kept a0 s) : Kept a0 (absorbFp s n) := by
  unfold absorbFp; simp (maxDischargeDepth := 99) +contextual [h]

theorem execIqSubmit_kept {a0 : State} {n : Fin 128} {data : Line} {eop : Bool} {pri : BitVec 2} {s : State} (h : Kept a0 s) : KeptOut a0 (execIqSubmit n data eop pri s) := by
  unfold execIqSubmit; try dsimp only
  repeat' (first | (simp (maxDischargeDepth := 99) +contextual [h, KeptC.split_iff]; done) | split)

@[simp] theorem State.setTq_kept {a0 : State} {s : State} {n : Nat} {l : List Packet} (h : Kept a0 s) : Kept a0 (State.setTq s n l) := by
  unfold State.setTq; simp (maxDischargeDepth := 99) +contextual [h]

@[simp] theorem tqDeliver_kept {a0 : State} {s : State} {n : Nat} {p : Packet} (h : Kept a0 s) : Kept a0 (tqDeliver s n p) := by
  unfold tqDeliver; split <;> simp (maxDischargeDepth := 99) +contextual [h]

@[simp] theorem tsPacket_kept {a0 : State} {s : State} {n : Nat} {r : Packet} (h : Kept a0 s) : Kept a0 (tsPacket s n r) := by
  unfold tsPacket; try dsimp only
  repeat' (first | (simp (maxDischargeDepth := 99) +contextual [h, KeptC.split_iff]; done) | split)

theorem execTsResponse_kept {a0 : State} {n : Fin 128} {x : Flit} {s : State} (h : Kept a0 s) : KeptOut a0 (execTsResponse n x s) := by
  unfold execTsResponse; try dsimp only
  repeat' (first | (simp (maxDischargeDepth := 99) +contextual [h, KeptC.split_iff]; done) | split)

@[simp] theorem flipFabricPort_kept {a0 : State} {s : State} {n : Nat} (h : Kept a0 s) : Kept a0 (flipFabricPort s n) := by
  unfold flipFabricPort; simp (maxDischargeDepth := 99) +contextual [h]

end Sys2Proof.Machine
end

