-- ==== Sys2Proof/Laws/KeptLink.lean ====
section
/-! SUPPORT. What each function of Machine/Link.lean keeps: the queue, the burned fuses, the canonical form. -/

namespace Sys2Proof.Machine

open Sys2Proof

set_option linter.all false

@[simp] theorem State.setLaneX_kept {a0 : State} {s : State} {k : Nat} {j : Nat} {x : LaneX} (h : Kept a0 s) : Kept a0 (State.setLaneX s k j x) := by
  unfold State.setLaneX; simp (maxDischargeDepth := 99) +contextual [h]

@[simp] theorem State.setLnk_kept {a0 : State} {s : State} {p : Nat} {l : Link} (h : Kept a0 s) : Kept a0 (State.setLnk s p l) := by
  unfold State.setLnk; simp (maxDischargeDepth := 99) +contextual [h]

@[simp] theorem State.setLaneState_kept {a0 : State} {s : State} {k : Nat} {j : Nat} {st : Nat} (h : Kept a0 s) : Kept a0 (State.setLaneState s k j st) := by
  unfold State.setLaneState; simp (maxDischargeDepth := 99) +contextual [h]

@[simp] theorem State.laneDetect_kept {a0 : State} {s : State} {k : Nat} {j : Nat} (h : Kept a0 s) : Kept a0 (State.laneDetect s k j) := by
  unfold State.laneDetect; simp (maxDischargeDepth := 99) +contextual [h]

@[simp] theorem State.laneByMode_kept {a0 : State} {s : State} {k : Nat} {j : Nat} (h : Kept a0 s) : Kept a0 (State.laneByMode s k j) := by
  unfold State.laneByMode; simp (maxDischargeDepth := 99) +contextual [h]

@[simp] theorem receiveSymbols_kept {a0 : State} {s : State} {k : Nat} {j : Nat} {n : Nat} {ys : List (BitVec 2)} (h : Kept a0 s) : Kept a0 (receiveSymbols s k j n ys).2 := by
  unfold receiveSymbols; simp (maxDischargeDepth := 99) +contextual [h]

@[simp] theorem sendBytes_kept {a0 : State} {s : State} {k : Nat} {j : Nat} {bs : List Byte} (h : Kept a0 s) : Kept a0 (sendBytes s k j bs) := by
  unfold sendBytes; simp (maxDischargeDepth := 99) +contextual [h]

@[simp] theorem State.setLinkState_kept {a0 : State} {s : State} {p : Nat} {v : Nat} (h : Kept a0 s) : Kept a0 (State.setLinkState s p v) := by
  unfold State.setLinkState; simp (maxDischargeDepth := 99) +contextual [h]

@[simp] theorem linkRefuse_kept {a0 : State} {s : State} {p : Nat} {st : Stat} {pkt : Packet} (h : Kept a0 s) : Kept a0 (linkRefuse s p st pkt) := by
  unfold linkRefuse; simp (maxDischargeDepth := 99) +contextual [h]

@[simp] theorem linkSend_kept {a0 : State} {s : State} {p : Nat} {pkt : Packet} (h : Kept a0 s) : Kept a0 (linkSend s p pkt) := by
  unfold linkSend; simp (maxDischargeDepth := 99) +contextual [h]

@[simp] theorem showQual_kept {a0 : State} {s : State} (h : Kept a0 s) : Kept a0 (showQual s) := by
  unfold showQual; simp (maxDischargeDepth := 99) +contextual [h]

@[simp] theorem loseLock_kept {a0 : State} {s : State} (h : Kept a0 s) : Kept a0 (loseLock s) := by
  unfold loseLock; simp (maxDischargeDepth := 99) +contextual [h, KeptC.split_iff]

@[simp] theorem marksEnd_kept {a0 : State} {s : State} {p : Nat} (h : Kept a0 s) : Kept a0 (marksEnd s p) := by
  unfold marksEnd; simp (maxDischargeDepth := 99) +contextual [h]

@[simp] theorem linkLeave_kept {a0 : State} {s : State} {p : Nat} {st : Stat} {next : Nat} (h : Kept a0 s) : Kept a0 (linkLeave s p st next) := by
  unfold linkLeave; simp (maxDischargeDepth := 99) +contextual [h]

@[simp] theorem linkBringUp_kept {a0 : State} {s : State} {p : Nat} (h : Kept a0 s) : Kept a0 (linkBringUp s p) := by
  unfold linkBringUp; simp (maxDischargeDepth := 99) +contextual [h]

@[simp] theorem linkUp_kept {a0 : State} {s : State} {p : Nat} (h : Kept a0 s) : Kept a0 (linkUp s p) := by
  unfold linkUp; simp (maxDischargeDepth := 99) +contextual [h]

@[simp] theorem linkLaneLost_kept {a0 : State} {s : State} {k : Nat} {j : Nat} (h : Kept a0 s) : Kept a0 (linkLaneLost s k j) := by
  unfold linkLaneLost; simp (maxDischargeDepth := 99) +contextual [h]

@[simp] theorem linkResend_kept {a0 : State} {s : State} {p : Nat} (h : Kept a0 s) : Kept a0 (linkResend s p) := by
  unfold linkResend; try dsimp only
  repeat' (first | (simp (maxDischargeDepth := 99) +contextual [h, KeptC.split_iff]; done) | split)

@[simp] theorem linkBadFrame_kept {a0 : State} {s : State} {p : Nat} (h : Kept a0 s) : Kept a0 (linkBadFrame s p) := by
  unfold linkBadFrame; simp (maxDischargeDepth := 99) +contextual [h]

@[simp] theorem linkMark_kept {a0 : State} {s0 : State} {p : Nat} {payload : Nat} (h : Kept a0 s0) : Kept a0 (linkMark s0 p payload) := by
  unfold linkMark; simp (maxDischargeDepth := 99) +contextual [h]

@[simp] theorem linkGoodFrame_kept {a0 : State} {s : State} {p : Nat} {v : Nat} (h : Kept a0 s) : Kept a0 (linkGoodFrame s p v) := by
  unfold linkGoodFrame
  extract_lets fcw payload crw ftype l0 l1 l2 l3 s1 s2 s3
  have h1 : Kept a0 s1 := State.setLnk_kept h
  have h2 : Kept a0 s2 := Kept.ite (linkMark_kept h1) h1
  have h3 : Kept a0 s3 := Kept.ite (linkResend_kept h2) h2
  exact Kept.ite (State.setLnk_kept h3) h3

@[simp] theorem receiveLanes_kept {a0 s : State} {n : Nat} {l : List (Nat × Nat)} {ys : List (List (BitVec 2))} (h : Kept a0 s) :
    Kept a0 (receiveLanes s n l ys).2 := by
  induction l generalizing s ys with
  | nil => exact h
  | cons kj r ih => exact ih (receiveSymbols_kept h)

@[simp] theorem laneDown_kept {a0 : State} {s : State} {k : Nat} {j : Nat} (h : Kept a0 s) : Kept a0 (laneDown s k j) := by
  unfold laneDown; simp (maxDischargeDepth := 99) +contextual [h]

@[simp] theorem dropStuffed_kept {a0 : State} {s : State} {p : Nat} (h : Kept a0 s) : Kept a0 (dropStuffed s p) := by
  unfold dropStuffed; simp (maxDischargeDepth := 99) +contextual [h]

theorem execLinkFrameReceive_kept {a0 : State} {p : Fin 16} {syms : List (List (BitVec 2))} {s : State} (h : Kept a0 s) : KeptOut a0 (execLinkFrameReceive p syms s) := by
  unfold execLinkFrameReceive; simp (maxDischargeDepth := 99) +contextual [h]

theorem execAckTimeout_kept {a0 : State} {p : Fin 16} {s : State} (h : Kept a0 s) : KeptOut a0 (execAckTimeout p s) := by
  unfold execAckTimeout; simp (maxDischargeDepth := 99) +contextual [h]

@[simp] theorem linkEnable_kept {a0 : State} {s : State} {p : Nat} (h : Kept a0 s) : Kept a0 (linkEnable s p) := by
  unfold linkEnable; simp (maxDischargeDepth := 99) +contextual [h]

@[simp] theorem linkDisable_kept {a0 : State} {s : State} {p : Nat} (h : Kept a0 s) : Kept a0 (linkDisable s p) := by
  unfold linkDisable; simp (maxDischargeDepth := 99) +contextual [h]

@[simp] theorem linkRetrain_kept {a0 : State} {s : State} {p : Nat} (h : Kept a0 s) : Kept a0 (linkRetrain s p) := by
  unfold linkRetrain; simp (maxDischargeDepth := 99) +contextual [h]

theorem execLinkEnable_kept {a0 : State} {p : Fin 16} {s : State} (h : Kept a0 s) : KeptOut a0 (execLinkEnable p s) := by
  unfold execLinkEnable; simp (maxDischargeDepth := 99) +contextual [h]

theorem execLinkDisable_kept {a0 : State} {p : Fin 16} {s : State} (h : Kept a0 s) : KeptOut a0 (execLinkDisable p s) := by
  unfold execLinkDisable; simp (maxDischargeDepth := 99) +contextual [h]

theorem execLinkRetrain_kept {a0 : State} {p : Fin 16} {s : State} (h : Kept a0 s) : KeptOut a0 (execLinkRetrain p s) := by
  unfold execLinkRetrain; simp (maxDischargeDepth := 99) +contextual [h]

@[simp] theorem absorbLink_kept {a0 : State} {s : State} {p : Nat} (h : Kept a0 s) : Kept a0 (absorbLink s p) := by
  unfold absorbLink; simp (maxDischargeDepth := 99) +contextual [h]

theorem execLinkTransmit_kept {a0 : State} {p : Fin 16} {pkt : Packet} {s : State} (h : Kept a0 s) : KeptOut a0 (execLinkTransmit p pkt s) := by
  unfold execLinkTransmit; simp (maxDischargeDepth := 99) +contextual [h]

@[simp] theorem proxyPass_kept {a0 : State} {s : State} {p : Nat} {orig : Packet} {pkt : Packet} (h : Kept a0 s) : Kept a0 (proxyPass s p orig pkt).2 := by
  unfold proxyPass; try dsimp only
  repeat' (first | (simp (maxDischargeDepth := 99) +contextual [h, KeptC.split_iff]; done) | split)

@[simp] theorem labelRefuse_kept {a0 : State} {s : State} {p : Nat} {pkt : Packet} (h : Kept a0 s) : Kept a0 (labelRefuse s p pkt) := by
  unfold labelRefuse; simp (maxDischargeDepth := 99) +contextual [h]

@[simp] theorem labelLookup_kept {a0 : State} {s : State} {p : Nat} {orig : Packet} {pkt : Packet} (h : Kept a0 s) : Kept a0 (labelLookup s p orig pkt).2 := by
  unfold labelLookup; simp (maxDischargeDepth := 99) +contextual [h]

@[simp] theorem linkPacket_kept {a0 : State} {s : State} {p : Nat} {lane : Nat} {pkt : Packet} (h : Kept a0 s) : Kept a0 (linkPacket s p lane pkt).2 := by
  unfold linkPacket; simp (maxDischargeDepth := 99) +contextual [h]

@[simp] theorem linkReceive_kept {a0 : State} {s : State} {p : Nat} {lane : Nat} (h : Kept a0 s) : Kept a0 (linkReceive s p lane) := by
  unfold linkReceive; try dsimp only
  repeat' (first | (simp (maxDischargeDepth := 99) +contextual [h, KeptC.split_iff]; done) | split)

theorem execMarkSend_kept {a0 : State} {p : Fin 16} {offset : BitVec 16} {s : State} (h : Kept a0 s) : KeptOut a0 (execMarkSend p offset s) := by
  unfold execMarkSend; simp (maxDischargeDepth := 99) +contextual [h]

theorem execEnergyDetect_kept {a0 : State} {k : Fin 4} {lane : Fin 32} {s : State} (h : Kept a0 s) : KeptOut a0 (execEnergyDetect k lane s) := by
  unfold execEnergyDetect; simp (maxDischargeDepth := 99) +contextual [h]

@[simp] theorem loadRxS_kept {a0 : State} {s : State} {k : Nat} {j : Nat} {seed : BitVec 31} (h : Kept a0 s) : Kept a0 (loadRxS s k j seed) := by
  unfold loadRxS; simp (maxDischargeDepth := 99) +contextual [h]

theorem execTrainLock_kept {a0 : State} {k : Fin 4} {lane : Fin 32} {seed : BitVec 31} {s : State} (h : Kept a0 s) : KeptOut a0 (execTrainLock k lane seed s) := by
  unfold execTrainLock; simp (maxDischargeDepth := 99) +contextual [h]

theorem execTrainTimeout_kept {a0 : State} {k : Fin 4} {lane : Fin 32} {s : State} (h : Kept a0 s) : KeptOut a0 (execTrainTimeout k lane s) := by
  unfold execTrainTimeout; simp (maxDischargeDepth := 99) +contextual [h]

@[simp] theorem capsActive_kept {a0 : State} {s : State} {p : Nat} (h : Kept a0 s) : Kept a0 (capsActive s p) := by
  unfold capsActive; simp (maxDischargeDepth := 99) +contextual [h]

@[simp] theorem capsCheck_kept {a0 : State} {s : State} {k : Nat} {j : Nat} {v : Nat} {at_ : Nat} (h : Kept a0 s) : Kept a0 (capsCheck s k j v at_) := by
  unfold capsCheck; simp (maxDischargeDepth := 99) +contextual [h]

@[simp] theorem capsShow_kept {a0 : State} {s : State} {k : Nat} {j : Nat} {v : Nat} (h : Kept a0 s) : Kept a0 (capsShow s k j v) := by
  unfold capsShow; simp (maxDischargeDepth := 99) +contextual [h]

@[simp] theorem prbsWindow_kept {a0 : State} {s : State} {k : Nat} {j : Nat} {syms : List (BitVec 2)} (h : Kept a0 s) : Kept a0 (prbsWindow s k j syms) := by
  unfold prbsWindow; simp (maxDischargeDepth := 99) +contextual [h]

theorem execCapsFrameReceive_kept {a0 : State} {k : Fin 4} {lane : Fin 32} {syms : List (BitVec 2)} {at_ : Nat} {s : State} (h : Kept a0 s) : KeptOut a0 (execCapsFrameReceive k lane syms at_ s) := by
  unfold execCapsFrameReceive; simp (maxDischargeDepth := 99) +contextual [h]

@[simp] theorem laneSlip_kept {a0 : State} {s : State} {k : Nat} {j : Nat} {n : Nat} (h : Kept a0 s) : Kept a0 (laneSlip s k j n) := by
  unfold laneSlip; simp (maxDischargeDepth := 99) +contextual [h]

theorem execLaneSlip_kept {a0 : State} {k : Fin 4} {lane : Fin 32} {n : BitVec 10} {s : State} (h : Kept a0 s) : KeptOut a0 (execLaneSlip k lane n s) := by
  unfold execLaneSlip; simp (maxDischargeDepth := 99) +contextual [h]

theorem execLaneDrop_kept {a0 : State} {k : Fin 4} {lane : Fin 32} {s : State} (h : Kept a0 s) : KeptOut a0 (execLaneDrop k lane s) := by
  unfold execLaneDrop; simp (maxDischargeDepth := 99) +contextual [h]

@[simp] theorem laneTxSleep_kept {a0 : State} {s : State} {k : Nat} {j : Nat} {v : Bool} (h : Kept a0 s) : Kept a0 (laneTxSleep s k j v) := by
  unfold laneTxSleep; simp (maxDischargeDepth := 99) +contextual [h]

@[simp] theorem laneRxSleep_kept {a0 : State} {s : State} {k : Nat} {j : Nat} {v : Bool} (h : Kept a0 s) : Kept a0 (laneRxSleep s k j v) := by
  unfold laneRxSleep; simp (maxDischargeDepth := 99) +contextual [h]

theorem execTxSleep_kept {a0 : State} {k : Fin 4} {lane : Fin 32} {v : Bool} {s : State} (h : Kept a0 s) : KeptOut a0 (execTxSleep k lane v s) := by
  unfold execTxSleep; simp (maxDischargeDepth := 99) +contextual [h]

theorem execRxSleep_kept {a0 : State} {k : Fin 4} {lane : Fin 32} {v : Bool} {s : State} (h : Kept a0 s) : KeptOut a0 (execRxSleep k lane v s) := by
  unfold execRxSleep; simp (maxDischargeDepth := 99) +contextual [h]

theorem execLaneSignal_kept {a0 : State} {k : Fin 4} {lane : Fin 32} {v : Bool} {s : State} (h : Kept a0 s) : KeptOut a0 (execLaneSignal k lane v s) := by
  unfold execLaneSignal; simp (maxDischargeDepth := 99) +contextual [h]

theorem execTuningStep_kept {a0 : State} {k : Fin 4} {lane : Fin 32} {ns : Nat} {here : Nat} {below : Nat} {above : Nat} {s : State} (h : Kept a0 s) : KeptOut a0 (execTuningStep k lane ns here below above s) := by
  unfold execTuningStep; simp (maxDischargeDepth := 99) +contextual [h]

@[simp] theorem eyeStart_kept {a0 : State} {s : State} {k : Nat} {j : Nat} (h : Kept a0 s) : Kept a0 (eyeStart s k j) := by
  unfold eyeStart; simp (maxDischargeDepth := 99) +contextual [h]

theorem execEyeScanStart_kept {a0 : State} {k : Fin 4} {lane : Fin 40} {s : State} (h : Kept a0 s) : KeptOut a0 (execEyeScanStart k lane s) := by
  unfold execEyeScanStart; simp (maxDischargeDepth := 99) +contextual [h]

theorem execEyeScanSlice_kept {a0 : State} {k : Fin 4} {lane : Fin 40} {s : State} (h : Kept a0 s) : KeptOut a0 (execEyeScanSlice k lane s) := by
  unfold execEyeScanSlice; simp (maxDischargeDepth := 99) +contextual [h]

theorem execEyeScanDone_kept {a0 : State} {k : Fin 4} {lane : Fin 40} {mismatches : Nat} {s : State} (h : Kept a0 s) : KeptOut a0 (execEyeScanDone k lane mismatches s) := by
  unfold execEyeScanDone; simp (maxDischargeDepth := 99) +contextual [h]

@[simp] theorem laneSlot_kept {a0 : State} {next : Bool} {s : State} {kj : Nat × Nat} (h : Kept a0 s) : Kept a0 (laneSlot next s kj) := by
  unfold laneSlot; simp (maxDischargeDepth := 99) +contextual [h]

@[simp] theorem frameSlot_kept {a0 : State} {s : State} {p : Nat} (h : Kept a0 s) : Kept a0 (frameSlot s p) := by
  unfold frameSlot; simp (maxDischargeDepth := 99) +contextual [h]

@[simp] theorem noteNext_kept {a0 : State} {s : State} {p : Nat} (h : Kept a0 s) : Kept a0 (noteNext s p) := by
  unfold noteNext; simp (maxDischargeDepth := 99) +contextual [h]

@[simp] theorem linkSlot_kept {a0 : State} {s : State} {p : Nat} (h : Kept a0 s) : Kept a0 (linkSlot s p) := by
  unfold linkSlot; simp (maxDischargeDepth := 99) +contextual [h]

@[simp] theorem laneSlots_kept {a0 : State} {s : State} (h : Kept a0 s) : Kept a0 (laneSlots s) := by
  unfold laneSlots; simp (maxDischargeDepth := 99) +contextual [h]

@[simp] theorem laneMode_kept {a0 : State} {s : State} {k : Nat} {j : Nat} {m : Nat} (h : Kept a0 s) : Kept a0 (laneMode s k j m) := by
  unfold laneMode; simp (maxDischargeDepth := 99) +contextual [h]

theorem execLaneModeWrite_kept {a0 : State} {k : Fin 4} {lane : Fin 32} {mode : BitVec 2} {s : State} (h : Kept a0 s) : KeptOut a0 (execLaneModeWrite k lane mode s) := by
  unfold execLaneModeWrite; simp (maxDischargeDepth := 99) +contextual [h]

end Sys2Proof.Machine
end

