-- ==== Sys2Proof/Laws/KeptDispatcher.lean ====
section
/-! SUPPORT. What each function of Machine/Dispatcher.lean keeps: the queue, the burned fuses, the canonical form. -/

namespace Sys2Proof.Machine

open Sys2Proof

set_option linter.all false

@[simp] theorem State.setSlice_kept {a0 : State} {s : State} {sl : Nat} {x : Slice} (h : Kept a0 s) : Kept a0 (State.setSlice s sl x) := by
  unfold State.setSlice; simp (maxDischargeDepth := 99) +contextual [h]

@[simp] theorem State.takeSlots_kept {a0 : State} {s : State} {sl : Nat} {gen : Nat} {rsv : Nat} (h : Kept a0 s) : Kept a0 (State.takeSlots s sl gen rsv) := by
  unfold State.takeSlots; simp (maxDischargeDepth := 99) +contextual [h]

@[simp] theorem State.freeSlots_kept {a0 : State} {s : State} {sl : Nat} {gen : Nat} {rsv : Nat} (h : Kept a0 s) : Kept a0 (State.freeSlots s sl gen rsv) := by
  unfold State.freeSlots; simp (maxDischargeDepth := 99) +contextual [h]

@[simp] theorem answerTake_kept {a0 : State} {s : State} {req : Packet} {f : Option Firing} (h : Kept a0 s) : Kept a0 (answerTake s req f) := by
  unfold answerTake; split <;> simp (maxDischargeDepth := 99) +contextual [h]

@[simp] theorem deliverFiring_kept {a0 : State} {s : State} {sl : Nat} {req : Packet} {f : Firing} (h : Kept a0 s) : Kept a0 (deliverFiring s sl req f) := by
  unfold deliverFiring; simp (maxDischargeDepth := 99) +contextual [h]

@[simp] theorem joinList_kept {a0 : State} {s : State} {sl : Nat} {f : Firing} (h : Kept a0 s) : Kept a0 (joinList s sl f) := by
  unfold joinList; try dsimp only
  repeat' (first | (simp (maxDischargeDepth := 99) +contextual [h, KeptC.split_iff]; done) | split)

@[simp] theorem fireKey_kept {a0 : State} {s : State} {sl : Nat} {m : Match} (h : Kept a0 s) : Kept a0 (fireKey s sl m) := by
  unfold fireKey; simp (maxDischargeDepth := 99) +contextual [h]

@[simp] theorem dropFirings_kept {a0 : State} {s : State} {g : Nat} {n : Nat} {c : Nat} (h : Kept a0 s) : Kept a0 (dropFirings s g n c) := by
  unfold dropFirings; simp (maxDischargeDepth := 99) +contextual [h]

@[simp] theorem loseKey_kept {a0 : State} {s : State} {g : Nat} {n : Nat} {c : Nat} (h : Kept a0 s) : Kept a0 (loseKey s g n c) := by
  unfold loseKey; simp (maxDischargeDepth := 99) +contextual [h]

theorem execFiringRingArrive_kept {a0 : State} {sl : Fin 8} {src : Fin 8} {s : State} {lost : Bool} (h : Kept a0 s) : KeptOut a0 (execFiringRingArrive sl src s lost) := by
  unfold execFiringRingArrive; try dsimp only
  repeat' (first | (simp (maxDischargeDepth := 99) +contextual [h, KeptC.split_iff]; done) | split)

@[simp] theorem answerToken_kept {a0 : State} {s : State} {sl : Nat} {t : Token} {st : Stat} (h : Kept a0 s) : Kept a0 (answerToken s sl t st) := by
  unfold answerToken; simp (maxDischargeDepth := 99) +contextual [h]

@[simp] theorem putOperand_kept {a0 : State} {s : State} {sl : Nat} {t : Token} {d : Desc} {gen : Nat} {rsv : Nat} (h : Kept a0 s) : Kept a0 (putOperand s sl t d gen rsv) := by
  unfold putOperand; simp (maxDischargeDepth := 99) +contextual [h]

@[simp] theorem answerBusySlot_kept {a0 : State} {s : State} {sl : Nat} {t : Token} (h : Kept a0 s) : Kept a0 (answerBusySlot s sl t) := by
  unfold answerBusySlot; simp (maxDischargeDepth := 99) +contextual [h]

@[simp] theorem holdToken_kept {a0 : State} {s : State} {sl : Nat} {t : Token} {d : Desc} (h : Kept a0 s) : Kept a0 (holdToken s sl t d) := by
  unfold holdToken; simp (maxDischargeDepth := 99) +contextual [h]

@[simp] theorem countDup_kept {a0 : State} {s : State} {sl : Nat} (h : Kept a0 s) : Kept a0 (countDup s sl) := by
  unfold countDup; simp (maxDischargeDepth := 99) +contextual [h]

@[simp] theorem matchToken_kept {a0 : State} {s : State} {sl : Nat} {t : Token} {d : Desc} (h : Kept a0 s) : Kept a0 (matchToken s sl t d) := by
  unfold matchToken; simp (maxDischargeDepth := 99) +contextual [h]

@[simp] theorem matchHeld_kept {a0 : State} {s : State} {sl : Nat} {h : HeldTok} (hk : Kept a0 s) : Kept a0 (matchHeld s sl h) := by
  unfold matchHeld; simp (maxDischargeDepth := 99) +contextual [hk]

@[simp] theorem settleHeld_kept {a0 s : State} {sl n : Nat} (h : Kept a0 s) : Kept a0 (settleHeld sl n s) := by
  induction n generalizing s with
  | zero => unfold settleHeld; exact h
  | succ n ih =>
    unfold settleHeld; split
    · exact ih (matchHeld_kept h)
    · exact h

@[simp] theorem decideDesc_kept {a0 : State} {s : State} {sl : Nat} {t : Token} {d : Desc} (h : Kept a0 s) : Kept a0 (decideDesc s sl t d) := by
  unfold decideDesc; simp (maxDischargeDepth := 99) +contextual [h]

@[simp] theorem sendFetch_kept {a0 : State} {s : State} {sl : Nat} {g : Nat} {n : Nat} {t : Token} (h : Kept a0 s) : Kept a0 (sendFetch s sl g n t) := by
  unfold sendFetch; simp (maxDischargeDepth := 99) +contextual [h]

@[simp] theorem findDesc_kept {a0 : State} {s : State} {sl : Nat} {t : Token} (h : Kept a0 s) : Kept a0 (findDesc s sl t) := by
  unfold findDesc; try dsimp only
  repeat' (first | (simp (maxDischargeDepth := 99) +contextual [h, KeptC.split_iff]; done) | split)

@[simp] theorem decideToken_kept {a0 : State} {s : State} {sl : Nat} {t : Token} (h : Kept a0 s) : Kept a0 (decideToken s sl t) := by
  unfold decideToken; simp (maxDischargeDepth := 99) +contextual [h]

@[simp] theorem arriveToken_kept {a0 : State} {s : State} {sl : Nat} {t : Token} (h : Kept a0 s) : Kept a0 (arriveToken s sl t) := by
  unfold arriveToken; simp (maxDischargeDepth := 99) +contextual [h]

@[simp] theorem advanceLine_kept {a0 s : State} {sl n : Nat} (h : Kept a0 s) : Kept a0 (advanceLine sl n s) := by
  induction n generalizing s with
  | zero => unfold advanceLine; exact h
  | succ n ih =>
    unfold advanceLine; dsimp only; split
    · exact h
    · split
      · exact ih (decideToken_kept (State.setSlice_kept h))
      · exact h

theorem execDopnd_kept {a0 : State} {p : Packet} {lost : Bool} {s : State} (h : Kept a0 s) : KeptOut a0 (execDopnd p lost s) := by
  unfold execDopnd; split <;> simp (maxDischargeDepth := 99) +contextual [h]

@[simp] theorem tokenWindow_kept {a0 : State} {s : State} {sl : Nat} {p : Packet} {lost : Bool} (h : Kept a0 s) : Kept a0 (tokenWindow s sl p lost) := by
  unfold tokenWindow; simp (maxDischargeDepth := 99) +contextual [h]

theorem execTokenWindowWrite_kept {a0 : State} {p : Packet} {lost : Bool} {s : State} (h : Kept a0 s) : KeptOut a0 (execTokenWindowWrite p lost s) := by
  unfold execTokenWindowWrite; split <;> simp (maxDischargeDepth := 99) +contextual [h]

@[simp] theorem useDesc_kept {a0 : State} {s : State} {sl : Nat} {t : Token} {d : Desc} {lost : Bool} (h : Kept a0 s) : Kept a0 (useDesc s sl t d lost) := by
  unfold useDesc; simp (maxDischargeDepth := 99) +contextual [h]

theorem execDescriptorFetch_kept {a0 : State} {sl : Fin 8} {s : State} {lost : Bool} (h : Kept a0 s) : KeptOut a0 (execDescriptorFetch sl s lost) := by
  unfold execDescriptorFetch; try dsimp only
  repeat' (first | (simp (maxDischargeDepth := 99) +contextual [h, KeptC.split_iff]; done) | split)

theorem execHeldTokenMatch_kept {a0 : State} {sl : Fin 8} {completing : Bool} {s : State} {lost : Bool} (h : Kept a0 s) : KeptOut a0 (execHeldTokenMatch sl completing s lost) := by
  unfold execHeldTokenMatch; try dsimp only
  repeat' (first | (simp (maxDischargeDepth := 99) +contextual [h, KeptC.split_iff]; done) | split)

theorem execTokenHoldTimeout_kept {a0 : State} {sl : Fin 8} {i : Fin 64} {s : State} (h : Kept a0 s) : KeptOut a0 (execTokenHoldTimeout sl i s) := by
  unfold execTokenHoldTimeout; try dsimp only
  repeat' (first | (simp (maxDischargeDepth := 99) +contextual [h, KeptC.split_iff]; done) | split)

theorem execTick_kept {a0 : State} {s : State} (h : Kept a0 s) : KeptOut a0 (execTick s) := by
  unfold execTick; simp (maxDischargeDepth := 99) +contextual [h]

theorem execDelayedTokenRelease_kept {a0 : State} {sl : Fin 8} {lost : Bool} {s : State} (h : Kept a0 s) : KeptOut a0 (execDelayedTokenRelease sl lost s) := by
  unfold execDelayedTokenRelease; try dsimp only
  repeat' (first | (simp (maxDischargeDepth := 99) +contextual [h, KeptC.split_iff]; done) | split)

@[simp] theorem loseBest_kept {a0 : State} {s : State} {sl : Nat} {mask : BitVec 32} (h : Kept a0 s) : Kept a0 (loseBest s sl mask) := by
  unfold loseBest; split <;> simp (maxDischargeDepth := 99) +contextual [h]

@[simp] theorem serveTake_kept {a0 : State} {s : State} {sl : Nat} {mask : BitVec 32} {wait : Nat} {req : Packet} (h : Kept a0 s) : Kept a0 (serveTake s sl mask wait req) := by
  unfold serveTake; try dsimp only
  repeat' (first | (simp (maxDischargeDepth := 99) +contextual [h, KeptC.split_iff]; done) | split)

@[simp] theorem beginTake_kept {a0 : State} {s : State} {sl : Nat} {mask : BitVec 32} {wait : Nat} {req : Packet} {lost : Bool} (h : Kept a0 s) : Kept a0 (beginTake s sl mask wait req lost) := by
  unfold beginTake; simp (maxDischargeDepth := 99) +contextual [h]

theorem execDtake_kept {a0 : State} {p : Packet} {lost : Bool} {s : State} (h : Kept a0 s) : KeptOut a0 (execDtake p lost s) := by
  unfold execDtake; split <;> simp (maxDischargeDepth := 99) +contextual [h]

@[simp] theorem takeWindow_kept {a0 : State} {s : State} {sl : Nat} {off : Nat} {p : Packet} {lost : Bool} (h : Kept a0 s) : Kept a0 (takeWindow s sl off p lost) := by
  unfold takeWindow; simp (maxDischargeDepth := 99) +contextual [h]

theorem execTakeWindowRead_kept {a0 : State} {p : Packet} {lost : Bool} {s : State} (h : Kept a0 s) : KeptOut a0 (execTakeWindowRead p lost s) := by
  unfold execTakeWindowRead; split <;> simp (maxDischargeDepth := 99) +contextual [h]

theorem execTakeWaitExpire_kept {a0 : State} {sl : Fin 8} {i : Fin 256} {s : State} (h : Kept a0 s) : KeptOut a0 (execTakeWaitExpire sl i s) := by
  unfold execTakeWaitExpire; try dsimp only
  repeat' (first | (simp (maxDischargeDepth := 99) +contextual [h, KeptC.split_iff]; done) | split)

theorem execExecTake_kept {a0 : State} {n : Fin 128} {prof : BitVec 3} {s : State} (h : Kept a0 s) : KeptOut a0 (execExecTake n prof s) := by
  unfold execExecTake; try dsimp only
  repeat' (first | (simp (maxDischargeDepth := 99) +contextual [h, KeptC.split_iff]; done) | split)

@[simp] theorem setGraphBusy_kept {a0 : State} {s : State} {g : Nat} (h : Kept a0 s) : Kept a0 (setGraphBusy s g) := by
  unfold setGraphBusy; simp (maxDischargeDepth := 99) +contextual [h]

@[simp] theorem purgeSlice_kept {a0 : State} {g : Nat} {s : State} {sl : Nat} (h : Kept a0 s) : Kept a0 (purgeSlice g s sl) := by
  unfold purgeSlice; simp (maxDischargeDepth := 99) +contextual [h]

@[simp] theorem purgeGraph_kept {a0 : State} {s : State} {g : Nat} (h : Kept a0 s) : Kept a0 (purgeGraph s g) := by
  unfold purgeGraph; simp (maxDischargeDepth := 99) +contextual [h]

@[simp] theorem invalGraph_kept {a0 : State} {s : State} {g : Nat} (h : Kept a0 s) : Kept a0 (invalGraph s g) := by
  unfold invalGraph; simp (maxDischargeDepth := 99) +contextual [h]

theorem execPurge_kept {a0 : State} {g : BitVec 8} {s : State} (h : Kept a0 s) : KeptOut a0 (execPurge g s) := by
  unfold execPurge; simp (maxDischargeDepth := 99) +contextual [h]

theorem execInval_kept {a0 : State} {g : BitVec 8} {s : State} (h : Kept a0 s) : KeptOut a0 (execInval g s) := by
  unfold execInval; simp (maxDischargeDepth := 99) +contextual [h]

theorem execPurgeDone_kept {a0 : State} {g : BitVec 8} {s : State} (h : Kept a0 s) : KeptOut a0 (execPurgeDone g s) := by
  unfold execPurgeDone; simp (maxDischargeDepth := 99) +contextual [h]

theorem execInvalDone_kept {a0 : State} {g : BitVec 8} {s : State} (h : Kept a0 s) : KeptOut a0 (execInvalDone g s) := by
  unfold execInvalDone; simp (maxDischargeDepth := 99) +contextual [h]

end Sys2Proof.Machine
end

