-- ==== Sys2Proof/Laws/KeptDdr.lean ====
section
/-! SUPPORT. What each function of Machine/Ddr.lean keeps: the queue, the burned fuses, the canonical form. -/

namespace Sys2Proof.Machine

open Sys2Proof

set_option linter.all false

@[simp] theorem State.setChan_kept {a0 : State} {s : State} {c : Nat} {h : DdrChan} (hk : Kept a0 s) : Kept a0 (State.setChan s c h) := by
  unfold State.setChan; simp (maxDischargeDepth := 99) +contextual [hk]

@[simp] theorem State.setDramLine_kept {a0 : State} {s : State} {line : Nat} {v : Line} (h : Kept a0 s) : Kept a0 (State.setDramLine s line v) := by
  unfold State.setDramLine; simp (maxDischargeDepth := 99) +contextual [h, KeptC.split_iff]

@[simp] theorem State.upsetBurst_kept {a0 : State} {s : State} {key : Nat} {x : BitVec 640} (h : Kept a0 s) : Kept a0 (State.upsetBurst s key x) := by
  unfold State.upsetBurst; simp (maxDischargeDepth := 99) +contextual [h]

@[simp] theorem State.loseContents_kept {a0 : State} {s : State} {c : Nat} (h : Kept a0 s) : Kept a0 (State.loseContents s c) := by
  unfold State.loseContents; simp (maxDischargeDepth := 99) +contextual [h, KeptC.split_iff]

@[simp] theorem countCe_kept {a0 : State} {s : State} {c : Nat} (h : Kept a0 s) : Kept a0 (countCe s c) := by
  unfold countCe; simp (maxDischargeDepth := 99) +contextual [h]

@[simp] theorem reportUe_kept {a0 : State} {s : State} {c : Nat} {line : Nat} (h : Kept a0 s) : Kept a0 (reportUe s c line) := by
  unfold reportUe; simp (maxDischargeDepth := 99) +contextual [h]

@[simp] theorem readBurst_kept {a0 : State} {s : State} {c : Nat} {key : Nat} {line : Nat} {v : Line} {bus : BitVec 640} (h : Kept a0 s) : Kept a0 (readBurst s c key line v bus).st := by
  unfold readBurst; try dsimp only
  repeat' (first | (simp (maxDischargeDepth := 99) +contextual [h, KeptC.split_iff]; done) | split)

@[simp] theorem activate_kept {a0 : State} {s : State} {c : Nat} {line : Nat} {src : Nat} (h : Kept a0 s) : Kept a0 (activate s c line src) := by
  unfold activate; simp (maxDischargeDepth := 99) +contextual [h]

@[simp] theorem State.lbPut_kept {a0 : State} {s : State} {line : Nat} {v : Line} (h : Kept a0 s) : Kept a0 (State.lbPut s line v) := by
  unfold State.lbPut; simp (maxDischargeDepth := 99) +contextual [h]

@[simp] theorem State.lbDrop_kept {a0 : State} {s : State} {line : Nat} (h : Kept a0 s) : Kept a0 (State.lbDrop s line) := by
  unfold State.lbDrop; simp (maxDischargeDepth := 99) +contextual [h]

@[simp] theorem State.lbCheck_kept {a0 : State} {s : State} {line : Nat} {e : MemEnv} (h : Kept a0 s) : Kept a0 (State.lbCheck s line e) := by
  unfold State.lbCheck; simp (maxDischargeDepth := 99) +contextual [h]

@[simp] theorem State.takeBacks_kept {a0 : State} {s : State} {c : Nat} (h : Kept a0 s) : Kept a0 (State.takeBacks s c) := by
  unfold State.takeBacks; simp (maxDischargeDepth := 99) +contextual [h]

@[simp] theorem State.writeOut_kept {a0 : State} {s : State} {c : Nat} {w : QWrite} (h : Kept a0 s) : Kept a0 (State.writeOut s c w) := by
  unfold State.writeOut; simp (maxDischargeDepth := 99) +contextual [h]

@[simp] theorem State.ddrWrite_kept {a0 : State} {s : State} {line : Nat} {v : Line} {pri : Nat} {src : Nat} (h : Kept a0 s) : Kept a0 (State.ddrWrite s line v pri src) := by
  unfold State.ddrWrite; simp (maxDischargeDepth := 99) +contextual [h]

@[simp] theorem State.writeBack_kept {a0 : State} {s : State} {line : Nat} {v : Line} (h : Kept a0 s) : Kept a0 (State.writeBack s line v) := by
  unfold State.writeBack; simp (maxDischargeDepth := 99) +contextual [h]

@[simp] theorem readNow_kept {a0 : State} {s : State} {line : Nat} {src : Nat} (h : Kept a0 s) : Kept a0 (readNow s line src) := by
  unfold readNow; simp (maxDischargeDepth := 99) +contextual [h]

@[simp] theorem State.readDevice_kept {a0 : State} {s : State} {line : Nat} {e : MemEnv} (h : Kept a0 s) : Kept a0 (State.readDevice s line e).1 := by
  unfold State.readDevice; try dsimp only
  repeat' (first | (simp (maxDischargeDepth := 99) +contextual [h, KeptC.split_iff]; done) | split)

@[simp] theorem State.ddrRead_kept {a0 : State} {s : State} {line : Nat} {e : MemEnv} {how : ReadHow} (h : Kept a0 s) : Kept a0 (State.ddrRead s line e how).1 := by
  unfold State.ddrRead; try dsimp only
  repeat' (first | (simp (maxDischargeDepth := 99) +contextual [h, KeptC.split_iff]; done) | split)

@[simp] theorem dropJobs_kept {a0 : State} {s : State} {c : Nat} (h : Kept a0 s) : Kept a0 (dropJobs s c) := by
  unfold dropJobs; simp (maxDischargeDepth := 99) +contextual [h]

theorem execDrainMode_kept {a0 : State} {c : Fin 8} {aged : Bool} {s : State} (h : Kept a0 s) : KeptOut a0 (execDrainMode c aged s) := by
  unfold execDrainMode; simp (maxDischargeDepth := 99) +contextual [h]

theorem execReadMode_kept {a0 : State} {c : Fin 8} {aged : Bool} {s : State} (h : Kept a0 s) : KeptOut a0 (execReadMode c aged s) := by
  unfold execReadMode; simp (maxDischargeDepth := 99) +contextual [h]

@[simp] theorem refreshRank_kept {a0 : State} {s : State} {c : Nat} {rank : Nat} {bank : Nat} (h : Kept a0 s) : Kept a0 (refreshRank s c rank bank) := by
  unfold refreshRank; simp (maxDischargeDepth := 99) +contextual [h]

@[simp] theorem forcedRefresh_kept {a0 : State} {s : State} {c : Nat} {rank : Nat} {bank : Nat} (h : Kept a0 s) : Kept a0 (forcedRefresh s c rank bank) := by
  unfold forcedRefresh; simp (maxDischargeDepth := 99) +contextual [h]

@[simp] theorem forceRefresh_kept {a0 : State} {s : State} {c : Nat} {rank : Nat} (h : Kept a0 s) : Kept a0 (forceRefresh s c rank) := by
  unfold forceRefresh; try dsimp only
  repeat' (first | (simp (maxDischargeDepth := 99) +contextual [h, KeptC.split_iff]; done) | split)

theorem execRefreshDebt_kept {a0 : State} {c : Fin 8} {rank : Fin 4} {s : State} (h : Kept a0 s) : KeptOut a0 (execRefreshDebt c rank s) := by
  unfold execRefreshDebt; simp (maxDischargeDepth := 99) +contextual [h]

theorem execRefresh_kept {a0 : State} {c : Fin 8} {rank : Fin 4} {bank : BitVec 10} {s : State} (h : Kept a0 s) : KeptOut a0 (execRefresh c rank bank s) := by
  unfold execRefresh; simp (maxDischargeDepth := 99) +contextual [h]

@[simp] theorem selfRefresh_kept {a0 : State} {s : State} {c : Nat} (h : Kept a0 s) : Kept a0 (selfRefresh s c) := by
  unfold selfRefresh; simp (maxDischargeDepth := 99) +contextual [h]

@[simp] theorem showThrottling_kept {a0 : State} {s : State} {c : Nat} (h : Kept a0 s) : Kept a0 (showThrottling s c) := by
  unfold showThrottling; simp (maxDischargeDepth := 99) +contextual [h]

theorem execRdThreshold_kept {a0 : State} {c : Fin 8} {bank : BitVec 12} {s : State} (h : Kept a0 s) : KeptOut a0 (execRdThreshold c bank s) := by
  unfold execRdThreshold; try dsimp only
  repeat' (first | (simp (maxDischargeDepth := 99) +contextual [h, KeptC.split_iff]; done) | split)

theorem execThrottleExpire_kept {a0 : State} {c : Fin 8} {i : Fin 16} {s : State} (h : Kept a0 s) : KeptOut a0 (execThrottleExpire c i s) := by
  unfold execThrottleExpire; simp (maxDischargeDepth := 99) +contextual [h]

@[simp] theorem throttleTick_kept {a0 : State} {s : State} {c : Nat} {ns : Nat} (h : Kept a0 s) : Kept a0 (throttleTick s c ns) := by
  unfold throttleTick; simp (maxDischargeDepth := 99) +contextual [h]

theorem execTrackerClear_kept {a0 : State} {c : Fin 8} {s : State} (h : Kept a0 s) : KeptOut a0 (execTrackerClear c s) := by
  unfold execTrackerClear; simp (maxDischargeDepth := 99) +contextual [h]

@[simp] theorem exhaust_kept {a0 : State} {s : State} {c : Nat} (h : Kept a0 s) : Kept a0 (exhaust s c) := by
  unfold exhaust; simp (maxDischargeDepth := 99) +contextual [h]

theorem execParityAlert_kept {a0 : State} {c : Fin 8} {done : Fin 65} {s : State} (h : Kept a0 s) : KeptOut a0 (execParityAlert c done s) := by
  unfold execParityAlert; simp (maxDischargeDepth := 99) +contextual [h]

@[simp] theorem overdueRefreshes_kept {a0 : State} {s : State} {c : Nat} (h : Kept a0 s) : Kept a0 (overdueRefreshes s c) := by
  unfold overdueRefreshes; simp (maxDischargeDepth := 99) +contextual [h]

theorem execAlertClear_kept {a0 : State} {c : Fin 8} {s : State} (h : Kept a0 s) : KeptOut a0 (execAlertClear c s) := by
  unfold execAlertClear; simp (maxDischargeDepth := 99) +contextual [h]

@[simp] theorem loadTiming_kept {a0 : State} {s : State} {c : Nat} {t : ChannelTraining} (h : Kept a0 s) : Kept a0 (loadTiming s c t) := by
  unfold loadTiming; simp (maxDischargeDepth := 99) +contextual [h]

@[simp] theorem failTraining_kept {a0 : State} {s : State} {c : Nat} (h : Kept a0 s) : Kept a0 (failTraining s c) := by
  unfold failTraining; simp (maxDischargeDepth := 99) +contextual [h]

@[simp] theorem passTraining_kept {a0 : State} {s : State} {c : Nat} {t : ChannelTraining} (h : Kept a0 s) : Kept a0 (passTraining s c t) := by
  unfold passTraining; simp (maxDischargeDepth := 99) +contextual [h]

theorem execDramTrainingDone_kept {a0 : State} {t : List ChannelTraining} {s : State} (h : Kept a0 s) : KeptOut a0 (execDramTrainingDone t s) := by
  unfold execDramTrainingDone; split
  · exact KeptOut.next_iff.2 h
  · extract_lets alike s1 all gib
    have h1 : Kept a0 s1 := Kept.foldl h fun u c hu => by
      dsimp only; split
      · exact hu
      · exact Kept.ite (passTraining_kept (State.setReg_kept (State.setReg_kept hu))) (failTraining_kept (State.setReg_kept (State.setReg_kept hu)))
    exact KeptOut.next_iff.2 ⟨h1.pending, h1.fuse, h1.canon⟩

@[simp] theorem flushWrites_kept {a0 : State} {s : State} {c : Nat} (h : Kept a0 s) : Kept a0 (flushWrites s c) := by
  unfold flushWrites; simp (maxDischargeDepth := 99) +contextual [h]

theorem execDdrRetrain_kept {a0 : State} {c : Fin 8} {t : ChannelTraining} {lost : Bool} {s : State} (h : Kept a0 s) : KeptOut a0 (execDdrRetrain c t lost s) := by
  unfold execDdrRetrain; simp (maxDischargeDepth := 99) +contextual [h]

@[simp] theorem disableChannel_kept {a0 : State} {s : State} {c : Nat} (h : Kept a0 s) : Kept a0 (disableChannel s c) := by
  unfold disableChannel; simp (maxDischargeDepth := 99) +contextual [h]

theorem execDdrDisable_kept {a0 : State} {c : Fin 8} {s : State} (h : Kept a0 s) : KeptOut a0 (execDdrDisable c s) := by
  unfold execDdrDisable; simp (maxDischargeDepth := 99) +contextual [h]

theorem execDriftCheck_kept {a0 : State} {c : Fin 8} {rank : Fin 4} {drift : Nat} {s : State} (h : Kept a0 s) : KeptOut a0 (execDriftCheck c rank drift s) := by
  unfold execDriftCheck; simp (maxDischargeDepth := 99) +contextual [h]

theorem execRetrainingWindow_kept {a0 : State} {c : Fin 8} {rank : Fin 4} {s : State} {unmet : Bool} (h : Kept a0 s) : KeptOut a0 (execRetrainingWindow c rank s unmet) := by
  unfold execRetrainingWindow; simp (maxDischargeDepth := 99) +contextual [h]

theorem execRetrainingWindowEnd_kept {a0 : State} {c : Fin 8} {rank : Fin 4} {s : State} (h : Kept a0 s) : KeptOut a0 (execRetrainingWindowEnd c rank s) := by
  unfold execRetrainingWindowEnd; simp (maxDischargeDepth := 99) +contextual [h]

end Sys2Proof.Machine
end

