-- ==== Sys2Proof/Laws/KeptIpe.lean ====
section
/-! SUPPORT. What each function of Machine/Ipe.lean keeps: the queue, the burned fuses, the canonical form. -/

namespace Sys2Proof.Machine

open Sys2Proof

set_option linter.all false

@[simp] theorem State.setKid_kept {a0 : State} {s : State} {k : Nat} {v : Nat} (h : Kept a0 s) : Kept a0 (State.setKid s k v) := by
  unfold State.setKid; simp (maxDischargeDepth := 99) +contextual [h]

@[simp] theorem State.bindKid_kept {a0 : State} {s : State} {k : Nat} (h : Kept a0 s) : Kept a0 (State.bindKid s k) := by
  unfold State.bindKid; simp (maxDischargeDepth := 99) +contextual [h]

@[simp] theorem State.unbindKid_kept {a0 : State} {s : State} {k : Nat} (h : Kept a0 s) : Kept a0 (State.unbindKid s k) := by
  unfold State.unbindKid; simp (maxDischargeDepth := 99) +contextual [h]

@[simp] theorem showMeta_kept {a0 : State} {s : State} (h : Kept a0 s) : Kept a0 (showMeta s) := by
  unfold showMeta; simp (maxDischargeDepth := 99) +contextual [h]

@[simp] theorem releaseQuar_kept {a0 : State} {s : State} {k : Nat} (h : Kept a0 s) : Kept a0 (releaseQuar s k) := by
  unfold releaseQuar; simp (maxDischargeDepth := 99) +contextual [h]

@[simp] theorem quarantine_kept {a0 : State} {s : State} {k : Nat} {level : Nat} {line : Nat} (h : Kept a0 s) : Kept a0 (quarantine s k level line) := by
  unfold quarantine; simp (maxDischargeDepth := 99) +contextual [h, KeptC.split_iff]

@[simp] theorem countDeny_kept {a0 : State} {s : State} {e : Nat} (h : Kept a0 s) : Kept a0 (countDeny s e) := by
  unfold countDeny; simp (maxDischargeDepth := 99) +contextual [h]

@[simp] theorem State.cacheNode_kept {a0 : State} {s : State} {key : Nat} {n : TreeNode} {dirty : Bool} (h : Kept a0 s) : Kept a0 (State.cacheNode s key n dirty) := by
  unfold State.cacheNode; simp (maxDischargeDepth := 99) +contextual [h]

@[simp] theorem State.editNode_kept {a0 : State} {s : State} {key : Nat} {b : BitVec 448} (h : Kept a0 s) : Kept a0 (State.editNode s key b) := by
  unfold State.editNode; simp (maxDischargeDepth := 99) +contextual [h]

@[simp] theorem State.setMinor_kept {a0 : State} {s : State} {line : Nat} {m : Nat} (h : Kept a0 s) : Kept a0 (State.setMinor s line m) := by
  unfold State.setMinor; simp (maxDischargeDepth := 99) +contextual [h]

@[simp] theorem State.bumpParent_kept {a0 : State} {s : State} {key : Nat} (h : Kept a0 s) : Kept a0 (State.bumpParent s key) := by
  unfold State.bumpParent; simp (maxDischargeDepth := 99) +contextual [h]

@[simp] theorem State.storeNode_kept {a0 : State} {s : State} {key : Nat} {b : BitVec 448} (h : Kept a0 s) : Kept a0 (State.storeNode s key b) := by
  unfold State.storeNode; simp (maxDischargeDepth := 99) +contextual [h]

@[simp] theorem evictNode_kept {a0 : State} {s : State} {key : Nat} (h : Kept a0 s) : Kept a0 (evictNode s key) := by
  unfold evictNode; try dsimp only
  repeat' (first | (simp (maxDischargeDepth := 99) +contextual [h, KeptC.split_iff]; done) | split)

@[simp] theorem makeRoom_kept {a0 : State} {s : State} {eng : Nat} (h : Kept a0 s) : Kept a0 (makeRoom s eng) := by
  unfold makeRoom; try dsimp only
  repeat' (first | (simp (maxDischargeDepth := 99) +contextual [h, KeptC.split_iff]; done) | split)

@[simp] theorem readMeta_kept {a0 : State} {s : State} {c : Nat} {key : Nat} {v : Line} {upset : BitVec 640} {bus : BitVec 640} (h : Kept a0 s) : Kept a0 (readMeta s c key v upset bus).st := by
  unfold readMeta; try dsimp only
  repeat' (first | (simp (maxDischargeDepth := 99) +contextual [h, KeptC.split_iff]; done) | split)

@[simp] theorem State.fetchTag_kept {a0 : State} {s : State} {line : Nat} {e : MemEnv} (h : Kept a0 s) : Kept a0 (State.fetchTag s line e).1 := by
  unfold State.fetchTag; simp (maxDischargeDepth := 99) +contextual [h]

@[simp] theorem State.putTag_kept {a0 : State} {s : State} {line : Nat} {t : Word64} (h : Kept a0 s) : Kept a0 (State.putTag s line t) := by
  unfold State.putTag; simp (maxDischargeDepth := 99) +contextual [h]

@[simp] theorem State.fetchNode_kept {a0 : State} {s : State} {line : Nat} {level : Nat} {e : MemEnv} (h : Kept a0 s) : Kept a0 (State.fetchNode s line level e).1 := by
  unfold State.fetchNode; simp (maxDischargeDepth := 99) +contextual [h]

@[simp] theorem lookup_kept {a0 : State} {s : State} {k : Nat} {line : Nat} {e : MemEnv} (h : Kept a0 s) : Kept a0 (lookup s k line e).1 := by
  unfold lookup; exact Kept.foldl_fst h fun a level ha => by
    dsimp only
    repeat' (first | (simp (maxDischargeDepth := 99) +contextual [ha, KeptC.split_iff]; done) | split)

@[simp] theorem descend_kept {a0 : State} {line level : Nat} {e : MemEnv} {a : Walk} (h : Kept a0 a.st) :
    Kept a0 (descend line e a level).st := by
  unfold descend; dsimp only
  repeat' (first | (simp (maxDischargeDepth := 99) +contextual [h]; done) | split)

@[simp] theorem walk_kept {a0 : State} {s : State} {k : Nat} {line : Nat} {e : MemEnv} (h : Kept a0 s) : Kept a0 (walk s k line e).st := by
  unfold walk; extract_lets eng s1 r
  have h1 : Kept a0 s1 := Kept.foldl h fun t x ht => evictNode_kept ht
  have hr : Kept a0 r.1 := lookup_kept h1
  clear_value r
  repeat' split
  · exact hr
  · exact quarantine_kept hr
  · exact Kept.foldl_of hr fun b x hb => descend_kept hb

@[simp] theorem poisonLine_kept {a0 : State} {s : State} {line : Nat} (h : Kept a0 s) : Kept a0 (poisonLine s line) := by
  unfold poisonLine; simp (maxDischargeDepth := 99) +contextual [h]

@[simp] theorem countTransient_kept {a0 : State} {s : State} {e : Nat} (h : Kept a0 s) : Kept a0 (countTransient s e) := by
  unfold countTransient; simp (maxDischargeDepth := 99) +contextual [h]

@[simp] theorem logAlarm_kept {a0 : State} {s : State} {e : Nat} {r : AlarmRec} (h : Kept a0 s) : Kept a0 (logAlarm s e r) := by
  unfold logAlarm; simp (maxDischargeDepth := 99) +contextual [h]

@[simp] theorem loggedFault_kept {a0 : State} {s : State} {p : Packet} {cause : Nat} (h : Kept a0 s) : Kept a0 (loggedFault s p cause) := by
  unfold loggedFault; simp (maxDischargeDepth := 99) +contextual [h]

@[simp] theorem lateAlarm_kept {a0 : State} {s : State} {p : Packet} {cause : Nat} (h : Kept a0 s) : Kept a0 (lateAlarm s p cause) := by
  unfold lateAlarm; simp (maxDischargeDepth := 99) +contextual [h]

@[simp] theorem ipeReadLine_kept {a0 : State} {s : State} {v : Verdict} {k : Nat} {line : Nat} {b : BitVec 448} {e : MemEnv} {how : ReadHow} (h : Kept a0 s) : Kept a0 (ipeReadLine s v k line b e how).st := by
  unfold ipeReadLine; try dsimp only
  repeat' (first | (simp (maxDischargeDepth := 99) +contextual [h, KeptC.split_iff]; done) | split)

@[simp] theorem writeFullUnder_kept {a0 : State} {s : State} {k : Nat} {line : Nat} {major : Nat} {m : Nat} {v : Line} {pri : Nat} {src : Nat} (h : Kept a0 s) : Kept a0 (writeFullUnder s k line major m v pri src) := by
  unfold writeFullUnder; simp (maxDischargeDepth := 99) +contextual [h]

@[simp] theorem readMate_kept {a0 : State} {s : State} {k : Nat} {line : Nat} {src : Nat} {e : MemEnv} (h : Kept a0 s) : Kept a0 (readMate s k line src e).1 := by
  unfold readMate; try dsimp only
  repeat' (first | (simp (maxDischargeDepth := 99) +contextual [h, KeptC.split_iff]; done) | split)

@[simp] theorem reencrypt_kept {a0 : State} {s : State} {k : Nat} {line : Nat} {p : Packet} {e : MemEnv} (h : Kept a0 s) : Kept a0 (reencrypt s k line p e) := by
  unfold reencrypt; extract_lets eng r b major b1 s1
  have hr : Kept a0 r.1 := Kept.foldl_fst h fun a l ha => by
    have hm : Kept a0 (readMate a.1 k l p.src.toNat e).1 := readMate_kept ha
    split <;> rename_i he <;> rw [he] at hm
    · exact hm
    · exact loggedFault_kept (poisonLine_kept hm)
  have h1 : Kept a0 s1 := Kept.foldl (State.editNode_kept hr) fun t x ht => writeFullUnder_kept ht
  exact State.countSat_kept (State.charge_kept h1)

@[simp] theorem ipeWriteLine_kept {a0 : State} {s : State} {v : Verdict} {k : Nat} {line : Nat} {d : Line} {p : Packet} {e : MemEnv} (h : Kept a0 s) : Kept a0 (ipeWriteLine s v k line d p e) := by
  unfold ipeWriteLine; split <;> simp (maxDischargeDepth := 99) +contextual [h]

@[simp] theorem addVerif_kept {a0 : State} {s : State} {v : Verif} (h : Kept a0 s) : Kept a0 (addVerif s v) := by
  unfold addVerif; simp (maxDischargeDepth := 99) +contextual [h]

@[simp] theorem reqWalk_kept {a0 : State} {s : State} {v : Verdict} {p : Packet} {e : MemEnv} (h : Kept a0 s) : Kept a0 (reqWalk s v p e).st := by
  unfold reqWalk; try dsimp only
  repeat' (first | (simp (maxDischargeDepth := 99) +contextual [h, KeptC.split_iff]; done) | split)

@[simp] theorem LinesRead.add_kept {a0 : State} {a : LinesRead} {line : Nat} {r : LineRead} (h : Kept a0 r.st) :
    Kept a0 (a.add line r).st := h

@[simp] theorem readLines_kept {a0 : State} {s : State} {v : Verdict} {p : Packet} {b : BitVec 448} {e : MemEnv} {how : ReadHow} (h : Kept a0 s) : Kept a0 (readLines s v p b e how).st := by
  unfold readLines; exact Kept.foldl_of h fun a i ha => LinesRead.add_kept (ipeReadLine_kept ha)

@[simp] theorem oldLines_kept {a0 : State} {s : State} {v : Verdict} {p : Packet} {b : BitVec 448} {e : MemEnv} {how : ReadHow} (h : Kept a0 s) : Kept a0 (oldLines s v p b e how).st := by
  unfold oldLines; exact Kept.foldl_of h fun a i ha => by
    split
    · exact LinesRead.add_kept (ipeReadLine_kept ha)
    · exact ha

@[simp] theorem readVerdict_kept {a0 : State} {s : State} {v : Verdict} {vonly : Bool} {p : Packet} {e : MemEnv} {how : ReadHow} (h : Kept a0 s) : Kept a0 (readVerdict s v vonly p e how).1 := by
  unfold readVerdict; simp (maxDischargeDepth := 99) +contextual [h]

@[simp] theorem writeLines_kept {a0 : State} {s : State} {v : Verdict} {p : Packet} {olds : List Line} {e : MemEnv} (h : Kept a0 s) : Kept a0 (writeLines s v p olds e) := by
  unfold writeLines; simp (maxDischargeDepth := 99) +contextual [h]

@[simp] theorem countPoison_kept {a0 : State} {s : State} {v : Verdict} {p : Packet} (h : Kept a0 s) : Kept a0 (countPoison s v p) := by
  unfold countPoison; simp (maxDischargeDepth := 99) +contextual [h]

@[simp] theorem writeVerdict_kept {a0 : State} {s : State} {v : Verdict} {p : Packet} {e : MemEnv} {how : ReadHow} (h : Kept a0 s) : Kept a0 (writeVerdict s v p e how).1 := by
  unfold writeVerdict; simp (maxDischargeDepth := 99) +contextual [h]

@[simp] theorem performAccess_kept {a0 : State} {s : State} {v : Verdict} {vonly : Bool} {p : Packet} {e : MemEnv} {how : ReadHow} (h : Kept a0 s) : Kept a0 (performAccess s v vonly p e how).1 := by
  unfold performAccess; simp (maxDischargeDepth := 99) +contextual [h]

@[simp] theorem runJob_kept {a0 : State} {s : State} {c : Nat} {j : Job} {e : MemEnv} (h : Kept a0 s) : Kept a0 (runJob s c j e) := by
  unfold runJob; dsimp only; split
  · exact h
  · have hm := performAccess_kept (v := j.verdict) (vonly := j.vonly) (p := j.req) (e := e) (how := .issued)
      (State.setChan_kept (c := c) (h := { s.chan c with jobs := (s.chan c).jobs.erase j }) h)
    split <;> rename_i he <;> rw [he] at hm
    · exact hm
    · exact State.sendRsp_kept hm

@[simp] theorem acceptReq_kept {a0 : State} {s : State} {c : Nat} {p : Packet} {e : MemEnv} (h : Kept a0 s) : Kept a0 (acceptReq s c p e) := by
  unfold acceptReq; try dsimp only
  repeat' (first | (simp (maxDischargeDepth := 99) +contextual [h, KeptC.split_iff]; done) | split)

@[simp] theorem memRequest_kept {a0 : State} {s : State} {p : Packet} {e : MemEnv} (h : Kept a0 s) : Kept a0 (memRequest s p e) := by
  unfold memRequest; dsimp only; split
  · exact runJob_kept h
  · split
    · exact acceptReq_kept h
    · exact h

@[simp] theorem dropVerif_kept {a0 : State} {s : State} {v : Verif} (h : Kept a0 s) : Kept a0 (dropVerif s v) := by
  unfold dropVerif; simp (maxDischargeDepth := 99) +contextual [h]

@[simp] theorem setVerif_kept {a0 : State} {s : State} {i : Nat} {v : Verif} (h : Kept a0 s) : Kept a0 (setVerif s i v) := by
  unfold setVerif; simp (maxDischargeDepth := 99) +contextual [h]

@[simp] theorem answerHeld_kept {a0 : State} {s : State} {v : Verif} {st : Stat} {body : List Line} {ext : Nat} (h : Kept a0 s) : Kept a0 (answerHeld s v st body ext) := by
  unfold answerHeld; simp (maxDischargeDepth := 99) +contextual [h]

@[simp] theorem alarmOnce_kept {a0 : State} {s : State} {v : Verif} {cause : Nat} (h : Kept a0 s) : Kept a0 (alarmOnce s v cause) := by
  unfold alarmOnce; simp (maxDischargeDepth := 99) +contextual [h]

@[simp] theorem verifyFail_kept {a0 : State} {s : State} {i : Nat} {v : Verif} (h : Kept a0 s) : Kept a0 (verifyFail s i v) := by
  unfold verifyFail; simp (maxDischargeDepth := 99) +contextual [h]

@[simp] theorem verifyDone_kept {a0 : State} {s : State} {i : Nat} (h : Kept a0 s) : Kept a0 (verifyDone s i) := by
  unfold verifyDone; split <;> simp (maxDischargeDepth := 99) +contextual [h]

@[simp] theorem verifyTimeout_kept {a0 : State} {s : State} {i : Nat} (h : Kept a0 s) : Kept a0 (verifyTimeout s i) := by
  unfold verifyTimeout; split <;> simp (maxDischargeDepth := 99) +contextual [h]

@[simp] theorem refetchPass_kept {a0 : State} {s : State} {v : Verif} {r : LinesRead} {e : MemEnv} (h : Kept a0 s) : Kept a0 (refetchPass s v r e) := by
  unfold refetchPass; simp (maxDischargeDepth := 99) +contextual [h]

@[simp] theorem refetchFail_kept {a0 : State} {s : State} {v : Verif} {bad : List Nat} {node : Option Nat} (h : Kept a0 s) : Kept a0 (refetchFail s v bad node) := by
  unfold refetchFail; repeat' (first | (simp (maxDischargeDepth := 99) +contextual [h]; done) | split)

@[simp] theorem refetch_walk_kept {a0 s : State} {v : Verif} {e : MemEnv} (h : Kept a0 s) : Kept a0 (refetch s v e).1.st := walk_kept h

@[simp] theorem refetch_lines_kept {a0 s : State} {v : Verif} {e : MemEnv} (h : Kept a0 s) : Kept a0 (refetch s v e).2.st := by
  unfold refetch; dsimp only; split
  · exact oldLines_kept (walk_kept h)
  · exact readLines_kept (walk_kept h)

@[simp] theorem verifyRefetch_kept {a0 : State} {s : State} {i : Nat} {e : MemEnv} (h : Kept a0 s) : Kept a0 (verifyRefetch s i e) := by
  unfold verifyRefetch; try dsimp only
  repeat' (first | (simp (maxDischargeDepth := 99) +contextual [h, KeptC.split_iff]; done) | split)

@[simp] theorem settleOwn_kept {a0 s : State} {e : MemEnv} {n : Nat} (h : Kept a0 s) : Kept a0 (settleOwn s e n).1 := by
  induction n generalizing s with
  | zero =>
    unfold settleOwn; dsimp only
    repeat' (first | (simp (maxDischargeDepth := 99) +contextual [h]; done) | split)
  | succ n ih =>
    unfold settleOwn; dsimp only
    repeat' (first | (simp (maxDischargeDepth := 99) +contextual [h, ih]; done) | split)

@[simp] theorem ownAccess_kept {a0 : State} {s : State} {p : Packet} {e : MemEnv} (h : Kept a0 s) : KeptOptP a0 (ownAccess s p e) := by
  unfold ownAccess; dsimp only
  split
  · simp (maxDischargeDepth := 99) [h]
  · simp (maxDischargeDepth := 99) [h]
  · simp (maxDischargeDepth := 99) [h]
  · split
    · simp (maxDischargeDepth := 99) [h]
    · split
      · exact KeptOptP.none
      · have hm := performAccess_kept (v := ipeDecide s p) (vonly := true) (p := p) (e := e) (how := .now p.src.toNat) h
        split <;> rename_i he <;> rw [he] at hm
        · exact KeptOptP.some_iff.2 (settleOwn_kept hm)
        · exact KeptOptP.some_iff.2 hm

@[simp] theorem popAlarm_kept {a0 : State} {s : State} {e : Nat} (h : Kept a0 s) : Kept a0 (popAlarm s e) := by
  unfold popAlarm; simp (maxDischargeDepth := 99) +contextual [h]

theorem execAlarmPop_kept {a0 : State} {e : Fin 8} {s : State} (h : Kept a0 s) : KeptOut a0 (execAlarmPop e s) := by
  unfold execAlarmPop; simp (maxDischargeDepth := 99) +contextual [h]

@[simp] theorem refuseCmd_kept {a0 : State} {s : State} {k : Nat} {reason : Nat} (h : Kept a0 s) : Kept a0 (refuseCmd s k reason) := by
  unfold refuseCmd; simp (maxDischargeDepth := 99) +contextual [h]

@[simp] theorem clearWrap_kept {a0 : State} {s : State} (h : Kept a0 s) : Kept a0 (clearWrap s) := by
  unfold clearWrap; simp (maxDischargeDepth := 99) +contextual [h]

@[simp] theorem kidCommand_kept {a0 s : State} {k : Nat} {fits : Bool} {f : State → State} (h : Kept a0 s)
    (hf : ∀ t, Kept a0 t → Kept a0 (f t)) : Kept a0 (kidCommand s k fits f) := by
  unfold kidCommand; simp (maxDischargeDepth := 99) [h, hf]

@[simp] theorem installKey_kept {a0 : State} {s : State} {k : Nat} {key : BitVec 256} (h : Kept a0 s) : Kept a0 (installKey s k key) := by
  unfold installKey; simp (maxDischargeDepth := 99) +contextual [h]

@[simp] theorem kidLoad_kept {a0 : State} {s : State} {e : Nat} {k : Nat} (h : Kept a0 s) : Kept a0 (kidLoad s e k) := by
  unfold kidLoad; refine kidCommand_kept h fun t ht => ?_; split <;> simp (maxDischargeDepth := 99) [ht]

@[simp] theorem kidGenerate_kept {a0 : State} {s : State} {k : Nat} (h : Kept a0 s) : Kept a0 (kidGenerate s k) := by
  unfold kidGenerate; simp (maxDischargeDepth := 99) +contextual [h]

@[simp] theorem dropMeta_kept {a0 : State} {s : State} {k : Nat} (h : Kept a0 s) : Kept a0 (dropMeta s k) := by
  unfold dropMeta; simp (maxDischargeDepth := 99) +contextual [h]

@[simp] theorem scrambleRange_kept {a0 : State} {s : State} {k : Nat} (h : Kept a0 s) : Kept a0 (scrambleRange s k) := by
  unfold scrambleRange; simp (maxDischargeDepth := 99) +contextual [h, KeptC.split_iff]

@[simp] theorem initLinesTo_kept {a0 : State} {s : State} {e : Nat} {limit : Nat} (h : Kept a0 s) : Kept a0 (initLinesTo s e limit) := by
  unfold initLinesTo; simp (maxDischargeDepth := 99) +contextual [h]

@[simp] theorem initAdvance_kept {a0 : State} {s : State} (h : Kept a0 s) : Kept a0 (initAdvance s) := by
  unfold initAdvance; simp (maxDischargeDepth := 99) +contextual [h]

@[simp] theorem kidInit_kept {a0 : State} {s : State} {k : Nat} (h : Kept a0 s) : Kept a0 (kidInit s k) := by
  unfold kidInit; refine kidCommand_kept h fun t ht => ?_; split
  · simp (maxDischargeDepth := 99) [ht]
  · extract_lets t1 t2
    have h1 : Kept a0 t1 := by simp (maxDischargeDepth := 99) [t1, ht]
    have h2 : Kept a0 t2 := Kept.ite (dropMeta_kept h1) (scrambleRange_kept h1)
    exact initAdvance_kept ⟨h2.pending, h2.fuse, h2.canon⟩

@[simp] theorem kidEnable_kept {a0 : State} {s : State} {k : Nat} (h : Kept a0 s) : Kept a0 (kidEnable s k) := by
  unfold kidEnable; refine kidCommand_kept h fun t ht => ?_; split <;> simp (maxDischargeDepth := 99) [ht]

@[simp] theorem kidRetire_kept {a0 : State} {s : State} {k : Nat} (h : Kept a0 s) : Kept a0 (kidRetire s k) := by
  unfold kidRetire; try dsimp only
  repeat' (first | (simp (maxDischargeDepth := 99) +contextual [h, KeptC.split_iff]; done) | split)

theorem execKidLoad_kept {a0 : State} {e : Fin 8} {kid : BitVec 8} {s : State} (h : Kept a0 s) : KeptOut a0 (execKidLoad e kid s) := by
  unfold execKidLoad; simp (maxDischargeDepth := 99) +contextual [h]

theorem execGenerate_kept {a0 : State} {kid : BitVec 8} {s : State} (h : Kept a0 s) : KeptOut a0 (execGenerate kid s) := by
  unfold execGenerate; simp (maxDischargeDepth := 99) +contextual [h]

theorem execKidInit_kept {a0 : State} {kid : BitVec 8} {s : State} (h : Kept a0 s) : KeptOut a0 (execKidInit kid s) := by
  unfold execKidInit; simp (maxDischargeDepth := 99) +contextual [h]

theorem execKidInitDone_kept {a0 : State} {kid : BitVec 8} {s : State} (h : Kept a0 s) : KeptOut a0 (execKidInitDone kid s) := by
  unfold execKidInitDone; simp (maxDischargeDepth := 99) +contextual [h]

theorem execKidEnable_kept {a0 : State} {kid : BitVec 8} {s : State} (h : Kept a0 s) : KeptOut a0 (execKidEnable kid s) := by
  unfold execKidEnable; simp (maxDischargeDepth := 99) +contextual [h]

theorem execRetire_kept {a0 : State} {kid : BitVec 8} {s : State} (h : Kept a0 s) : KeptOut a0 (execRetire kid s) := by
  unfold execRetire; simp (maxDischargeDepth := 99) +contextual [h]

theorem execRetireDone_kept {a0 : State} {kid : BitVec 8} {s : State} (h : Kept a0 s) : KeptOut a0 (execRetireDone kid s) := by
  unfold execRetireDone; simp (maxDischargeDepth := 99) +contextual [h]

@[simp] theorem zeroiseKeys_kept {a0 : State} {s : State} (h : Kept a0 s) : Kept a0 (zeroiseKeys s) := by
  unfold zeroiseKeys; simp (maxDischargeDepth := 99) +contextual [h]

@[simp] theorem drawTreeKeys_kept {a0 : State} {s : State} (h : Kept a0 s) : Kept a0 (drawTreeKeys s) := by
  unfold drawTreeKeys; simp (maxDischargeDepth := 99) +contextual [h]

@[simp] theorem issueRfm_kept {a0 : State} {s : State} {c : Nat} {key : Nat} (h : Kept a0 s) : Kept a0 (issueRfm s c key) := by
  unfold issueRfm; simp (maxDischargeDepth := 99) +contextual [h]

@[simp] theorem replayed_kept {a0 : State} {s : State} {c : Nat} {k : DramCmd} (h : Kept a0 s) : Kept a0 (replayed s c k) := by
  unfold replayed; try dsimp only
  repeat' (first | (simp (maxDischargeDepth := 99) +contextual [h, KeptC.split_iff]; done) | split)

@[simp] theorem reissue_kept {a0 : State} {s : State} {c : Nat} {k : DramCmd} {rest : List DramCmd} (h : Kept a0 s) : Kept a0 (reissue s c k rest) := by
  unfold reissue; simp (maxDischargeDepth := 99) +contextual [h]

@[simp] theorem issueWrite_kept {a0 : State} {s : State} {c : Nat} {w : QWrite} (h : Kept a0 s) : Kept a0 (issueWrite s c w) := by
  unfold issueWrite; simp (maxDischargeDepth := 99) +contextual [h]

@[simp] theorem issueRead_kept {a0 : State} {s : State} {c : Nat} {line : Nat} {src : Nat} (h : Kept a0 s) : Kept a0 (issueRead s c line src) := by
  unfold issueRead; simp (maxDischargeDepth := 99) +contextual [h]

@[simp] theorem issueNext_kept {a0 : State} {s : State} {c : Nat} {met : List Nat} {old : List Nat} {gap : List Nat} (h : Kept a0 s) : Kept a0 (issueNext s c met old gap) := by
  unfold issueNext; try dsimp only
  repeat' (first | (simp (maxDischargeDepth := 99) +contextual [h, KeptC.split_iff]; done) | split)

theorem execDramCommandIssue_kept {a0 : State} {c : Fin 8} {met : List Nat} {old : List Nat} {gap : List Nat} {raa : Option (BitVec 12 × Bool)} {s : State} {ref : List (Fin 4)} (h : Kept a0 s) : KeptOut a0 (execDramCommandIssue c met old gap raa s ref) := by
  unfold execDramCommandIssue; try dsimp only
  repeat' (first | (simp (maxDischargeDepth := 99) +contextual [h, KeptC.split_iff]; done) | split)

end Sys2Proof.Machine
end

