-- ==== Sys2Proof/Laws/KeptBus.lean ====
section
/-! SUPPORT. What each function of Machine/Bus.lean keeps: the queue, the burned fuses, the canonical form. -/

namespace Sys2Proof.Machine

open Sys2Proof

set_option linter.all false

@[simp] theorem State.setScrub_kept {a0 : State} {s : State} {d : Nat} {g : ScrubEngine} (h : Kept a0 s) : Kept a0 (State.setScrub s d g) := by
  unfold State.setScrub; simp (maxDischargeDepth := 99) +contextual [h]

end Sys2Proof.Machine
end

