-- ==== Sys2Proof/Laws/KeptBurin.lean ====
section
/-! SUPPORT. What each function of Machine/Burin.lean keeps: the queue, the burned fuses, the canonical form. -/

namespace Sys2Proof.Machine

open Sys2Proof

set_option linter.all false

@[simp] theorem State.setPlane_kept {a0 : State} {s : State} {n : Nat} {p : Nat} {v : Nat} (h : Kept a0 s) : Kept a0 (State.setPlane s n p v) := by
  unfold State.setPlane; simp (maxDischargeDepth := 99) +contextual [h]

@[simp] theorem showReleasing_kept {a0 : State} {s : State} (h : Kept a0 s) : Kept a0 (showReleasing s) := by
  unfold showReleasing; simp (maxDischargeDepth := 99) +contextual [h]

@[simp] theorem cfgEvent_kept {a0 : State} {s : State} (h : Kept a0 s) : Kept a0 (cfgEvent s) := by
  unfold cfgEvent; simp (maxDischargeDepth := 99) +contextual [h]

@[simp] theorem cfgRefuse_kept {a0 : State} {s : State} (h : Kept a0 s) : Kept a0 (cfgRefuse s) := by
  unfold cfgRefuse; simp (maxDischargeDepth := 99) +contextual [h]

@[simp] theorem burinLine_kept {a0 : State} {s : State} {port : Nat} {op : Nat} {addr : Nat} {d : Line} {e : MemEnv} (h : Kept a0 s) : KeptOptP a0 (burinLine s port op addr d e) := by
  unfold burinLine; extract_lets p
  have hm : KeptOptP a0 (ownAccess s p e) := ownAccess_kept h
  split
  · simp [h]
  · split
    · simp [h]
    · exact hm

theorem burinRead_kept {a0 s : State} {port addr k : Nat} {e : MemEnv} (h : Kept a0 s) : KeptOptP a0 (burinRead s port addr e k) := by
  induction k generalizing s addr with
  | zero => simp [burinRead, h]
  | succ k ih =>
    unfold burinRead
    have hl : KeptOptP a0 (burinLine s port opRead addr 0 e) := burinLine_kept h
    split
    · simp
    · rename_i e1
      split
      · simp
      · rename_i e2
        have h1 := hl _ e1
        dsimp only at h1
        have h2 := ih h1 _ e2
        exact KeptOptP.some_iff.2 h2
    · rename_i e1
      exact KeptOptP.some_iff.2 (hl _ e1)

theorem burinWrite_kept {a0 s : State} {addr off : Nat} {e : MemEnv} {l : List Line} (h : Kept a0 s) :
    KeptOptP a0 (burinWrite s addr off e l) := by
  induction l generalizing s off with
  | nil => simp [burinWrite, h]
  | cons v r ih =>
    unfold burinWrite
    have hl : KeptOptP a0 (burinLine s 6 opWrite (addr + off) v e) := burinLine_kept h
    split
    · simp
    · rename_i e1
      exact ih (hl _ e1)
    · rename_i e1
      exact KeptOptP.some_iff.2 (hl _ e1)

@[simp] theorem State.setFcEntry_kept {a0 : State} {s : State} {n : Nat} {o : Nat} {w : Word32} (h : Kept a0 s) : Kept a0 (State.setFcEntry s n o w) := by
  unfold State.setFcEntry; simp (maxDischargeDepth := 99) +contextual [h]

@[simp] theorem freshBlock_kept {a0 : State} {s : State} {b : Nat} (h : Kept a0 s) : Kept a0 (freshBlock s b) := by
  unfold freshBlock; simp (maxDischargeDepth := 99) +contextual [h]

@[simp] theorem loadEntries_kept {a0 : State} {s : State} {n : Nat} {crc : Nat → Word32} (h : Kept a0 s) : Kept a0 (loadEntries s n crc) := by
  unfold loadEntries; simp (maxDischargeDepth := 99) +contextual [h]

@[simp] theorem State.setLoad_kept {a0 : State} {s : State} {l : Option Load} (h : Kept a0 s) : Kept a0 (State.setLoad s l) := by
  unfold State.setLoad; simp (maxDischargeDepth := 99) +contextual [h]

@[simp] theorem showPhase_kept {a0 : State} {s : State} {v : Nat} (h : Kept a0 s) : Kept a0 (showPhase s v) := by
  unfold showPhase; simp (maxDischargeDepth := 99) +contextual [h]

@[simp] theorem setPhase_kept {a0 : State} {s : State} {l : Load} {v : Nat} (h : Kept a0 s) : Kept a0 (setPhase s l v) := by
  unfold setPhase; simp (maxDischargeDepth := 99) +contextual [h]

@[simp] theorem endLoad_kept {a0 : State} {s : State} {l : Load} (h : Kept a0 s) : Kept a0 (endLoad s l) := by
  unfold endLoad; simp (maxDischargeDepth := 99) +contextual [h]

@[simp] theorem movePlanes_kept {a0 : State} {s : State} {l : Load} {v : Nat} (h : Kept a0 s) : Kept a0 (movePlanes s l v) := by
  unfold movePlanes; simp (maxDischargeDepth := 99) +contextual [h]

@[simp] theorem failLoad_kept {a0 : State} {s : State} {l : Load} {code : Nat} {info : Nat} (h : Kept a0 s) : Kept a0 (failLoad s l code info) := by
  unfold failLoad; extract_lets s1 s2 s3 c s4
  have h1 : Kept a0 s1 := by simp only [s1]; split <;> simp [h]
  clear_value s1
  have h2 : Kept a0 s2 := by simp (maxDischargeDepth := 99) [s2, h1]
  clear_value s2
  have h3 : Kept a0 s3 := by simp only [s3]; split <;> simp [h2]
  clear_value s3
  have h4 : Kept a0 s4 := by simp only [s4]; split <;> simp [h3]
  simp [h4]

@[simp] theorem loadCharge_kept {a0 : State} {s : State} {d : Nat} {beats : Nat} (h : Kept a0 s) : Kept a0 (loadCharge s d beats) := by
  unfold loadCharge; simp (maxDischargeDepth := 99) +contextual [h]

@[simp] theorem paced_kept {a0 s : State} {cost : Nat} {work paid : SMap Nat} (h : Kept a0 s) : Kept a0 (paced cost work s paid).1 := by
  induction work generalizing s paid with
  | nil => exact h
  | cons x r ih =>
    unfold paced; extract_lets left k s1
    have h1 : Kept a0 s1 := Kept.ite h (loadCharge_kept h)
    exact ih (Kept.ite (State.hold_kept h1) h1)

@[simp] theorem prepareRegion_kept {a0 : State} {s : State} {n : Nat} (h : Kept a0 s) : Kept a0 (prepareRegion s n) := by
  unfold prepareRegion; extract_lets p lo s1
  have h1 : Kept a0 s1 := State.setPlane_kept h
  exact ⟨h1.pending, h1.fuse, fun c => { h1.canon c with frames := h.frames_if.filter c }⟩

@[simp] theorem copyFrames_kept {a0 : State} {l : Load} {s : State} {regions : List Nat} {a : Nat} {b : Nat} (h : Kept a0 s) : Kept a0 (copyFrames l s regions a b).1 := by
  unfold copyFrames; simp (maxDischargeDepth := 99) +contextual [h]

@[simp] theorem copyStep_kept {a0 : State} {s : State} {l : Load} (h : Kept a0 s) : Kept a0 (copyStep s l) := by
  unfold copyStep; extract_lets regions work r t
  have hr : Kept a0 r.1 := paced_kept h
  have ht : Kept a0 t.1 := Kept.foldl_fst hr fun b x hb => copyFrames_kept hb
  clear_value t r
  split
  · exact setPhase_kept ht
  · exact State.setLoad_kept ht

@[simp] theorem prepare_kept {a0 : State} {s : State} {l : Load} (h : Kept a0 s) : Kept a0 (prepare s l) := by
  unfold prepare; simp (maxDischargeDepth := 99) +contextual [h]

@[simp] theorem manifestStep_kept {a0 : State} {s : State} {l : Load} (h : Kept a0 s) : Kept a0 (manifestStep s l) := by
  unfold manifestStep; try dsimp only
  repeat' (first | (simp (maxDischargeDepth := 99) +contextual [h, KeptC.split_iff]; done) | split)

@[simp] theorem headerStep_kept {a0 : State} {s : State} {l : Load} (h : Kept a0 s) : Kept a0 (headerStep s l) := by
  unfold headerStep; try dsimp only
  repeat' (first | (simp (maxDischargeDepth := 99) +contextual [h, KeptC.split_iff]; done) | split)

@[simp] theorem advanceLoad_kept {a0 : State} {s : State} (h : Kept a0 s) : Kept a0 (advanceLoad s) := by
  unfold advanceLoad; try dsimp only
  repeat' (first | (simp (maxDischargeDepth := 99) +contextual [h, KeptC.split_iff]; done) | split)

@[simp] theorem appendImage_kept {a0 : State} {s : State} {l : Load} {bs : List Byte} (h : Kept a0 s) : Kept a0 (appendImage s l bs) := by
  unfold appendImage; simp (maxDischargeDepth := 99) +contextual [h]

@[simp] theorem openFrom_kept {a0 : State} {s : State} {source : Nat} {icls : Nat} {boot : Bool} (h : Kept a0 s) : Kept a0 (openFrom s source icls boot) := by
  unfold openFrom; simp (maxDischargeDepth := 99) +contextual [h, KeptC.split_iff]

@[simp] theorem cfgOpen_kept {a0 : State} {s : State} {src : Nat} {icls : Nat} (h : Kept a0 s) : Kept a0 (cfgOpen s src icls) := by
  unfold cfgOpen; simp (maxDischargeDepth := 99) +contextual [h]

theorem execOpen_kept {a0 : State} {src : BitVec 4} {icls : BitVec 3} {s : State} (h : Kept a0 s) : KeptOut a0 (execOpen src icls s) := by
  unfold execOpen; simp (maxDischargeDepth := 99) +contextual [h]

@[simp] theorem cfgAbort_kept {a0 : State} {s : State} (h : Kept a0 s) : Kept a0 (cfgAbort s) := by
  unfold cfgAbort; try dsimp only
  repeat' (first | (simp (maxDischargeDepth := 99) +contextual [h, KeptC.split_iff]; done) | split)

theorem execAbort_kept {a0 : State} {icls : BitVec 3} {s : State} (h : Kept a0 s) : KeptOut a0 (execAbort icls s) := by
  unfold execAbort; simp (maxDischargeDepth := 99) +contextual [h]

@[simp] theorem streamRequest_kept {a0 : State} {s : State} {source : Nat} {p : Packet} (h : Kept a0 s) : Kept a0 (streamRequest s source p) := by
  unfold streamRequest; try dsimp only
  repeat' (first | (simp (maxDischargeDepth := 99) +contextual [h, KeptC.split_iff]; done) | split)

theorem execStreamWrite_kept {a0 : State} {p : Packet} {s : State} (h : Kept a0 s) : KeptOut a0 (execStreamWrite p s) := by
  unfold execStreamWrite; simp (maxDischargeDepth := 99) +contextual [h]

@[simp] theorem slData_kept {a0 : State} {s : State} {p : Packet} (h : Kept a0 s) : Kept a0 (slData s p) := by
  unfold slData; simp (maxDischargeDepth := 99) +contextual [h]

theorem execSlDataWrite_kept {a0 : State} {p : Packet} {s : State} (h : Kept a0 s) : KeptOut a0 (execSlDataWrite p s) := by
  unfold execSlDataWrite; simp (maxDischargeDepth := 99) +contextual [h]

theorem execXspiRead_kept {a0 : State} {r : XspiBurst} {s : State} (h : Kept a0 s) : KeptOut a0 (execXspiRead r s) := by
  unfold execXspiRead; try dsimp only
  repeat' (first | (simp (maxDischargeDepth := 99) +contextual [h, KeptC.split_iff]; done) | split)

theorem execSourceTimeout_kept {a0 : State} {s : State} (h : Kept a0 s) : KeptOut a0 (execSourceTimeout s) := by
  unfold execSourceTimeout; try dsimp only
  repeat' (first | (simp (maxDischargeDepth := 99) +contextual [h, KeptC.split_iff]; done) | split)

@[simp] theorem afterFrames_kept {a0 : State} {s : State} {l : Load} (h : Kept a0 s) : Kept a0 (afterFrames s l) := by
  unfold afterFrames; simp (maxDischargeDepth := 99) +contextual [h]

@[simp] theorem landFrame_kept {a0 : State} {s : State} {l : Load} {n : Nat} {o : Nat} {f : Frame} {want : Word32} (h : Kept a0 s) : Kept a0 (landFrame s l n o f want) := by
  unfold landFrame; try dsimp only
  repeat' (first | (simp (maxDischargeDepth := 99) +contextual [h, KeptC.split_iff]; done) | split)

theorem execFrameWrite_kept {a0 : State} {misrouted : Option (BitVec 7)} {s : State} (h : Kept a0 s) : KeptOut a0 (execFrameWrite misrouted s) := by
  unfold execFrameWrite; try dsimp only
  repeat' (first | (simp (maxDischargeDepth := 99) +contextual [h, KeptC.split_iff]; done) | split)

@[simp] theorem writeTarget_kept {a0 : State} {s : State} {e : InitEntry} {bs : List Byte} (h : Kept a0 s) : Kept a0 (writeTarget s e bs) := by
  unfold writeTarget; simp (maxDischargeDepth := 99) +contextual [h]

@[simp] theorem stageBytes_kept {a0 s : State} {l : Load} {off : Nat} {bs : List Byte} {e : MemEnv} {next : State → State} (h : Kept a0 s)
    (hn : ∀ t, Kept a0 t → Kept a0 (next t)) : KeptOpt a0 (stageBytes s l off bs e next) := by
  unfold stageBytes; split
  · exact KeptOpt.some_iff.2 (hn _ h)
  · extract_lets b _ s1
    have h1 : Kept a0 s1 := ⟨h.pending, h.fuse, h.canon⟩
    have hw : KeptOptP a0 (burinWrite s1 (s1.bankBase b) off e (toLines ((bs.length + 63) / 64) bs)) := burinWrite_kept h1
    split
    · simp
    · rename_i e1
      exact KeptOpt.some_iff.2 (hn _ (hw _ e1))
    · rename_i e1
      exact KeptOpt.some_iff.2 (failLoad_kept (hw _ e1))

@[simp] theorem finishInit_kept {a0 : State} {s : State} {l : Load} {e : MemEnv} (h : Kept a0 s) : KeptOpt a0 (finishInit s l e) := by
  unfold finishInit; simp (maxDischargeDepth := 99) +contextual [h]

@[simp] theorem loadTarget_kept {a0 : State} {s : State} {e : InitEntry} {bs : List Byte} (h : Kept a0 s) : Kept a0 (loadTarget s e bs) := by
  unfold loadTarget; simp (maxDischargeDepth := 99) +contextual [h]

theorem execInitDataWrite_kept {a0 : State} {e : MemEnv} {s : State} (h : Kept a0 s) : KeptOut a0 (execInitDataWrite e s) := by
  unfold execInitDataWrite; split
  · exact KeptOut.next_iff.2 h
  · split
    · exact KeptOut.next_iff.2 h
    · split
      · extract_lets off data direct work r s1
        have hr : Kept a0 r.1 := paced_kept h
        have h1 : Kept a0 s1 := Kept.ite (loadTarget_kept hr) hr
        clear_value s1 r
        simp (maxDischargeDepth := 99) +contextual [h, hr, h1]
      · extract_lets work r s1
        have hr : Kept a0 r.1 := paced_kept h
        have h1 : Kept a0 s1 := State.setLoad_kept hr
        clear_value s1 r
        simp (maxDischargeDepth := 99) +contextual [h, hr, h1]

@[simp] theorem verified_kept {a0 : State} {s : State} {l : Load} (h : Kept a0 s) : Kept a0 (verified s l) := by
  unfold verified; simp (maxDischargeDepth := 99) +contextual [h]

@[simp] theorem judgeBlock_kept {a0 : State} {s : State} {l : Load} (h : Kept a0 s) : Kept a0 (judgeBlock s l) := by
  unfold judgeBlock; try dsimp only
  repeat' (first | (simp (maxDischargeDepth := 99) +contextual [h, KeptC.split_iff]; done) | split)

@[simp] theorem checkPlanes_kept {a0 : State} {s : State} {l : Load} (h : Kept a0 s) : Kept a0 (checkPlanes s l) := by
  unfold checkPlanes; extract_lets work r
  have hr : Kept a0 r.1 := paced_kept h
  clear_value r
  repeat' (first | (simp (maxDischargeDepth := 99) [hr]; done) | split)

theorem execVerify_kept {a0 : State} {s : State} (h : Kept a0 s) : KeptOut a0 (execVerify s) := by
  unfold execVerify; try dsimp only
  repeat' (first | (simp (maxDischargeDepth := 99) +contextual [h, KeptC.split_iff]; done) | split)

@[simp] theorem flipSet_kept {a0 : State} {s : State} {regions : NSet} (h : Kept a0 s) : Kept a0 (flipSet s regions) := by
  unfold flipSet; simp (maxDischargeDepth := 99) +contextual [h]

theorem execFlip_kept {a0 : State} {icls : BitVec 3} {s : State} (h : Kept a0 s) : KeptOut a0 (execFlip icls s) := by
  unfold execFlip; simp (maxDischargeDepth := 99) +contextual [h]

theorem execSlOpen_kept {a0 : State} {icls : BitVec 3} {src : BitVec 11} {s : State} (h : Kept a0 s) : KeptOut a0 (execSlOpen icls src s) := by
  unfold execSlOpen; simp (maxDischargeDepth := 99) +contextual [h]

@[simp] theorem slAbort_kept {a0 : State} {s : State} (h : Kept a0 s) : Kept a0 (slAbort s) := by
  unfold slAbort; try dsimp only
  repeat' (first | (simp (maxDischargeDepth := 99) +contextual [h, KeptC.split_iff]; done) | split)

theorem execSlAbort_kept {a0 : State} {icls : BitVec 3} {src : BitVec 11} {s : State} (h : Kept a0 s) : KeptOut a0 (execSlAbort icls src s) := by
  unfold execSlAbort; simp (maxDischargeDepth := 99) +contextual [h]

@[simp] theorem slFlip_kept {a0 : State} {s : State} (h : Kept a0 s) : Kept a0 (slFlip s) := by
  unfold slFlip; simp (maxDischargeDepth := 99) +contextual [h]

theorem execSlFlip_kept {a0 : State} {icls : BitVec 3} {src : BitVec 11} {s : State} (h : Kept a0 s) : KeptOut a0 (execSlFlip icls src s) := by
  unfold execSlFlip; simp (maxDischargeDepth := 99) +contextual [h]

@[simp] theorem State.setFlip_kept {a0 : State} {s : State} {i : Nat} {f : Flip} (h : Kept a0 s) : Kept a0 (State.setFlip s i f) := by
  unfold State.setFlip; simp (maxDischargeDepth := 99) +contextual [h]

@[simp] theorem State.dropFlip_kept {a0 : State} {s : State} {f : Flip} (h : Kept a0 s) : Kept a0 (State.dropFlip s f) := by
  unfold State.dropFlip; simp (maxDischargeDepth := 99) +contextual [h]

theorem execFlipWakeTimeout_kept {a0 : State} {i : Nat} {s : State} (h : Kept a0 s) : KeptOut a0 (execFlipWakeTimeout i s) := by
  unfold execFlipWakeTimeout; try dsimp only
  repeat' (first | (simp (maxDischargeDepth := 99) +contextual [h, KeptC.split_iff]; done) | split)

@[simp] theorem loadInit_kept {a0 : State} {s : State} {n : Nat} (h : Kept a0 s) : Kept a0 (loadInit s n) := by
  unfold loadInit; extract_lets lo kept init
  have : CanonIf a0 (fun _ => false) (init.foldl (fun m k => SMap.put m k true) kept) :=
    CanonIf.foldl h.q_if.filter fun m x hm => CanonIf.put (by decide) hm
  exact ⟨h.pending, h.fuse, fun c => { h.canon c with q := this c }⟩

@[simp] theorem holdPins_kept {a0 : State} {s : State} {n : Nat} (h : Kept a0 s) : Kept a0 (holdPins s n) := by
  unfold holdPins; try dsimp only
  repeat' (first | (simp (maxDischargeDepth := 99) +contextual [h, KeptC.split_iff]; done) | split)

@[simp] theorem releasePins_kept {a0 : State} {s : State} {n : Nat} (h : Kept a0 s) : Kept a0 (releasePins s n) := by
  unfold releasePins; try dsimp only
  repeat' (first | (simp (maxDischargeDepth := 99) +contextual [h, KeptC.split_iff]; done) | split)

@[simp] theorem placeFirst_kept {a0 : State} {s : State} {n : Nat} (h : Kept a0 s) : Kept a0 (placeFirst s n) := by
  unfold placeFirst; simp (maxDischargeDepth := 99) +contextual [h]

@[simp] theorem searchFlip_kept {a0 : State} {s : State} {n : Nat} (h : Kept a0 s) : Kept a0 (searchFlip s n) := by
  unfold searchFlip; simp (maxDischargeDepth := 99) +contextual [h]

@[simp] theorem censusFlip_kept {a0 : State} {s : State} {n : Nat} (h : Kept a0 s) : Kept a0 (censusFlip s n) := by
  unfold censusFlip; simp (maxDischargeDepth := 99) +contextual [h, KeptC.split_iff]

@[simp] theorem flipRegion_kept {a0 : State} {s : State} {n : Nat} (h : Kept a0 s) : Kept a0 (flipRegion s n) := by
  unfold flipRegion; try dsimp only
  repeat' (first | (simp (maxDischargeDepth := 99) +contextual [h, KeptC.split_iff]; done) | split)

theorem execFlipExecute_kept {a0 : State} {i : Nat} {s : State} (h : Kept a0 s) : KeptOut a0 (execFlipExecute i s) := by
  unfold execFlipExecute; try dsimp only
  repeat' (first | (simp (maxDischargeDepth := 99) +contextual [h, KeptC.split_iff]; done) | split)

@[simp] theorem initFault_kept {a0 : State} {s : State} {i : Nat} {f : Flip} {n : Nat} (h : Kept a0 s) : Kept a0 (initFault s i f n) := by
  unfold initFault; simp (maxDischargeDepth := 99) +contextual [h]

@[simp] theorem initRegion_kept {a0 : State} {s : State} {n : Nat} {e : MemEnv} (h : Kept a0 s) : KeptOptP a0 (initRegion s n e) := by
  unfold initRegion; split
  · simp [h]
  · extract_lets seq targets s1 base
    split
    · have h1 : Kept a0 s1 := by
        dsimp only [s1]; split
        · exact h
        · exact State.setFld_kept h
      clear_value s1
      refine KeptOptP.some_iff.2 ?_; dsimp only; exact loadEntries_kept h1
    · extract_lets mine r
      have hr : KeptOptP a0 r := KeptOptP.foldl (KeptOptP.some_iff.2 h) fun a i ha => by
        split
        · split
          · rename_i e1
            exact KeptOptP.some_iff.2 (writeTarget_kept (burinRead_kept (ha _ rfl) _ e1))
          · rename_i e1
            exact KeptOptP.some_iff.2 (burinRead_kept (ha _ rfl) _ e1)
          · simp
        · exact ha
      clear_value r
      split
      · split
        · rename_i e1
          have h2 := burinRead_kept (hr _ rfl) _ e1
          refine KeptOptP.some_iff.2 ?_; dsimp only at h2 ⊢; exact loadEntries_kept h2
        · rename_i e1
          exact KeptOptP.some_iff.2 (burinRead_kept (hr _ rfl) _ e1)
        · simp
      · exact hr

theorem initRegions_kept {a0 s : State} {e : MemEnv} {l : List Nat} (h : Kept a0 s) : KeptOptP a0 (initRegions s e l) := by
  induction l generalizing s with
  | nil => simp [initRegions, h]
  | cons n r ih =>
    unfold initRegions
    have hl : KeptOptP a0 (initRegion s n e) := initRegion_kept h
    split
    · simp
    · rename_i e1
      exact ih (hl _ e1)
    · rename_i e1
      exact KeptOptP.some_iff.2 (hl _ e1)

theorem execInitComplete_kept {a0 : State} {i : Nat} {e : MemEnv} {s : State} (h : Kept a0 s) : KeptOut a0 (execInitComplete i e s) := by
  unfold execInitComplete; split
  · simp [h]
  · split
    · simp [h]
    · rename_i f _ _
      have hl : KeptOptP a0 (initRegions s e (f.regions.filter (fun n => !f.blank.contains n))) := initRegions_kept h
      split
      · simp [h]
      · rename_i e1
        exact KeptOut.next_iff.2 (State.setFlip_kept (hl _ e1))
      · rename_i e1
        exact KeptOut.next_iff.2 (initFault_kept (hl _ e1))

@[simp] theorem setStage_kept {a0 : State} {s : State} {f : Flip} {v : Nat} (h : Kept a0 s) : Kept a0 (setStage s f v) := by
  unfold setStage; simp (maxDischargeDepth := 99) +contextual [h]

theorem execOutputs_kept {a0 : State} {i : Nat} {s : State} (h : Kept a0 s) : KeptOut a0 (execOutputs i s) := by
  unfold execOutputs; try dsimp only
  repeat' (first | (simp (maxDischargeDepth := 99) +contextual [h, KeptC.split_iff]; done) | split)

theorem execEnables_kept {a0 : State} {i : Nat} {s : State} (h : Kept a0 s) : KeptOut a0 (execEnables i s) := by
  unfold execEnables; try dsimp only
  repeat' (first | (simp (maxDischargeDepth := 99) +contextual [h, KeptC.split_iff]; done) | split)

theorem execResets_kept {a0 : State} {i : Nat} {s : State} (h : Kept a0 s) : KeptOut a0 (execResets i s) := by
  unfold execResets; try dsimp only
  repeat' (first | (simp (maxDischargeDepth := 99) +contextual [h, KeptC.split_iff]; done) | split)

@[simp] theorem burinAlarm_kept {a0 : State} {s : State} {r : AlarmRec} (h : Kept a0 s) : Kept a0 (burinAlarm s r) := by
  unfold burinAlarm; try dsimp only
  repeat' (first | (simp (maxDischargeDepth := 99) +contextual [h, KeptC.split_iff]; done) | split)

@[simp] theorem commitSvn_kept {a0 : State} {s : State} (h : Kept a0 s) : Kept a0 (commitSvn s) := by
  unfold commitSvn; dsimp only
  split
  · simp [h]
  · split
    · simp [h]
    · refine Kept.foldl (State.setFld_kept ⟨h.pending, h.fuse.trans ⟨le_max_right _ _, le_rfl, fun _ _ h => h, fun _ h => h, id, id, id, id, id⟩,
        h.canon⟩) fun t x ht => Kept.ite (State.setPlane_kept ht) ht

theorem execCommitSvn_kept {a0 : State} {icls : BitVec 3} {s : State} (h : Kept a0 s) : KeptOut a0 (execCommitSvn icls s) := by
  unfold execCommitSvn; simp (maxDischargeDepth := 99) +contextual [h]

end Sys2Proof.Machine
end

