-- ==== Sys2Proof/Laws/KeptScrub.lean ====
section
/-! SUPPORT. What each function of Machine/Scrub.lean keeps: the queue, the burned fuses, the canonical form. -/

namespace Sys2Proof.Machine

open Sys2Proof

set_option linter.all false

@[simp] theorem endLap_kept {a0 : State} {s : State} {d : Nat} {lapUs : Nat} (h : Kept a0 s) : Kept a0 (endLap s d lapUs) := by
  unfold endLap; simp (maxDischargeDepth := 99) +contextual [h]

@[simp] theorem passFrame_kept {a0 : State} {s : State} {d : Nat} {v : Visit} (h : Kept a0 s) : Kept a0 (passFrame s d v) := by
  unfold passFrame; try dsimp only
  repeat' (first | (simp (maxDischargeDepth := 99) +contextual [h, KeptC.split_iff]; done) | split)

@[simp] theorem slotManifest_kept {a0 : State} {s : State} {i : Nat} {e : MemEnv} (h : Kept a0 s) : KeptOptP a0 (slotManifest s i e) := by
  unfold slotManifest; extract_lets size; split
  · exact KeptOptP.some_iff.2 h
  · have hb : KeptOptP a0 (burinRead s 7 (slotBase s i) e 4) := burinRead_kept h
    split
    · exact KeptOptP.none
    · rename_i e1
      have h1 := hb _ e1
      dsimp only at h1
      split
      · exact KeptOptP.some_iff.2 h1
      · split
        · exact KeptOptP.none
        · rename_i e2
          have h2 := burinRead_kept h1 _ e2
          split <;> exact KeptOptP.some_iff.2 h2
        · rename_i e2
          exact KeptOptP.some_iff.2 (burinRead_kept h1 _ e2)
    · rename_i e1
      exact KeptOptP.some_iff.2 (hb _ e1)

@[simp] theorem slotCrc_kept {a0 : State} {s : State} {i : Nat} {n : Nat} {o : Nat} {e : MemEnv} (h : Kept a0 s) : KeptOptP a0 (slotCrc s i n o e) := by
  unfold slotCrc
  have hb : KeptOptP a0 (slotManifest s i e) := slotManifest_kept h
  split
  · exact KeptOptP.none
  · rename_i e1
    exact KeptOptP.some_iff.2 (hb _ e1)
  · rename_i e1
    split <;> exact KeptOptP.some_iff.2 (hb _ e1)

@[simp] theorem slotFrame_kept {a0 : State} {s : State} {i : Nat} {n : Nat} {o : Nat} {e : MemEnv} (h : Kept a0 s) : KeptOptP a0 (slotFrame s i n o e) := by
  unfold slotFrame
  have hb : KeptOptP a0 (slotManifest s i e) := slotManifest_kept h
  split
  · exact KeptOptP.none
  · rename_i e1
    exact KeptOptP.some_iff.2 (hb _ e1)
  · rename_i e1
    have h1 := hb _ e1
    dsimp only at h1
    split
    · exact KeptOptP.some_iff.2 h1
    · exact KeptOptP.some_iff.2 h1
    · split
      · exact KeptOptP.none
      · rename_i e2
        exact KeptOptP.some_iff.2 (burinRead_kept h1 _ e2)
      · rename_i e2
        exact KeptOptP.some_iff.2 (burinRead_kept h1 _ e2)

theorem anySlotCrc_kept {a0 s : State} {n o : Nat} {e : MemEnv} {l : List Nat} (h : Kept a0 s) : KeptOptP a0 (anySlotCrc s n o e l) := by
  induction l generalizing s with
  | nil => exact KeptOptP.some_iff.2 h
  | cons i r ih =>
    unfold anySlotCrc
    have hb : KeptOptP a0 (slotCrc s i n o e) := slotCrc_kept h
    split
    · exact KeptOptP.none
    · rename_i e1
      exact KeptOptP.some_iff.2 (hb _ e1)
    · rename_i e1
      exact ih (hb _ e1)

@[simp] theorem rebuildEntry_kept {a0 : State} {s : State} {n : Nat} {o : Nat} {e : MemEnv} (h : Kept a0 s) : KeptOpt a0 (rebuildEntry s n o e) := by
  unfold rebuildEntry; split
  · exact KeptOpt.some_iff.2 h
  · extract_lets seq staged
    have hs : KeptOptP a0 staged := by
      dsimp only [staged]; split
      · split
        · exact KeptOptP.none
        · rename_i e1
          exact KeptOptP.some_iff.2 (burinRead_kept h _ e1)
        · rename_i e1
          exact KeptOptP.some_iff.2 (burinRead_kept h _ e1)
      · exact KeptOptP.some_iff.2 h
    clear_value staged
    split
    · exact KeptOpt.none
    · exact KeptOpt.some_iff.2 (State.setFcEntry_kept (hs _ rfl))
    · have h1 := hs _ rfl
      dsimp only at h1
      split
      · exact KeptOpt.none
      · rename_i e1
        exact KeptOpt.some_iff.2 (State.setFcEntry_kept (anySlotCrc_kept h1 _ e1))
      · rename_i e1
        exact KeptOpt.some_iff.2 (State.countSat_kept (State.setFld_kept (State.setFcEntry_kept (anySlotCrc_kept h1 _ e1))))

@[simp] theorem rebuildEntries_kept {a0 s : State} {n o k : Nat} {e : MemEnv} (h : Kept a0 s) : KeptOpt a0 (rebuildEntries s n o e k) := by
  induction k generalizing s o with
  | zero => exact KeptOpt.some_iff.2 h
  | succ k ih =>
    unfold rebuildEntries
    have hb : KeptOpt a0 (rebuildEntry s n o e) := rebuildEntry_kept h
    split
    · exact KeptOpt.none
    · rename_i e1
      exact ih (hb _ e1)

@[simp] theorem checkBlock_kept {a0 : State} {s : State} {n : Nat} {o : Nat} {e : MemEnv} (h : Kept a0 s) : KeptOpt a0 (checkBlock s n o e) := by
  unfold checkBlock; simp (maxDischargeDepth := 99) +contextual [h]

@[simp] theorem readFrame_kept {a0 : State} {s : State} {n : Nat} {p : Nat} {o : Nat} {upset : Frame} {misread : Frame} {tableUpset : Word32} {e : MemEnv} (h : Kept a0 s) : KeptOptP a0 (readFrame s n p o upset misread tableUpset e) := by
  rw [readFrame.eq_def]; extract_lets s1 s2
  have h1 : Kept a0 s1 := by dsimp only [s1]; split <;> simp [h]
  clear_value s1
  have h2 : Kept a0 s2 := by dsimp only [s2]; split <;> simp [h1]
  clear_value s2
  split
  · exact KeptOptP.none
  · rename_i e1
    have h3 := checkBlock_kept h2 _ e1
    rw [KeptOptP.some_iff]; exact h3

theorem execScrubFrameRead_kept {a0 : State} {d : Fin 8} {upset : Frame} {misread : Frame} {tableUpset : Word32} {lapUs : Word32} {e : MemEnv} {s : State} (h : Kept a0 s) : KeptOut a0 (execScrubFrameRead d upset misread tableUpset lapUs e s) := by
  rw [execScrubFrameRead.eq_def]; extract_lets g v target; split
  · exact KeptOut.next_iff.2 h
  · clear_value target
    split
    · exact KeptOut.ite (KeptOut.next_iff.2 (endLap_kept h)) (KeptOut.next_iff.2 h)
    · split
      · exact KeptOut.next_iff.2 (passFrame_kept h)
      · extract_lets ch
        split
        · exact KeptOut.next_iff.2 (State.hold_kept h)
        · split
          · exact KeptOut.next_iff.2 h
          · rename_i e1
            exact KeptOut.next_iff.2 (passFrame_kept (readFrame_kept (State.charge_kept h) _ e1))
          · rename_i e1
            exact KeptOut.next_iff.2 (State.setScrub_kept (readFrame_kept (State.charge_kept h) _ e1))

@[simp] theorem unrepaired_kept {a0 : State} {s : State} {d : Nat} {h : Search} (hk : Kept a0 s) : Kept a0 (unrepaired s d h) := by
  unfold unrepaired; simp (maxDischargeDepth := 99) +contextual [hk]

@[simp] theorem nextSource_kept {a0 : State} {s : State} {d : Nat} {h : Search} (hk : Kept a0 s) : Kept a0 (nextSource s d h) := by
  unfold nextSource; simp (maxDischargeDepth := 99) +contextual [hk]

@[simp] theorem offerFrame_kept {a0 : State} {s : State} {d : Nat} {h : Search} {f : Option Frame} (hk : Kept a0 s) : Kept a0 (offerFrame s d h f) := by
  unfold offerFrame; try dsimp only
  repeat' (first | (simp (maxDischargeDepth := 99) +contextual [hk, KeptC.split_iff]; done) | split)

theorem execCandidateFetch_kept {a0 : State} {d : Fin 8} {xspi : Option (List Byte)} {e : MemEnv} {s : State} (h : Kept a0 s) : KeptOut a0 (execCandidateFetch d xspi e s) := by
  unfold execCandidateFetch; dsimp only
  repeat' (first | (simp (maxDischargeDepth := 99) [h]; done) | split)
  all_goals
    rename_i e1
    have h3 := slotFrame_kept h _ e1
    dsimp only at h3
    simp (maxDischargeDepth := 99) [h3]

@[simp] theorem discardRepair_kept {a0 : State} {s : State} {d : Nat} {h : Search} (hk : Kept a0 s) : Kept a0 (discardRepair s d h) := by
  unfold discardRepair; simp (maxDischargeDepth := 99) +contextual [hk]

theorem execRepair_kept {a0 : State} {d : Fin 8} {readBack : Bool} {s : State} (h : Kept a0 s) : KeptOut a0 (execRepair d readBack s) := by
  unfold execRepair; try dsimp only
  repeat' (first | (simp (maxDischargeDepth := 99) +contextual [h, KeptC.split_iff]; done) | split)

theorem execTmrCorrect_kept {a0 : State} {s : State} (h : Kept a0 s) : KeptOut a0 (execTmrCorrect s) := by
  unfold execTmrCorrect; simp (maxDischargeDepth := 99) +contextual [h]

@[simp] theorem showCns_kept {a0 : State} {s : State} (h : Kept a0 s) : Kept a0 (showCns s) := by
  unfold showCns; simp (maxDischargeDepth := 99) +contextual [h]

@[simp] theorem startDigest_kept {a0 : State} {s : State} (h : Kept a0 s) : Kept a0 (startDigest s) := by
  unfold startDigest; simp (maxDischargeDepth := 99) +contextual [h]

theorem execDigestNow_kept {a0 : State} {s : State} (h : Kept a0 s) : KeptOut a0 (execDigestNow s) := by
  unfold execDigestNow; simp (maxDischargeDepth := 99) +contextual [h]

@[simp] theorem State.setRun_kept {a0 : State} {s : State} {r : DigestRun} (h : Kept a0 s) : Kept a0 (State.setRun s r) := by
  unfold State.setRun; simp (maxDischargeDepth := 99) +contextual [h]

theorem execDigestFrameRead_kept {a0 : State} {d : Fin 8} {upset : Frame} {misread : Frame} {tableUpset : Word32} {e : MemEnv} {s : State} (h : Kept a0 s) : KeptOut a0 (execDigestFrameRead d upset misread tableUpset e s) := by
  simp only [execDigestFrameRead]
  repeat' (first | (simp (maxDischargeDepth := 99) [h]; done) | split)
  all_goals
    have h3 := readFrame_kept (State.charge_kept h) _ (by assumption)
    dsimp only at h3
    simp (maxDischargeDepth := 99) [h3]

@[simp] theorem sendCmsg_kept {a0 : State} {s : State} {port : Nat} {ctype : Nat} {subject : Nat} {count : Nat} {dissents : Nat} {digest : BitVec 384} (h : Kept a0 s) : Kept a0 (sendCmsg s port ctype subject count dissents digest) := by
  unfold sendCmsg; simp (maxDischargeDepth := 99) +contextual [h]

@[simp] theorem logSubjects_kept {a0 : State} {s : State} {l : List Nat} (h : Kept a0 s) : Kept a0 (logSubjects s l) := by
  unfold logSubjects; simp (maxDischargeDepth := 99) +contextual [h]

@[simp] theorem State.setRound_kept {a0 : State} {s : State} {r : Round} (h : Kept a0 s) : Kept a0 (State.setRound s r) := by
  unfold State.setRound; simp (maxDischargeDepth := 99) +contextual [h]

@[simp] theorem finishRound_kept {a0 : State} {s : State} {r : Round} (h : Kept a0 s) : Kept a0 (finishRound s r) := by
  unfold finishRound; simp (maxDischargeDepth := 99) +contextual [h]

@[simp] theorem tryFinish_kept {a0 : State} {s : State} (h : Kept a0 s) : Kept a0 (tryFinish s) := by
  unfold tryFinish; try dsimp only
  repeat' (first | (simp (maxDischargeDepth := 99) +contextual [h, KeptC.split_iff]; done) | split)

@[simp] theorem dissent_kept {a0 : State} {s : State} {r : Round} (h : Kept a0 s) : Kept a0 (dissent s r) := by
  unfold dissent; simp (maxDischargeDepth := 99) +contextual [h]

@[simp] theorem compareOwn_kept {a0 : State} {s : State} (h : Kept a0 s) : Kept a0 (compareOwn s) := by
  unfold compareOwn; try dsimp only
  repeat' (first | (simp (maxDischargeDepth := 99) +contextual [h, KeptC.split_iff]; done) | split)

@[simp] theorem adopt_kept {a0 : State} {s0 : State} {ref : BitVec 384} (h : Kept a0 s0) : Kept a0 (adopt s0 ref) := by
  unfold adopt; simp (maxDischargeDepth := 99) +contextual [h]

@[simp] theorem startRound_kept {a0 : State} {s : State} (h : Kept a0 s) : Kept a0 (startRound s) := by
  unfold startRound; try dsimp only
  repeat' (first | (simp (maxDischargeDepth := 99) +contextual [h, KeptC.split_iff]; done) | split)

theorem execCensusStart_kept {a0 : State} {s : State} (h : Kept a0 s) : KeptOut a0 (execCensusStart s) := by
  unfold execCensusStart; simp (maxDischargeDepth := 99) +contextual [h]

theorem execRoundPeriod_kept {a0 : State} {s : State} (h : Kept a0 s) : KeptOut a0 (execRoundPeriod s) := by
  unfold execRoundPeriod; simp (maxDischargeDepth := 99) +contextual [h]

theorem execDigestDone_kept {a0 : State} {s : State} (h : Kept a0 s) : KeptOut a0 (execDigestDone s) := by
  unfold execDigestDone; try dsimp only
  repeat' (first | (simp (maxDischargeDepth := 99) +contextual [h, KeptC.split_iff]; done) | split)

@[simp] theorem dropCmsg_kept {a0 : State} {s : State} {p : Packet} (h : Kept a0 s) : Kept a0 (dropCmsg s p) := by
  unfold dropCmsg; simp (maxDischargeDepth := 99) +contextual [h]

theorem execRef_kept {a0 : State} {p : Packet} {s : State} (h : Kept a0 s) : KeptOut a0 (execRef p s) := by
  unfold execRef; simp (maxDischargeDepth := 99) +contextual [h]

theorem execSummary_kept {a0 : State} {p : Packet} {s : State} (h : Kept a0 s) : KeptOut a0 (execSummary p s) := by
  unfold execSummary; try dsimp only
  repeat' (first | (simp (maxDischargeDepth := 99) +contextual [h, KeptC.split_iff]; done) | split)

theorem execDissent_kept {a0 : State} {p : Packet} {s : State} (h : Kept a0 s) : KeptOut a0 (execDissent p s) := by
  unfold execDissent; try dsimp only
  repeat' (first | (simp (maxDischargeDepth := 99) +contextual [h, KeptC.split_iff]; done) | split)

theorem execCensusWaitExpire_kept {a0 : State} {s : State} (h : Kept a0 s) : KeptOut a0 (execCensusWaitExpire s) := by
  unfold execCensusWaitExpire; try dsimp only
  repeat' (first | (simp (maxDischargeDepth := 99) +contextual [h, KeptC.split_iff]; done) | split)

end Sys2Proof.Machine
end

