-- ==== Sys2Proof/Laws/KeptPcie.lean ====
section
/-! SUPPORT. What each function of Machine/Pcie.lean keeps: the queue, the burned fuses, the canonical form. -/

namespace Sys2Proof.Machine

open Sys2Proof

set_option linter.all false

@[simp] theorem State.setPci_kept {a0 : State} {s : State} {c : Nat} {x : PciCtl} (h : Kept a0 s) : Kept a0 (State.setPci s c x) := by
  unfold State.setPci; simp (maxDischargeDepth := 99) +contextual [h]

@[simp] theorem sendTlp_kept {a0 : State} {s : State} {c : Nat} {t : Tlp} (h : Kept a0 s) : Kept a0 (sendTlp s c t) := by
  unfold sendTlp; simp (maxDischargeDepth := 99) +contextual [h]

@[simp] theorem hostWrite_kept {a0 : State} {s : State} {c : Nat} {port : Bool} {fn : Nat} {addr : Nat} {data : List Byte} (h : Kept a0 s) : Kept a0 (hostWrite s c port fn addr data) := by
  unfold hostWrite; simp (maxDischargeDepth := 99) +contextual [h]

@[simp] theorem hostRead_kept {a0 : State} {s : State} {c : Nat} {port : Bool} {fn : Nat} {addr : Nat} {n : Nat} {req : Option Packet} {chan : Nat} (h : Kept a0 s) : Kept a0 (hostRead s c port fn addr n req chan) := by
  unfold hostRead; simp (maxDischargeDepth := 99) +contextual [h]

@[simp] theorem sendMsix_kept {a0 : State} {s : State} {c : Nat} {fn : Nat} {vec : Nat} (h : Kept a0 s) : Kept a0 (sendMsix s c fn vec) := by
  unfold sendMsix; simp (maxDischargeDepth := 99) +contextual [h]

@[simp] theorem showPort_kept {a0 : State} {s : State} {c : Nat} {b : Bool} {up : Nat} {speed : Nat} {width : Nat} (h : Kept a0 s) : Kept a0 (showPort s c b up speed width) := by
  unfold showPort; simp (maxDischargeDepth := 99) +contextual [h]

@[simp] theorem pcieEnable_kept {a0 : State} {s : State} {c : Nat} (h : Kept a0 s) : Kept a0 (pcieEnable s c) := by
  unfold pcieEnable; simp (maxDischargeDepth := 99) +contextual [h]

@[simp] theorem pcieDisable_kept {a0 : State} {s : State} {c : Nat} (h : Kept a0 s) : Kept a0 (pcieDisable s c) := by
  unfold pcieDisable; simp (maxDischargeDepth := 99) +contextual [h]

theorem execPcieEnable_kept {a0 : State} {c : Fin 2} {s : State} (h : Kept a0 s) : KeptOut a0 (execPcieEnable c s) := by
  unfold execPcieEnable; simp (maxDischargeDepth := 99) +contextual [h]

theorem execPcieLinkUp_kept {a0 : State} {c : Fin 2} {port : Bool} {speed : BitVec 3} {width : BitVec 5} {s : State} (h : Kept a0 s) : KeptOut a0 (execPcieLinkUp c port speed width s) := by
  unfold execPcieLinkUp; simp (maxDischargeDepth := 99) +contextual [h]

theorem execPcieLinkDrop_kept {a0 : State} {c : Fin 2} {port : Bool} {s : State} (h : Kept a0 s) : KeptOut a0 (execPcieLinkDrop c port s) := by
  unfold execPcieLinkDrop; simp (maxDischargeDepth := 99) +contextual [h]

@[simp] theorem finishInbound_kept {a0 : State} {s : State} {c : Nat} {i : PciIn} (h : Kept a0 s) : Kept a0 (finishInbound s c i) := by
  unfold finishInbound; try dsimp only
  repeat' (first | (simp (maxDischargeDepth := 99) +contextual [h, KeptC.split_iff]; done) | split)

@[simp] theorem reapInbound_kept {a0 : State} {s : State} {c : Nat} (h : Kept a0 s) : Kept a0 (reapInbound s c) := by
  unfold reapInbound; simp (maxDischargeDepth := 99) +contextual [h]

@[simp] theorem issueInbound_kept {a0 : State} {s : State} {c : Nat} {k : Nat} {i : PciIn} (h : Kept a0 s) : Kept a0 (issueInbound s c k i) := by
  unfold issueInbound; simp (maxDischargeDepth := 99) +contextual [h]

@[simp] theorem State.setFlight_kept {a0 : State} {s : State} {c : Nat} {k : Nat} {l : List DmaDesc} (h : Kept a0 s) : Kept a0 (State.setFlight s c k l) := by
  unfold State.setFlight; simp (maxDischargeDepth := 99) +contextual [h]

@[simp] theorem takeTag_kept {a0 : State} {s : State} {c : Nat} (h : Kept a0 s) : Kept a0 (takeTag s c).2 := by
  unfold takeTag; simp (maxDischargeDepth := 99) +contextual [h]

@[simp] theorem State.putFlight_kept {a0 : State} {s : State} {c : Nat} {k : Nat} {i : Nat} {d : DmaDesc} (h : Kept a0 s) : Kept a0 (State.putFlight s c k i d) := by
  unfold State.putFlight; simp (maxDischargeDepth := 99) +contextual [h]

@[simp] theorem dmaRead_kept {a0 : State} {s : State} {c : Nat} {k : Nat} {i : Nat} {d : DmaDesc} (h : Kept a0 s) : Kept a0 (dmaRead s c k i d) := by
  unfold dmaRead; simp (maxDischargeDepth := 99) +contextual [h]

@[simp] theorem dmaMoved_kept {a0 : State} {s : State} {c : Nat} {k : Nat} {i : Nat} {d : DmaDesc} {n : Nat} (h : Kept a0 s) : Kept a0 (dmaMoved s c k i d n) := by
  unfold dmaMoved; simp (maxDischargeDepth := 99) +contextual [h]

@[simp] theorem dmaWrite_kept {a0 : State} {s : State} {c : Nat} {k : Nat} {i : Nat} {d : DmaDesc} {data : List Byte} (h : Kept a0 s) : Kept a0 (dmaWrite s c k i d data) := by
  unfold dmaWrite; simp (maxDischargeDepth := 99) +contextual [h]

@[simp] theorem dmaHave_kept {a0 : State} {s : State} {c : Nat} {k : Nat} {i : Nat} {d : DmaDesc} {data : List Byte} (h : Kept a0 s) : Kept a0 (dmaHave s c k i d data) := by
  unfold dmaHave; simp (maxDischargeDepth := 99) +contextual [h]

@[simp] theorem dmaFail_kept {a0 : State} {s : State} {c : Nat} {k : Nat} {i : Nat} {d : DmaDesc} {status : Nat} (h : Kept a0 s) : Kept a0 (dmaFail s c k i d status) := by
  unfold dmaFail; simp (maxDischargeDepth := 99) +contextual [h]

@[simp] theorem dmaBegin_kept {a0 : State} {s : State} {c : Nat} {k : Nat} {i : Nat} {d : DmaDesc} (h : Kept a0 s) : Kept a0 (dmaBegin s c k i d) := by
  unfold dmaBegin; simp (maxDischargeDepth := 99) +contextual [h]

@[simp] theorem absorbOne_kept {a0 : State} {s : State} {c : Nat} {p : Packet} (h : Kept a0 s) : Kept a0 (absorbOne s c p) := by
  unfold absorbOne; try dsimp only
  repeat' (first | (simp (maxDischargeDepth := 99) +contextual [h, KeptC.split_iff]; done) | split)

@[simp] theorem absorbPci_kept {a0 s : State} {c k : Nat} (h : Kept a0 s) : Kept a0 (absorbPci s c k) := by
  induction k generalizing s with
  | zero => exact h
  | succ k ih =>
    unfold absorbPci; extract_lets np s1; split
    · exact ih (absorbOne_kept (State.setNetPort_kept h))
    · have h1 : Kept a0 s1 := reapInbound_kept h
      split
      · exact ih (issueInbound_kept h1)
      · split
        · exact ih (dmaRead_kept h1)
        · exact h1

@[simp] theorem pciRun_kept {a0 : State} {s : State} {c : Nat} (h : Kept a0 s) : Kept a0 (pciRun s c) := by
  unfold pciRun; simp (maxDischargeDepth := 99) +contextual [h]

@[simp] theorem State.setMailbox_kept {a0 : State} {s : State} {c : Nat} {m : Mailbox} (h : Kept a0 s) : Kept a0 (State.setMailbox s c m) := by
  unfold State.setMailbox; simp (maxDischargeDepth := 99) +contextual [h]

@[simp] theorem mailboxDoorbell_kept {a0 : State} {s : State} {c : Nat} {seq : Nat} (h : Kept a0 s) : Kept a0 (mailboxDoorbell s c seq) := by
  unfold mailboxDoorbell; simp (maxDischargeDepth := 99) +contextual [h]

@[simp] theorem mailboxRegWrite_kept {a0 : State} {c : Nat} {s : State} {w : Nat × List (Option Byte)} (h : Kept a0 s) : Kept a0 (mailboxRegWrite c s w) := by
  unfold mailboxRegWrite; simp (maxDischargeDepth := 99) +contextual [h]

@[simp] theorem mailboxWrite_kept {a0 : State} {s : State} {c : Nat} {port : Bool} {off : Nat} {data : List (Option Byte)} (h : Kept a0 s) : Kept a0 (mailboxWrite s c port off data) := by
  unfold mailboxWrite; try dsimp only
  repeat' (first | (simp (maxDischargeDepth := 99) +contextual [h, KeptC.split_iff]; done) | split)

@[simp] theorem mailboxRequest_kept {a0 : State} {s : State} {c : Nat} {r : PciReq} (h : Kept a0 s) : Kept a0 (mailboxRequest s c r) := by
  unfold mailboxRequest; try dsimp only
  repeat' (first | (simp (maxDischargeDepth := 99) +contextual [h, KeptC.split_iff]; done) | split)

@[simp] theorem writePi_kept {a0 : State} {s : State} {c : Nat} {k : Nat} {pi : Nat} (h : Kept a0 s) : Kept a0 (writePi s c k pi) := by
  unfold writePi; simp (maxDischargeDepth := 99) +contextual [h]

@[simp] theorem doorbell_kept {a0 : State} {s : State} {c : Nat} {k : Nat} {pi : Nat} {vf : Bool} {func : Nat} (h : Kept a0 s) : Kept a0 (doorbell s c k pi vf func) := by
  unfold doorbell; simp (maxDischargeDepth := 99) +contextual [h]

@[simp] theorem msixMerge_kept {a0 : State} {c : Nat} {fn : Nat} {off : Nat} {data : List (Option Byte)} {s : State} {w : Nat} (h : Kept a0 s) : Kept a0 (msixMerge c fn off data s w) := by
  unfold msixMerge; simp (maxDischargeDepth := 99) +contextual [h]

@[simp] theorem bar4Request_kept {a0 : State} {s : State} {c : Nat} {r : PciReq} (h : Kept a0 s) : Kept a0 (bar4Request s c r) := by
  unfold bar4Request; try dsimp only
  repeat' (first | (simp (maxDischargeDepth := 99) +contextual [h, KeptC.split_iff]; done) | split)

theorem execInboundRequest_kept {a0 : State} {c : Fin 2} {r : PciReq} {s : State} (h : Kept a0 s) : KeptOut a0 (execInboundRequest c r s) := by
  unfold execInboundRequest; try dsimp only
  repeat' (first | (simp (maxDischargeDepth := 99) +contextual [h, KeptC.split_iff]; done) | split)

theorem execMailboxDoorbell_kept {a0 : State} {c : Fin 2} {seq : BitVec 16} {s : State} (h : Kept a0 s) : KeptOut a0 (execMailboxDoorbell c seq s) := by
  unfold execMailboxDoorbell; simp (maxDischargeDepth := 99) +contextual [h]

@[simp] theorem outbound_kept {a0 : State} {s : State} {c : Nat} {off : Nat} {p : Packet} (h : Kept a0 s) : Kept a0 (outbound s c off p) := by
  unfold outbound; simp (maxDischargeDepth := 99) +contextual [h]

theorem execOutboundRequest_kept {a0 : State} {p : Packet} {s : State} (h : Kept a0 s) : KeptOut a0 (execOutboundRequest p s) := by
  unfold execOutboundRequest; try dsimp only
  repeat' (first | (simp (maxDischargeDepth := 99) +contextual [h, KeptC.split_iff]; done) | split)

@[simp] theorem answerOb_kept {a0 : State} {s : State} {c : Nat} {o : PciOb} {st : Stat} {data : List Byte} (h : Kept a0 s) : Kept a0 (answerOb s c o st data) := by
  unfold answerOb; try dsimp only
  repeat' (first | (simp (maxDischargeDepth := 99) +contextual [h, KeptC.split_iff]; done) | split)

@[simp] theorem obDone_kept {a0 : State} {s : State} {c : Nat} {i : Nat} {o : PciOb} {st : Stat} {data : List Byte} (h : Kept a0 s) : Kept a0 (obDone s c i o st data) := by
  unfold obDone; simp (maxDischargeDepth := 99) +contextual [h]

theorem execOutboundCompletion_kept {a0 : State} {c : Fin 2} {i : Nat} {outcome : CplOutcome} {data : List Byte} {s : State} (h : Kept a0 s) : KeptOut a0 (execOutboundCompletion c i outcome data s) := by
  unfold execOutboundCompletion; try dsimp only
  repeat' (first | (simp (maxDischargeDepth := 99) +contextual [h, KeptC.split_iff]; done) | split)

theorem execCompletionTimeout_kept {a0 : State} {c : Fin 2} {i : Nat} {s : State} (h : Kept a0 s) : KeptOut a0 (execCompletionTimeout c i s) := by
  unfold execCompletionTimeout; try dsimp only
  repeat' (first | (simp (maxDischargeDepth := 99) +contextual [h, KeptC.split_iff]; done) | split)

theorem execDmaDoorbell_kept {a0 : State} {c : Fin 2} {k : BitVec 8} {pi : BitVec 16} {fn : Option (Bool × BitVec 9)} {s : State} (h : Kept a0 s) : KeptOut a0 (execDmaDoorbell c k pi fn s) := by
  unfold execDmaDoorbell; try dsimp only
  repeat' (first | (simp (maxDischargeDepth := 99) +contextual [h, KeptC.split_iff]; done) | split)

@[simp] theorem dmaEnable_kept {a0 : State} {s : State} {c : Nat} {k : Nat} (h : Kept a0 s) : Kept a0 (dmaEnable s c k) := by
  unfold dmaEnable; simp (maxDischargeDepth := 99) +contextual [h]

theorem execDmaEnable_kept {a0 : State} {c : Fin 2} {k : BitVec 8} {s : State} (h : Kept a0 s) : KeptOut a0 (execDmaEnable c k s) := by
  unfold execDmaEnable; simp (maxDischargeDepth := 99) +contextual [h]

theorem execDmaDescriptorCheck_kept {a0 : State} {c : Fin 2} {k : BitVec 8} {desc : BitVec 256} {s : State} (h : Kept a0 s) : KeptOut a0 (execDmaDescriptorCheck c k desc s) := by
  unfold execDmaDescriptorCheck; simp (maxDischargeDepth := 99) +contextual [h]

@[simp] theorem dropReads_kept {a0 : State} {s : State} {c : Nat} {k : Nat} (h : Kept a0 s) : Kept a0 (dropReads s c k) := by
  unfold dropReads; simp (maxDischargeDepth := 99) +contextual [h]

@[simp] theorem shiftReads_kept {a0 : State} {s : State} {c : Nat} {k : Nat} (h : Kept a0 s) : Kept a0 (shiftReads s c k) := by
  unfold shiftReads; simp (maxDischargeDepth := 99) +contextual [h]

@[simp] theorem ringWrite_kept {a0 : State} {s : State} {c : Nat} {k : Nat} {addr : Nat} {data : List Byte} (h : Kept a0 s) : Kept a0 (ringWrite s c k addr data) := by
  unfold ringWrite; simp (maxDischargeDepth := 99) +contextual [h]

@[simp] theorem dmaInterrupt_kept {a0 : State} {s : State} {c : Nat} {k : Nat} (h : Kept a0 s) : Kept a0 (dmaInterrupt s c k) := by
  unfold dmaInterrupt; simp (maxDischargeDepth := 99) +contextual [h]

@[simp] theorem passFence_kept {a0 : State} {s : State} {c : Nat} {k : Nat} (h : Kept a0 s) : Kept a0 (passFence s c k) := by
  unfold passFence; try dsimp only
  repeat' (first | (simp (maxDischargeDepth := 99) +contextual [h, KeptC.split_iff]; done) | split)

theorem execDmaWriteBack_kept {a0 : State} {c : Fin 2} {k : BitVec 8} {s : State} (h : Kept a0 s) : KeptOut a0 (execDmaWriteBack c k s) := by
  unfold execDmaWriteBack; try dsimp only
  repeat' (first | (simp (maxDischargeDepth := 99) +contextual [h, KeptC.split_iff]; done) | split)

theorem execFunctionLevelReset_kept {a0 : State} {c : Fin 2} {vf : Bool} {func : BitVec 9} {s : State} (h : Kept a0 s) : KeptOut a0 (execFunctionLevelReset c vf func s) := by
  unfold execFunctionLevelReset; simp (maxDischargeDepth := 99) +contextual [h]

end Sys2Proof.Machine
end

