-- ==== Sys2Proof/Laws/KeptPin.lean ====
section
/-! SUPPORT. What each function of Machine/Pin.lean keeps: the queue, the burned fuses, the canonical form. -/

namespace Sys2Proof.Machine

open Sys2Proof

set_option linter.all false

@[simp] theorem keepFuncs_kept {a0 s0 s : State} (h : Kept a0 s) : Kept a0 (keepFuncs s0 s) :=
  Kept.foldl h fun _ _ ht => Kept.ite ⟨ht.pending, ht.fuse, ht.canon⟩ ht

@[simp] theorem setPinPads_kept {a0 : State} {s : State} {v : BitVec 192} (h : Kept a0 s) : Kept a0 (setPinPads s v) := by
  unfold setPinPads; simp (maxDischargeDepth := 99) +contextual [h]

@[simp] theorem noteConflict_kept {a0 : State} {s : State} {sig : Nat} (h : Kept a0 s) : Kept a0 (noteConflict s sig) := by
  unfold noteConflict; try dsimp only
  repeat' (first | (simp (maxDischargeDepth := 99) +contextual [h, KeptC.split_iff]; done) | split)

@[simp] theorem noteConflicts_kept {a0 : State} {s : State} (h : Kept a0 s) : Kept a0 (noteConflicts s) := by
  unfold noteConflicts; simp (maxDischargeDepth := 99) +contextual [h]

@[simp] theorem sleepPins_kept {a0 : State} {s : State} {lo : Nat} {n : Nat} (h : Kept a0 s) : Kept a0 (sleepPins s lo n) := by
  unfold sleepPins; simp (maxDischargeDepth := 99) +contextual [h]

@[simp] theorem wakePins_kept {a0 : State} {s : State} {lo : Nat} {n : Nat} (h : Kept a0 s) : Kept a0 (wakePins s lo n) := by
  unfold wakePins; simp (maxDischargeDepth := 99) +contextual [h]

theorem execFunctionSwitch_kept {a0 : State} {i : Fin 192} {second : Bool} {pads : BitVec 192} {s : State} (h : Kept a0 s) : KeptOut a0 (execFunctionSwitch i second pads s) := by
  unfold execFunctionSwitch; simp (maxDischargeDepth := 99) +contextual [h]

@[simp] theorem gpioWrite_kept {a0 : State} {s : State} {b : Nat} {oe : Bool} {v : Nat} {icls : Nat} {src : Nat} (h : Kept a0 s) : Kept a0 (gpioWrite s b oe v icls src) := by
  unfold gpioWrite; simp (maxDischargeDepth := 99) +contextual [h]

theorem execGpioWrite_kept {a0 : State} {bank : Fin 6} {oe : Bool} {value : Word32} {icls : BitVec 3} {src : BitVec 11} {s : State} (h : Kept a0 s) : KeptOut a0 (execGpioWrite bank oe value icls src s) := by
  unfold execGpioWrite; simp (maxDischargeDepth := 99) +contextual [h]

@[simp] theorem pmStart_kept {a0 : State} {s : State} {b : Nat} {k : Nat} (h : Kept a0 s) : Kept a0 (pmStart s b k) := by
  unfold pmStart; simp (maxDischargeDepth := 99) +contextual [h]

@[simp] theorem pmSwset_kept {a0 : State} {s : State} {b : Nat} {k : Nat} (h : Kept a0 s) : Kept a0 (pmSwset s b k) := by
  unfold pmSwset; simp (maxDischargeDepth := 99) +contextual [h]

theorem execPatternFire_kept {a0 : State} {b : Fin 5} {k : Fin 8} {pads : Word32} {s : State} (h : Kept a0 s) : KeptOut a0 (execPatternFire b k pads s) := by
  unfold execPatternFire; simp (maxDischargeDepth := 99) +contextual [h]

theorem execAdcConversion_kept {a0 : State} {code : BitVec 12} {s : State} (h : Kept a0 s) : KeptOut a0 (execAdcConversion code s) := by
  unfold execAdcConversion; simp (maxDischargeDepth := 99) +contextual [h]

end Sys2Proof.Machine
end

