-- ==== Sys2Proof/Laws/KeptSpan.lean ====
section
/-! SUPPORT. What each function of Machine/Span.lean keeps: the queue, the burned fuses, the canonical form. -/

namespace Sys2Proof.Machine

open Sys2Proof

set_option linter.all false

@[simp] theorem fenceChannel_kept {a0 : State} {s : State} {c : Nat} (h : Kept a0 s) : Kept a0 (fenceChannel s c) := by
  unfold fenceChannel; simp (maxDischargeDepth := 99) +contextual [h]

theorem execSpanFence_kept {a0 : State} {c : Fin 131072} {s : State} (h : Kept a0 s) : KeptOut a0 (execSpanFence c s) := by
  unfold execSpanFence; simp (maxDischargeDepth := 99) +contextual [h]

@[simp] theorem fenceClearChannel_kept {a0 : State} {s : State} {d : Nat} {c : Nat} (h : Kept a0 s) : Kept a0 (fenceClearChannel s d c) := by
  unfold fenceClearChannel; simp (maxDischargeDepth := 99) +contextual [h]

@[simp] theorem fenceClearAll_kept {a0 : State} {s : State} {d : Nat} (h : Kept a0 s) : Kept a0 (fenceClearAll s d) := by
  unfold fenceClearAll; simp (maxDischargeDepth := 99) +contextual [h]

theorem execFenceClearChannel_kept {a0 : State} {d : Fin 8} {c : BitVec 17} {s : State} (h : Kept a0 s) : KeptOut a0 (execFenceClearChannel d c s) := by
  unfold execFenceClearChannel; simp (maxDischargeDepth := 99) +contextual [h]

theorem execFenceClearAll_kept {a0 : State} {d : Fin 8} {s : State} (h : Kept a0 s) : KeptOut a0 (execFenceClearAll d s) := by
  unfold execFenceClearAll; simp (maxDischargeDepth := 99) +contextual [h]

@[simp] theorem clearFence_kept {a0 : State} {s : State} {c : Nat} (h : Kept a0 s) : Kept a0 (clearFence s c) := by
  unfold clearFence; simp (maxDischargeDepth := 99) +contextual [h]

@[simp] theorem guardAct_kept {a0 : State} {s : State} {c : Nat} (h : Kept a0 s) : Kept a0 (guardAct s c) := by
  unfold guardAct; simp (maxDischargeDepth := 99) +contextual [h]

@[simp] theorem spanEdge_kept {a0 : State} {s : State} (h : Kept a0 s) : Kept a0 (spanEdge s) := by
  unfold spanEdge; simp (maxDischargeDepth := 99) +contextual [h]

@[simp] theorem State.setWire_kept {a0 : State} {s : State} {d : Nat} {site : Nat} {w : Nat} {r : WireRec} (h : Kept a0 s) : Kept a0 (State.setWire s d site w r) := by
  unfold State.setWire; simp (maxDischargeDepth := 99) +contextual [h]

@[simp] theorem State.setSite_kept {a0 : State} {s : State} {d : Nat} {site : Nat} {v : Nat} (h : Kept a0 s) : Kept a0 (State.setSite s d site v) := by
  unfold State.setSite; simp (maxDischargeDepth := 99) +contextual [h]

@[simp] theorem State.setRot_kept {a0 : State} {s : State} {d : Nat} {site : Nat} {r : Option Rotation} (h : Kept a0 s) : Kept a0 (State.setRot s d site r) := by
  unfold State.setRot; simp (maxDischargeDepth := 99) +contextual [h]

@[simp] theorem repairWire_kept {a0 : State} {s : State} {d : Nat} {site : Nat} {w : Nat} {repairEn : Bool} (h : Kept a0 s) : Kept a0 (repairWire s d site w repairEn) := by
  unfold repairWire; try dsimp only
  repeat' (first | (simp (maxDischargeDepth := 99) +contextual [h, KeptC.split_iff]; done) | split)

@[simp] theorem judgeWire_kept {a0 : State} {s : State} {d : Nat} {site : Nat} {w : Nat} {lo : Nat} {width : Nat} {drv : Nat} {minEye : Nat} (h : Kept a0 s) : Kept a0 (judgeWire s d site w lo width drv minEye).1 := by
  unfold judgeWire; simp (maxDischargeDepth := 99) +contextual [h]

theorem execRotation_kept {a0 : State} {d : Fin 8} {site : Fin 24576} {wire : Fin 32} {s : State} (h : Kept a0 s) : KeptOut a0 (execRotation d site wire s) := by
  unfold execRotation; simp (maxDischargeDepth := 99) +contextual [h]

@[simp] theorem visitWire_kept {a0 : State} {s : State} {d : Nat} {site : Nat} {w : Nat} {lapUs : Nat} (h : Kept a0 s) : Kept a0 (visitWire s d site w lapUs) := by
  unfold visitWire; simp (maxDischargeDepth := 99) +contextual [h]

theorem execRotationSelectSpare_kept {a0 : State} {d : Fin 8} {site : Fin 24576} {matched : Bool} {s0Pass : Bool} {s : State} {lapUs : Word32} (h : Kept a0 s) : KeptOut a0 (execRotationSelectSpare d site matched s0Pass s lapUs) := by
  unfold execRotationSelectSpare; try dsimp only
  repeat' (first | (simp (maxDischargeDepth := 99) +contextual [h, KeptC.split_iff]; done) | split)

theorem execRotationSweepDone_kept {a0 : State} {d : Fin 8} {site : Fin 24576} {lo : BitVec 6} {width : Fin 65} {drv : BitVec 2} {s : State} {lapUs : Word32} (h : Kept a0 s) : KeptOut a0 (execRotationSweepDone d site lo width drv s lapUs) := by
  unfold execRotationSweepDone; try dsimp only
  repeat' (first | (simp (maxDischargeDepth := 99) +contextual [h, KeptC.split_iff]; done) | split)

theorem execRotationReturn_kept {a0 : State} {d : Fin 8} {site : Fin 24576} {lapUs : Word32} {s : State} (h : Kept a0 s) : KeptOut a0 (execRotationReturn d site lapUs s) := by
  unfold execRotationReturn; try dsimp only
  repeat' (first | (simp (maxDischargeDepth := 99) +contextual [h, KeptC.split_iff]; done) | split)

theorem execSpareCalibration_kept {a0 : State} {d : Fin 8} {site : Fin 24576} {spare : Fin 2} {lo : BitVec 6} {width : Fin 65} {drv : BitVec 2} {s : State} (h : Kept a0 s) : KeptOut a0 (execSpareCalibration d site spare lo width drv s) := by
  unfold execSpareCalibration; simp (maxDischargeDepth := 99) +contextual [h]

@[simp] theorem startWire_kept {a0 : State} {s : State} {k : Nat} (h : Kept a0 s) : Kept a0 (startWire s k) := by
  unfold startWire; simp (maxDischargeDepth := 99) +contextual [h]

@[simp] theorem wakeSites_kept {a0 : State} {s : State} {n : Nat} (h : Kept a0 s) : Kept a0 (wakeSites s n) := by
  unfold wakeSites; simp (maxDischargeDepth := 99) +contextual [h]

@[simp] theorem startSite_kept {a0 : State} {s : State} {d : Nat} {site : Nat} (h : Kept a0 s) : Kept a0 (startSite s d site) := by
  unfold startSite; simp (maxDischargeDepth := 99) +contextual [h]

theorem execStartupCalibration_kept {a0 : State} {d : Fin 8} {site : Fin 24576} {wire : Fin 34} {lo : BitVec 6} {width : Fin 65} {drv : BitVec 2} {s : State} (h : Kept a0 s) : KeptOut a0 (execStartupCalibration d site wire lo width drv s) := by
  unfold execStartupCalibration; simp (maxDischargeDepth := 99) +contextual [h]

@[simp] theorem forceRepair_kept {a0 : State} {s : State} {d : Nat} (h : Kept a0 s) : Kept a0 (forceRepair s d) := by
  unfold forceRepair; simp (maxDischargeDepth := 99) +contextual [h]

theorem execForceRepair_kept {a0 : State} {d : Fin 8} {s : State} (h : Kept a0 s) : KeptOut a0 (execForceRepair d s) := by
  unfold execForceRepair; simp (maxDischargeDepth := 99) +contextual [h]

@[simp] theorem calNow_kept {a0 : State} {s : State} {d : Nat} (h : Kept a0 s) : Kept a0 (calNow s d) := by
  unfold calNow; simp (maxDischargeDepth := 99) +contextual [h]

theorem execCalNow_kept {a0 : State} {d : Fin 8} {s : State} (h : Kept a0 s) : KeptOut a0 (execCalNow d s) := by
  unfold execCalNow; simp (maxDischargeDepth := 99) +contextual [h]

end Sys2Proof.Machine
end

