-- ==== Sys2Proof/Laws/KeptClock.lean ====
section
/-! SUPPORT. What each function of Machine/Clock.lean keeps: the queue, the burned fuses, the canonical form. -/

namespace Sys2Proof.Machine

open Sys2Proof

set_option linter.all false

@[simp] theorem settleOsc_kept {a0 : State} {s : State} (h : Kept a0 s) : Kept a0 (settleOsc s) := by
  unfold settleOsc; simp (maxDischargeDepth := 99) +contextual [h, KeptC.split_iff]

theorem execXtalQualify_kept {a0 : State} {s : State} (h : Kept a0 s) : KeptOut a0 (execXtalQualify s) := by
  unfold execXtalQualify; simp (maxDischargeDepth := 99) +contextual [h]

@[simp] theorem nearest_kept {a0 : State} {s : State} {a : Int} {d : Nat} (h : Kept a0 s) : Kept a0 (nearest s a d).2 := by
  unfold nearest; simp (maxDischargeDepth := 99) +contextual [h]

@[simp] theorem keepMeasure_kept {a0 s s1 : State} {ppm : Int} (h : Kept a0 s1) : Kept a0 (keepMeasure s ppm s1) := by
  unfold keepMeasure; extract_lets step code d delta code' s2 atEnd run _ s3
  have hd : Kept a0 d.2 := nearest_kept h
  have h2 : Kept a0 s2 := State.countSat_kept (State.setFld_kept (State.setFld_kept hd))
  have h3 : Kept a0 s3 := ⟨h2.pending, h2.fuse, h2.canon⟩
  exact showQual_kept (Kept.ite (State.setFld_kept h3) (Kept.ite (State.setFld_kept h3) h3))

@[simp] theorem takeMark_kept {a0 : State} {s : State} (h : Kept a0 s) : Kept a0 (takeMark s) := by
  unfold takeMark; simp (maxDischargeDepth := 99) +contextual [h]

theorem execTrimMeasurement_kept {a0 : State} {count : Nat} {expected : Nat} {s : State} (h : Kept a0 s) : KeptOut a0 (execTrimMeasurement count expected s) := by
  unfold execTrimMeasurement; try dsimp only
  repeat' (first | (simp (maxDischargeDepth := 99) +contextual [h, KeptC.split_iff]; done) | split)

@[simp] theorem pllEnable_kept {a0 : State} {s : State} {k : Nat} {en : Bool} (h : Kept a0 s) : Kept a0 (pllEnable s k en) := by
  unfold pllEnable; simp (maxDischargeDepth := 99) +contextual [h]

theorem execPllEnable_kept {a0 : State} {k : Fin 64} {en : Bool} {s : State} (h : Kept a0 s) : KeptOut a0 (execPllEnable k en s) := by
  unfold execPllEnable; simp (maxDischargeDepth := 99) +contextual [h]

theorem execPllLock_kept {a0 : State} {k : Fin 64} {s : State} (h : Kept a0 s) : KeptOut a0 (execPllLock k s) := by
  unfold execPllLock; simp (maxDischargeDepth := 99) +contextual [h]

theorem execPllStandby_kept {a0 : State} {k : Fin 64} {s : State} (h : Kept a0 s) : KeptOut a0 (execPllStandby k s) := by
  unfold execPllStandby; simp (maxDischargeDepth := 99) +contextual [h]

@[simp] theorem unStandby_kept {a0 : State} {s : State} {n : Nat} (h : Kept a0 s) : Kept a0 (unStandby s n) := by
  unfold unStandby; simp (maxDischargeDepth := 99) +contextual [h]

@[simp] theorem hwPll_kept {a0 : State} {s : State} {k : Nat} {mhz : Nat} (h : Kept a0 s) : Kept a0 (hwPll s k mhz) := by
  unfold hwPll; simp (maxDischargeDepth := 99) +contextual [h]

@[simp] theorem freePll_kept {a0 : State} {s : State} {k : Nat} (h : Kept a0 s) : Kept a0 (freePll s k) := by
  unfold freePll; simp (maxDischargeDepth := 99) +contextual [h]

@[simp] theorem beginClose_kept {a0 : State} {s : State} {i : Nat} {off : Bool} (h : Kept a0 s) : Kept a0 (beginClose s i off) := by
  unfold beginClose; simp (maxDischargeDepth := 99) +contextual [h]

@[simp] theorem settleMoves_kept {a0 : State} {s : State} (h : Kept a0 s) : Kept a0 (settleMoves s) := by
  unfold settleMoves; simp (maxDischargeDepth := 99) +contextual [h]

@[simp] theorem denyClose_kept {a0 : State} {s : State} {i : Nat} (h : Kept a0 s) : Kept a0 (denyClose s i) := by
  unfold denyClose; simp (maxDischargeDepth := 99) +contextual [h]

@[simp] theorem domGate_kept {a0 : State} {s : State} {i : Nat} (h : Kept a0 s) : Kept a0 (domGate s i) := by
  unfold domGate; simp (maxDischargeDepth := 99) +contextual [h]

@[simp] theorem domOffReq_kept {a0 : State} {s : State} {n : Nat} (h : Kept a0 s) : Kept a0 (domOffReq s n) := by
  unfold domOffReq; try dsimp only
  repeat' (first | (simp (maxDischargeDepth := 99) +contextual [h, KeptC.split_iff]; done) | split)

@[simp] theorem domRunReq_kept {a0 : State} {s : State} {i : Nat} (h : Kept a0 s) : Kept a0 (domRunReq s i) := by
  unfold domRunReq; simp (maxDischargeDepth := 99) +contextual [h]

theorem execDomainGate_kept {a0 : State} {i : Fin 160} {s : State} (h : Kept a0 s) : KeptOut a0 (execDomainGate i s) := by
  unfold execDomainGate; simp (maxDischargeDepth := 99) +contextual [h]

theorem execDomainOff_kept {a0 : State} {n : Fin 128} {s : State} (h : Kept a0 s) : KeptOut a0 (execDomainOff n s) := by
  unfold execDomainOff; simp (maxDischargeDepth := 99) +contextual [h]

theorem execDomainRun_kept {a0 : State} {i : Fin 160} {s : State} (h : Kept a0 s) : KeptOut a0 (execDomainRun i s) := by
  unfold execDomainRun; simp (maxDischargeDepth := 99) +contextual [h]

theorem execAutoClose_kept {a0 : State} {i : Fin 160} {s : State} (h : Kept a0 s) : KeptOut a0 (execAutoClose i s) := by
  unfold execAutoClose; simp (maxDischargeDepth := 99) +contextual [h]

@[simp] theorem wakeClosed_kept {a0 : State} {s0 : State} {i : Nat} (h : Kept a0 s0) : Kept a0 (wakeClosed s0 i) := by
  unfold wakeClosed; simp (maxDischargeDepth := 99) +contextual [h]

@[simp] theorem domStops_kept {a0 : State} {s : State} {i : Nat} (h : Kept a0 s) : Kept a0 (domStops s i) := by
  unfold domStops; simp (maxDischargeDepth := 99) +contextual [h]

theorem execCloseReady_kept {a0 : State} {i : Fin 160} {s : State} (h : Kept a0 s) : KeptOut a0 (execCloseReady i s) := by
  unfold execCloseReady; simp (maxDischargeDepth := 99) +contextual [h]

theorem execCloseRefuse_kept {a0 : State} {i : Fin 160} {s : State} (h : Kept a0 s) : KeptOut a0 (execCloseRefuse i s) := by
  unfold execCloseRefuse; simp (maxDischargeDepth := 99) +contextual [h]

theorem execCloseTimeout_kept {a0 : State} {i : Fin 160} {s : State} (h : Kept a0 s) : KeptOut a0 (execCloseTimeout i s) := by
  unfold execCloseTimeout; simp (maxDischargeDepth := 99) +contextual [h]

@[simp] theorem domStarts_kept {a0 : State} {s : State} {i : Nat} (h : Kept a0 s) : Kept a0 (domStarts s i) := by
  unfold domStarts; simp (maxDischargeDepth := 99) +contextual [h]

theorem execWakeDone_kept {a0 : State} {i : Fin 160} {s : State} (h : Kept a0 s) : KeptOut a0 (execWakeDone i s) := by
  unfold execWakeDone; simp (maxDischargeDepth := 99) +contextual [h]

@[simp] theorem stopDomains_kept {a0 : State} {s : State} {l : List Nat} (h : Kept a0 s) : Kept a0 (stopDomains s l) := by
  unfold stopDomains; simp (maxDischargeDepth := 99) +contextual [h]

@[simp] theorem restoreDomains_kept {a0 : State} {s : State} (h : Kept a0 s) : Kept a0 (restoreDomains s) := by
  unfold restoreDomains; simp (maxDischargeDepth := 99) +contextual [h]

@[simp] theorem switchPoint_kept {a0 : State} {s : State} {g : Nat} {k : Nat} (h : Kept a0 s) : Kept a0 (switchPoint s g k) := by
  unfold switchPoint; simp (maxDischargeDepth := 99) +contextual [h]

@[simp] theorem startVf_kept {a0 : State} {s : State} {g : Nat} (h : Kept a0 s) : Kept a0 (startVf s g) := by
  unfold startVf; simp (maxDischargeDepth := 99) +contextual [h, KeptC.split_iff]

@[simp] theorem vfTarget_kept {a0 : State} {s : State} {g : Nat} {target : Nat} (h : Kept a0 s) : Kept a0 (vfTarget s g target) := by
  unfold vfTarget; simp (maxDischargeDepth := 99) +contextual [h]

theorem execVfTarget_kept {a0 : State} {g : Fin 3} {target : Fin 8} {s : State} (h : Kept a0 s) : KeptOut a0 (execVfTarget g target s) := by
  unfold execVfTarget; simp (maxDischargeDepth := 99) +contextual [h]

@[simp] theorem State.setVf_kept {a0 : State} {s : State} {g : Nat} {v : VfSeq} (h : Kept a0 s) : Kept a0 (State.setVf s g v) := by
  unfold State.setVf; simp (maxDischargeDepth := 99) +contextual [h]

theorem execVfSettle_kept {a0 : State} {g : Fin 3} {millivolt : BitVec 16} {fault : Bool} {s : State} (h : Kept a0 s) : KeptOut a0 (execVfSettle g millivolt fault s) := by
  unfold execVfSettle; try dsimp only
  repeat' (first | (simp (maxDischargeDepth := 99) +contextual [h, KeptC.split_iff]; done) | split)

theorem execVfDone_kept {a0 : State} {g : Fin 3} {s : State} (h : Kept a0 s) : KeptOut a0 (execVfDone g s) := by
  unfold execVfDone; try dsimp only
  repeat' (first | (simp (maxDischargeDepth := 99) +contextual [h, KeptC.split_iff]; done) | split)

end Sys2Proof.Machine
end

