-- ==== Sys2Proof/Laws/KeptBudget.lean ====
section
/-! SUPPORT. What each function of Machine/Budget.lean keeps: the queue, the burned fuses, the canonical form. -/

namespace Sys2Proof.Machine

open Sys2Proof

set_option linter.all false

@[simp] theorem meterBoundary_kept {a0 : State} {s : State} {c : Nat} {i : Nat} (h : Kept a0 s) : Kept a0 (meterBoundary s c i) := by
  unfold meterBoundary; simp (maxDischargeDepth := 99) +contextual [h]

@[simp] theorem fretBoundary_kept {a0 : State} {s : State} (h : Kept a0 s) : Kept a0 (fretBoundary s) := by
  unfold fretBoundary; simp (maxDischargeDepth := 99) +contextual [h]

end Sys2Proof.Machine
end

