-- ==== Sys2Proof/Laws/KeptMode.lean ====
section
/-! SUPPORT. What each function of Machine/Mode.lean keeps: the queue, the burned fuses, the canonical form. -/

namespace Sys2Proof.Machine

open Sys2Proof

set_option linter.all false

@[simp] theorem modeRefuse_kept {a0 : State} {s : State} (h : Kept a0 s) : Kept a0 (modeRefuse s) := by
  unfold modeRefuse; simp (maxDischargeDepth := 99) +contextual [h]

@[simp] theorem idleLanes_kept {a0 : State} {s : State} (h : Kept a0 s) : Kept a0 (idleLanes s) := by
  unfold idleLanes; simp (maxDischargeDepth := 99) +contextual [h]

@[simp] theorem restartLanes_kept {a0 : State} {s : State} (h : Kept a0 s) : Kept a0 (restartLanes s) := by
  unfold restartLanes; simp (maxDischargeDepth := 99) +contextual [h]

@[simp] theorem idlePcie_kept {a0 : State} {s : State} (h : Kept a0 s) : Kept a0 (idlePcie s) := by
  unfold idlePcie; simp (maxDischargeDepth := 99) +contextual [h]

@[simp] theorem restDram_kept {a0 : State} {s : State} (h : Kept a0 s) : Kept a0 (restDram s) := by
  unfold restDram; simp (maxDischargeDepth := 99) +contextual [h]

@[simp] theorem enterContain_kept {a0 : State} {s : State} {cause : Nat} (h : Kept a0 s) : Kept a0 (enterContain s cause) := by
  unfold enterContain; simp (maxDischargeDepth := 99) +contextual [h]

@[simp] theorem restart_kept {a0 : State} {s : State} (h : Kept a0 s) : Kept a0 (restart s) := by
  unfold restart; simp (maxDischargeDepth := 99) +contextual [h]

@[simp] theorem resumeMode_kept {a0 : State} {s : State} (h : Kept a0 s) : Kept a0 (resumeMode s) := by
  unfold resumeMode; try dsimp only
  repeat' (first | (simp (maxDischargeDepth := 99) +contextual [h, KeptC.split_iff]; done) | split)

@[simp] theorem commandContain_kept {a0 : State} {s : State} (h : Kept a0 s) : Kept a0 (commandContain s) := by
  unfold commandContain; simp (maxDischargeDepth := 99) +contextual [h]

theorem execContain_kept {a0 : State} {icls : BitVec 3} {s : State} (h : Kept a0 s) : KeptOut a0 (execContain icls s) := by
  unfold execContain; simp (maxDischargeDepth := 99) +contextual [h]

theorem execResume_kept {a0 : State} {icls : BitVec 3} {s : State} (h : Kept a0 s) : KeptOut a0 (execResume icls s) := by
  unfold execResume; simp (maxDischargeDepth := 99) +contextual [h]

theorem execContainCause_kept {a0 : State} {cause : ContainCause} {s : State} (h : Kept a0 s) : KeptOut a0 (execContainCause cause s) := by
  unfold execContainCause; try dsimp only
  repeat' (first | (simp (maxDischargeDepth := 99) +contextual [h, KeptC.split_iff]; done) | split)

theorem execResumable_kept {a0 : State} {celsius : BitVec 8} {s : State} (h : Kept a0 s) : KeptOut a0 (execResumable celsius s) := by
  unfold execResumable; try dsimp only
  repeat' (first | (simp (maxDischargeDepth := 99) +contextual [h, KeptC.split_iff]; done) | split)

theorem execContentLost_kept {a0 : State} {c : Fin 8} {s : State} (h : Kept a0 s) : KeptOut a0 (execContentLost c s) := by
  unfold execContentLost; simp (maxDischargeDepth := 99) +contextual [h]

theorem execHfSettle_kept {a0 : State} {s : State} (h : Kept a0 s) : KeptOut a0 (execHfSettle s) := by
  unfold execHfSettle; try dsimp only
  repeat' (first | (simp (maxDischargeDepth := 99) +contextual [h, KeptC.split_iff]; done) | split)

theorem execMonitorTrip_kept {a0 : State} {s : State} {count : Option Nat} (h : Kept a0 s) : KeptOut a0 (execMonitorTrip s count) := by
  unfold execMonitorTrip; simp (maxDischargeDepth := 99) +contextual [h]

theorem execFallbackTimeout_kept {a0 : State} {s : State} (h : Kept a0 s) : KeptOut a0 (execFallbackTimeout s) := by
  unfold execFallbackTimeout; simp (maxDischargeDepth := 99) +contextual [h]

theorem execHfCheckFail_kept {a0 : State} {s : State} {count : Nat} (h : Kept a0 s) : KeptOut a0 (execHfCheckFail s count) := by
  unfold execHfCheckFail; try dsimp only
  repeat' (first | (simp (maxDischargeDepth := 99) +contextual [h, KeptC.split_iff]; done) | split)

@[simp] theorem enterDrowse_kept {a0 : State} {s : State} (h : Kept a0 s) : Kept a0 (enterDrowse s) := by
  unfold enterDrowse; simp (maxDischargeDepth := 99) +contextual [h]

theorem execDrowse_kept {a0 : State} {icls : BitVec 3} {s : State} (h : Kept a0 s) : KeptOut a0 (execDrowse icls s) := by
  unfold execDrowse; simp (maxDischargeDepth := 99) +contextual [h]

@[simp] theorem leaveDrowse_kept {a0 : State} {s : State} (h : Kept a0 s) : Kept a0 (leaveDrowse s) := by
  unfold leaveDrowse; simp (maxDischargeDepth := 99) +contextual [h]

@[simp] theorem commandWake_kept {a0 : State} {s : State} (h : Kept a0 s) : Kept a0 (commandWake s) := by
  unfold commandWake; simp (maxDischargeDepth := 99) +contextual [h]

theorem execWake_kept {a0 : State} {icls : BitVec 3} {s : State} (h : Kept a0 s) : KeptOut a0 (execWake icls s) := by
  unfold execWake; simp (maxDischargeDepth := 99) +contextual [h]

@[simp] theorem keepReg_kept {a0 s old : State} {x : Nat × Nat} (h : Kept a0 s) : Kept a0 (keepReg old s x) := State.setReg_kept h

theorem reset_canonical : State.reset.Canonical :=
  ⟨List.Pairwise.nil, SMap.Canon.nil _, SMap.Canon.nil _, SMap.Canon.nil _, SMap.Canon.nil _, SMap.Canon.nil _, SMap.Canon.nil _, SMap.Canon.nil _⟩

@[simp] theorem afterReset_kept {a0 s : State} (h : Kept a0 s) : Kept a0 (afterReset s) :=
  drawTreeKeys_kept ⟨h.pending, h.fuse, fun _ => reset_canonical⟩

@[simp] theorem afterWarmReset_kept {a0 s : State} (h : Kept a0 s) : Kept a0 (afterWarmReset s) :=
  have k := afterReset_kept h
  ⟨k.pending, k.fuse, k.canon⟩

@[simp] theorem forgetDram_kept {a0 s t : State} (h : Kept a0 t) : Kept a0 (forgetDram s t) :=
  Kept.foldl ⟨h.pending, h.fuse, h.canon⟩ fun _ _ hu => State.setFld_kept (State.loseContents_kept hu)

@[simp] theorem showSeal_kept {a0 s old : State} {intact : Bool} (h : Kept a0 s) : Kept a0 (showSeal s old intact) :=
  State.setFld_kept (State.setFld_kept (State.setFld_kept h))

@[simp] theorem powerOnReset_kept {a0 : State} {s : State} {intact : Bool} (h : Kept a0 s) : Kept a0 (powerOnReset s intact) := by
  unfold powerOnReset; exact showSeal_kept (forgetDram_kept (afterReset_kept h))

theorem execPowerOnReset_kept {a0 : State} {sealIntact : Bool} {s : State} (h : Kept a0 s) : KeptOut a0 (execPowerOnReset sealIntact s) := by
  unfold execPowerOnReset; simp (maxDischargeDepth := 99) +contextual [h]

@[simp] theorem pinReset_kept {a0 : State} {s : State} (h : Kept a0 s) : Kept a0 (pinReset s) := by
  unfold pinReset
  have ht : Kept a0 (keptAlways.foldl (keepReg s) (forgetDram s (afterWarmReset s))) :=
    Kept.foldl (forgetDram_kept (afterWarmReset_kept h)) fun _ _ hu => keepReg_kept hu
  generalize keptAlways.foldl (keepReg s) (forgetDram s (afterWarmReset s)) = t at ht ⊢
  exact State.setFld_kept (showQual_kept (loseLock_kept ⟨ht.pending, ht.fuse, ht.canon⟩))

theorem execPinReset_kept {a0 : State} {lowNs : Nat} {s : State} (h : Kept a0 s) : KeptOut a0 (execPinReset lowNs s) := by
  unfold execPinReset; simp (maxDischargeDepth := 99) +contextual [h]

@[simp] theorem systemReset_kept {a0 : State} {s : State} {cause : Fld} (h : Kept a0 s) : Kept a0 (systemReset s cause) := by
  unfold systemReset; extract_lets k t _ _ _ u; clear_value k
  have ht : Kept a0 t := Kept.foldl (forgetDram_kept (afterWarmReset_kept h)) fun _ _ hu => keepReg_kept hu
  have hu : Kept a0 u := ⟨ht.pending, ht.fuse, ht.canon⟩
  exact State.setFld_kept hu

theorem execResetSystemCmd_kept {a0 : State} {key : Byte} {icls : BitVec 3} {s : State} (h : Kept a0 s) : KeptOut a0 (execResetSystemCmd key icls s) := by
  unfold execResetSystemCmd; simp (maxDischargeDepth := 99) +contextual [h]

theorem execResetManagementCmd_kept {a0 : State} {key : Byte} {icls : BitVec 3} {s : State} (h : Kept a0 s) : KeptOut a0 (execResetManagementCmd key icls s) := by
  unfold execResetManagementCmd; simp (maxDischargeDepth := 99) +contextual [h]

theorem execSystemReset_kept {a0 : State} {s : State} (h : Kept a0 s) : KeptOut a0 (execSystemReset s) := by
  unfold execSystemReset; simp (maxDischargeDepth := 99) +contextual [h]

@[simp] theorem openHost_kept {a0 : State} {s : State} (h : Kept a0 s) : Kept a0 (openHost s) := by
  unfold openHost; simp (maxDischargeDepth := 99) +contextual [h]

@[simp] theorem bootFetch_kept {a0 : State} {s : State} (h : Kept a0 s) : Kept a0 (bootFetch s) := by
  unfold bootFetch; simp (maxDischargeDepth := 99) +contextual [h]

@[simp] theorem bootStart_kept {a0 : State} {s : State} (h : Kept a0 s) : Kept a0 (bootStart s) := by
  unfold bootStart; try dsimp only
  repeat' (first | (simp (maxDischargeDepth := 99) +contextual [h, KeptC.split_iff]; done) | split)

theorem execGroupBGood_kept {a0 : State} {s : State} (h : Kept a0 s) : KeptOut a0 (execGroupBGood s) := by
  unfold execGroupBGood; try dsimp only
  repeat' (first | (simp (maxDischargeDepth := 99) +contextual [h, KeptC.split_iff]; done) | split)

theorem execSupplyTimeout_kept {a0 : State} {s : State} (h : Kept a0 s) : KeptOut a0 (execSupplyTimeout s) := by
  unfold execSupplyTimeout; try dsimp only
  repeat' (first | (simp (maxDischargeDepth := 99) +contextual [h, KeptC.split_iff]; done) | split)

theorem execStrapSample_kept {a0 : State} {bootsrc : Fin 8} {pull : Fin 3} {node : BitVec 7} {s : State} (h : Kept a0 s) : KeptOut a0 (execStrapSample bootsrc pull node s) := by
  unfold execStrapSample; try dsimp only
  repeat' (first | (simp (maxDischargeDepth := 99) +contextual [h, KeptC.split_iff]; done) | split)

@[simp] theorem extendMeas_kept {a0 : State} {s : State} {i : Nat} {v : List Byte} (h : Kept a0 s) : Kept a0 (extendMeas s i v) := by
  unfold extendMeas; simp (maxDischargeDepth := 99) +contextual [h]

@[simp] theorem measureFw_kept {a0 : State} {s : State} {bs : List Byte} {n : Nat} (h : Kept a0 s) : Kept a0 (measureFw s bs n) := by
  unfold measureFw; simp (maxDischargeDepth := 99) +contextual [h]

@[simp] theorem handOver_kept {a0 : State} {s : State} {bs : List Byte} (h : Kept a0 s) : Kept a0 (handOver s bs) := by
  unfold handOver; try dsimp only
  repeat' (first | (simp (maxDischargeDepth := 99) +contextual [h, KeptC.split_iff]; done) | split)

@[simp] theorem fwFailed_kept {a0 : State} {s : State} (h : Kept a0 s) : Kept a0 (fwFailed s) := by
  unfold fwFailed; try dsimp only
  repeat' (first | (simp (maxDischargeDepth := 99) +contextual [h, KeptC.split_iff]; done) | split)

theorem execHandover_kept {a0 : State} {container : List Byte} {s : State} (h : Kept a0 s) : KeptOut a0 (execHandover container s) := by
  unfold execHandover; simp (maxDischargeDepth := 99) +contextual [h]

theorem execFwFail_kept {a0 : State} {container : Option (List Byte)} {s : State} (h : Kept a0 s) : KeptOut a0 (execFwFail container s) := by
  unfold execFwFail; try dsimp only
  repeat' (first | (simp (maxDischargeDepth := 99) +contextual [h, KeptC.split_iff]; done) | split)

theorem execSelftestFail_kept {a0 : State} {s : State} (h : Kept a0 s) : KeptOut a0 (execSelftestFail s) := by
  unfold execSelftestFail; try dsimp only
  repeat' (first | (simp (maxDischargeDepth := 99) +contextual [h, KeptC.split_iff]; done) | split)

@[simp] theorem bootWindow_kept {a0 : State} {s : State} {p : Packet} (h : Kept a0 s) : Kept a0 (bootWindow s p) := by
  unfold bootWindow; try dsimp only
  repeat' (first | (simp (maxDischargeDepth := 99) +contextual [h, KeptC.split_iff]; done) | split)

theorem execBootWindowWrite_kept {a0 : State} {p : Packet} {s : State} (h : Kept a0 s) : KeptOut a0 (execBootWindowWrite p s) := by
  unfold execBootWindowWrite; try dsimp only
  repeat' (first | (simp (maxDischargeDepth := 99) +contextual [h, KeptC.split_iff]; done) | split)

theorem execAutoflip_kept {a0 : State} {s : State} (h : Kept a0 s) : KeptOut a0 (execAutoflip s) := by
  unfold execAutoflip; simp (maxDischargeDepth := 99) +contextual [h]

@[simp] theorem managementReset_kept {a0 : State} {s : State} {recent : Nat} (h : Kept a0 s) : Kept a0 (managementReset s recent) := by
  unfold managementReset; try dsimp only
  repeat' (first | (simp (maxDischargeDepth := 99) +contextual [h, KeptC.split_iff]; done) | split)

theorem execManagementReset_kept {a0 : State} {recent : Nat} {s : State} (h : Kept a0 s) : KeptOut a0 (execManagementReset recent s) := by
  unfold execManagementReset; simp (maxDischargeDepth := 99) +contextual [h]

@[simp] theorem enterDormant_kept {a0 : State} {s : State} (h : Kept a0 s) : Kept a0 (enterDormant s) := by
  unfold enterDormant; try dsimp only
  repeat' (first | (simp (maxDischargeDepth := 99) +contextual [h, KeptC.split_iff]; done) | split)

theorem execDormant_kept {a0 : State} {icls : BitVec 3} {s : State} (h : Kept a0 s) : KeptOut a0 (execDormant icls s) := by
  unfold execDormant; simp (maxDischargeDepth := 99) +contextual [h]

theorem execWakeSource_kept {a0 : State} {src : Fin 5} {s : State} (h : Kept a0 s) : KeptOut a0 (execWakeSource src s) := by
  unfold execWakeSource; try dsimp only
  repeat' (first | (simp (maxDischargeDepth := 99) +contextual [h, KeptC.split_iff]; done) | split)

@[simp] theorem enterService_kept {a0 : State} {s : State} (h : Kept a0 s) : Kept a0 (enterService s) := by
  unfold enterService; simp (maxDischargeDepth := 99) +contextual [h]

theorem execServiceEnter_kept {a0 : State} {s : State} (h : Kept a0 s) : KeptOut a0 (execServiceEnter s) := by
  unfold execServiceEnter; simp (maxDischargeDepth := 99) +contextual [h]

theorem execVccioChange_kept {a0 : State} {bank : Fin 30} {good : Bool} {s : State} (h : Kept a0 s) : KeptOut a0 (execVccioChange bank good s) := by
  unfold execVccioChange; simp (maxDischargeDepth := 99) +contextual [h]

end Sys2Proof.Machine
end

