-- ==== Sys2Proof/Laws/KeptErrColl.lean ====
section
/-! SUPPORT. What each function of Machine/ErrColl.lean keeps: the queue, the burned fuses, the canonical form. -/

namespace Sys2Proof.Machine

open Sys2Proof

set_option linter.all false

theorem execErrorReportSend_kept {a0 : State} {u : BitVec 8} {s : State} (h : Kept a0 s) : KeptOut a0 (execErrorReportSend u s) := by
  unfold execErrorReportSend; split
  · exact KeptOut.next_iff.2 h
  · exact KeptOut.next_iff.2 ⟨h.pending, h.fuse, fun c => { h.canon c with
      reports := (h.canon c).reports.sublist List.erase_sublist }⟩

@[simp] theorem State.setErr_kept {a0 : State} {s : State} {n : Nat} {e : ErrEntry} (h : Kept a0 s) : Kept a0 (State.setErr s n e) := by
  unfold State.setErr; simp (maxDischargeDepth := 99) +contextual [h]

@[simp] theorem showErr_kept {a0 : State} {s : State} (h : Kept a0 s) : Kept a0 (showErr s) := by
  unfold showErr; simp (maxDischargeDepth := 99) +contextual [h]

@[simp] theorem forwardErr_kept {a0 : State} {s : State} {rec : List Byte} (h : Kept a0 s) : Kept a0 (forwardErr s rec) := by
  unfold forwardErr; simp (maxDischargeDepth := 99) +contextual [h]

@[simp] theorem queueErr_kept {a0 : State} {s : State} {n : Nat} {flags : Nat} (h : Kept a0 s) : Kept a0 (queueErr s n flags) := by
  unfold queueErr; try dsimp only
  repeat' (first | (simp (maxDischargeDepth := 99) +contextual [h, KeptC.split_iff]; done) | split)

@[simp] theorem deliverErr_kept {a0 : State} {s : State} {n : Nat} {flags : Nat} (h : Kept a0 s) : Kept a0 (deliverErr s n flags) := by
  unfold deliverErr; simp (maxDischargeDepth := 99) +contextual [h]

@[simp] theorem drainErr_kept {a0 s : State} {l : List (Nat × Nat)} (h : Kept a0 s) : Kept a0 (drainErr l s) := by
  induction l generalizing s with
  | nil => exact h
  | cons x r ih =>
    unfold drainErr; split
    · exact ih (queueErr_kept ⟨h.pending, h.fuse, h.canon⟩)
    · exact h

@[simp] theorem createErr_kept {a0 : State} {s : State} {n : Nat} {e : ErrEntry} (h : Kept a0 s) : Kept a0 (createErr s n e) := by
  unfold createErr; simp (maxDischargeDepth := 99) +contextual [h]

@[simp] theorem addErr_kept {a0 : State} {s : State} {n : Nat} {e : ErrEntry} {count : Nat} {now : Nat} {sysid : Nat} (h : Kept a0 s) : Kept a0 (addErr s n e count now sysid) := by
  unfold addErr; simp (maxDischargeDepth := 99) +contextual [h]

@[simp] theorem newErr_kept {a0 : State} {s : State} {e : ErrEntry} (h : Kept a0 s) : Kept a0 (newErr s e) := by
  unfold newErr; try dsimp only
  repeat' (first | (simp (maxDischargeDepth := 99) +contextual [h, KeptC.split_iff]; done) | split)

@[simp] theorem collect_kept {a0 : State} {s : State} {r : Report} {remote : Bool} {sysid : Nat} {now : Nat} (h : Kept a0 s) : Kept a0 (collect s r remote sysid now) := by
  unfold collect; try dsimp only
  repeat' (first | (simp (maxDischargeDepth := 99) +contextual [h, KeptC.split_iff]; done) | split)

theorem execErrorReportReceive_kept {a0 : State} {remote : Bool} {now : Word64} {s : State} (h : Kept a0 s) : KeptOut a0 (execErrorReportReceive remote now s) := by
  unfold execErrorReportReceive; try dsimp only
  repeat' (first | (simp (maxDischargeDepth := 99) +contextual [h, KeptC.split_iff]; done) | split)

theorem execErrWindowEnd_kept {a0 : State} {entry : Fin 513} {s : State} (h : Kept a0 s) : KeptOut a0 (execErrWindowEnd entry s) := by
  unfold execErrWindowEnd; try dsimp only
  repeat' (first | (simp (maxDischargeDepth := 99) +contextual [h, KeptC.split_iff]; done) | split)

theorem execErrDeliveryQueued_kept {a0 : State} {s : State} (h : Kept a0 s) : KeptOut a0 (execErrDeliveryQueued s) := by
  unfold execErrDeliveryQueued; simp (maxDischargeDepth := 99) +contextual [h]

@[simp] theorem popErr_kept {a0 : State} {s : State} (h : Kept a0 s) : Kept a0 (popErr s) := by
  unfold popErr; simp (maxDischargeDepth := 99) +contextual [h]

theorem execErrPop_kept {a0 : State} {s : State} (h : Kept a0 s) : KeptOut a0 (execErrPop s) := by
  unfold execErrPop; simp (maxDischargeDepth := 99) +contextual [h]

end Sys2Proof.Machine
end

