-- ==== Sys2Proof/Laws/KeptEvent.lean ====
section
/-! SUPPORT. What each function of Machine/Event.lean keeps: the queue, the burned fuses, the canonical form. -/

namespace Sys2Proof.Machine

open Sys2Proof

set_option linter.all false

theorem execEventEdge_kept {a0 : State} {n : BitVec 12} {v : Bool} {s : State} (h : Kept a0 s) : KeptOut a0 (execEventEdge n v s) := by
  unfold execEventEdge; simp (maxDischargeDepth := 99) +contextual [h]

theorem execEventReassign_kept {a0 : State} {n : BitVec 12} {s : State} (h : Kept a0 s) : KeptOut a0 (execEventReassign n s) := by
  unfold execEventReassign; simp (maxDischargeDepth := 99) +contextual [h]

@[simp] theorem swset_kept {a0 : State} {s : State} {num : Nat} (h : Kept a0 s) : Kept a0 (swset s num) := by
  unfold swset; simp (maxDischargeDepth := 99) +contextual [h]

theorem execSwset_kept {a0 : State} {num : BitVec 6} {s : State} (h : Kept a0 s) : KeptOut a0 (execSwset num s) := by
  unfold execSwset; simp (maxDischargeDepth := 99) +contextual [h]

@[simp] theorem claim_kept {a0 : State} {s : State} {t : Nat} (h : Kept a0 s) : Kept a0 (claim s t) := by
  unfold claim; simp (maxDischargeDepth := 99) +contextual [h]

@[simp] theorem claimRead_kept {a0 : State} {s : State} {t : Nat} {icls : Nat} (h : Kept a0 s) : Kept a0 (claimRead s t icls) := by
  unfold claimRead; simp (maxDischargeDepth := 99) +contextual [h]

theorem execClaim_kept {a0 : State} {t : Fin 65} {icls : BitVec 3} {s : State} (h : Kept a0 s) : KeptOut a0 (execClaim t icls s) := by
  unfold execClaim; simp (maxDischargeDepth := 99) +contextual [h]

@[simp] theorem completeEvt_kept {a0 : State} {s : State} {t : Nat} {n : Nat} (h : Kept a0 s) : Kept a0 (completeEvt s t n) := by
  unfold completeEvt; simp (maxDischargeDepth := 99) +contextual [h]

theorem execCompletion_kept {a0 : State} {t : Fin 65} {n : BitVec 12} {icls : BitVec 3} {s : State} (h : Kept a0 s) : KeptOut a0 (execCompletion t n icls s) := by
  unfold execCompletion; simp (maxDischargeDepth := 99) +contextual [h]

@[simp] theorem State.setCore_kept {a0 : State} {s : State} {i : Nat} {x : CoreX} (h : Kept a0 s) : Kept a0 (State.setCore s i x) := by
  unfold State.setCore; simp (maxDischargeDepth := 99) +contextual [h]

@[simp] theorem State.setCluster_kept {a0 : State} {s : State} {c : Nat} {x : ClusterX} (h : Kept a0 s) : Kept a0 (State.setCluster s c x) := by
  unfold State.setCluster; simp (maxDischargeDepth := 99) +contextual [h]

@[simp] theorem resetCore_kept {a0 : State} {s : State} {i : Nat} (h : Kept a0 s) : Kept a0 (resetCore s i) := by
  unfold resetCore; simp (maxDischargeDepth := 99) +contextual [h]

@[simp] theorem startCore_kept {a0 : State} {s : State} {i : Nat} (h : Kept a0 s) : Kept a0 (startCore s i) := by
  unfold startCore; simp (maxDischargeDepth := 99) +contextual [h]

@[simp] theorem coreRunWrite_kept {a0 : State} {s : State} {run : Nat} (h : Kept a0 s) : Kept a0 (coreRunWrite s run) := by
  unfold coreRunWrite; simp (maxDischargeDepth := 99) +contextual [h]

theorem execCoreRun_kept {a0 : State} {run : Word32} {icls : BitVec 3} {s : State} (h : Kept a0 s) : KeptOut a0 (execCoreRun run icls s) := by
  unfold execCoreRun; simp (maxDischargeDepth := 99) +contextual [h]

@[simp] theorem wdSetCount_kept {a0 : State} {s : State} {i : Nat} {v : Nat} (h : Kept a0 s) : Kept a0 (wdSetCount s i v) := by
  unfold wdSetCount; simp (maxDischargeDepth := 99) +contextual [h]

@[simp] theorem wdKick_kept {a0 : State} {s : State} {i : Nat} {key : Nat} (h : Kept a0 s) : Kept a0 (wdKick s i key) := by
  unfold wdKick; simp (maxDischargeDepth := 99) +contextual [h]

theorem execWatchdogKick_kept {a0 : State} {i : Fin 33} {key : Byte} {icls : BitVec 3} {s : State} (h : Kept a0 s) : KeptOut a0 (execWatchdogKick i key icls s) := by
  unfold execWatchdogKick; simp (maxDischargeDepth := 99) +contextual [h]

theorem execWatchdogWarning_kept {a0 : State} {i : Fin 33} {s : State} (h : Kept a0 s) : KeptOut a0 (execWatchdogWarning i s) := by
  unfold execWatchdogWarning; simp (maxDischargeDepth := 99) +contextual [h]

theorem execWatchdogExpire_kept {a0 : State} {i : Fin 33} {recent : Nat} {s : State} (h : Kept a0 s) : KeptOut a0 (execWatchdogExpire i recent s) := by
  unfold execWatchdogExpire; simp (maxDischargeDepth := 99) +contextual [h]

end Sys2Proof.Machine
end

