-- ==== Sys2Proof/Laws/KeptCores.lean ====
section
/-! SUPPORT. What each function of Machine/Cores.lean keeps: the queue, the burned fuses, the canonical form. -/

namespace Sys2Proof.Machine

open Sys2Proof

set_option linter.all false

@[simp] theorem coreFault_kept {a0 : State} {s : State} {i : Nat} {op : CoreOp} {va : Word64} (h : Kept a0 s) : Kept a0 (coreFault s i op va) := by
  unfold coreFault; simp (maxDischargeDepth := 99) +contextual [h]

@[simp] theorem coreValue_kept {a0 : State} {s : State} {i : Nat} {v : Nat} (h : Kept a0 s) : Kept a0 (coreValue s i v) := by
  unfold coreValue; simp (maxDischargeDepth := 99) +contextual [h]

@[simp] theorem breakReservations_kept {a0 : State} {s : State} {i : Nat} {line : Nat} (h : Kept a0 s) : Kept a0 (breakReservations s i line) := by
  unfold breakReservations; simp (maxDischargeDepth := 99) +contextual [h]

@[simp] theorem writeCache_kept {a0 : State} {s : State} {i : Nat} {line : Nat} {d : Line} (h : Kept a0 s) : Kept a0 (writeCache s i line d) := by
  unfold writeCache; simp (maxDischargeDepth := 99) +contextual [h]

@[simp] theorem onLine_kept {a0 : State} {s : State} {a : CoreAcc} {l : Line} (h : Kept a0 s) : Kept a0 (onLine s a l) := by
  unfold onLine; try dsimp only
  repeat' (first | (simp (maxDischargeDepth := 99) +contextual [h, KeptC.split_iff]; done) | split)

@[simp] theorem coreSend_kept {a0 : State} {s : State} {c : Nat} {p : Packet} {a : Option CoreAcc} (h : Kept a0 s) : Kept a0 (coreSend s c p a) := by
  unfold coreSend; simp (maxDischargeDepth := 99) +contextual [h]

@[simp] theorem evict_kept {a0 : State} {s : State} {c : Nat} {line : Nat} (h : Kept a0 s) : Kept a0 (evict s c line) := by
  unfold evict; try dsimp only
  repeat' (first | (simp (maxDischargeDepth := 99) +contextual [h, KeptC.split_iff]; done) | split)

@[simp] theorem zicbom_kept {a0 : State} {s : State} {a : CoreAcc} (h : Kept a0 s) : Kept a0 (zicbom s a) := by
  unfold zicbom; try dsimp only
  repeat' (first | (simp (maxDischargeDepth := 99) +contextual [h, KeptC.split_iff]; done) | split)

@[simp] theorem cacheable_kept {a0 : State} {s : State} {a : CoreAcc} {victim : Option Nat} (h : Kept a0 s) : Kept a0 (cacheable s a victim) := by
  unfold cacheable; try dsimp only
  repeat' (first | (simp (maxDischargeDepth := 99) +contextual [h, KeptC.split_iff]; done) | split)

@[simp] theorem ioAccess_kept {a0 : State} {s : State} {a : CoreAcc} (h : Kept a0 s) : Kept a0 (ioAccess s a) := by
  unfold ioAccess; try dsimp only
  repeat' (first | (simp (maxDischargeDepth := 99) +contextual [h, KeptC.split_iff]; done) | split)

@[simp] theorem takeAccess_kept {a0 : State} {s : State} {a : CoreAcc} {sl : Nat} {prof : Nat} {off : Nat} (h : Kept a0 s) : Kept a0 (takeAccess s a sl prof off) := by
  unfold takeAccess; try dsimp only
  repeat' (first | (simp (maxDischargeDepth := 99) +contextual [h, KeptC.split_iff]; done) | split)

@[simp] theorem coreAnswer_kept {a0 : State} {s : State} {a : CoreAcc} {p : Packet} (h : Kept a0 s) : Kept a0 (coreAnswer s a p) := by
  unfold coreAnswer; try dsimp only
  repeat' (first | (simp (maxDischargeDepth := 99) +contextual [h, KeptC.split_iff]; done) | split)

@[simp] theorem absorbCore_kept {a0 : State} {s : State} {c : Nat} (h : Kept a0 s) : Kept a0 (absorbCore s c) := by
  unfold absorbCore; refine Kept.foldl (State.setNetPort_kept h) fun t p ht => ?_
  dsimp only; split <;> simp (maxDischargeDepth := 99) [ht]

@[simp] theorem coreAccess_kept {a0 : State} {s : State} {a : CoreAcc} {victim : Option Nat} (h : Kept a0 s) : Kept a0 (coreAccess s a victim) := by
  unfold coreAccess; try dsimp only
  repeat' (first | (simp (maxDischargeDepth := 99) +contextual [h, KeptC.split_iff]; done) | split)

theorem execCoreMemoryAccess_kept {a0 : State} {core : Fin 32} {op : CoreOp} {va : Word64} {addr : BitVec 56} {size : Fin 4} {data : Word64} {victim : Option (BitVec 50)} {s : State} (h : Kept a0 s) : KeptOut a0 (execCoreMemoryAccess core op va addr size data victim s) := by
  unfold execCoreMemoryAccess; simp (maxDischargeDepth := 99) +contextual [h]

theorem execTakeLoad_kept {a0 : State} {core : Fin 32} {slice : Fin 8} {profile : Fin 64} {va : Word64} {s : State} (h : Kept a0 s) : KeptOut a0 (execTakeLoad core slice profile va s) := by
  unfold execTakeLoad; simp (maxDischargeDepth := 99) +contextual [h]

theorem execTakeBufferLoad_kept {a0 : State} {core : Fin 32} {slice : Fin 8} {profile : Fin 64} {off : Fin 128} {size : Fin 4} {va : Word64} {s : State} (h : Kept a0 s) : KeptOut a0 (execTakeBufferLoad core slice profile off size va s) := by
  unfold execTakeBufferLoad; simp (maxDischargeDepth := 99) +contextual [h]

@[simp] theorem coreAlarm_kept {a0 : State} {s : State} {r : AlarmRec} (h : Kept a0 s) : Kept a0 (coreAlarm s r) := by
  unfold coreAlarm; try dsimp only
  repeat' (first | (simp (maxDischargeDepth := 99) +contextual [h, KeptC.split_iff]; done) | split)

end Sys2Proof.Machine
end

