-- ==== Sys2Proof/Laws/KeptDebug.lean ====
section
/-! SUPPORT. What each function of Machine/Debug.lean keeps: the queue, the burned fuses, the canonical form. -/

namespace Sys2Proof.Machine

open Sys2Proof

set_option linter.all false

@[simp] theorem State.drawBytes_kept {a0 : State} {s : State} {n : Nat} (h : Kept a0 s) : Kept a0 (State.drawBytes s n) := by
  unfold State.drawBytes; simp (maxDischargeDepth := 99) +contextual [h]

@[simp] theorem setKxBytes_kept {a0 s : State} {first : Nat} {l : List Byte} (h : Kept a0 s) : Kept a0 (setKxBytes s first l) := by
  induction l generalizing s first with
  | nil => exact h
  | cons b bs ih => exact ih (State.setReg_kept h)

@[simp] theorem kxFail_kept {a0 : State} {s : State} (h : Kept a0 s) : Kept a0 (kxFail s) := by
  unfold kxFail; simp (maxDischargeDepth := 99) +contextual [h]

@[simp] theorem kxStart_kept {a0 : State} {s : State} {soon : Bool} (h : Kept a0 s) : Kept a0 (kxStart s soon) := by
  unfold kxStart; simp (maxDischargeDepth := 99) +contextual [h]

@[simp] theorem kxAnswer_kept {a0 : State} {s : State} {late : Bool} (h : Kept a0 s) : Kept a0 (kxAnswer s late) := by
  unfold kxAnswer; try dsimp only
  repeat' (first | (simp (maxDischargeDepth := 99) +contextual [h, KeptC.split_iff]; done) | split)

@[simp] theorem kxClose_kept {a0 : State} {s : State} (h : Kept a0 s) : Kept a0 (kxClose s) := by
  unfold kxClose; simp (maxDischargeDepth := 99) +contextual [h]

theorem execKxStart_kept {a0 : State} {soon : Bool} {_icls : BitVec 3} {s : State} (h : Kept a0 s) : KeptOut a0 (execKxStart soon _icls s) := by
  unfold execKxStart; simp (maxDischargeDepth := 99) +contextual [h]

theorem execKxAnswer_kept {a0 : State} {late : Bool} {_icls : BitVec 3} {s : State} (h : Kept a0 s) : KeptOut a0 (execKxAnswer late _icls s) := by
  unfold execKxAnswer; simp (maxDischargeDepth := 99) +contextual [h]

theorem execKxClose_kept {a0 : State} {_icls : BitVec 3} {s : State} (h : Kept a0 s) : KeptOut a0 (execKxClose _icls s) := by
  unfold execKxClose; simp (maxDischargeDepth := 99) +contextual [h]

theorem execKxSessionTimeout_kept {a0 : State} {s : State} (h : Kept a0 s) : KeptOut a0 (execKxSessionTimeout s) := by
  unfold execKxSessionTimeout; simp (maxDischargeDepth := 99) +contextual [h]

@[simp] theorem setCoreRegs_kept {a0 : State} {s : State} {i : Nat} {m : SMap Word64} (h : Kept a0 s) : Kept a0 (setCoreRegs s i m) := by
  unfold setCoreRegs; simp (maxDischargeDepth := 99) +contextual [h]

@[simp] theorem seeRegs_kept {a0 : State} {s : State} {i : Nat} {regs : List (BitVec 16 × Word64)} (h : Kept a0 s) : Kept a0 (seeRegs s i regs) := by
  unfold seeRegs; simp (maxDischargeDepth := 99) +contextual [h]

@[simp] theorem clearReservation_kept {a0 : State} {s : State} {i : Nat} (h : Kept a0 s) : Kept a0 (clearReservation s i) := by
  unfold clearReservation; simp (maxDischargeDepth := 99) +contextual [h]

@[simp] theorem enterHalt_kept {a0 : State} {s : State} {i : Nat} {cause : Nat} {regs : List (BitVec 16 × Word64)} (h : Kept a0 s) : Kept a0 (enterHalt s i cause regs) := by
  unfold enterHalt; simp (maxDischargeDepth := 99) +contextual [h]

@[simp] theorem haltCore_kept {a0 : State} {s : State} {i : Nat} {regs : List (BitVec 16 × Word64)} (h : Kept a0 s) : Kept a0 (haltCore s i regs) := by
  unfold haltCore; simp (maxDischargeDepth := 99) +contextual [h]

@[simp] theorem thawWatchdog_kept {a0 : State} {s : State} {i : Nat} (h : Kept a0 s) : Kept a0 (thawWatchdog s i) := by
  unfold thawWatchdog; simp (maxDischargeDepth := 99) +contextual [h]

@[simp] theorem resumeCore_kept {a0 : State} {s : State} {i : Nat} (h : Kept a0 s) : Kept a0 (resumeCore s i) := by
  unfold resumeCore; simp (maxDischargeDepth := 99) +contextual [h]

@[simp] theorem stepCore_kept {a0 : State} {s : State} {i : Nat} {regs : List (BitVec 16 × Word64)} (h : Kept a0 s) : Kept a0 (stepCore s i regs) := by
  unfold stepCore; simp (maxDischargeDepth := 99) +contextual [h]

theorem execDbgHalt_kept {a0 : State} {i : Fin 33} {regs : List (BitVec 16 × Word64)} {s : State} (h : Kept a0 s) : KeptOut a0 (execDbgHalt i regs s) := by
  unfold execDbgHalt; simp (maxDischargeDepth := 99) +contextual [h]

theorem execDbgResume_kept {a0 : State} {i : Fin 33} {s : State} (h : Kept a0 s) : KeptOut a0 (execDbgResume i s) := by
  unfold execDbgResume; simp (maxDischargeDepth := 99) +contextual [h]

theorem execDbgStep_kept {a0 : State} {i : Fin 33} {regs : List (BitVec 16 × Word64)} {s : State} (h : Kept a0 s) : KeptOut a0 (execDbgStep i regs s) := by
  unfold execDbgStep; simp (maxDischargeDepth := 99) +contextual [h]

theorem execEbreakHalt_kept {a0 : State} {i : Fin 33} {regs : List (BitVec 16 × Word64)} {s : State} (h : Kept a0 s) : KeptOut a0 (execEbreakHalt i regs s) := by
  unfold execEbreakHalt; simp (maxDischargeDepth := 99) +contextual [h]

@[simp] theorem registerAccess_kept {a0 : State} {s : State} {i : Nat} {write : Bool} {r : Nat} (h : Kept a0 s) : Kept a0 (registerAccess s i write r) := by
  unfold registerAccess; simp (maxDischargeDepth := 99) +contextual [h]

theorem execRegisterAccess_kept {a0 : State} {i : Fin 33} {write : Bool} {reg : BitVec 16} {s : State} (h : Kept a0 s) : KeptOut a0 (execRegisterAccess i write reg s) := by
  unfold execRegisterAccess; simp (maxDischargeDepth := 99) +contextual [h]

@[simp] theorem act_kept {a0 : State} {s : State} {i : Nat} {cause : Nat} {actions : List Nat} {regs : List (BitVec 16 × Word64)} (h : Kept a0 s) : Kept a0 (act s i cause actions regs) := by
  unfold act; simp (maxDischargeDepth := 99) +contextual [h]

theorem execComparatorMatch_kept {a0 : State} {i : Fin 33} {pc : Word64} {acc : List (Bool × Word64)} {scontext : BitVec 16} {regs : List (BitVec 16 × Word64)} {s : State} (h : Kept a0 s) : KeptOut a0 (execComparatorMatch i pc acc scontext regs s) := by
  unfold execComparatorMatch; simp (maxDischargeDepth := 99) +contextual [h]

theorem execWatchMatch_kept {a0 : State} {i : Fin 33} {w : Fin 4} {pc : Word64} {write : Bool} {addr : Word64} {size : Fin 4} {value : Word64} {scontext : BitVec 16} {regs : List (BitVec 16 × Word64)} {s : State} (h : Kept a0 s) : KeptOut a0 (execWatchMatch i w pc write addr size value scontext regs s) := by
  unfold execWatchMatch; simp (maxDischargeDepth := 99) +contextual [h]

end Sys2Proof.Machine
end

