-- ==== Sys2Proof/Laws/KeptProbe.lean ====
section
/-! SUPPORT. What each function of Machine/Probe.lean keeps: the queue, the burned fuses, the canonical form. -/

namespace Sys2Proof.Machine

open Sys2Proof

set_option linter.all false

@[simp] theorem dbgSend_kept {a0 : State} {s : State} {channel : Nat} {p : Packet} (h : Kept a0 s) : Kept a0 (dbgSend s channel p) := by
  unfold dbgSend; simp (maxDischargeDepth := 99) +contextual [h]

@[simp] theorem captureDone_kept {a0 : State} {s : State} (h : Kept a0 s) : Kept a0 (captureDone s) := by
  unfold captureDone; simp (maxDischargeDepth := 99) +contextual [h]

@[simp] theorem captureTrigger_kept {a0 : State} {s : State} {sample : Word64} (h : Kept a0 s) : Kept a0 (captureTrigger s sample) := by
  unfold captureTrigger; try dsimp only
  repeat' (first | (simp (maxDischargeDepth := 99) +contextual [h, KeptC.split_iff]; done) | split)

@[simp] theorem writeFlit_kept {a0 : State} {s : State} {l : Line} {rest : List Line} (h : Kept a0 s) : Kept a0 (writeFlit s l rest) := by
  unfold writeFlit; simp (maxDischargeDepth := 99) +contextual [h]

@[simp] theorem drainFlits_kept {a0 s : State} {k : Nat} (h : Kept a0 s) : Kept a0 (drainFlits k s) := by
  induction k generalizing s with
  | zero => exact h
  | succ k ih =>
    unfold drainFlits; split
    · exact h
    · split
      · exact ih (writeFlit_kept h)
      · exact State.hold_kept h

@[simp] theorem captureSample_kept {a0 : State} {s : State} {v : Word64} (h : Kept a0 s) : Kept a0 (captureSample s v) := by
  unfold captureSample; simp (maxDischargeDepth := 99) +contextual [h]

@[simp] theorem dropCaptureAnswers_kept {a0 : State} {s : State} (h : Kept a0 s) : Kept a0 (dropCaptureAnswers s) := by
  unfold dropCaptureAnswers; simp (maxDischargeDepth := 99) +contextual [h]

@[simp] theorem probeEdge_kept {a0 : State} {s : State} (h : Kept a0 s) : Kept a0 (probeEdge s) := by
  unfold probeEdge; extract_lets take v l _ s1
  have h1 : Kept a0 s1 := ⟨h.pending, h.fuse, h.canon⟩
  clear_value s1
  exact Kept.ite (dropCaptureAnswers_kept (captureSample_kept h1)) h1

theorem execSpanEdge_kept {a0 : State} {s : State} (h : Kept a0 s) : KeptOut a0 (execSpanEdge s) := by
  unfold execSpanEdge; simp (maxDischargeDepth := 99) +contextual [h]

@[simp] theorem captureArm_kept {a0 : State} {s : State} (h : Kept a0 s) : Kept a0 (captureArm s) := by
  unfold captureArm; simp (maxDischargeDepth := 99) +contextual [h]

@[simp] theorem captureStop_kept {a0 : State} {s : State} (h : Kept a0 s) : Kept a0 (captureStop s) := by
  unfold captureStop; simp (maxDischargeDepth := 99) +contextual [h]

theorem execCaptureArm_kept {a0 : State} {s : State} (h : Kept a0 s) : KeptOut a0 (execCaptureArm s) := by
  unfold execCaptureArm; simp (maxDischargeDepth := 99) +contextual [h]

theorem execCaptureStop_kept {a0 : State} {s : State} (h : Kept a0 s) : KeptOut a0 (execCaptureStop s) := by
  unfold execCaptureStop; simp (maxDischargeDepth := 99) +contextual [h]

theorem execCaptureTrigger_kept {a0 : State} {s : State} (h : Kept a0 s) : KeptOut a0 (execCaptureTrigger s) := by
  unfold execCaptureTrigger; simp (maxDischargeDepth := 99) +contextual [h]

theorem execCaptureDone_kept {a0 : State} {s : State} (h : Kept a0 s) : KeptOut a0 (execCaptureDone s) := by
  unfold execCaptureDone; simp (maxDischargeDepth := 99) +contextual [h]

end Sys2Proof.Machine
end

