-- ==== Sys2Proof/Laws/KeptCsr.lean ====
section
/-! SUPPORT. What each function of Machine/Csr.lean keeps: the queue, the burned fuses, the canonical form. -/

namespace Sys2Proof.Machine

open Sys2Proof

set_option linter.all false

@[simp] theorem State.plainWrite_kept {a0 : State} {s : State} {u : Nat} {off : Nat} {v : Word32} (h : Kept a0 s) : Kept a0 (State.plainWrite s u off v) := by
  unfold State.plainWrite; try dsimp only
  repeat' (first | (simp (maxDischargeDepth := 99) +contextual [h, KeptC.split_iff]; done) | split)

@[simp] theorem State.freeBit_kept {a0 : State} {s : State} (h : Kept a0 s) : Kept a0 (State.freeBit s).2 := by
  unfold State.freeBit; simp (maxDischargeDepth := 99) +contextual [h]

@[simp] theorem csrRead_kept {a0 : State} {s : State} {u : Nat} {off : Nat} {icls : Nat} (h : Kept a0 s) : Kept a0 (csrRead s u off icls).1 := by
  unfold csrRead; simp (maxDischargeDepth := 99) +contextual [h]

@[simp] theorem modeCommand_kept {a0 : State} {s : State} {op : Nat} (h : Kept a0 s) : Kept a0 (modeCommand s op) := by
  unfold modeCommand; try dsimp only
  repeat' (first | (simp (maxDischargeDepth := 99) +contextual [h, KeptC.split_iff]; done) | split)

@[simp] theorem measExtend_kept {a0 : State} {s : State} {slot : Nat} (h : Kept a0 s) : Kept a0 (measExtend s slot) := by
  unfold measExtend; simp (maxDischargeDepth := 99) +contextual [h]

@[simp] theorem wdCtrl_kept {a0 : State} {s : State} {u : Nat} {off : Nat} {v : Word32} (h : Kept a0 s) : Kept a0 (wdCtrl s u off v) := by
  unfold wdCtrl; simp (maxDischargeDepth := 99) +contextual [h]

@[simp] theorem writeMgt_kept {a0 : State} {s : State} {off : Nat} {v : Word32} (h : Kept a0 s) : Kept a0 (writeMgt s off v) := by
  unfold writeMgt; simp (maxDischargeDepth := 99) +contextual [h]

@[simp] theorem writePll_kept {a0 : State} {s : State} {off : Nat} {v : Word32} (h : Kept a0 s) : Kept a0 (writePll s off v) := by
  unfold writePll; simp (maxDischargeDepth := 99) +contextual [h]

@[simp] theorem writeClk_kept {a0 : State} {s : State} {off : Nat} {v : Word32} (h : Kept a0 s) : Kept a0 (writeClk s off v) := by
  unfold writeClk; try dsimp only
  repeat' (first | (simp (maxDischargeDepth := 99) +contextual [h, KeptC.split_iff]; done) | split)

@[simp] theorem writeErr_kept {a0 : State} {s : State} {off : Nat} {v : Word32} (h : Kept a0 s) : Kept a0 (writeErr s off v) := by
  unfold writeErr; simp (maxDischargeDepth := 99) +contextual [h]

@[simp] theorem writeBud_kept {a0 : State} {s : State} {off : Nat} {v : Word32} (h : Kept a0 s) : Kept a0 (writeBud s off v) := by
  unfold writeBud; simp (maxDischargeDepth := 99) +contextual [h]

@[simp] theorem writeCfg_kept {a0 : State} {s : State} {off : Nat} {v : Word32} {icls : Nat} {mgmt : Bool} (h : Kept a0 s) : Kept a0 (writeCfg s off v icls mgmt) := by
  unfold writeCfg; try dsimp only
  repeat' (first | (simp (maxDischargeDepth := 99) +contextual [h, KeptC.split_iff]; done) | split)

@[simp] theorem writeCns_kept {a0 : State} {s : State} {off : Nat} {v : Word32} (h : Kept a0 s) : Kept a0 (writeCns s off v) := by
  unfold writeCns; simp (maxDischargeDepth := 99) +contextual [h]

@[simp] theorem writeDdr_kept {a0 : State} {s : State} {c : Nat} {off : Nat} {v : Word32} (h : Kept a0 s) : Kept a0 (writeDdr s c off v) := by
  unfold writeDdr; try dsimp only
  repeat' (first | (simp (maxDischargeDepth := 99) +contextual [h, KeptC.split_iff]; done) | split)

@[simp] theorem kidCmd_kept {a0 : State} {s : State} {e : Nat} {op : Nat} {kid : Nat} (h : Kept a0 s) : Kept a0 (kidCmd s e op kid) := by
  unfold kidCmd; try dsimp only
  repeat' (first | (simp (maxDischargeDepth := 99) +contextual [h, KeptC.split_iff]; done) | split)

@[simp] theorem writeIpe_kept {a0 : State} {s : State} {e : Nat} {off : Nat} {v : Word32} (h : Kept a0 s) : Kept a0 (writeIpe s e off v) := by
  unfold writeIpe; simp (maxDischargeDepth := 99) +contextual [h]

@[simp] theorem writeDsp_kept {a0 : State} {s : State} {sl : Nat} {off : Nat} {v : Word32} (h : Kept a0 s) : Kept a0 (writeDsp s sl off v) := by
  unfold writeDsp; simp (maxDischargeDepth := 99) +contextual [h]

@[simp] theorem freeRegs_kept {a0 : State} {s : State} (h : Kept a0 s) : Kept a0 (freeRegs s).2 := by
  unfold freeRegs; simp (maxDischargeDepth := 99) +contextual [h]

@[simp] theorem writeHctl_kept {a0 : State} {s : State} {i : Nat} {off : Nat} {v : Word32} (h : Kept a0 s) : Kept a0 (writeHctl s i off v) := by
  unfold writeHctl; simp (maxDischargeDepth := 99) +contextual [h]

@[simp] theorem writeDbg_kept {a0 : State} {s : State} {off : Nat} {v : Word32} (h : Kept a0 s) : Kept a0 (writeDbg s off v) := by
  unfold writeDbg; try dsimp only
  repeat' (first | (simp (maxDischargeDepth := 99) +contextual [h, KeptC.split_iff]; done) | split)

@[simp] theorem writePrb_kept {a0 : State} {s : State} {off : Nat} {v : Word32} (h : Kept a0 s) : Kept a0 (writePrb s off v) := by
  unfold writePrb; simp (maxDischargeDepth := 99) +contextual [h]

@[simp] theorem writeEvt_kept {a0 : State} {s : State} {off : Nat} {v : Word32} (h : Kept a0 s) : Kept a0 (writeEvt s off v) := by
  unfold writeEvt; simp (maxDischargeDepth := 99) +contextual [h]

@[simp] theorem writeDma_kept {a0 : State} {s : State} {c : Nat} {k : Nat} {off : Nat} {v : Word32} (h : Kept a0 s) : Kept a0 (writeDma s c k off v) := by
  unfold writeDma; try dsimp only
  repeat' (first | (simp (maxDischargeDepth := 99) +contextual [h, KeptC.split_iff]; done) | split)

@[simp] theorem writePci_kept {a0 : State} {s : State} {c : Nat} {off : Nat} {v : Word32} (h : Kept a0 s) : Kept a0 (writePci s c off v) := by
  unfold writePci; simp (maxDischargeDepth := 99) +contextual [h]

@[simp] theorem writeLnk_kept {a0 : State} {s : State} {p : Nat} {off : Nat} {v : Word32} (h : Kept a0 s) : Kept a0 (writeLnk s p off v) := by
  unfold writeLnk; simp (maxDischargeDepth := 99) +contextual [h]

@[simp] theorem writeLane_kept {a0 : State} {s : State} {k : Nat} {off : Nat} {v : Word32} (h : Kept a0 s) : Kept a0 (writeLane s k off v) := by
  unfold writeLane; try dsimp only
  repeat' (first | (simp (maxDischargeDepth := 99) +contextual [h, KeptC.split_iff]; done) | split)

@[simp] theorem writePin_kept {a0 : State} {s : State} {off : Nat} {v : Word32} {icls : Nat} {src : Nat} (h : Kept a0 s) : Kept a0 (writePin s off v icls src) := by
  unfold writePin; simp (maxDischargeDepth := 99) +contextual [h]

@[simp] theorem writeAo_kept {a0 : State} {s : State} {off : Nat} {v : Word32} {icls : Nat} {src : Nat} (h : Kept a0 s) : Kept a0 (writeAo s off v icls src) := by
  unfold writeAo; simp (maxDischargeDepth := 99) +contextual [h]

@[simp] theorem writeCan_kept {a0 : State} {s : State} {off : Nat} {v : Word32} (h : Kept a0 s) : Kept a0 (writeCan s off v) := by
  unfold writeCan; simp (maxDischargeDepth := 99) +contextual [h]

@[simp] theorem writeQc_kept {a0 : State} {s : State} {d : Nat} {off : Nat} {v : Word32} (h : Kept a0 s) : Kept a0 (writeQc s d off v) := by
  unfold writeQc; try dsimp only
  repeat' (first | (simp (maxDischargeDepth := 99) +contextual [h, KeptC.split_iff]; done) | split)

@[simp] theorem writeTap_kept {a0 : State} {s : State} {d : Nat} {off : Nat} {v : Word32} (h : Kept a0 s) : Kept a0 (writeTap s d off v) := by
  unfold writeTap; try dsimp only
  repeat' (first | (simp (maxDischargeDepth := 99) +contextual [h, KeptC.split_iff]; done) | split)

@[simp] theorem writeDie_kept {a0 : State} {s : State} {d : Nat} {off : Nat} {v : Word32} (h : Kept a0 s) : Kept a0 (writeDie s d off v) := by
  unfold writeDie; simp (maxDischargeDepth := 99) +contextual [h]

@[simp] theorem csrWriteReg_kept {a0 : State} {s : State} {u : Nat} {off : Nat} {v : Word32} {icls : Nat} {src : Nat} {priv : Bool} (h : Kept a0 s) : Kept a0 (csrWriteReg s u off v icls src priv) := by
  unfold csrWriteReg; try dsimp only
  repeat' (first | (simp (maxDischargeDepth := 99) +contextual [h, KeptC.split_iff]; done) | split)

@[simp] theorem csrWrite_kept {a0 : State} {s : State} {a : CsrAccess} (h : Kept a0 s) : Kept a0 (csrWrite s a).1 := by
  unfold csrWrite; try dsimp only
  repeat' (first | (simp (maxDischargeDepth := 99) +contextual [h, KeptC.split_iff]; done) | split)

@[simp] theorem csrReadAccess_kept {a0 : State} {s : State} {a : CsrAccess} (h : Kept a0 s) : Kept a0 (csrReadAccess s a).1 := by
  unfold csrReadAccess; try dsimp only
  repeat' (first | (simp (maxDischargeDepth := 99) +contextual [h, KeptC.split_iff]; done) | split)

theorem execCsrWrite_kept {a0 : State} {a : CsrAccess} {s : State} (h : Kept a0 s) : KeptOut a0 (execCsrWrite a s) := by
  unfold execCsrWrite; simp (maxDischargeDepth := 99) +contextual [h]

end Sys2Proof.Machine
end

