-- ==== Sys2Proof/Laws/KeptStylus.lean ====
section
/-! SUPPORT. What each function of Machine/Stylus.lean keeps: the queue, the burned fuses, the canonical form. -/

namespace Sys2Proof.Machine

open Sys2Proof

set_option linter.all false

@[simp] theorem stylusRespond_kept {a0 : State} {s : State} {st : Nat} {data : Nat} (h : Kept a0 s) : Kept a0 (stylusRespond s st data) := by
  unfold stylusRespond; simp (maxDischargeDepth := 99) +contextual [h]

@[simp] theorem absorbDebug_kept {a0 : State} {s : State} (h : Kept a0 s) : Kept a0 (absorbDebug s) := by
  unfold absorbDebug; try dsimp only
  repeat' (first | (simp (maxDischargeDepth := 99) +contextual [h, KeptC.split_iff]; done) | split)

@[simp] theorem stylusSend_kept {a0 : State} {s : State} {p : Packet} (h : Kept a0 s) : Kept a0 (stylusSend s p) := by
  unfold stylusSend; simp (maxDischargeDepth := 99) +contextual [h]

@[simp] theorem stylusIssue_kept {a0 : State} {s : State} {p : Packet} (h : Kept a0 s) : Kept a0 (stylusIssue s p) := by
  unfold stylusIssue; simp (maxDischargeDepth := 99) +contextual [h]

@[simp] theorem stylusFrame_kept {a0 s : State} {f : State → State} (h : Kept a0 s) (hf : ∀ t, Kept a0 t → Kept a0 (f t)) :
    Kept a0 (stylusFrame s f) := by
  unfold stylusFrame; split
  · exact h
  · split
    · exact stylusRespond_kept h
    · exact hf _ ⟨h.pending, h.fuse, h.canon⟩

@[simp] theorem debugRequest_kept {a0 : State} {s : State} {addr : Nat} {write : Bool} {data : Nat} (h : Kept a0 s) : Kept a0 (debugRequest s addr write data) := by
  unfold debugRequest; simp (maxDischargeDepth := 99) +contextual [h]

theorem execStylusBreak_kept {a0 : State} {s : State} (h : Kept a0 s) : KeptOut a0 (execStylusBreak s) := by
  unfold execStylusBreak; simp (maxDischargeDepth := 99) +contextual [h]

theorem execStylusFramingError_kept {a0 : State} {s : State} (h : Kept a0 s) : KeptOut a0 (execStylusFramingError s) := by
  unfold execStylusFramingError; simp (maxDischargeDepth := 99) +contextual [h]

theorem execStylusFrameTimeout_kept {a0 : State} {s : State} (h : Kept a0 s) : KeptOut a0 (execStylusFrameTimeout s) := by
  unfold execStylusFrameTimeout; simp (maxDischargeDepth := 99) +contextual [h]

theorem execStylusEntry_kept {a0 : State} {s : State} (h : Kept a0 s) : KeptOut a0 (execStylusEntry s) := by
  unfold execStylusEntry; simp (maxDischargeDepth := 99) +contextual [h]

theorem execRd_kept {a0 : State} {addr : BitVec 56} {s : State} (h : Kept a0 s) : KeptOut a0 (execRd addr s) := by
  unfold execRd; simp (maxDischargeDepth := 99) +contextual [h]

theorem execWr_kept {a0 : State} {addr : BitVec 56} {data : Word32} {s : State} (h : Kept a0 s) : KeptOut a0 (execWr addr data s) := by
  unfold execWr; simp (maxDischargeDepth := 99) +contextual [h]

theorem execDrd_kept {a0 : State} {ofs : BitVec 24} {s : State} (h : Kept a0 s) : KeptOut a0 (execDrd ofs s) := by
  unfold execDrd; simp (maxDischargeDepth := 99) +contextual [h]

theorem execDwr_kept {a0 : State} {ofs : BitVec 24} {data : Word32} {s : State} (h : Kept a0 s) : KeptOut a0 (execDwr ofs data s) := by
  unfold execDwr; simp (maxDischargeDepth := 99) +contextual [h]

theorem execStylusExit_kept {a0 : State} {s : State} (h : Kept a0 s) : KeptOut a0 (execStylusExit s) := by
  unfold execStylusExit; simp (maxDischargeDepth := 99) +contextual [h]

theorem execStylusTimeout_kept {a0 : State} {s : State} (h : Kept a0 s) : KeptOut a0 (execStylusTimeout s) := by
  unfold execStylusTimeout; simp (maxDischargeDepth := 99) +contextual [h]

theorem execStylusBadFrame_kept {a0 : State} {s : State} (h : Kept a0 s) : KeptOut a0 (execStylusBadFrame s) := by
  unfold execStylusBadFrame; simp (maxDischargeDepth := 99) +contextual [h]

theorem execStylusSlot_kept {a0 : State} {s : State} (h : Kept a0 s) : KeptOut a0 (execStylusSlot s) := by
  unfold execStylusSlot; try dsimp only
  repeat' (first | (simp (maxDischargeDepth := 99) +contextual [h, KeptC.split_iff]; done) | split)

@[simp] theorem drainDebug_kept {a0 : State} {s : State} (h : Kept a0 s) : Kept a0 (drainDebug s) := by
  unfold drainDebug; try dsimp only
  repeat' (first | (simp (maxDischargeDepth := 99) +contextual [h, KeptC.split_iff]; done) | split)

theorem execFretBoundary_kept {a0 : State} {s : State} (h : Kept a0 s) : KeptOut a0 (execFretBoundary s) := by
  unfold execFretBoundary; simp (maxDischargeDepth := 99) +contextual [h]

end Sys2Proof.Machine
end

