-- ==== Sys2Proof/Laws/KeptScan.lean ====
section
/-! SUPPORT. What each function of Machine/Scan.lean keeps: the queue, the burned fuses, the canonical form. -/

namespace Sys2Proof.Machine

open Sys2Proof

set_option linter.all false

@[simp] theorem stopLanes_kept {a0 : State} {s : State} (h : Kept a0 s) : Kept a0 (stopLanes s) := by
  unfold stopLanes; simp (maxDischargeDepth := 99) +contextual [h]

@[simp] theorem takePins_kept {a0 : State} {s : State} (h : Kept a0 s) : Kept a0 (takePins s) := by
  unfold takePins; simp (maxDischargeDepth := 99) +contextual [h]

@[simp] theorem releasePads_kept {a0 : State} {s : State} (h : Kept a0 s) : Kept a0 (releasePads s) := by
  unfold releasePads; simp (maxDischargeDepth := 99) +contextual [h]

@[simp] theorem loadIr_kept {a0 : State} {s : State} {ir : Nat} {shift : List Bool} (h : Kept a0 s) : Kept a0 (loadIr s ir shift) := by
  unfold loadIr; simp (maxDischargeDepth := 99) +contextual [h]

@[simp] theorem loadControl_kept {a0 : State} {s : State} {ir : Nat} {highz : Bool} {boundary : List Bool} {shift : List Bool} (h : Kept a0 s) : Kept a0 (loadControl s ir highz boundary shift) := by
  unfold loadControl; simp (maxDischargeDepth := 99) +contextual [h]

theorem execIdcode_kept {a0 : State} {s : State} (h : Kept a0 s) : KeptOut a0 (execIdcode s) := by
  unfold execIdcode; simp (maxDischargeDepth := 99) +contextual [h]

theorem execSamplePreload_kept {a0 : State} {sampled : List Bool} {shifted : List Bool} {s : State} (h : Kept a0 s) : KeptOut a0 (execSamplePreload sampled shifted s) := by
  unfold execSamplePreload; simp (maxDischargeDepth := 99) +contextual [h]

theorem execExtest_kept {a0 : State} {sampled : List Bool} {shifted : List Bool} {s : State} (h : Kept a0 s) : KeptOut a0 (execExtest sampled shifted s) := by
  unfold execExtest; simp (maxDischargeDepth := 99) +contextual [h]

theorem execExtestPulse_kept {a0 : State} {sampled : List Bool} {shifted : List Bool} {s : State} (h : Kept a0 s) : KeptOut a0 (execExtestPulse sampled shifted s) := by
  unfold execExtestPulse; simp (maxDischargeDepth := 99) +contextual [h]

theorem execExtestTrain_kept {a0 : State} {sampled : List Bool} {shifted : List Bool} {s : State} (h : Kept a0 s) : KeptOut a0 (execExtestTrain sampled shifted s) := by
  unfold execExtestTrain; simp (maxDischargeDepth := 99) +contextual [h]

theorem execClamp_kept {a0 : State} {s : State} (h : Kept a0 s) : KeptOut a0 (execClamp s) := by
  unfold execClamp; simp (maxDischargeDepth := 99) +contextual [h]

theorem execHighz_kept {a0 : State} {s : State} (h : Kept a0 s) : KeptOut a0 (execHighz s) := by
  unfold execHighz; simp (maxDischargeDepth := 99) +contextual [h]

theorem execBypass_kept {a0 : State} {s : State} (h : Kept a0 s) : KeptOut a0 (execBypass s) := by
  unfold execBypass; simp (maxDischargeDepth := 99) +contextual [h]

theorem execTestLogicReset_kept {a0 : State} {s : State} (h : Kept a0 s) : KeptOut a0 (execTestLogicReset s) := by
  unfold execTestLogicReset; simp (maxDischargeDepth := 99) +contextual [h]

end Sys2Proof.Machine
end

