-- ==== Sys2Proof/Laws/KeptVerify.lean ====
section
/-! SUPPORT. What each function of Machine/Verify.lean keeps: the queue, the burned fuses, the canonical form. -/

namespace Sys2Proof.Machine

open Sys2Proof

set_option linter.all false

@[simp] theorem handleAlarm_kept {a0 : State} {s : State} {r : AlarmRec} (h : Kept a0 s) : Kept a0 (handleAlarm s r) := by
  unfold handleAlarm; simp (maxDischargeDepth := 99) +contextual [h]

@[simp] theorem handleAlarms_kept {a0 : State} {s : State} (h : Kept a0 s) : Kept a0 (handleAlarms s) := by
  unfold handleAlarms; simp (maxDischargeDepth := 99) +contextual [h]

theorem execVerifyDone_kept {a0 : State} {i : Nat} {s : State} (h : Kept a0 s) : KeptOut a0 (execVerifyDone i s) := by
  unfold execVerifyDone; simp (maxDischargeDepth := 99) +contextual [h]

theorem execVtimeAlarm_kept {a0 : State} {i : Nat} {s : State} (h : Kept a0 s) : KeptOut a0 (execVtimeAlarm i s) := by
  unfold execVtimeAlarm; simp (maxDischargeDepth := 99) +contextual [h]

theorem execVerifyRefetch_kept {a0 : State} {i : Nat} {e : MemEnv} {s : State} (h : Kept a0 s) : KeptOut a0 (execVerifyRefetch i e s) := by
  unfold execVerifyRefetch; simp (maxDischargeDepth := 99) +contextual [h]

end Sys2Proof.Machine
end

