-- ==== Sys2Proof/Laws/KeptTarget.lean ====
section
/-! SUPPORT. What each function of Machine/Target.lean keeps: the queue, the burned fuses, the canonical form. -/

namespace Sys2Proof.Machine

open Sys2Proof

set_option linter.all false

@[simp] theorem upsetWord_kept {a0 : State} {double : Bool} {s : State} {w : Nat} (h : Kept a0 s) : Kept a0 (upsetWord double s w) := by
  unfold upsetWord; try dsimp only
  repeat' (first | (simp (maxDischargeDepth := 99) +contextual [h, KeptC.split_iff]; done) | split)

@[simp] theorem scrubWord_kept {a0 : State} {s : State} {w : Nat} (h : Kept a0 s) : Kept a0 (scrubWord s w) := by
  unfold scrubWord; try dsimp only
  repeat' (first | (simp (maxDischargeDepth := 99) +contextual [h, KeptC.split_iff]; done) | split)

@[simp] theorem setSram_kept {a0 : State} {s : State} {off : Nat} {bs : List Byte} (h : Kept a0 s) : Kept a0 (setSram s off bs) := by
  unfold setSram; try dsimp only
  repeat' (first | (simp (maxDischargeDepth := 99) +contextual [h, KeptC.split_iff]; done) | split)

@[simp] theorem sramPoison_kept {a0 : State} {s : State} {off : Nat} {p : Packet} {body : List Line} (h : Kept a0 s) : Kept a0 (sramPoison s off p body) := by
  unfold sramPoison; simp (maxDischargeDepth := 99) +contextual [h]

@[simp] theorem sramRead_kept {a0 : State} {s : State} {off : Nat} {p : Packet} (h : Kept a0 s) : Kept a0 (sramRead s off p) := by
  unfold sramRead; simp (maxDischargeDepth := 99) +contextual [h]

@[simp] theorem sramWrite_kept {a0 : State} {s : State} {off : Nat} {p : Packet} (h : Kept a0 s) : Kept a0 (sramWrite s off p) := by
  unfold sramWrite; try dsimp only
  repeat' (first | (simp (maxDischargeDepth := 99) +contextual [h, KeptC.split_iff]; done) | split)

@[simp] theorem sramAtomic_kept {a0 : State} {s : State} {off : Nat} {p : Packet} (h : Kept a0 s) : Kept a0 (sramAtomic s off p) := by
  unfold sramAtomic; simp (maxDischargeDepth := 99) +contextual [h]

@[simp] theorem sramRequest_kept {a0 : State} {s : State} {off : Nat} {p : Packet} (h : Kept a0 s) : Kept a0 (sramRequest s off p) := by
  unfold sramRequest; simp (maxDischargeDepth := 99) +contextual [h]

theorem execPlateSramAccess_kept {a0 : State} {p : Packet} {single : List Nat} {double : List Nat} {s : State} (h : Kept a0 s) : KeptOut a0 (execPlateSramAccess p single double s) := by
  unfold execPlateSramAccess; try dsimp only
  repeat' (first | (simp (maxDischargeDepth := 99) +contextual [h, KeptC.split_iff]; done) | split)

@[simp] theorem windowRequest_kept {a0 : State} {s : State} {n : Nat} {o : Nat} {p : Packet} (h : Kept a0 s) : Kept a0 (windowRequest s n o p) := by
  unfold windowRequest; simp (maxDischargeDepth := 99) +contextual [h]

@[simp] theorem csrRequest_kept {a0 : State} {s : State} {u : Nat} {off : Nat} {p : Packet} (h : Kept a0 s) : Kept a0 (csrRequest s u off p) := by
  unfold csrRequest; simp (maxDischargeDepth := 99) +contextual [h]

@[simp] theorem unitRequest_kept {a0 : State} {s : State} {u : Nat} {off : Nat} {p : Packet} {lost : Bool} (h : Kept a0 s) : Kept a0 (unitRequest s u off p lost) := by
  unfold unitRequest; simp (maxDischargeDepth := 99) +contextual [h]

@[simp] theorem perform_kept {a0 : State} {s : State} {p : Packet} {e : MemEnv} (h : Kept a0 s) : Kept a0 (perform s p e) := by
  unfold perform; try dsimp only
  repeat' (first | (simp (maxDischargeDepth := 99) +contextual [h, KeptC.split_iff]; done) | split)

theorem execRead_kept {a0 : State} {p : Packet} {e : MemEnv} {s : State} (h : Kept a0 s) : KeptOut a0 (execRead p e s) := by
  unfold execRead; simp (maxDischargeDepth := 99) +contextual [h]

theorem execWrite_kept {a0 : State} {p : Packet} {e : MemEnv} {s : State} (h : Kept a0 s) : KeptOut a0 (execWrite p e s) := by
  unfold execWrite; simp (maxDischargeDepth := 99) +contextual [h]

theorem execAtomic_kept {a0 : State} {p : Packet} {e : MemEnv} {s : State} (h : Kept a0 s) : KeptOut a0 (execAtomic p e s) := by
  unfold execAtomic; simp (maxDischargeDepth := 99) +contextual [h]

end Sys2Proof.Machine
end

