-- ==== Sys2Proof/Laws/KeptAccept.lean ====
section
/-! SUPPORT. What each function of Machine/Accept.lean keeps: the queue, the burned fuses, the canonical form. -/

namespace Sys2Proof.Machine

open Sys2Proof

set_option linter.all false

@[simp] theorem State.setSes_kept {a0 : State} {s : State} {n : Nat} {x : Session} (h : Kept a0 s) : Kept a0 (State.setSes s n x) := by
  unfold State.setSes; simp (maxDischargeDepth := 99) +contextual [h]

@[simp] theorem dictDrop_kept {a0 : State} {s : State} (h : Kept a0 s) : Kept a0 (dictDrop s) := by
  unfold dictDrop; simp (maxDischargeDepth := 99) +contextual [h]

@[simp] theorem useSession_kept {a0 : State} {s : State} {n : Nat} (h : Kept a0 s) : Kept a0 (useSession s n) := by
  unfold useSession; simp (maxDischargeDepth := 99) +contextual [h]

@[simp] theorem linkSession_kept {a0 : State} {s : State} {origin : Nat} {idle : Bool} (h : Kept a0 s) : Kept a0 (linkSession s origin idle).2 := by
  unfold linkSession; try dsimp only
  repeat' (first | (simp (maxDischargeDepth := 99) +contextual [h, KeptC.split_iff]; done) | split)

@[simp] theorem linkRequest_kept {a0 : State} {s : State} {p : Packet} {idle : Bool} (h : Kept a0 s) : Kept a0 (linkRequest s p idle) := by
  unfold linkRequest; simp (maxDischargeDepth := 99) +contextual [h]

@[simp] theorem remoteReport_kept {a0 : State} {s : State} {p : Packet} (h : Kept a0 s) : Kept a0 (remoteReport s p) := by
  unfold remoteReport; simp (maxDischargeDepth := 99) +contextual [h]

@[simp] theorem relayArrive_kept {a0 : State} {s : State} {p : Packet} (h : Kept a0 s) : Kept a0 (relayArrive s p) := by
  unfold relayArrive; try dsimp only
  repeat' (first | (simp (maxDischargeDepth := 99) +contextual [h, KeptC.split_iff]; done) | split)

@[simp] theorem lmsgArrive_kept {a0 : State} {s : State} {p : Packet} {idle : Bool} (h : Kept a0 s) : Kept a0 (lmsgArrive s p idle) := by
  unfold lmsgArrive; try dsimp only
  repeat' (first | (simp (maxDischargeDepth := 99) +contextual [h, KeptC.split_iff]; done) | split)

@[simp] theorem takeLmsg_kept {a0 : State} {s : State} {idle : Bool} (h : Kept a0 s) : Kept a0 (takeLmsg s idle) := by
  unfold takeLmsg; simp (maxDischargeDepth := 99) +contextual [h]

theorem execLinkPacketReceive_kept {a0 : State} {p : Fin 16} {pri : Fin 4} {response : Bool} {s : State} (h : Kept a0 s) : KeptOut a0 (execLinkPacketReceive p pri response s) := by
  unfold execLinkPacketReceive; simp (maxDischargeDepth := 99) +contextual [h]

@[simp] theorem absorbAt_kept {a0 : State} {s : State} {node : Nat} {port : Nat} (h : Kept a0 s) : Kept a0 (absorbAt s node port) := by
  unfold absorbAt; try dsimp only
  repeat' (first | (simp (maxDischargeDepth := 99) +contextual [h, KeptC.split_iff]; done) | split)

theorem execIngressAccept_kept {a0 : State} {node : BitVec 7} {port : BitVec 4} {p : Packet} {s : State} (h : Kept a0 s) : KeptOut a0 (execIngressAccept node port p s) := by
  unfold execIngressAccept; simp (maxDischargeDepth := 99) +contextual [h]

theorem execResponseAccept_kept {a0 : State} {p : Packet} {s : State} (h : Kept a0 s) : KeptOut a0 (execResponseAccept p s) := by
  unfold execResponseAccept; simp (maxDischargeDepth := 99) +contextual [h]

theorem execRequestTimeout_kept {a0 : State} {node : BitVec 7} {port : BitVec 4} {tag : BitVec 16} {s : State} (h : Kept a0 s) : KeptOut a0 (execRequestTimeout node port tag s) := by
  unfold execRequestTimeout; simp (maxDischargeDepth := 99) +contextual [h]

theorem execRelayResponse_kept {a0 : State} {p : Packet} {s : State} (h : Kept a0 s) : KeptOut a0 (execRelayResponse p s) := by
  unfold execRelayResponse; simp (maxDischargeDepth := 99) +contextual [h]

end Sys2Proof.Machine
end

