-- ==== Sys2Proof/Laws/KeptObjects.lean ====
section
/-! SUPPORT. What each function of Machine/Objects.lean keeps: the queue, the burned fuses, the canonical form. -/

namespace Sys2Proof.Machine

open Sys2Proof

set_option linter.all false


end Sys2Proof.Machine
end

