-- ==== Sys2Proof/Laws/KeptDict.lean ====
section
/-! SUPPORT. What each function of Machine/Dict.lean keeps: the queue, the burned fuses, the canonical form. -/

namespace Sys2Proof.Machine

open Sys2Proof

set_option linter.all false

@[simp] theorem showCan_kept {a0 : State} {s : State} {c : Nat} (h : Kept a0 s) : Kept a0 (showCan s c) := by
  unfold showCan; simp (maxDischargeDepth := 99) +contextual [h]

@[simp] theorem canSend_kept {a0 : State} {s : State} {c : Nat} {seq : Nat} {rec : List Byte} (h : Kept a0 s) : Kept a0 (canSend s c seq rec) := by
  unfold canSend; simp (maxDischargeDepth := 99) +contextual [h]

@[simp] theorem mailboxIdle_kept {a0 s : State} {v : DictVia} (h : Kept a0 s) : Kept a0 (mailboxIdle s v) := by
  unfold mailboxIdle; split <;> simp [h]

@[simp] theorem answerRecord_kept {a0 : State} {s : State} {via : DictVia} {seq : Nat} {rec : List Byte} (h : Kept a0 s) : Kept a0 (answerRecord s via seq rec) := by
  unfold answerRecord; try dsimp only
  repeat' (first | (simp (maxDischargeDepth := 99) +contextual [h, KeptC.split_iff]; done) | split)

@[simp] theorem reachUnit_kept {a0 : State} {s : State} {u : Nat} (h : Kept a0 s) : KeptOpt a0 (reachUnit s u) := by
  unfold reachUnit; try dsimp only
  repeat' (first | (simp (maxDischargeDepth := 99) +contextual [h, KeptC.split_iff]; done) | split)

@[simp] theorem fwRead_kept {a0 : State} {s : State} {u : Nat} {off : Nat} {size : Nat} (h : Kept a0 s) : Kept a0 (fwRead s u off size).1 := by
  unfold fwRead
  have hr : KeptOpt a0 (reachUnit s u) := reachUnit_kept h
  split
  · exact h
  · rename_i e1
    exact csrReadAccess_kept (hr _ e1)

@[simp] theorem fwWrite_kept {a0 : State} {s : State} {u : Nat} {off : Nat} {size : Nat} {v : Nat} (h : Kept a0 s) : Kept a0 (fwWrite s u off size v).1 := by
  unfold fwWrite
  have hr : KeptOpt a0 (reachUnit s u) := reachUnit_kept h
  split
  · exact h
  · rename_i e1
    exact csrWrite_kept (hr _ e1)

@[simp] theorem fwWrites_kept {a0 s : State} {u off stride : Nat} {l : List Nat} (h : Kept a0 s) : Kept a0 (fwWrites s u off stride l).1 := by
  induction l generalizing s off with
  | nil => exact h
  | cons v r ih =>
    unfold fwWrites
    have hw : Kept a0 (fwWrite s u off 4 v).1 := fwWrite_kept h
    split <;> rename_i e1 <;> rw [e1] at hw
    · exact ih hw
    · exact hw

@[simp] theorem returnStep_kept {a0 : State} {s : State} {k : Nat} (h : Kept a0 s) : Kept a0 (returnStep s k) := by
  unfold returnStep; split
  · exact h.burn ⟨le_rfl, le_rfl, fun _ _ h => h, fun _ h => h, id, id, fun _ => rfl, id, id⟩
  · exact zeroiseKeys_kept h
  · exact h.burn ⟨le_rfl, le_rfl, fun _ _ h => h, fun _ h => h, id, id, id, fun _ => rfl, id⟩
  · exact h.burn ⟨le_rfl, le_rfl, fun _ _ h => h, fun _ h => h, fun _ => rfl, fun _ => rfl, id, id, id⟩
  · exact h.burn ⟨le_rfl, le_rfl, fun _ _ h => h, fun _ h => h, id, id, id, id, fun _ => rfl⟩
  · exact h

@[simp] theorem returnSteps_kept {a0 : State} {s : State} {ks : List Nat} (h : Kept a0 s) : Kept a0 (returnSteps s ks) := by
  unfold returnSteps; simp (maxDischargeDepth := 99) +contextual [h]

@[simp] theorem attest_kept {a0 : State} {s : State} {n : Nat} (h : Kept a0 s) : Kept a0 (attest s n).1 := by
  unfold attest; simp (maxDischargeDepth := 99) +contextual [h]

@[simp] theorem challenge_kept {a0 : State} {s : State} {n : Nat} {e : DictEnv} (h : Kept a0 s) : Kept a0 (challenge s n e).1 := by
  unfold challenge; simp (maxDischargeDepth := 99) +contextual [h]

@[simp] theorem readValue_kept {a0 : State} {s : State} {n : Nat} {e : DictEnv} {index : Nat} {sub : Nat} {o : ObjSub} (h : Kept a0 s) : Kept a0 (readValue s n e index sub o).1 := by
  unfold readValue; try dsimp only
  repeat' (first | (simp (maxDischargeDepth := 99) +contextual [h, KeptC.split_iff]; done) | split)

@[simp] theorem answerChallenge_kept {a0 : State} {s : State} {n : Nat} {e : DictEnv} {data : List Byte} (h : Kept a0 s) : Kept a0 (answerChallenge s n e data).1 := by
  unfold answerChallenge; try dsimp only
  repeat' (first | (simp (maxDischargeDepth := 99) +contextual [h, KeptC.split_iff]; done) | split)

@[simp] theorem relaySend_kept {a0 : State} {s : State} {n : Nat} {data : List Byte} (h : Kept a0 s) : Kept a0 (relaySend s n data).1 := by
  unfold relaySend; simp (maxDischargeDepth := 99) +contextual [h]

@[simp] theorem revokeSlot_kept {a0 : State} {s : State} {k : Nat} (h : Kept a0 s) : Kept a0 (revokeSlot s k).1 := by
  unfold revokeSlot; split
  · exact h.burn ⟨le_rfl, le_rfl, fun _ _ h => h, fun _ h => (NSet.mem_add _ _ _).2 (Or.inr h), id, id, id, id, id⟩
  · exact h

@[simp] theorem refusable_kept {a0 s : State} {f : State → State × Option Nat} (h : Kept a0 s)
    (hf : ∀ t, Kept a0 t → Kept a0 (f t).1) : Kept a0 (refusable s f).1 := by
  unfold refusable; extract_lets was r
  have hr : Kept a0 r.1 := hf _ (State.setFld_kept h)
  exact Kept.fst_ite hr (State.setFld_kept hr)

@[simp] theorem returnPrepare_kept {a0 : State} {s : State} {steps : Nat} (h : Kept a0 s) : Kept a0 (returnPrepare s steps).1 := by
  unfold returnPrepare; simp (maxDischargeDepth := 99) +contextual [h]

@[simp] theorem actWrite_kept {a0 : State} {s : State} {n : Nat} {e : DictEnv} {a : ObjAct} {data : List Byte} (h : Kept a0 s) : Kept a0 (actWrite s n e a data).1 := by
  have slot : ∀ k v, keySlotState s k = 0 → s.fuse.Burns { s.fuse with slots := SMap.put s.fuse.slots k v } := fun k v hk => by
    have hn : SMap.find s.fuse.slots k = none := by
      unfold keySlotState at hk; split at hk
      · cases hk
      · split at hk
        · cases hk
        · simpa using ‹¬(SMap.find s.fuse.slots k).isSome = true›
    refine ⟨le_rfl, le_rfl, fun j w hw => ?_, fun _ h => h, id, id, id, id, id⟩
    have hj : j ≠ k := fun e => by simp [e, hn] at hw
    rwa [SMap.find_put_ne _ _ hj]
  unfold actWrite; extract_lets v x k
  split
  case h_3 => exact refusable_kept h fun t ht => fwWrite_kept ht
  case h_4 =>
    split
    · exact refusable_kept h fun t ht => enterService_kept ht
    · exact h
  case h_6 =>
    split
    · rename_i e1
      exact imemDomain_kept h e1
    · exact h
  case h_11 =>
    split
    · exact h
    · exact h.burn ⟨le_rfl, le_rfl, fun _ _ h => h, fun _ h => h, id, fun _ => rfl, id, id, id⟩
  case h_12 =>
    split
    · rename_i e1
      exact h.burn (slot _ _ e1)
    · exact h
  case h_17 =>
    split
    · exact h
    · exact h.burn ⟨le_rfl, le_rfl, fun _ _ h => h, fun _ h => h, fun _ => rfl, id, id, id, id⟩
  all_goals
    repeat' (first | (simp (maxDischargeDepth := 99) [h]; done) | split)

@[simp] theorem writeValue_kept {a0 : State} {s : State} {n : Nat} {e : DictEnv} {index : Nat} {sub : Nat} {o : ObjSub} {data : List Byte} (h : Kept a0 s) : Kept a0 (writeValue s n e index sub o data).1 := by
  unfold writeValue; try dsimp only
  repeat' (first | (simp (maxDischargeDepth := 99) +contextual [h, KeptC.split_iff]; done) | split)

@[simp] theorem abort_kept {a0 : State} {s : State} {n : Nat} {req : List Byte} {code : Nat} (h : Kept a0 s) : Kept a0 (abort s n req code).1 := by
  unfold abort; simp (maxDischargeDepth := 99) +contextual [h]

@[simp] theorem serveRead_kept {a0 : State} {s : State} {n : Nat} {e : DictEnv} {req : List Byte} {room : Nat} {seg : Bool} (h : Kept a0 s) : Kept a0 (serveRead s n e req room seg).1 := by
  unfold serveRead; extract_lets index sub
  split
  · exact abort_kept h
  · rename_i o _
    have hr : Kept a0 (readValue s n e index sub o).1 := readValue_kept h
    split
    · exact abort_kept h
    · split <;> rename_i e1 <;> rw [e1] at hr
      · exact abort_kept hr
      · split
        · exact hr
        · exact State.setSes_kept hr

@[simp] theorem serveWrite_kept {a0 : State} {s : State} {n : Nat} {e : DictEnv} {req : List Byte} {room : Nat} (h : Kept a0 s) : Kept a0 (serveWrite s n e req room).1 := by
  unfold serveWrite; extract_lets len
  split
  · exact abort_kept h
  · rename_i o _
    have hr : Kept a0 (writeValue s n e (recIndex req) (recSub req) o ((req.drop 8).take len)).1 := writeValue_kept h
    split
    · exact abort_kept h
    · split <;> rename_i e1 <;> rw [e1] at hr
      · exact abort_kept hr
      · exact hr

@[simp] theorem serveSegWrite_kept {a0 : State} {s : State} {n : Nat} {e : DictEnv} {req : List Byte} {room : Nat} (h : Kept a0 s) : Kept a0 (serveSegWrite s n e req room).1 := by
  unfold serveSegWrite; try dsimp only
  repeat' (first | (simp (maxDischargeDepth := 99) +contextual [h, KeptC.split_iff]; done) | split)

@[simp] theorem finishWrite_kept {a0 : State} {s : State} {n : Nat} {e : DictEnv} {req : List Byte} {x : Xfer} (h : Kept a0 s) : Kept a0 (finishWrite s n e req x).1 := by
  unfold finishWrite
  split
  · exact abort_kept h
  · rename_i o _
    have hr : Kept a0 (writeValue s n e x.index x.sub o x.data).1 := writeValue_kept h
    split
    · exact abort_kept h
    · split <;> rename_i e1 <;> rw [e1] at hr
      · exact abort_kept hr
      · exact State.setSes_kept hr

@[simp] theorem segment_kept {a0 : State} {s : State} {n : Nat} {e : DictEnv} {via : DictVia} {req : List Byte} {x : Xfer} (h : Kept a0 s) : Kept a0 (segment s n e via req x).1 := by
  unfold segment; dsimp only
  repeat' (first | exact h | exact abort_kept h | exact State.setSes_kept h | exact finishWrite_kept h | split)

@[simp] theorem serveSegment_kept {a0 : State} {s : State} {n : Nat} {e : DictEnv} {via : DictVia} {req : List Byte} (h : Kept a0 s) : Kept a0 (serveSegment s n e via req).1 := by
  unfold serveSegment; try dsimp only
  repeat' (first | (simp (maxDischargeDepth := 99) +contextual [h, KeptC.split_iff]; done) | split)

@[simp] theorem serveUnknown_kept {a0 : State} {s : State} {n : Nat} {e : DictEnv} {req : List Byte} (h : Kept a0 s) : Kept a0 (serveUnknown s n e req).1 := by
  unfold serveUnknown; try dsimp only
  repeat' (first | (simp (maxDischargeDepth := 99) +contextual [h, KeptC.split_iff]; done) | split)

@[simp] theorem closeXfer_kept {a0 : State} {s : State} {n : Nat} (h : Kept a0 s) : Kept a0 (closeXfer s n) := by
  unfold closeXfer; simp (maxDischargeDepth := 99) +contextual [h]

@[simp] theorem performRecord_kept {a0 : State} {s : State} {n : Nat} {e : DictEnv} {via : DictVia} {req : List Byte} (h : Kept a0 s) : Kept a0 (performRecord s n e via req).1 := by
  unfold performRecord; try dsimp only
  repeat' (first | (simp (maxDischargeDepth := 99) +contextual [h, KeptC.split_iff]; done) | split)

@[simp] theorem respondTo_kept {a0 : State} {s : State} {q : DictReq} {rsp : List Byte} (h : Kept a0 s) : Kept a0 (respondTo s q rsp) := by
  unfold respondTo; simp (maxDischargeDepth := 99) +contextual [h]

@[simp] theorem serve_kept {a0 : State} {s : State} {e : DictEnv} (h : Kept a0 s) : Kept a0 (serve s e) := by
  unfold serve; try dsimp only
  repeat' (first | (simp (maxDischargeDepth := 99) +contextual [h, KeptC.split_iff]; done) | split)

theorem execObjectRead_kept {a0 : State} {e : DictEnv} {s : State} (h : Kept a0 s) : KeptOut a0 (execObjectRead e s) := by
  unfold execObjectRead; simp (maxDischargeDepth := 99) +contextual [h]

theorem execObjectWrite_kept {a0 : State} {e : DictEnv} {s : State} (h : Kept a0 s) : KeptOut a0 (execObjectWrite e s) := by
  unfold execObjectWrite; simp (maxDischargeDepth := 99) +contextual [h]

theorem execSegRead_kept {a0 : State} {e : DictEnv} {s : State} (h : Kept a0 s) : KeptOut a0 (execSegRead e s) := by
  unfold execSegRead; simp (maxDischargeDepth := 99) +contextual [h]

theorem execSegWrite_kept {a0 : State} {s : State} (h : Kept a0 s) : KeptOut a0 (execSegWrite s) := by
  unfold execSegWrite; simp (maxDischargeDepth := 99) +contextual [h]

theorem execSegment_kept {a0 : State} {e : DictEnv} {s : State} (h : Kept a0 s) : KeptOut a0 (execSegment e s) := by
  unfold execSegment; simp (maxDischargeDepth := 99) +contextual [h]

theorem execRecordAbort_kept {a0 : State} {s : State} (h : Kept a0 s) : KeptOut a0 (execRecordAbort s) := by
  unfold execRecordAbort; simp (maxDischargeDepth := 99) +contextual [h]

theorem execTransferTimeout_kept {a0 : State} {session : Fin 32} {s : State} (h : Kept a0 s) : KeptOut a0 (execTransferTimeout session s) := by
  unfold execTransferTimeout; try dsimp only
  repeat' (first | (simp (maxDischargeDepth := 99) +contextual [h, KeptC.split_iff]; done) | split)

@[simp] theorem canReceived_kept {a0 : State} {s : State} {c : Nat} (h : Kept a0 s) : Kept a0 (canReceived s c) := by
  unfold canReceived; simp (maxDischargeDepth := 99) +contextual [h]

theorem execCanFrameReceive_kept {a0 : State} {c : Fin 2} {id : BitVec 29} {data : List Byte} {s : State} (h : Kept a0 s) : KeptOut a0 (execCanFrameReceive c id data s) := by
  unfold execCanFrameReceive; simp (maxDischargeDepth := 99) +contextual [h]

theorem execCanBusError_kept {a0 : State} {c : Fin 2} {transmit : Bool} {step : BitVec 4} {s : State} (h : Kept a0 s) : KeptOut a0 (execCanBusError c transmit step s) := by
  unfold execCanBusError; simp (maxDischargeDepth := 99) +contextual [h]

theorem execBusOffRejoin_kept {a0 : State} {c : Fin 2} {s : State} (h : Kept a0 s) : KeptOut a0 (execBusOffRejoin c s) := by
  unfold execBusOffRejoin; simp (maxDischargeDepth := 99) +contextual [h]

theorem execRelaySend_kept {a0 : State} {s : State} (h : Kept a0 s) : KeptOut a0 (execRelaySend s) := by
  unfold execRelaySend; simp (maxDischargeDepth := 99) +contextual [h]

theorem execRelayTimeout_kept {a0 : State} {session : Fin 32} {s : State} (h : Kept a0 s) : KeptOut a0 (execRelayTimeout session s) := by
  unfold execRelayTimeout; simp (maxDischargeDepth := 99) +contextual [h]

theorem execPresencePress_kept {a0 : State} {held : Bool} {s : State} (h : Kept a0 s) : KeptOut a0 (execPresencePress held s) := by
  unfold execPresencePress; simp (maxDischargeDepth := 99) +contextual [h]

theorem execPresenceExpire_kept {a0 : State} {s : State} (h : Kept a0 s) : KeptOut a0 (execPresenceExpire s) := by
  unfold execPresenceExpire; simp (maxDischargeDepth := 99) +contextual [h]

theorem execSealBreak_kept {a0 : State} {s : State} (h : Kept a0 s) : KeptOut a0 (execSealBreak s) := by
  unfold execSealBreak; split
  · exact KeptOut.next_iff.2 h
  · have hb : s.fuse.Burns { s.fuse with sealEvents := if s.fuse.sealEvents < 32 then s.fuse.sealEvents + 1 else s.fuse.sealEvents } :=
      ⟨le_rfl, by dsimp only; split <;> omega, fun _ _ h => h, fun _ h => h, id, id, id, id, id⟩
    exact KeptOut.next_iff.2 (State.edge_kept (State.setFld_kept (State.setFld_kept (State.setFld_kept (h.burn hb)))))

theorem execChallengeRead_kept {a0 : State} {e : DictEnv} {s : State} (h : Kept a0 s) : KeptOut a0 (execChallengeRead e s) := by
  unfold execChallengeRead; simp (maxDischargeDepth := 99) +contextual [h]

theorem execChallengeAnswer_kept {a0 : State} {e : DictEnv} {s : State} (h : Kept a0 s) : KeptOut a0 (execChallengeAnswer e s) := by
  unfold execChallengeAnswer; simp (maxDischargeDepth := 99) +contextual [h]

theorem execPresenceUnlock_kept {a0 : State} {s : State} (h : Kept a0 s) : KeptOut a0 (execPresenceUnlock s) := by
  unfold execPresenceUnlock; simp (maxDischargeDepth := 99) +contextual [h]

theorem execLock_kept {a0 : State} {s : State} (h : Kept a0 s) : KeptOut a0 (execLock s) := by
  unfold execLock; simp (maxDischargeDepth := 99) +contextual [h]

theorem execUnlockExpire_kept {a0 : State} {session : Fin 32} {s : State} (h : Kept a0 s) : KeptOut a0 (execUnlockExpire session s) := by
  unfold execUnlockExpire; simp (maxDischargeDepth := 99) +contextual [h]

theorem execKeySlotProvision_kept {a0 : State} {s : State} (h : Kept a0 s) : KeptOut a0 (execKeySlotProvision s) := by
  unfold execKeySlotProvision; simp (maxDischargeDepth := 99) +contextual [h]

theorem execKeySlotRevoke_kept {a0 : State} {s : State} (h : Kept a0 s) : KeptOut a0 (execKeySlotRevoke s) := by
  unfold execKeySlotRevoke; simp (maxDischargeDepth := 99) +contextual [h]

theorem execKeyWrap_kept {a0 : State} {s : State} (h : Kept a0 s) : KeptOut a0 (execKeyWrap s) := by
  unfold execKeyWrap; simp (maxDischargeDepth := 99) +contextual [h]

theorem execExpertKeyWrite_kept {a0 : State} {s : State} (h : Kept a0 s) : KeptOut a0 (execExpertKeyWrite s) := by
  unfold execExpertKeyWrite; simp (maxDischargeDepth := 99) +contextual [h]

theorem execMeasurementExtend_kept {a0 : State} {slot : Fin 8} {icls : BitVec 3} {s : State} (h : Kept a0 s) : KeptOut a0 (execMeasurementExtend slot icls s) := by
  unfold execMeasurementExtend; simp (maxDischargeDepth := 99) +contextual [h]

theorem execAttestationRead_kept {a0 : State} {s : State} (h : Kept a0 s) : KeptOut a0 (execAttestationRead s) := by
  unfold execAttestationRead; simp (maxDischargeDepth := 99) +contextual [h]

theorem execReturnPreparation_kept {a0 : State} {steps : Fin 6} {s : State} (h : Kept a0 s) : KeptOut a0 (execReturnPreparation steps s) := by
  unfold execReturnPreparation; try dsimp only
  repeat' (first | (simp (maxDischargeDepth := 99) +contextual [h, KeptC.split_iff]; done) | split)

theorem execReturnCompletion_kept {a0 : State} {s : State} (h : Kept a0 s) : KeptOut a0 (execReturnCompletion s) := by
  unfold execReturnCompletion; simp (maxDischargeDepth := 99) +contextual [h]

end Sys2Proof.Machine
end

