-- ==== Sys2Proof/Laws/KeptMesh.lean ====
section
/-! SUPPORT. What each function of Machine/Mesh.lean keeps: the queue, the burned fuses, the canonical form. -/

namespace Sys2Proof.Machine

open Sys2Proof

set_option linter.all false

@[simp] theorem meshMove_kept {a0 : State} {s : State} {x : Mover} (h : Kept a0 s) : Kept a0 (meshMove s x) := by
  unfold meshMove; simp (maxDischargeDepth := 99) +contextual [h]

@[simp] theorem meshLand_kept {a0 : State} {s : State} (h : Kept a0 s) : Kept a0 (meshLand s) := by
  unfold meshLand; simp (maxDischargeDepth := 99) +contextual [h]

@[simp] theorem meshLmsg_kept {a0 : State} {s : State} (h : Kept a0 s) : Kept a0 (meshLmsg s) := by
  unfold meshLmsg; simp (maxDischargeDepth := 99) +contextual [h]

@[simp] theorem meshCycle_kept {a0 : State} {s : State} (h : Kept a0 s) : Kept a0 (meshCycle s) := by
  unfold meshCycle; simp (maxDischargeDepth := 99) +contextual [h]

@[simp] theorem plateTick_kept {a0 : State} {s : State} (h : Kept a0 s) : Kept a0 (plateTick s) := by
  unfold plateTick; simp (maxDischargeDepth := 99) +contextual [h]

end Sys2Proof.Machine
end

