-- ==== Sys2Proof/Laws/Link.lean ====
section
/-! SUPPORT. The coding of the serial lanes: what a transmitter does to bytes, a receiver in step with it undoes (R371-R373). -/

namespace Sys2Proof.Machine

open Sys2Proof

/-- The scrambler is its own inverse, and ends in the same state both ways (R371). -/
theorem scramble_scramble (bs : List Bool) : ∀ S, scramble S (scramble S bs).1 = (bs, (scramble S bs).2) := by
  induction bs with
  | nil => intro S; rfl
  | cons b r ih =>
    intro S
    simp only [scramble]
    rw [ih]
    simp

/-- A stuffed symbol breaks the run before it (R373). -/
theorem stuffSymbol_ne (p : Bool) (y : BitVec 2) : (stuffSymbol p y).toNat ≠ y.toNat := by
  cases p <;> revert y <;> decide

/-- A receiver in the run of the transmitter deletes exactly what was stuffed, meets no stuff error, and stays in its run (R373). -/
theorem unstuff_stuff (p : Bool) (ys : List (BitVec 2)) : ∀ sym len, len < 63 →
    unstuff p sym len (stuff p sym len ys).1 = (ys.flatMap (symBits p), [], (stuff p sym len ys).2.1, (stuff p sym len ys).2.2) ∧
    (stuff p sym len ys).2.2 < 63 := by
  induction ys with
  | nil => intro sym len h; exact ⟨rfl, h⟩
  | cons y r ih =>
    intro sym len h
    rw [stuff]
    dsimp only
    generalize hm : (if y.toNat = sym then len + 1 else 1) = m
    by_cases hn : m = 63
    · rw [if_pos hn]
      obtain ⟨h1, h2⟩ := ih (stuffSymbol p y).toNat 1 (by omega)
      refine ⟨?_, h2⟩
      rw [unstuff.eq_def]
      dsimp only
      rw [if_neg (by omega), hm, hn, unstuff.eq_def]
      dsimp only
      rw [if_pos rfl, h1]
      simp [stuffSymbol_ne p y]
    · rw [if_neg hn]
      have hl : m < 63 := by
        have : m ≤ 63 := by rw [← hm]; split <;> omega
        omega
      obtain ⟨h1, h2⟩ := ih y.toNat _ hl
      refine ⟨?_, h2⟩
      rw [unstuff.eq_def]
      dsimp only
      rw [if_neg (by omega), hm, h1]
      simp

/-- The bits of the PAM4 symbols of bits (R372). -/
theorem paSymbols_bits : ∀ (n : Nat) (l : List Bool), l.length = 2 * n → (paSymbols l).flatMap (symBits true) = l := by
  intro n
  induction n with
  | zero => intro l h; have : l = [] := List.length_eq_zero_iff.1 (by omega); subst this; rfl
  | succ n ih =>
    intro l h
    match l, h with
    | b :: c :: r, h =>
      simp only [paSymbols, List.flatMap_cons, ih r (by simp at h; omega)]
      cases b <;> cases c <;> rfl

/-- The bits of the symbols of bits (R372). -/
theorem symBits_toSymbols (p : Bool) (n : Nat) (l : List Bool) (h : l.length = 2 * n) : (toSymbols p l).flatMap (symBits p) = l := by
  cases p
  · unfold toSymbols
    rw [if_neg (by decide)]
    clear h
    induction l with
    | nil => rfl
    | cons b r ih => simp only [List.map_cons, List.flatMap_cons, ih]; cases b <;> rfl
  · exact paSymbols_bits n l h

/-- Scrambling keeps the number of bits. -/
theorem scramble_length (l : List Bool) : ∀ S, (scramble S l).1.length = l.length := by
  induction l with
  | nil => intro S; rfl
  | cons b r ih => intro S; simp [scramble, ih]

/-- A byte is eight bits. -/
theorem bytesToBits_length (bs : List Byte) : (bytesToBits bs).length = 8 * bs.length := by
  induction bs with
  | nil => rfl
  | cons b r ih => simp only [bytesToBits, List.flatMap_cons, List.length_append] at *; simp [ih]; omega

/-- A byte read from its bits, the least significant first. -/
theorem byte_bits (b : Byte) (l : List Bool) :
    BitVec.ofNat 8 ((List.range 8).map (fun i => boolNat (((List.range 8).map (fun i => b.getLsbD i) ++ l).getD i false) * 2 ^ i)).sum = b := by
  have h : (List.range 8).map (fun i => boolNat (((List.range 8).map (fun i => b.getLsbD i) ++ l).getD i false) * 2 ^ i) =
      (List.range 8).map (fun i => boolNat (b.getLsbD i) * 2 ^ i) := by
    refine List.map_congr_left (fun i hi => ?_)
    have hi : i < 8 := by simpa using hi
    rw [List.getD_append _ _ _ _ (by simpa using hi)]
    simp [List.getD, hi]
  rw [h]
  clear h
  revert b
  decide

/-- Bytes read from their bits (R372). -/
theorem bitsToBytes_bytesToBits (bs : List Byte) : bitsToBytes bs.length (bytesToBits bs) = bs := by
  induction bs with
  | nil => rfl
  | cons b r ih =>
    have e : bytesToBits (b :: r) = (List.range 8).map (fun i => b.getLsbD i) ++ bytesToBits r := by simp [bytesToBits]
    rw [e]
    simp only [List.length_cons, bitsToBytes]
    rw [byte_bits, List.drop_append_of_le_length (by simp), List.drop_of_length_le (by simp)]
    simp [ih]

/-- A lane's records read after they are replaced. -/
theorem laneX_setLaneX (s : State) (k j : Nat) (x : LaneX) : (s.setLaneX k j x).laneX k j = x := by
  unfold State.setLaneX State.laneX
  exact SMap.get_store_self _ _ _ _

end Sys2Proof.Machine
end

