-- ==== Sys2Proof/Laws/Mesh.lean ====
section
/-! SUPPORT. The choice that a router output makes in a plate cycle (R178). -/

namespace Sys2Proof.Machine

open Sys2Proof

/-- The choice of a turn is one of those that wait, the first from the input whose turn it is (R178). -/
theorem turnOf_spec (turn : Nat) (l : List Mover) : ∀ x, turnOf turn l = some x → x ∈ l ∧ ∀ y ∈ l, (x.input + 20 - turn) % 20 ≤ (y.input + 20 - turn) % 20 := by
  induction l with
  | nil => intro x h; simp [turnOf] at h
  | cons a r ih =>
    intro x h
    unfold turnOf at h
    split at h
    · rename_i hn
      injection h with h; subst h
      have : r = [] := by
        cases r with
        | nil => rfl
        | cons b r => unfold turnOf at hn; split at hn <;> (try split at hn) <;> simp at hn
      subst this
      simp
    · rename_i z hz
      have := ih z hz
      split at h <;> (injection h with h; subst h)
      · rename_i hle
        exact ⟨by simp, fun y hy => by
          rcases List.mem_cons.1 hy with rfl | hy
          · rfl
          · exact hle.trans (this.2 y hy)⟩
      · rename_i hle
        refine ⟨by simp [this.1], fun y hy => ?_⟩
        rcases List.mem_cons.1 hy with rfl | hy
        · omega
        · exact this.2 y hy

/-- Where something waits, something is chosen (R178). -/
theorem turnOf_some (turn : Nat) {l : List Mover} (h : l ≠ []) : (turnOf turn l).isSome = true := by
  cases l with
  | nil => exact absurd rfl h
  | cons a r => unfold turnOf; split <;> (try split) <;> simp

end Sys2Proof.Machine
end

