-- ==== Sys2Proof/Laws/Take.lean ====
section
/-! SUPPORT. The addresses of the take windows (R238, R239). -/

namespace Sys2Proof.Machine

open Sys2Proof

/-- The units from 0x18 on are the dispatcher slices. -/
theorem unitKind_uDsp {sl : Nat} (h : sl < 8) : unitKind (0x18 + sl) = .dsp := by
  have : sl = 0 ∨ sl = 1 ∨ sl = 2 ∨ sl = 3 ∨ sl = 4 ∨ sl = 5 ∨ sl = 6 ∨ sl = 7 := by omega
  rcases this with h | h | h | h | h | h | h | h <;> subst h <;> decide

/-- An address of a take window lies in that window. -/
theorem takeWindowOf_takeAddr {sl pr off : Nat} (hs : sl < 8) (hp : pr < 64) (ho : off < 128) :
    takeWindowOf (takeAddr sl pr off) = some (sl, pr, off) := by
  have e : takeAddr sl pr off = 0x0E0000000000 + (0x18 + sl) * 0x1000000 + 0x800000 + pr * 0x80 + off := rfl
  have hk : kidOf (takeAddr sl pr off) = 0 := by unfold kidOf; rw [e]; omega
  have hm : takeAddr sl pr off % 2 ^ 48 = takeAddr sl pr off := by rw [e]; omega
  have h1 : ¬ takeAddr sl pr off < 0x040000000000 := by rw [e]; omega
  have h2 : (takeAddr sl pr off - 0x0E0000000000) / 0x1000000 = 0x18 + sl := by rw [e]; omega
  have h3 : (takeAddr sl pr off - 0x0E0000000000) % 0x1000000 = 0x800000 + pr * 0x80 + off := by rw [e]; omega
  have hmap : mapAddr (takeAddr sl pr off) = .csr (0x18 + sl) (0x800000 + pr * 0x80 + off) := by
    unfold mapAddr
    rw [if_neg h1, if_neg (by simp only [Bool.and_eq_true, decide_eq_true_eq]; rw [e]; omega),
      if_neg (by simp only [Bool.and_eq_true, decide_eq_true_eq]; rw [e]; omega),
      if_pos (by simp only [Bool.and_eq_true, decide_eq_true_eq]; rw [e]; omega), h2, h3]
  unfold takeWindowOf
  rw [hk, hm, hmap]
  simp only [ne_eq, not_true_eq_false, if_false]
  rw [if_pos ⟨unitKind_uDsp hs, by omega, by omega⟩]
  have k1 : ∀ A, (A + pr * 0x80 + off - A) / 0x80 = pr := by intro A; omega
  have k2 : (0x800000 + pr * 0x80 + off) % 0x80 = off := by omega
  have k3 : 0x18 + sl - uDsp 0 = sl := Nat.add_sub_cancel_left _ _
  rw [k1, k2, k3]

/-- An access whose address lies in a take window is a take access. -/
theorem coreAccess_takeAddr (s : State) {a : CoreAcc} (v : Option Nat) {sl pr off : Nat} (hs : sl < 8) (hp : pr < 64) (ho : off < 128)
    (ha : a.addr = takeAddr sl pr off) : coreAccess s a v = absorbCore (takeAccess s a sl pr off) (a.core / 8) := by
  unfold coreAccess
  rw [ha, takeWindowOf_takeAddr hs hp ho]

/-- A load of an operand of the window answers from the core's take buffer. -/
theorem takeAccess_operand (s : State) {a : CoreAcc} (sl pr : Nat) {off : Nat} (h : 8 ≤ off) (ha : a.op = .load) :
    takeAccess s a sl pr off = coreValue s a.core (takeBufferValue (s.coreX a.core) (sl * 64 + pr) off a.size) := by
  unfold takeAccess
  rw [ha]
  dsimp only
  rw [if_neg (by omega), if_pos h]

/-- A load of 8 bytes at offset 0 takes: it reads the 128 bytes of the window. -/
theorem takeAccess_take (s : State) {a : CoreAcc} (sl pr : Nat) (ha : a.op = .load) (hn : a.size = 8) :
    takeAccess s a sl pr 0 = coreSend s (a.core / 8) (byteReq opRead 2 0 a.addr 128 []) (some { a with take := true }) := by
  unfold takeAccess
  rw [ha]
  dsimp only
  rw [if_pos rfl, if_pos hn]

end Sys2Proof.Machine
end

