-- ==== Sys2Proof/Laws/Tap.lean ====
section
/-! SUPPORT. What the issue of an engine's instruction answers, and the elements of an operand memory. -/

namespace Sys2Proof.Machine

/-- An engine that can issue an instruction of the opcode, from an entry that suffers no upset, performs it, EVT low. -/
theorem issue_of_issues {s : State} {i op w : Nat} (h : Issues s i op w) (hop : op < 0x12) (body : Nat → State → State) :
    issue s i op false body = body w (s.setEngine i { s.engine i with evt := false }) := by
  obtain ⟨h1, h2, h3, h4, h5, h6, h7⟩ := h
  have c : canIssue s i = true := by simp [canIssue, h1, h2, tapRun]
  have b : (s.engine i).badParity.contains (s.ef i F.tapStatusPc) = false := by simpa using h5
  have n : ¬ 0x12 ≤ op := by omega
  unfold issue
  simp only [c, h3, h4, b, h6, h7, n, beq_iff_eq, Bool.not_true, Bool.false_or, Bool.or_false, Bool.or_self, Bool.false_eq_true, if_false,
    if_true, beq_eq_false_iff_ne.2 h3]

/-- An engine that would issue from an entry that suffers an upset faults with PARITY, and raises class 0x03 (R158). -/
theorem issue_upset {s : State} {i op w : Nat} (h : Issues s i op w) (op' : Nat) (body : Nat → State → State) :
    issue s i op' true body =
      (faultEngine (s.setEngine i { s.engine i with badParity := NSet.add (s.engine i).badParity (s.ef i F.tapStatusPc) }) i 2).raise
        (engUnit i) 0x03 := by
  obtain ⟨h1, h2, h3, h4, h5, h6, h7⟩ := h
  have c : canIssue s i = true := by simp [canIssue, h1, h2, tapRun]
  unfold issue
  simp only [c, h3, h4, Bool.not_true, Bool.false_or, Bool.or_false, Bool.or_self, Bool.false_eq_true, if_false, if_true,
    beq_eq_false_iff_ne.2 h3]

/-- An engine that is not in RUN issues nothing. -/
theorem issue_of_not_run {s : State} {i : Nat} (h : s.ef i F.tapStatusState ≠ 1) (op : Nat) (upset : Bool) (body : Nat → State → State) :
    issue s i op upset body = s := by
  have c : canIssue s i = false := by simp [canIssue, tapRun, h]
  unfold issue
  simp only [c, Bool.not_false, Bool.true_or, if_true]

end Sys2Proof.Machine
end

