-- ==== Sys2Proof/Tests/Slice0.lean ====
section
/-! SUPPORT. Tests: ill-formed commands that the well-formedness check refuses, values worked out in the spec, single commands on small
states, and for every statement with hypotheses a state and operands that meet them all. -/

open Sys2Proof Sys2Proof.Machine

namespace Sys2Proof.Tests

set_option Elab.async false
set_option maxRecDepth 8000
set_option linter.unusedVariables false

/-- A packet of zeros. -/
def wPkt : Packet := ⟨0, 0, 0, 0, 0, 0, 0, 0, 0, 0, 0, 0, 0, 0, []⟩
/-- A report of error class 1 of unit 0. -/
def wRep : Report := ⟨0, 1, 1, 0⟩
/-- The reset state with another span part. -/
def wSpan (p : SpanState) : State := { State.reset with span := p }
/-- Region 0 running with plane 0 ACTIVE and released. -/
def wOn : State := ((State.reset.setFld uCfg F.cfgRegionAct 0 0).setFld uCfg F.cfgRegionStage 3 0).setDom 0 domRun
/-- Region 0 running, with a REGION frame; PLL 0 enabled and locked, at a feedback divider of 0. -/
def wReg (f : Frame) : State :=
  ((((wOn.setFrame 0 0 (ordRegion 0) f).setFld uClk F.clkPllCfgEn 1 0).setFld uClk F.clkPllCfgLock 1 0).setFld uClk F.clkPllCfgFbdiv 0 0).setFld uClk F.clkPllCfgFrac 0 0
/-- Region 0 with track 0 and ENGCLK clocked by PLL 0. -/
def wClk : State := wReg (BitVec.ofNat _ (0x4000 + 0x4000 * 2 ^ 128 + 2 ^ 144))
/-- A packet with every byte enabled. -/
def wTo (op icls dst addr len : Nat) : Packet :=
  { wPkt with opc := BitVec.ofNat 6 op, icls := BitVec.ofNat 3 icls, dst := BitVec.ofNat 11 dst, addr := BitVec.ofNat 56 addr, len := BitVec.ofNat 8 len, aux := 63 }
/-- A packet on its way to its target. -/
def wSent (s : State) (p : Packet) : State := { s with net := { s.net with reqs := [p] } }
theorem wShaRound (h : List Nat) (kw : Nat × Nat) : (Crypto.round h kw).length = h.length := by
  unfold Crypto.round
  split
  · simp only [List.length_cons, List.length_nil]
  · rfl
theorem wShaRounds (ks : List (Nat × Nat)) : ∀ h : List Nat, (ks.foldl Crypto.round h).length = h.length := by
  induction ks with
  | nil => exact fun _ => rfl
  | cons k ks ih => exact fun h => (ih _).trans (wShaRound h k)
theorem wShaBlocks (n : Nat) : ∀ (h : List Nat) (bs : List Byte), (Crypto.blocks n h bs).length = h.length := by
  induction n with
  | zero => exact fun _ _ => rfl
  | succ n ih => exact fun h bs => (ih _ _).trans (by simp [Crypto.compress, wShaRounds])
theorem wShaWord : ∀ n v : Nat, (toLeBytes n v).length = n := by
  intro n
  induction n with
  | zero => exact fun _ => rfl
  | succ n ih => exact fun v => congrArg Nat.succ (ih _)
theorem wShaBytes : ∀ l : List Nat, (l.flatMap (toBeBytes 8)).length = 8 * l.length := by
  intro l
  induction l with
  | nil => rfl
  | cons a l ih => rw [List.flatMap_cons, List.length_append, ih, List.length_cons, toBeBytes, List.length_reverse, wShaWord]; omega
theorem wKxLength (k m : List Byte) : (Crypto.hmac384 k m).length = 48 := by
  unfold Crypto.hmac384 Crypto.sha384
  rw [wShaBytes, List.length_take, wShaBlocks]
  rfl
theorem wRuns (s : State) (n t p : Nat) (ha : s.active n = some p) (hr : s.regionRuns n = true) (hk : bitsOf (s.trackRec p n t) 15 14 = 1)
    (hb : (decide (6 ≤ bitsOf (s.trackRec p n t) 13 11) || bitsOf (s.trackRec p n t) 9 4 != 0) = false)
    (hv : (s.vco (recSource n (s.trackRec p n t)).1).1 = 0) (hp : s.pllRuns (recSource n (s.trackRec p n t)).1 = true) : s.clockRuns n t = true := by
  unfold State.clockRuns
  rw [ha]
  dsimp only
  rw [hr, hk, hp]
  unfold State.badRecord State.withinMhz
  dsimp only
  rw [hk, hv]
  rw [hb, Nat.zero_mul, decide_eq_true (Nat.zero_le _)]
  rfl

/-! ### Ill-formed commands (WellFormed) -/

/-- An access of a size no access has. -/
def badAccess : CsrAccess := ⟨0, 0, 3, 0, 4, 0, false⟩
/-- A packet whose body is longer than its LEN says. -/
def badPkt : Packet := { wPkt with opc := 2, body := [0] }
/-- A packet of more body flits than LEN can count. -/
def badLong : Packet := { wPkt with body := List.replicate 256 0 }
/-- Training that reports 17 timing parameters. -/
def badTraining : ChannelTraining := ⟨true, 0, 0, true, 0, List.replicate 17 0, true⟩
/-- An inbound write of no byte. -/
def badPciReq : PciReq := ⟨false, .bar0, false, 0, 0, true, false, 0, [], 0⟩
/-- A register list with a number that names none. -/
def badRegs : List (BitVec 16 × Word64) := [(0x41, 0)]

theorem test_wf_csrWrite : (Instr.csrWrite badAccess).wf = false ∧ (Instr.csrWrite { badAccess with size := 4, unit := 4, priv := true }).wf = false := by
  decide +kernel
theorem test_wf_plateSramAccess : (Instr.plateSramAccess wPkt [0xC00000] []).wf = false := by decide +kernel
theorem test_wf_sound : [Instr.aperturePush badPkt, .aperturePop badPkt, .peek badPkt, .engineApertureRequest badPkt, .read badPkt {},
    .write badPkt {}, .atomic badPkt {}, .responseAccept badPkt, .noRoute badPkt, .wakeHold badPkt, .linkTransmit 0 badPkt, .dopnd badPkt false,
    .tokenWindowWrite badPkt false, .dtake badPkt false, .takeWindowRead badPkt false, .streamWrite badPkt, .slDataWrite badPkt, .ref badPkt,
    .summary badPkt, .dissent badPkt, .outboundRequest badPkt, .bootWindowWrite badPkt, .relayResponse badPkt].all (fun i => !i.wf) = true := by
  decide +kernel
theorem test_wf_framed : (Instr.ingressAccept 0 0 badLong).wf = false := by decide +kernel
theorem test_wf_imemDomainWrite (d : List Byte) (h : d.length = 1048577) : (Instr.imemDomainWrite 0 d).wf = false := by
  show decide (d.length ≤ 1048576) = false
  rw [h]; decide
theorem test_wf_linkFrameReceive : (Instr.linkFrameReceive 0 [[], [], []]).wf = false ∧
    (Instr.linkFrameReceive 0 [List.replicate 651 0]).wf = false := by decide +kernel
theorem test_wf_takeBufferLoad : (Instr.takeBufferLoad 0 0 0 7 0 0).wf = false ∧ (Instr.takeBufferLoad 0 0 0 9 1 0).wf = false := by decide +kernel
theorem test_wf_ddrRetrain : (Instr.ddrRetrain 0 badTraining false).wf = false := by decide +kernel
theorem test_wf_dramTrainingDone : (Instr.dramTrainingDone []).wf = false ∧
    (Instr.dramTrainingDone (List.replicate 8 badTraining)).wf = false := by decide +kernel
theorem test_wf_capsFrameReceive : (Instr.capsFrameReceive 0 0 (List.replicate 651 0) 0).wf = false := by decide +kernel
theorem test_wf_tuningStep : (Instr.tuningStep 0 0 10001 0 0 0).wf = false := by decide +kernel
theorem test_wf_eyeScanDone : (Instr.eyeScanDone 0 0 (2 ^ 40 + 1)).wf = false := by decide +kernel
theorem test_wf_inboundRequest : (Instr.inboundRequest 0 badPciReq).wf = false ∧
    (Instr.inboundRequest 0 { badPciReq with write := false, count := 4097 }).wf = false ∧
    (Instr.inboundRequest 0 { badPciReq with write := false, off := 4095, count := 2 }).wf = false := by decide +kernel
theorem test_wf_outboundCompletion : (Instr.outboundCompletion 0 0 .success (List.replicate 4097 0)).wf = false := by decide +kernel
theorem test_wf_handover (c : List Byte) (h : c.length = containerMax + 1) : (Instr.handover c).wf = false ∧ (Instr.fwFail (some c)).wf = false := by
  constructor
  · show decide (c.length ≤ containerMax) = false
    rw [h]; decide
  · show decide (c.length ≤ containerMax) = false
    rw [h]; decide
theorem test_wf_canFrameReceive : (Instr.canFrameReceive 0 0 (List.replicate 9 0)).wf = false := by decide +kernel
theorem test_wf_canBusError : (Instr.canBusError 0 true 1).wf = false ∧ (Instr.canBusError 0 false 2).wf = false := by decide +kernel
theorem test_wf_debugRegs : [Instr.dbgHalt 0 badRegs, .dbgStep 0 badRegs, .ebreakHalt 0 badRegs, .comparatorMatch 0 0 [] 0 badRegs,
    .watchMatch 0 0 0 false 0 0 0 0 badRegs, .watchMatch 0 0 0 false 1 1 0 0 [], .registerAccess 0 false 0x41].all (fun i => !i.wf) = true := by
  decide +kernel
theorem test_wf_scan : [Instr.samplePreload [true] [], .extest [true] [], .extestPulse [] [true], .extestTrain [] [true]].all (fun i => !i.wf) = true := by
  decide +kernel
theorem test_wf_coreMemoryAccess : (Instr.coreMemoryAccess 0 .load 0 1 1 0 none).wf = false ∧ (Instr.coreMemoryAccess 0 .lr 0 0 1 0 none).wf = false := by
  decide +kernel
theorem test_wf_accepts : [Instr.csrWrite { badAccess with size := 4 }, .read wPkt {}, .write { badPkt with len := 1 } {}, .errPop, .registerAccess 0 true 0x1000,
    .canBusError 1 false 1].all Instr.wf = true := by decide +kernel

/-! ### The table gives no row any bits -/

theorem test_decode_none : ∀ w < 64, decodeTableWord 8 w = none := by decide

/-! ### Values worked out in the spec's examples, and published vectors of the algorithms it names -/

/-- The cluster at X = 1,900, Y = 700: device region 101 in every coordinate system (01, worked example of one cluster). -/
theorem test_coordinates : deviceX 6 364 = 1900 ∧ deviceY 6 188 = 700 ∧ devRegion 6 (regionOf 364 188) = 101 ∧ siteOf 364 188 = 9014 ∧
    tapOf 364 188 = 8 ∧ meshX 101 = 9 ∧ meshY 101 = 5 ∧ routerAt 9 5 = 101 ∧ uNoc 101 = 0xC5 ∧ sliceNode 6 = 101 := by decide
/-- The window of fabric port 101 and the CSR space of router 37 (00, 01, worked examples). -/
theorem test_addressMap : mapAddr 0x086500000000 = .fabric 101 0 ∧ mapAddr 0x0E0085000040 = .csr 0x85 0x40 ∧ uNoc 37 = 0x85 ∧
    kidOf 0x050E0085000040 = 5 := by decide +kernel
/-- The span frame that holds tap record 8 of site (23, 182) (03, 10, worked examples). -/
theorem test_spanOrdinal : ordSpan 86 1 = 21849 ∧ 101 * 22528 + ordSpan 86 1 = 2297177 := by decide
/-- The channel of the line at 0x0010_1234_5640 (12, worked example). -/
theorem test_dramChannel : dramChannel 0x001012345640 = 1 := by decide
/-- The header of the READ of router 37's register (06, worked example), words 7 to 2. -/
theorem test_header : ({ wPkt with pri := 2, opc := 1, len := 1, tag := 0x123, dst := 0x25C, src := 0x1D4, addr := 0x0E0085000040, aux := 3 } : Packet).header / 2 ^ 64 =
    0x81010123_4B875000_0000000E_00850000_40000000_03000000 := by decide +kernel
/-- SHA-384 of the three bytes "abc", FIPS 180-4. -/
theorem test_sha384 : beBytes (Crypto.sha384 [0x61, 0x62, 0x63]) =
    0xcb00753f45a35e8bb5a03d699ac65007272c32ab0eded1631a8b605a43ff5bed8086072ba1e7cc2358baeca134c825a7 := by decide +kernel
/-- AES-256 of FIPS 197, appendix C.3. -/
theorem test_aes256 : Crypto.aes 0x000102030405060708090a0b0c0d0e0f101112131415161718191a1b1c1d1e1f 0x00112233445566778899aabbccddeeff =
    0x8ea2b7ca516745bfeafc49904b496089 := by decide +kernel
/-- CRC-32C of the nine digits "123456789": its published check value. -/
theorem test_crc32c : crc32c [0x31, 0x32, 0x33, 0x34, 0x35, 0x36, 0x37, 0x38, 0x39] = 0xE3069283 := by decide +kernel

/-! ### Atomics and single commands -/

/-- Signed minimum and maximum of R173 across the sign, and a wrapped sum. -/
theorem test_atomics : atomicResult 0 32 0xFFFFFFFF 2 0 = 1 ∧ atomicResult 6 32 0xFFFFFFFF 1 0 = 1 ∧ atomicResult 7 32 0xFFFFFFFF 1 0 = 0xFFFFFFFF ∧
    atomicResult 2 32 5 7 5 = 7 ∧ atomicResult 2 32 5 7 6 = 5 := by decide
/-- An empty queue idles; a queued command is taken off. -/
theorem test_step_idle : step State.reset = .next State.reset := rfl
/-- The command at the front runs and leaves the queue (R1 of the block form: log entry 1). -/
theorem test_step_front : step { State.reset with pending := [.stylusBreak] } = .next State.reset := rfl
/-- A command word spells nothing: the state stays. -/
theorem test_withFetchWord : State.reset.withFetchWord 8 5 = State.reset := rfl

/-! ### Witnesses: the hypotheses of each statement, met together -/

/-! Chunk 01: general. -/

def wMov : Mover := ⟨0, 0, 0, 3, false, ⟨{ wPkt with pri := 3 }, 0, 0⟩⟩
def wEntry (o : Bool) : ErrEntry := { unit := 0, cls := 1, remote := false, count := 1, first := 0, last := 0, detail := 0, sysid := 0, isOpen := o }
def wErr (e : SMap ErrEntry) : State := { State.reset with path := [wRep], err := { entry := e } }

theorem wit_StepTakesFrontCommand_1 : ∃ c : Instr, ∃ r : List Instr, ∃ s : State,
    s.pending = c :: r := ⟨.errPop, [], { State.reset with pending := [.errPop] }, rfl⟩

theorem wit_IdleStepIsOnePlateCycle_1 : ∃ s : State, s.pending = [] := ⟨State.reset, rfl⟩

theorem wit_IdleStepIsOnePlateCycle_3 : ∃ s : State, s.pending = [] ∧ s.clk.halted = true := by
  refine ⟨{ State.reset with clk := { State.reset.clk with halted := true } }, ?_, ?_⟩ <;> decide +kernel

theorem wit_IdleStepIsOnePlateCycle_4 : ∃ s : State, s.pending = [] ∧ s.clk.halted = false ∧ ((∀ p < 16,
    portSends (plateQueues s) p = false)) ∧ meshBusy (plateQueues s) = false := by
  refine ⟨State.reset, ?_, ?_, ?_, ?_⟩ <;> decide +kernel

theorem wit_PlateCycleArbitrates_1 : ∃ s : State, ∃ r : Nat, ∃ out : Nat, ∃ l : List Mover, ∃ x : Mover, ((∀ y ∈ l, y.pri ≤ 3)) ∧
    outputChoice s r out l = some x := by
  refine ⟨State.reset, 0, 0, [wMov], wMov, ?_, ?_⟩ <;> decide +kernel

theorem wit_PlateCycleArbitrates_2 : ∃ l : List Mover, ((∀ y ∈ l, y.pri ≤ 3)) ∧ l ≠ [] := by
  refine ⟨[wMov], ?_, ?_⟩ <;> decide +kernel

theorem wit_PlateCycleArbitrates_3 : ∃ m : MeshState, ∃ x : Mover, ∃ i : Nat, SMap.get 0 m.lock x.outKey = i + 1 := by
  refine ⟨{ lock := [(6, 1)] }, wMov, 0, ?_⟩
  decide +kernel

theorem wit_PlateCycleArbitrates_4 : ∃ m : MeshState, ∃ x : Mover, SMap.get 0 m.lock x.outKey = 0 := by
  refine ⟨{}, wMov, ?_⟩
  decide +kernel

theorem wit_FusesOnlyBurn_1 : ∃ s : State, ∃ t : State, step s = .next t := ⟨State.reset, State.reset, rfl⟩

theorem wit_StepKeepsCanonical_1 : ∃ s : State, ∃ t : State, s.Canonical ∧
    step s = .next t := ⟨State.reset, State.reset, ⟨List.Pairwise.nil, SMap.Canon.nil _, SMap.Canon.nil _, SMap.Canon.nil _, SMap.Canon.nil _, SMap.Canon.nil _, SMap.Canon.nil _, SMap.Canon.nil _⟩, rfl⟩

theorem wit_FieldWrites_1 : ∃ f : Fld, f.lo ≤ f.hi ∧ f.hi < 32 := by
  refine ⟨F.clkDomReq, ?_, ?_⟩ <;> decide +kernel

theorem wit_ErrorReportsAreCounted_2 : ∃ s : State, ∃ r : Report, r ∈ s.reports := by
  refine ⟨{ State.reset with reports := [wRep] }, wRep, ?_⟩
  decide +kernel

theorem wit_ErrorReportsAreCounted_3 : ∃ u : BitVec 8, ∃ r : Report, ∃ s : State,
    s.reports.find? (fun r => r.unit == u.toNat) = some r := by
  refine ⟨0, wRep, { State.reset with reports := [wRep] }, ?_⟩
  decide +kernel

theorem wit_ErrorReportsAreCounted_4 : ∃ r : Report, ∃ l : List Report, ∃ s : State, ∃ x : Nat × ErrEntry, s.path = r :: l ∧
    s.err.entry.find? (fun x => x.1 != overflowEntry && x.2.unit == r.unit && x.2.cls == r.cls && x.2.remote == false) = some x ∧
    x.2.isOpen = true ∧ noWindow (({ s with path := l }).countSat uErr F.mgtErrTotalCount r.count) = false := by
  refine ⟨wRep, [], wErr [(0, wEntry true)], (0, wEntry true), ?_, ?_, ?_, ?_⟩ <;> decide +kernel

theorem wit_ErrorReportsAreCounted_5 : ∃ r : Report, ∃ l : List Report, ∃ s : State, ∃ x : Nat × ErrEntry, s.path = r :: l ∧
    s.err.entry.find? (fun x => x.1 != overflowEntry && x.2.unit == r.unit && x.2.cls == r.cls && x.2.remote == false) = some x ∧
    x.2.isOpen = false := by
  refine ⟨wRep, [], wErr [(0, wEntry false)], (0, wEntry false), ?_, ?_, ?_⟩ <;> decide +kernel

theorem wit_ErrorReportsAreCounted_6 : ∃ r : Report, ∃ l : List Report, ∃ a : Nat, ∃ free : List Nat, ∃ s : State, s.path = r :: l ∧
    s.err.entry.find? (fun x => x.1 != overflowEntry && x.2.unit == r.unit && x.2.cls == r.cls && x.2.remote == false) = none ∧
    unusedErr (({ s with path := l }).countSat uErr F.mgtErrTotalCount r.count) = a :: free := ⟨wRep, [], 0, List.range' 1 511, wErr [], by decide +kernel, by decide +kernel, by decide +kernel⟩

theorem wit_ErrorReportsAreCounted_7 : ∃ r : Report, ∃ origin : Nat, ∃ l : List (Report × Nat), ∃ s : State, s.err.remote = (r,
    origin) :: l := by
  refine ⟨wRep, 0, [], { State.reset with err := { remote := [(wRep, 0)] } }, ?_⟩
  decide +kernel

theorem wit_ErrorReportsAreCounted_8 : ∃ n : Fin 513, ∃ e : ErrEntry, ∃ s : State, SMap.find s.err.entry n = some e ∧ e.isOpen = true := by
  refine ⟨0, wEntry true, wErr [(0, wEntry true)], ?_, ?_⟩ <;> decide +kernel

/-! Chunk 02: span. -/

def wRot (ph : Nat) : State := wSpan { rot := [(0, ⟨0, ph, 0, false⟩)] }
theorem wTwoDrivers (s : State) (c p : Nat) (ha : s.active (channelHome c) = some p) (hf : hasSpanFrames s p (channelHome c) = true)
    (h : ((((regionClusters.take 200).filterMap (fun k =>
      let r := s.tapRecord p (channelHome c) (regionX0 (channelHome c) + k.1) (regionY0 (channelHome c) + k.2)
      if bitOf r 31 then some (bitsOf r 30 21, k.1, k.2) else none)).filter (fun t => t.1 = c % 1024)).length) = 2) : 1 < activeDrivers s c := by
  unfold activeDrivers
  rw [ha]
  unfold channelDrivers drivers
  dsimp only
  rw [if_pos hf, ← List.take_append_drop 200 regionClusters, List.filterMap_append, List.filter_append, List.length_append, h]
  omega
def wDrive : State := wOn.setFrame 0 0 (ordSpan 0 0) (BitVec.ofNat _ (2 ^ 31 + 2 ^ 63))

theorem wit_SpanCommandsComplete_1 : ∃ c : Fin 131072, ∃ s : State, c.val ∉ s.span.fenced ∧ 1 < activeDrivers s c := by
  refine ⟨0, wDrive, ?_, ?_⟩
  <;> first | exact wTwoDrivers _ _ 0 (by decide +kernel) (by decide +kernel) (by decide +kernel) | decide +kernel

theorem wit_SpanCommandsComplete_2 : ∃ d : Fin 8, ∃ c : BitVec 17, ∃ s : State, channelDie c.toNat = d ∧ c.toNat ∈ s.span.fenced := by
  refine ⟨0, 0, wSpan { fenced := [0] }, ?_, ?_⟩ <;> decide +kernel

theorem wit_SpanCommandsComplete_4 : ∃ d : Fin 8, ∃ site : Fin 24576, ∃ s : State, s.flag (uDie d) F.spnCtrlCalEn = true ∧
    SMap.find s.span.rot (siteKey d site) = none ∧ canRotate s d site = true ∧ rotating s d < s.fld (uDie d) F.spnCtrlCalPar ∧
    inOrder s d site = true ∧ s.admits 3 d = true := by
  refine ⟨0, 0, ((State.reset.setFld (uDie 0) F.spnCtrlCalEn 1).setFld (uDie 0) F.spnCtrlCalPar 8), ?_, ?_, ?_, ?_, ?_, ?_⟩ <;> decide +kernel

theorem wit_SpanCommandsComplete_5 : ∃ d : Fin 8, ∃ site : Fin 24576, ∃ r : Rotation, ∃ s : State,
    SMap.find s.span.rot (siteKey d site) = some r ∧ r.phase = 0 := by
  refine ⟨0, 0, ⟨0, 0, 0, false⟩, wRot 0, ?_, ?_⟩ <;> decide +kernel

theorem wit_SpanCommandsComplete_6 : ∃ d : Fin 8, ∃ site : Fin 24576, ∃ r : Rotation, ∃ s : State,
    SMap.find s.span.rot (siteKey d site) = some r ∧ r.phase = 0 := by
  refine ⟨0, 0, ⟨0, 0, 0, false⟩, wRot 0, ?_, ?_⟩ <;> decide +kernel

theorem wit_SpanCommandsComplete_7 : ∃ d : Fin 8, ∃ site : Fin 24576, ∃ r : Rotation, ∃ s : State,
    SMap.find s.span.rot (siteKey d site) = some r ∧ r.phase = 0 := by
  refine ⟨0, 0, ⟨0, 0, 0, false⟩, wRot 0, ?_, ?_⟩ <;> decide +kernel

theorem wit_SpanCommandsComplete_8 : ∃ d : Fin 8, ∃ site : Fin 24576, ∃ r : Rotation, ∃ s : State,
    SMap.find s.span.rot (siteKey d site) = some r ∧ r.phase = 1 := by
  refine ⟨0, 0, ⟨0, 1, 0, false⟩, wRot 1, ?_, ?_⟩ <;> decide +kernel

theorem wit_SpanCommandsComplete_9 : ∃ d : Fin 8, ∃ site : Fin 24576, ∃ r : Rotation, ∃ s : State,
    SMap.find s.span.rot (siteKey d site) = some r ∧ r.phase = 2 := by
  refine ⟨0, 0, ⟨0, 2, 0, false⟩, wRot 2, ?_, ?_⟩ <;> decide +kernel

theorem wit_SpanCommandsComplete_10 : ∃ d : Fin 8, ∃ site : Fin 24576, ∃ spare : Fin 2, ∃ s : State, s.flag (uDie d) F.spnCtrlCalEn = true ∧
    spareFree s d site spare = true ∧ s.siteOff d site = false ∧ s.admits 3 d = true := by
  refine ⟨0, 0, 0, (State.reset.setFld (uDie 0) F.spnCtrlCalEn 1), ?_, ?_, ?_, ?_⟩ <;> decide +kernel

theorem wit_SpanCommandsComplete_11 : ∃ s : State, s.span.calibrated = false ∧ ((∀ n < 128, s.active n = none)) := by
  refine ⟨State.reset, ?_, ?_⟩ <;> decide +kernel

theorem wit_SpanCommandsComplete_12 : ∃ d : Fin 8, ∃ s : State, selWire s d < 32 ∧
    SMap.find s.span.rot (siteKey d (selSite s d)) = none := by
  refine ⟨0, State.reset, ?_, ?_⟩ <;> decide +kernel

theorem wit_WiresAreJudgedAndRepaired_3 : ∃ s : State, ∃ d : Nat, ∃ site : Nat, s.site d site = 0 := by
  refine ⟨State.reset, 0, 0, ?_⟩
  decide +kernel

theorem wit_WiresAreJudgedAndRepaired_4 : ∃ s : State, ∃ d : Nat, ∃ site : Nat, s.site d site = 1 := by
  refine ⟨wSpan { site := [(0, 1)] }, 0, 0, ?_⟩
  decide +kernel

theorem wit_WiresAreJudgedAndRepaired_5 : ∃ s : State, ∃ d : Nat, ∃ site : Nat, s.site d site = 2 := by
  refine ⟨wSpan { site := [(0, 2)] }, 0, 0, ?_⟩
  decide +kernel

/-! Chunk 03: bm. -/

def wMem (r : Nat) : State := wClk.setFrame 0 0 (ordRecord 0 0) (BitVec.ofNat _ r)
def wRam : State := wMem (2 ^ 19 + 2 ^ 35)
def wQue : State := ((((wMem (1 + 2 ^ 19 + 2 ^ 35)).setFld (uDie 0) F.qcCfgPresent 1 0).setFld (uDie 0) F.qcCfgQw 3 0).setFld (uDie 0) F.qcCfgLines 16 0).setFld (uDie 0) F.qcLimitLimit 16 0
def wIn (we q : Bool) : PortIn := ⟨0, 0, 0, true, we, q, 0⟩
def wPushP : Packet := wTo opWrite 2 0 0x0800FFE00000 1
def wPopP : Packet := wTo opRead 2 0 0x0800FFE00000 1
def wPeekP : Packet := wTo opRead 3 0 0x0800FFE00000 1
def wNetQ (p : Packet) : State := (wSent ((wQue.setFld (uDie 0) F.qcCfgPushNet 1 0).setFld (uDie 0) F.qcCfgPopNet 1 0) p).setQueue 0 { count := 8, popView := 8, pushView := 8 }

theorem wit_BlockMemoryCommandsComplete_1 : ∃ m : Fin 16384, ∃ port : Fin 2, ∃ inp : Option PortIn, ∃ other : Option PortIn, ∃ s : State,
    ∃ i : PortIn, i = portInput s m port inp ∧ portActive s m port i = true ∧ i.we = false ∧ ((∀ o,
    other = some o → portActive s m (1 - port) o = false ∨ portsCoincide s m = false)) ∧
    lineOk (s.line m (wordAt s m port i).1) = true := by
  refine ⟨0, 0, some (wIn false false), none, wRam, _, rfl, ?_, ?_, ?_, ?_⟩ <;> decide +kernel

theorem wit_BlockMemoryCommandsComplete_2 : ∃ m : Fin 16384, ∃ port : Fin 2, ∃ inp : Option PortIn, ∃ other : Option PortIn, ∃ s : State,
    ∃ i : PortIn, i = portInput s m port inp ∧ portActive s m port i = true ∧ i.we = false ∧ ((∀ o,
    other = some o → portActive s m (1 - port) o = false ∨ portsCoincide s m = false)) ∧
    lineOk (s.line m (wordAt s m port i).1) = false := by
  refine ⟨0, 0, some (wIn false false), none, wRam.setLine 0 0 1, _, rfl, ?_, ?_, ?_, ?_⟩ <;> decide +kernel

theorem wit_BlockMemoryCommandsComplete_4 : ∃ m : Fin 16384, ∃ port : Fin 2, ∃ inp : Option PortIn, ∃ other : Option PortIn, ∃ s : State,
    ∃ i : PortIn, i = portInput s m port inp ∧ portActive s m port i = true ∧ i.we = true ∧ ((∀ o,
    other = some o → portActive s m (1 - port) o = false ∨ portsCoincide s m = false)) := by
  refine ⟨0, 0, some (wIn true false), none, wRam, _, rfl, ?_, ?_, ?_⟩ <;> decide +kernel

theorem wit_BlockMemoryCommandsComplete_5 : ∃ m : Fin 16384, ∃ inp : Option PortIn, ∃ o : PortIn, ∃ s : State, ∃ i : PortIn,
    i = portInput s m 0 inp ∧ portActive s m 0 i = true ∧ portActive s m 1 o = true ∧ portsCoincide s m = true := by
  refine ⟨0, some (wIn true false), wIn true false, wRam, _, rfl, ?_, ?_, ?_⟩ <;> decide +kernel

theorem wit_BlockMemoryCommandsComplete_6 : ∃ m : Fin 16384, ∃ side : Fin 3, ∃ r : Refetch, ∃ s : State, owedRefetch s m side = some r ∧
    sideIdle s m side = true := by
  refine ⟨0, 0, ⟨0, 0, 0⟩, { State.reset with bm := { refetch := [⟨0, 0, 0⟩] } }, ?_, ?_⟩ <;> decide +kernel

theorem wit_BlockMemoryCommandsComplete_7 : ∃ m : Fin 16384, ∃ side : Fin 3, ∃ r : Refetch, ∃ s : State, owedRefetch s m side = some r := by
  refine ⟨0, 0, ⟨0, 0, 0⟩, { State.reset with bm := { refetch := [⟨0, 0, 0⟩] } }, ?_⟩
  decide +kernel

theorem wit_BlockMemoryCommandsComplete_8 : ∃ d : Fin 8, ∃ s : State, SMap.find s.bm.lineCmd d = none := by
  refine ⟨0, State.reset, ?_⟩
  decide +kernel

theorem wit_BlockMemoryCommandsComplete_9 : ∃ d : Fin 8, ∃ s : State, SMap.find s.bm.lineCmd d = none := by
  refine ⟨0, State.reset, ?_⟩
  decide +kernel

theorem wit_BlockMemoryCommandsComplete_10 : ∃ d : Fin 8, ∃ c : LineCmd, ∃ s : State, ∃ m : Nat, m = d.val * 2048 + c.mem ∧
    SMap.find s.bm.lineCmd d = some c ∧ memMoving s m = false ∧ portIdle s m 0 = true ∧ portIdle s m 1 = true := by
  refine ⟨0, ⟨1, 0, 0⟩, { State.reset with bm := { lineCmd := [(0, ⟨1, 0, 0⟩)] } }, _, rfl, ?_, ?_, ?_, ?_⟩ <;> decide +kernel

theorem wit_BlockMemoryCommandsComplete_11 : ∃ s : State, s.bm.clearing = true := by
  refine ⟨State.reset, ?_⟩
  decide +kernel

theorem wit_LinesKeepTheirChecks_1 : ∃ s : State, ∃ m : Nat, flipArmed s m = false := by
  refine ⟨State.reset, 0, ?_⟩
  decide +kernel

theorem wit_LinesKeepTheirChecks_2 : ∃ s : State, ∃ m : Nat, ∃ l : Nat, ∃ mask : Nat, flipArmed s m = false ∧ mask ≠ 2 ^ 64 - 1 ∧
    lineOk (s.line m l) = true := by
  refine ⟨State.reset, 0, 0, 0, ?_, ?_, ?_⟩ <;> decide +kernel

theorem wit_LinesKeepTheirChecks_3 : ∃ s : State, ∃ m : Nat, ∃ l : Nat, ∃ mask : Nat, flipArmed s m = false ∧ mask ≠ 2 ^ 64 - 1 ∧
    lineOk (s.line m l) = false := by
  refine ⟨State.reset.setLine 0 0 1, 0, 0, 0, ?_, ?_, ?_⟩ <;> decide +kernel

theorem wit_LinesKeepTheirChecks_4 : ∃ s : State, ∃ m : Nat, ∃ l : Nat, ∃ mask : Nat, ∃ m' : Nat, ∃ l' : Nat, flipArmed s m = false ∧
    ((mask = 2 ^ 64 - 1 ∨ lineOk (s.line m l) = true)) ∧ m' * 1024 + l' ≠ m * 1024 + l := by
  refine ⟨State.reset, 0, 0, 0, 1, 0, ?_, ?_, ?_⟩ <;> decide +kernel

theorem wit_LinesKeepTheirChecks_5 : ∃ s : State, ∃ m : Nat, flipArmed s m = true := by
  refine ⟨State.reset.setFld (uDie 0) F.bmFlipCtrlArm 1, 0, ?_⟩
  decide +kernel

theorem wit_QueueCommandsComplete_1 : ∃ m : Fin 16384, ∃ inp : Option PortIn, ∃ s : State, ∃ i : PortIn, ∃ qn : Nat,
    i = portInput s m 0 inp ∧ qn = portQueue m i ∧ queuePort s m 0 i = true ∧ qPresent s qn = true ∧ (s.queue qn).flushPush = false ∧
    s.flag (uDie (qnDie qn)) F.qcCfgPushNet (qnIdx qn) = false ∧ queueFull s qn = false := by
  refine ⟨0, some (wIn false true), wQue, _, _, rfl, rfl, ?_, ?_, ?_, ?_, ?_⟩ <;> decide +kernel

theorem wit_QueueCommandsComplete_2 : ∃ m : Fin 16384, ∃ inp : Option PortIn, ∃ s : State, ∃ i : PortIn, ∃ qn : Nat,
    i = portInput s m 0 inp ∧ qn = portQueue m i ∧ queuePort s m 0 i = true ∧ qPresent s qn = true ∧
    s.flag (uDie (qnDie qn)) F.qcCfgPushNet (qnIdx qn) = false ∧ ((s.queue qn).flushPush = true ∨ queueFull s qn = true) := by
  refine ⟨0, some (wIn false true), wQue.setQueue 0 { count := 16, pushView := 16 }, _, _, rfl, rfl, ?_, ?_, ?_, ?_⟩ <;> decide +kernel

theorem wit_QueueCommandsComplete_3 : ∃ m : Fin 16384, ∃ inp : Option PortIn, ∃ s : State, ∃ i : PortIn, ∃ qn : Nat,
    i = portInput s m 1 inp ∧ qn = portQueue m i ∧ queuePort s m 1 i = true ∧ qPresent s qn = true ∧ (s.queue qn).flushPop = false ∧
    s.flag (uDie (qnDie qn)) F.qcCfgPopNet (qnIdx qn) = false ∧ queueEmpty s qn = false ∧ elementOk s qn (s.queue qn).rd = true := by
  refine ⟨0, some (wIn false true), wQue.setQueue 0 { count := 1, popView := 1 }, _, _, rfl, rfl, ?_, ?_, ?_, ?_, ?_, ?_⟩ <;> decide +kernel

theorem wit_QueueCommandsComplete_4 : ∃ m : Fin 16384, ∃ inp : Option PortIn, ∃ s : State, ∃ i : PortIn, ∃ qn : Nat,
    i = portInput s m 1 inp ∧ qn = portQueue m i ∧ queuePort s m 1 i = true ∧ qPresent s qn = true ∧ (s.queue qn).flushPop = false ∧
    s.flag (uDie (qnDie qn)) F.qcCfgPopNet (qnIdx qn) = false ∧ queueEmpty s qn = false ∧ elementOk s qn (s.queue qn).rd = false := by
  refine ⟨0, some (wIn false true), (wQue.setQueue 0 { count := 1, popView := 1 }).setLine 0 0 1, _, _, rfl, rfl, ?_, ?_, ?_, ?_, ?_, ?_⟩ <;> decide +kernel

theorem wit_QueueCommandsComplete_5 : ∃ qn : BitVec 16, ∃ s : State, qPresent s qn.toNat = true := by
  refine ⟨0, wQue, ?_⟩
  decide +kernel

theorem wit_QueueCommandsComplete_6 : ∃ p : Packet, ∃ n : Nat, ∃ o : Nat, ∃ s : State, ∃ qn : Nat, ∃ s1 : State, qn = apertureQueue n o ∧
    s1 = netFlush s qn true ∧ s.arrived p = true ∧ queueTurn s p = true ∧ p.op = opWrite ∧ windowOf p = some (n, o) ∧ 0xFFE00000 ≤ o ∧
    p.len.toNat ≠ 0 ∧ p.fullEnables = true ∧ flipping s1 n = false ∧ qPresent s1 qn = true ∧
    s1.flag (uDie (qnDie qn)) F.qcCfgPushNet (qnIdx qn) = true ∧ reqElements s1 qn p ≤ qLimit s1 qn ∧ ((∀ h ∈ s1.bm.held, h.qn ≠ qn)) ∧
    conditionMet s1 qn true p = true := by
  refine ⟨wPushP, 0, 0xFFE00000, wNetQ wPushP, _, _, rfl, rfl, ?_, ?_, ?_, ?_, ?_, ?_, ?_, ?_, ?_, ?_, ?_, ?_, ?_⟩ <;> decide +kernel

theorem wit_QueueCommandsComplete_7 : ∃ p : Packet, ∃ n : Nat, ∃ o : Nat, ∃ s : State, ∃ qn : Nat, ∃ s1 : State, qn = apertureQueue n o ∧
    s1 = netFlush s qn false ∧ s.arrived p = true ∧ queueTurn s p = true ∧ p.op = opRead ∧ peeks s p = false ∧ windowOf p = some (n, o) ∧
    0xFFE00000 ≤ o ∧ p.len.toNat ≠ 0 ∧ p.fullEnables = true ∧ flipping s1 n = false ∧ qPresent s1 qn = true ∧
    s1.flag (uDie (qnDie qn)) F.qcCfgPopNet (qnIdx qn) = true ∧ reqElements s1 qn p ≤ qLimit s1 qn ∧ ((∀ h ∈ s1.bm.held, h.qn ≠ qn)) ∧
    conditionMet s1 qn false p = true := by
  refine ⟨wPopP, 0, 0xFFE00000, wNetQ wPopP, _, _, rfl, rfl, ?_, ?_, ?_, ?_, ?_, ?_, ?_, ?_, ?_, ?_, ?_, ?_, ?_, ?_⟩ <;> decide +kernel

theorem wit_QueueCommandsComplete_8 : ∃ p : Packet, ∃ n : Nat, ∃ o : Nat, ∃ s : State, ∃ qn : Nat, qn = apertureQueue n o ∧ ∃ k : Nat,
    k = reqElements s qn p ∧ s.arrived p = true ∧ queueTurn s p = true ∧ windowOf p = some (n, o) ∧ 0xFFE00000 ≤ o ∧ peeks s p = true ∧
    p.len.toNat ≠ 0 ∧ p.fullEnables = true ∧ flipping s n = false ∧ qPresent s qn = true ∧
    s.flag (uDie (qnDie qn)) F.qcCfgPopNet (qnIdx qn) = true ∧ k ≤ qLimit s qn ∧ ((∀ h ∈ s.bm.held, h.qn ≠ qn)) ∧
    conditionMet s qn false p = true := by
  refine ⟨wPeekP, 0, 0xFFE00000, (wNetQ wPeekP).setFld uDbg F.dbgCtrlPeek 1, _, rfl, _, rfl, ?_, ?_, ?_, ?_, ?_, ?_, ?_, ?_, ?_, ?_, ?_, ?_, ?_⟩ <;> decide +kernel

theorem wit_QueueCommandsComplete_9 : ∃ qn : BitVec 16, ∃ h : HeldReq, ∃ s : State, ∃ s1 : State, s1 = netFlush s h.qn h.push ∧
    s.bm.held.find? (fun h => h.qn == qn.toNat) = some h ∧ flipping s1 (qnPort h.qn) = false ∧ qPresent s1 h.qn = true ∧
    s1.flag (uDie (qnDie h.qn)) (if h.push then F.qcCfgPushNet else F.qcCfgPopNet) (qnIdx h.qn) = true ∧
    reqElements s1 h.qn h.pkt ≤ qLimit s1 h.qn ∧ conditionMet s1 h.qn h.push h.pkt = true := by
  refine ⟨0, ⟨0, true, wPushP⟩, { wNetQ wPushP with bm := { (wNetQ wPushP).bm with held := [⟨0, true, wPushP⟩] } }, _, rfl, ?_, ?_, ?_, ?_, ?_, ?_⟩ <;> decide +kernel

theorem wit_QueueCommandsComplete_10 : ∃ n : Fin 128, ∃ i : Fin 8, ∃ h : HeldReq, ∃ s : State,
    (s.bm.held.filter (fun h => qnPort h.qn == n.val))[i.val]? = some h := by
  refine ⟨0, 0, ⟨0, true, wPushP⟩, { wNetQ wPushP with bm := { (wNetQ wPushP).bm with held := [⟨0, true, wPushP⟩] } }, ?_⟩
  decide +kernel

theorem wit_QueueCommandsComplete_11 : ∃ qn : BitVec 16, ∃ x : Transfer, ∃ s : State,
    s.bm.moving.find? (fun t => t.qn == qn.toNat) = some x := by
  refine ⟨0, ⟨0, true, wPushP, false⟩, { State.reset with bm := { moving := [⟨0, true, wPushP, false⟩] } }, ?_⟩
  decide +kernel

/-! Chunk 04: tap. -/

def wFast (s : State) : State := { s with fab := { s.fab with trackEdges := [(0, 2)] } }
def wSr : State := wFast (wOn.setFrame 0 0 (ordCluster 0 97) (BitVec.ofNat _ (2 ^ 5 + 2 ^ 6)))
def wEng (op : Nat) : State := (wClk.setEf 0 F.tapStatusState 1).setFld (engUnit 0) F.tapImemWord (op * 2 ^ 26) 0 0
theorem wCanIssue (s : State) (i : Nat) (h : s.active (i / 64) = some 0 ∧ s.regionRuns (i / 64) = true ∧
    bitsOf (s.trackRec 0 (i / 64) 8) 15 14 = 1 ∧
    (decide (6 ≤ bitsOf (s.trackRec 0 (i / 64) 8) 13 11) || bitsOf (s.trackRec 0 (i / 64) 8) 9 4 != 0) = false ∧
    (s.vco (recSource (i / 64) (s.trackRec 0 (i / 64) 8)).1).1 = 0 ∧ s.pllRuns (recSource (i / 64) (s.trackRec 0 (i / 64) 8)).1 = true)
    (h2 : (s.ef i F.tapStatusState == tapRun) = true) : canIssue s i = true :=
  Bool.and_eq_true_iff.2 ⟨wRuns s (i / 64) 8 0 h.1 h.2.1 h.2.2.1 h.2.2.2.1 h.2.2.2.2.1 h.2.2.2.2.2, h2⟩
theorem wIssues (s : State) (op w : Nat) (h : s.active 0 = some 0 ∧ s.regionRuns 0 = true ∧ bitsOf (s.trackRec 0 0 8) 15 14 = 1 ∧
    (decide (6 ≤ bitsOf (s.trackRec 0 0 8) 13 11) || bitsOf (s.trackRec 0 0 8) 9 4 != 0) = false ∧
    (s.vco (recSource 0 (s.trackRec 0 0 8)).1).1 = 0 ∧ s.pllRuns (recSource 0 (s.trackRec 0 0 8)).1 = true)
    (h2 : s.ef 0 F.tapStatusState = 1 ∧ s.ef 0 F.tapStatusWait ≠ 1 ∧ (s.engine 0).stopping = false ∧
      s.ef 0 F.tapStatusPc ∉ (s.engine 0).badParity ∧ tapFetch s 0 = w ∧ w / 2 ^ 26 = op) : Issues s 0 op w :=
  ⟨wRuns s 0 8 0 h.1 h.2.1 h.2.2.1 h.2.2.2.1 h.2.2.2.2.1 h.2.2.2.2.2, h2⟩
def wIface : State := (wClk.setEf 0 F.tapStatusState 1).setEf 0 F.tapCfgFabEn 1
def wApP : Packet := wTo opRead 2 0 0x0800FF800000 1

theorem wit_FabricCommandsComplete_1 : ∃ n : Fin 128, ∃ track : Fin 8, ∃ pads : Option (BitVec 48), ∃ s0 : State, ∃ s,
    s = (setPads s0 n pads).latchAsync ∧ s.clockRuns n track = true := by
  refine ⟨0, 0, none, wClk, _, rfl, ?_⟩
  <;> first | ((with_reducible (refine wRuns _ _ _ 0 ?_ ?_ ?_ ?_ ?_ ?_)) <;> decide +kernel) | decide +kernel

theorem wit_FabricCommandsComplete_2 : ∃ n : Fin 128, ∃ track : Fin 8, ∃ pads : Option (BitVec 48), ∃ s0 : State, ∃ s,
    s = (setPads s0 n pads).latchAsync ∧ s.clockRuns n track = false := by
  refine ⟨0, 0, none, State.reset, _, rfl, ?_⟩
  decide +kernel

theorem wit_FabricCommandsComplete_3 : ∃ n : Fin 128, ∃ x : Fin 192, ∃ y : Fin 128, ∃ set : Bool, ∃ s : State, ∃ csn, csn = boolNat set ∧
    ∃ cs, cs = controlSet s n x y csn ∧ (s.active n).isSome = true ∧ s.regionRuns n = true ∧ setAsync cs = true ∧
    s.ffHeld n (bitsOf cs 2 0) = false := by
  refine ⟨0, 0, 0, false, wSr, _, rfl, _, rfl, ?_, ?_, ?_, ?_⟩ <;> decide +kernel

theorem wit_FabricCommandsComplete_4 : ∃ n : Fin 128, ∃ x : Fin 192, ∃ y : Fin 128, ∃ set : Bool, ∃ s : State, ∃ csn, csn = boolNat set ∧
    ∃ cs, cs = controlSet s n x y csn ∧ (s.active n).isSome = true ∧ s.regionRuns n = true ∧ setAsync cs = true ∧
    s.ffHeld n (bitsOf cs 2 0) = false ∧ pinOf s n x y (81 + 2 * csn) = false := by
  refine ⟨0, 0, 0, false, wSr, _, rfl, _, rfl, ?_, ?_, ?_, ?_, ?_⟩ <;> decide +kernel

theorem wit_FabricCommandsComplete_5 : ∃ n : Fin 128, ∃ x : Fin 192, ∃ y : Fin 128, ∃ set : Bool, ∃ rises : Bool, ∃ when : SrTime,
    ∃ s : State, ∃ csn, csn = boolNat set ∧ ∃ cs, cs = controlSet s n x y csn ∧
    ((setAsync cs = false ∨ s.ffHeld n (bitsOf cs 2 0) = true ∨ (rises = true ∧ pinOf s n x y (81 + 2 * csn) = false) ∨ (rises = false ∧
    pinOf s n x y (81 + 2 * csn) = true) ∨ (rises = true ∧ when ≠ .clear))) := by
  refine ⟨0, 0, 0, false, false, .late, State.reset, _, rfl, _, rfl, ?_⟩
  decide +kernel

theorem wit_EngineInstructionsComplete_1 : ∃ i : Fin 8192, ∃ w : Nat, ∃ s : State, Issues s i 0x00 w := by
  refine ⟨0, 0 * 2 ^ 26, wEng 0, ?_⟩
  exact wIssues _ _ _ (by decide +kernel) (by decide +kernel)

theorem wit_EngineInstructionsComplete_2 : ∃ i : Fin 8192, ∃ w : Nat, ∃ s : State, Issues s i 0x01 w := by
  refine ⟨0, 1 * 2 ^ 26, wEng 1, ?_⟩
  exact wIssues _ _ _ (by decide +kernel) (by decide +kernel)

theorem wit_EngineInstructionsComplete_3 : ∃ i : Fin 8192, ∃ w : Nat, ∃ s : State, Issues s i 0x02 w := by
  refine ⟨0, 2 * 2 ^ 26, wEng 2, ?_⟩
  exact wIssues _ _ _ (by decide +kernel) (by decide +kernel)

theorem wit_EngineInstructionsComplete_4 : ∃ i : Fin 8192, ∃ w : Nat, ∃ s : State, Issues s i 0x03 w := by
  refine ⟨0, 3 * 2 ^ 26, wEng 3, ?_⟩
  exact wIssues _ _ _ (by decide +kernel) (by decide +kernel)

theorem wit_EngineInstructionsComplete_5 : ∃ i : Fin 8192, ∃ w : Nat, ∃ s : State, Issues s i 0x04 w := by
  refine ⟨0, 4 * 2 ^ 26, wEng 4, ?_⟩
  exact wIssues _ _ _ (by decide +kernel) (by decide +kernel)

theorem wit_EngineInstructionsComplete_6 : ∃ i : Fin 8192, ∃ w : Nat, ∃ s : State, Issues s i 0x05 w := by
  refine ⟨0, 5 * 2 ^ 26, wEng 5, ?_⟩
  exact wIssues _ _ _ (by decide +kernel) (by decide +kernel)

theorem wit_EngineInstructionsComplete_7 : ∃ i : Fin 8192, ∃ w : Nat, ∃ s : State, Issues s i 0x06 w := by
  refine ⟨0, 6 * 2 ^ 26, wEng 6, ?_⟩
  exact wIssues _ _ _ (by decide +kernel) (by decide +kernel)

theorem wit_EngineInstructionsComplete_8 : ∃ i : Fin 8192, ∃ w : Nat, ∃ s : State, Issues s i 0x07 w := by
  refine ⟨0, 7 * 2 ^ 26, wEng 7, ?_⟩
  exact wIssues _ _ _ (by decide +kernel) (by decide +kernel)

theorem wit_EngineInstructionsComplete_9 : ∃ i : Fin 8192, ∃ w : Nat, ∃ s : State, Issues s i 0x08 w := by
  refine ⟨0, 8 * 2 ^ 26, wEng 8, ?_⟩
  exact wIssues _ _ _ (by decide +kernel) (by decide +kernel)

theorem wit_EngineInstructionsComplete_10 : ∃ i : Fin 8192, ∃ w : Nat, ∃ s : State, Issues s i 0x09 w := by
  refine ⟨0, 9 * 2 ^ 26, wEng 9, ?_⟩
  exact wIssues _ _ _ (by decide +kernel) (by decide +kernel)

theorem wit_EngineInstructionsComplete_11 : ∃ i : Fin 8192, ∃ w : Nat, ∃ s : State, Issues s i 0x0A w := by
  refine ⟨0, 10 * 2 ^ 26, wEng 10, ?_⟩
  exact wIssues _ _ _ (by decide +kernel) (by decide +kernel)

theorem wit_EngineInstructionsComplete_12 : ∃ i : Fin 8192, ∃ w : Nat, ∃ s : State, Issues s i 0x0B w := by
  refine ⟨0, 11 * 2 ^ 26, wEng 11, ?_⟩
  exact wIssues _ _ _ (by decide +kernel) (by decide +kernel)

theorem wit_EngineInstructionsComplete_13 : ∃ i : Fin 8192, ∃ w : Nat, ∃ s : State, Issues s i 0x0C w := by
  refine ⟨0, 12 * 2 ^ 26, wEng 12, ?_⟩
  exact wIssues _ _ _ (by decide +kernel) (by decide +kernel)

theorem wit_EngineInstructionsComplete_14 : ∃ i : Fin 8192, ∃ w : Nat, ∃ s : State, Issues s i 0x0D w := by
  refine ⟨0, 13 * 2 ^ 26, wEng 13, ?_⟩
  exact wIssues _ _ _ (by decide +kernel) (by decide +kernel)

theorem wit_EngineInstructionsComplete_15 : ∃ i : Fin 8192, ∃ w : Nat, ∃ s : State, Issues s i 0x0E w := by
  refine ⟨0, 14 * 2 ^ 26, wEng 14, ?_⟩
  exact wIssues _ _ _ (by decide +kernel) (by decide +kernel)

theorem wit_EngineInstructionsComplete_16 : ∃ i : Fin 8192, ∃ w : Nat, ∃ s : State, Issues s i 0x0F w := by
  refine ⟨0, 15 * 2 ^ 26, wEng 15, ?_⟩
  exact wIssues _ _ _ (by decide +kernel) (by decide +kernel)

theorem wit_EngineInstructionsComplete_17 : ∃ i : Fin 8192, ∃ w : Nat, ∃ s : State, Issues s i 0x10 w := by
  refine ⟨0, 16 * 2 ^ 26, wEng 16, ?_⟩
  exact wIssues _ _ _ (by decide +kernel) (by decide +kernel)

theorem wit_EngineInstructionsComplete_18 : ∃ i : Fin 8192, ∃ w : Nat, ∃ s : State, Issues s i 0x11 w := by
  refine ⟨0, 17 * 2 ^ 26, wEng 17, ?_⟩
  exact wIssues _ _ _ (by decide +kernel) (by decide +kernel)

theorem wit_EngineInstructionsComplete_19 : ∃ i : Fin 8192, ∃ op : Nat, ∃ w : Nat, ∃ s : State, ∃ c : Bool → Instr, Issues s i op w ∧
    (c ∈ [fun u => .nop i u, fun u => .halt i u, fun u => .sig i u, fun u => .jmp i u, fun u => .loop i u, fun u => .waitd i u,
    fun u => .agset i u, fun u => .agadd i u, fun u => .ftap i u, fun u => .mac i u, fun u => .lddl i u, fun u => .ldc i u,
    fun u => .st i u, fun u => .inp i u, fun u => .out i u, fun u => .outa i u, fun u => .bfly i u, fun u => .bexp i u]) := by
  refine ⟨0, 0, 0, wEng 0, (fun u => Instr.nop 0 u), ?_, ?_⟩
  exacts [wIssues _ _ _ (by decide +kernel) (by decide +kernel), List.mem_cons_self]

theorem wit_EngineCommandsComplete_1 : ∃ i : Fin 8192, ∃ s : State, canIssue s i = true ∧ s.ef i F.tapStatusWait ≠ 0 := by
  refine ⟨0, (wEng 5).setEf 0 F.tapStatusWait 1, ?_, ?_⟩
  <;> first | ((with_reducible (refine wCanIssue _ _ ?_ ?_)) <;> decide +kernel) | decide +kernel

theorem wit_EngineCommandsComplete_2 : ∃ i : Fin 8192, ∃ data : Option (BitVec 36), ∃ s : State, interfaceOn s i = true ∧ ∃ v,
    (data.map BitVec.toNat).orElse (fun _ => engOffer s i) = some v := by
  refine ⟨0, some 0, wIface, ?_, 0, ?_⟩ <;> decide +kernel

theorem wit_EngineCommandsComplete_3 : ∃ i : Fin 8192, ∃ s : State, interfaceOn s i = true := by
  refine ⟨0, wIface, ?_⟩
  decide +kernel

theorem wit_EngineCommandsComplete_4 : ∃ i : Fin 8192, ∃ s : State, interfaceOn s i = true := by
  refine ⟨0, wIface, ?_⟩
  decide +kernel

theorem wit_EngineCommandsComplete_6 : ∃ i : Fin 8192, ∃ s : State, interfaceOn s i = true := by
  refine ⟨0, wIface, ?_⟩
  decide +kernel

theorem wit_EngineCommandsComplete_8 : ∃ i : Fin 8192, ∃ s : State, ∃ e, e = s.engine i ∧ e.stopping = true ∧
    s.ef i F.tapStatusWait ≠ 1 := by
  refine ⟨0, State.reset.setEngine 0 { stopping := true }, _, rfl, ?_, ?_⟩ <;> decide +kernel

theorem wit_EngineCommandsComplete_10 : ∃ i : Fin 8192, ∃ s : State, s.ef i F.tapStatusState = tapHeld := by
  refine ⟨0, (State.reset.setEf 0 F.tapStatusState tapHeld), ?_⟩
  decide +kernel

theorem wit_EngineCommandsComplete_11 : ∃ i : Fin 8192, ∃ s : State, s.ef i F.tapStatusState ≠ tapHeld := by
  refine ⟨0, (State.reset.setEf 0 F.tapStatusState 0), ?_⟩
  decide +kernel

theorem wit_EngineCommandsComplete_12 : ∃ p : Packet, ∃ s : State, ∃ n, ∃ o, windowOf p = some (n, o) ∧ 0xFF800000 ≤ o ∧ o < 0xFFC00000 ∧
    s.arrived p = true := by
  refine ⟨wApP, wSent wOn wApP, 0, 0xFF800000, ?_, ?_, ?_, ?_⟩ <;> decide +kernel

theorem wit_EngineCommandsComplete_13 : ∃ i : Fin 8192, ∃ data : List Byte, ∃ s : State, ∃ t, imemDomain s i data = .ok t := by
  refine ⟨0, [0, 0, 0, 0], State.reset, setImems State.reset 0 0 [0, 0, 0, 0], ?_⟩
  decide +kernel

theorem wit_EngineCommandsComplete_14 : ∃ i : Fin 8192, ∃ data : List Byte, ∃ s : State, ∃ c,
    imemDomain s i data = .error c := ⟨0, [], State.reset, 0x03000002, rfl⟩

theorem wit_MacStepsSaturate_4 : ∃ j : Nat, j < 8 := by
  refine ⟨0, ?_⟩
  decide +kernel

theorem wit_MacStepsSaturate_6 : ∃ l : List (Nat × Nat), l.length ≤ 8191 := by
  refine ⟨[], ?_⟩
  decide +kernel

/-! Chunk 05: net. -/

def wBits (bs : List Byte) : List (BitVec 2) := bs.flatMap (fun b => (List.range 8).map (fun i => if b.getLsbD i then 1 else 0))
def wCrc (l : List Byte) : List (BitVec 2) := wBits (l ++ toLeBytes 4 (crc32c l))
def wLink : State := ((State.reset.setLnk 0 { width := 0 }).setLaneX 0 0 { pam4 := false }).setLinkState 0 2 |>.setDom 150 domRun
def wFrame : List (BitVec 2) := wCrc (List.replicate 7 0x55 ++ [0x05] ++ List.replicate 68 0x55)
def wCaps : List (BitVec 2) := wCrc ([0x43, 0x41, 0x50, 0x53] ++ List.replicate 72 0x55)
def wLane3 : State := (State.reset.setLaneX 0 0 { pam4 := false }).setLaneState 0 0 3 |>.setDom 150 domRun
def wTx : TxFrame := ⟨0, false, ⟨0, false, 0⟩⟩
def wFp : State := wReg (BitVec.ofNat _ (2 ^ 144))
def wRsp : Packet := { wPkt with opc := 0x22 }
def wMsg (icls : Nat) : Packet := wTo opLmsg icls 3 0 0
def wLinkP (op icls : Nat) : Packet := wTo op icls 3 0 (if op = opCmsg then 1 else 0)

theorem wit_NetworkCommandsComplete_2 : ∃ p : Packet, ∃ s : State, ∃ node, node = p.dst.toNat / 16 ∧ ∃ port, port = p.dst.toNat % 16 ∧
    isResponse p.op = true ∧ p ∈ s.net.rsps ∧ (portOccupied node port = false ∨ port = 12) := by
  refine ⟨{ wRsp with dst := 12 }, { State.reset with net := { rsps := [{ wRsp with dst := 12 }] } }, _, rfl, _, rfl, ?_, ?_, ?_⟩ <;> decide +kernel

theorem wit_NetworkCommandsComplete_3 : ∃ p : Packet, ∃ s : State, ∃ node, node = p.dst.toNat / 16 ∧ ∃ port, port = p.dst.toNat % 16 ∧
    isResponse p.op = false ∧ isRequest p.op = true ∧ portOccupied node port = false ∧ p ∈ s.net.reqs := by
  refine ⟨wTo opWrite 0 15 0 1, wSent State.reset (wTo opWrite 0 15 0 1), _, rfl, _, rfl, ?_, ?_, ?_, ?_⟩ <;> decide +kernel

theorem wit_NetworkCommandsComplete_4 : ∃ p : Packet, ∃ s : State, ∃ node, node = p.dst.toNat / 16 ∧ ∃ port, port = p.dst.toNat % 16 ∧
    isResponse p.op = false ∧ isRequest p.op = false ∧ ((portOccupied node port = false ∨ port = 12)) ∧ p ∈ s.net.reqs := by
  refine ⟨wTo opLmsg 0 15 0 0, wSent State.reset (wTo opLmsg 0 15 0 0), _, rfl, _, rfl, ?_, ?_, ?_, ?_⟩ <;> decide +kernel

theorem wit_NetworkCommandsComplete_5 : ∃ p : Packet, ∃ s : State, ∃ node, node = p.dst.toNat / 16 ∧ isResponse p.op = false ∧
    portOccupied node (p.dst.toNat % 16) = true ∧ p ∈ s.net.reqs ∧ ∃ d, dstDomain p = some d ∧ s.dom d ≠ domRun ∧
    s.flag (uNoc node) F.nocRtCtrlWakeEn = false ∧ s.dom d ≠ domStopped := by
  refine ⟨wTo opWrite 0 0 0 1, ((wSent State.reset (wTo opWrite 0 0 0 1)).setDom 0 domGated).setFld (uNoc 0) F.nocRtCtrlWakeEn 0, _, rfl, ?_, ?_, ?_, 0, ?_, ?_, ?_, ?_⟩ <;> decide +kernel

theorem wit_NetworkCommandsComplete_6 : ∃ p : Packet, ∃ s : State, ∃ node, node = p.dst.toNat / 16 ∧ isResponse p.op = false ∧
    portOccupied node (p.dst.toNat % 16) = true ∧ p ∈ s.net.reqs ∧ ∃ d, dstDomain p = some d ∧ s.dom d ≠ domRun ∧
    ((s.flag (uNoc node) F.nocRtCtrlWakeEn = true ∨ s.dom d = domStopped)) ∧ s.heldAt d p < 4 := by
  refine ⟨wTo opWrite 0 0 0 1, ((wSent State.reset (wTo opWrite 0 0 0 1)).setDom 0 domGated).setFld (uNoc 0) F.nocRtCtrlWakeEn 1, _, rfl, ?_, ?_, ?_, 0, ?_, ?_, ?_, ?_⟩ <;> decide +kernel

theorem wit_NetworkCommandsComplete_7 : ∃ d : Fin 160, ∃ s : State, s.dom d = domRun := by
  refine ⟨0, (State.reset.setDom 0 domRun), ?_⟩
  decide +kernel

theorem wit_NetworkCommandsComplete_8 : ∃ d : Fin 160, ∃ s : State, s.dom d ≠ domRun ∧ s.dom d ≠ domStopped := by
  refine ⟨0, State.reset.setDom 0 domGated, ?_, ?_⟩ <;> decide +kernel

theorem wit_NetworkCommandsComplete_9 : ∃ n : Fin 128, ∃ s : State, ∃ x : Flit, ∃ r : List Flit, ∃ f, f = s.fpPort n ∧ f.iqIn = x :: r ∧
    s.clk.halted = false ∧ x.eop = true ∧ ∃ h, ∃ body, f.iq ++ [x.data] = h :: body := by
  refine ⟨0, State.reset.setFp 0 { iqIn := [⟨0, true, 0⟩] }, ⟨0, true, 0⟩, [], _, rfl, ?_, ?_, ?_, 0, [], ?_⟩ <;> decide +kernel

theorem wit_NetworkCommandsComplete_10 : ∃ n : Fin 128, ∃ s : State, ∃ x : Flit, ∃ r : List Flit, ∃ f, f = s.fpPort n ∧ f.iqIn = x :: r ∧
    s.clk.halted = false ∧ x.eop = false := by
  refine ⟨0, State.reset.setFp 0 { iqIn := [⟨0, false, 0⟩] }, ⟨0, false, 0⟩, [], _, rfl, ?_, ?_, ?_⟩ <;> decide +kernel

theorem wit_NetworkCommandsComplete_11 : ∃ n : Fin 128, ∃ s : State, ∃ x : Flit, ∃ r : List Flit, ∃ f, f = s.fpPort n ∧ f.tsIn = x :: r ∧
    s.clk.halted = false := by
  refine ⟨0, State.reset.setFp 0 { tsIn := [⟨0, false, 0⟩] }, ⟨0, false, 0⟩, [], _, rfl, ?_, ?_⟩ <;> decide +kernel

theorem wit_NetworkCommandsComplete_12 : ∃ p : Packet, p.malformed true = false := by
  refine ⟨wRsp, ?_⟩
  decide +kernel

theorem wit_NetworkCommandsComplete_13 : ∃ p : Packet, p.malformed true = true := by
  refine ⟨wPkt, ?_⟩
  decide +kernel

theorem wit_LinkCommandsComplete_1 : ∃ p : Fin 16, ∃ syms : List (List (BitVec 2)), ∃ s : State, s.linkState p = 2 ∧
    s.clocked (150 + p / 4) = true ∧ ∃ w, w = widthLanes (s.lnk p).width ∧ ∃ r, r = receiveLanes s (80 / w) (s.linkLanes p) syms ∧ ∃ bytes,
    bytes = mergeLanes r.1 ∧ ∃ v, v = leBytes bytes ∧ (crc32c (bytes.take 76) ≠ v / 2 ^ 608 ∨ 3 ≤ bitsOf v 63 60) := by
  refine ⟨0, [], wLink, ?_, ?_, _, rfl, _, rfl, _, rfl, _, rfl, ?_⟩ <;> decide +kernel

theorem wit_LinkCommandsComplete_2 : ∃ p : Fin 16, ∃ syms : List (List (BitVec 2)), ∃ s : State, s.linkState p = 2 ∧
    s.clocked (150 + p / 4) = true ∧ ∃ w, w = widthLanes (s.lnk p).width ∧ ∃ r, r = receiveLanes s (80 / w) (s.linkLanes p) syms ∧ ∃ bytes,
    bytes = mergeLanes r.1 ∧ ∃ v, v = leBytes bytes ∧ crc32c (bytes.take 76) = v / 2 ^ 608 ∧ bitsOf v 63 60 < 3 := by
  refine ⟨0, [wFrame], wLink, ?_, ?_, _, rfl, _, rfl, _, rfl, _, rfl, ?_, ?_⟩ <;> decide +kernel

theorem wit_LinkCommandsComplete_3 : ∃ p : Fin 16, ∃ t : TxFrame, ∃ rest : List TxFrame, ∃ s : State, s.linkState p = 2 ∧
    s.clocked (150 + p / 4) = true ∧ (s.lnk p).replay = t :: rest := by
  refine ⟨0, wTx, [], ((State.reset.setLnk 0 { replay := [wTx] }).setLinkState 0 2).setDom 150 domRun, ?_, ?_, ?_⟩ <;> decide +kernel

theorem wit_LinkCommandsComplete_4 : ∃ p : Fin 16, ∃ s : State, s.flag (uLnk p) F.lnkCtrlEn = false := by
  refine ⟨0, (State.reset.setFld (uLnk 0) F.lnkCtrlEn 0), ?_⟩
  decide +kernel

theorem wit_LinkCommandsComplete_5 : ∃ p : Fin 16, ∃ s : State, s.flag (uLnk p) F.lnkCtrlEn = true := by
  refine ⟨0, (State.reset.setFld (uLnk 0) F.lnkCtrlEn 1), ?_⟩
  decide +kernel

theorem wit_LinkCommandsComplete_6 : ∃ p : Fin 16, ∃ s : State, s.flag (uLnk p) F.lnkCtrlEn = true := by
  refine ⟨0, (State.reset.setFld (uLnk 0) F.lnkCtrlEn 1), ?_⟩
  decide +kernel

theorem wit_LinkCommandsComplete_7 : ∃ p : Fin 16, ∃ pkt : Packet, ∃ s : State, pkt.dst.toNat = linkCode p ∧ s.arrived pkt = true ∧
    s.firstOf pkt (fun q => q.dst == pkt.dst && q.pri == pkt.pri) = true ∧ isRequest pkt.op = true := by
  refine ⟨0, wLinkP opWrite 0, wSent (State.reset.setDom 150 domRun) (wLinkP opWrite 0), ?_, ?_, ?_, ?_⟩ <;> decide +kernel

theorem wit_LinkCommandsComplete_8 : ∃ p : Fin 16, ∃ pkt : Packet, ∃ s : State, ∃ c, c = pkt.icls.toNat ∧ pkt.dst.toNat = linkCode p ∧
    s.arrived pkt = true ∧ s.firstOf pkt (fun q => q.dst == pkt.dst && q.pri == pkt.pri) = true ∧ isRequest pkt.op = false ∧
    ((pkt.op = opLmsg ∧ (c = 4 ∨ c = 7)) ∨ (pkt.op = opCmsg ∧ (c = 4 ∨ c = 5 ∨ c = 7))) := by
  refine ⟨0, wLinkP opLmsg 4, wSent (State.reset.setDom 150 domRun) (wLinkP opLmsg 4), _, rfl, ?_, ?_, ?_, ?_, ?_⟩ <;> decide +kernel

theorem wit_LinkCommandsComplete_9 : ∃ p : Fin 16, ∃ pkt : Packet, ∃ s : State, ∃ c, c = pkt.icls.toNat ∧ pkt.dst.toNat = linkCode p ∧
    s.arrived pkt = true ∧ s.firstOf pkt (fun q => q.dst == pkt.dst && q.pri == pkt.pri) = true ∧ isRequest pkt.op = false ∧
    ((pkt.op ≠ opLmsg ∨ (c ≠ 4 ∧ c ≠ 7))) ∧ ((pkt.op ≠ opCmsg ∨ (c ≠ 4 ∧ c ≠ 5 ∧ c ≠ 7))) := by
  refine ⟨0, wLinkP opLmsg 0, wSent (State.reset.setDom 150 domRun) (wLinkP opLmsg 0), _, rfl, ?_, ?_, ?_, ?_, ?_, ?_⟩ <;> decide +kernel

theorem wit_LinkCommandsComplete_10 : ∃ p : Fin 16, ∃ s : State, s.linkState p = 2 ∧ s.flag (uLnk p) F.lnkCtrlMarkEn = true := by
  refine ⟨0, ((State.reset.setLinkState 0 2).setFld (uLnk 0) F.lnkCtrlMarkEn 1), ?_, ?_⟩ <;> decide +kernel

theorem wit_LinkCommandsComplete_11 : ∃ k : Fin 4, ∃ lane : Fin 32, ∃ s : State, s.laneState k lane = 1 ∧ s.laneHears k lane = true := by
  refine ⟨0, 0, ((State.reset.setLaneState 0 0 1).setDom (150 + 0) domRun), ?_, ?_⟩ <;> decide +kernel

theorem wit_LinkCommandsComplete_12 : ∃ k : Fin 4, ∃ lane : Fin 32, ∃ s : State, s.laneHears k lane = true := by
  refine ⟨0, 0, (State.reset.setDom (150 + 0) domRun), ?_⟩
  decide +kernel

theorem wit_LinkCommandsComplete_13 : ∃ k : Fin 4, ∃ lane : Fin 32, ∃ s : State, s.laneState k lane = 2 ∧ s.clocked (150 + k) = true := by
  refine ⟨0, 0, ((State.reset.setLaneState 0 0 2).setDom (150 + 0) domRun), ?_, ?_⟩ <;> decide +kernel

theorem wit_LinkCommandsComplete_14 : ∃ k : Fin 4, ∃ lane : Fin 32, ∃ syms : List (BitVec 2), ∃ s : State, ∃ st, st = s.laneState k lane ∧
    s.laneHears k lane = true ∧ (s.laneX k lane).gotNext = false ∧ ((st = 3 ∨ st = 4)) ∧ ∃ r, r = receiveSymbols s k lane 80 syms ∧ ∃ v,
    v = leBytes r.1 ∧ (crc32c (r.1.take 76) ≠ v / 2 ^ 608 ∨ v % 2 ^ 32 ≠ 0x53504143) := by
  refine ⟨0, 0, [], wLane3, _, rfl, ?_, ?_, ?_, _, rfl, _, rfl, ?_⟩ <;> decide +kernel

theorem wit_LinkCommandsComplete_15 : ∃ k : Fin 4, ∃ lane : Fin 32, ∃ syms : List (BitVec 2), ∃ s : State, ∃ st, st = s.laneState k lane ∧
    s.laneHears k lane = true ∧ (s.laneX k lane).gotNext = false ∧ ((st = 3 ∨ st = 4)) ∧ ∃ r, r = receiveSymbols s k lane 80 syms ∧ ∃ v,
    v = leBytes r.1 ∧ crc32c (r.1.take 76) = v / 2 ^ 608 ∧ v % 2 ^ 32 = 0x53504143 := by
  refine ⟨0, 0, wCaps, wLane3, _, rfl, ?_, ?_, ?_, _, rfl, _, rfl, ?_, ?_⟩ <;> decide +kernel

theorem wit_LinkCommandsComplete_16 : ∃ n : BitVec 10, n.toNat ≠ 0 ∧ n.toNat < 640 := by
  refine ⟨639, ?_, ?_⟩ <;> decide +kernel

theorem wit_LinkCommandsComplete_17 : ∃ k : Fin 4, ∃ lane : Fin 32, ∃ s : State, s.laneState k lane = 5 ∧ s.clocked (150 + k) = true := by
  refine ⟨0, 0, ((State.reset.setLaneState 0 0 5).setDom (150 + 0) domRun), ?_, ?_⟩ <;> decide +kernel

theorem wit_LinkCommandsComplete_20 : ∃ k : Fin 4, ∃ lane : Fin 32, ∃ s : State, s.flag (uLane k) F.laneStatusRxAsleep lane = true := by
  refine ⟨0, 0, (State.reset.setFld (uLane 0) F.laneStatusRxAsleep 1 0), ?_⟩
  decide +kernel

theorem wit_LinkCommandsComplete_21 : ∃ k : Fin 4, ∃ lane : Fin 32, ∃ s : State, ∃ u, u = uLane k ∧ s.clocked (150 + k) = true ∧
    s.laneState k lane = 5 ∧ s.fld u F.laneTuneTuneMs lane ≠ 0 ∧ (s.laneX k lane).scanHolds = false ∧ s.admits 4 k = true := by
  refine ⟨0, 0, (((State.reset.setDom (150 + 0) domRun).setLaneState 0 0 5).setFld (uLane 0) F.laneTuneTuneMs 1 0), _, rfl, ?_, ?_, ?_, ?_, ?_⟩ <;> decide +kernel

theorem wit_LinkCommandsComplete_22 : ∃ k : Fin 4, ∃ lane : Fin 40, ∃ s : State, ∃ u, u = uLane k ∧
    s.flag u F.laneEyeStatBusy lane = false := by
  refine ⟨0, 0, (State.reset.setFld (uLane 0) F.laneEyeStatBusy 0 0), _, rfl, ?_⟩
  decide +kernel

theorem wit_LinkCommandsComplete_23 : ∃ k : Fin 4, ∃ lane : Fin 40, ∃ s : State, s.flag (uLane k) F.laneEyeStatBusy lane = true ∧
    s.clocked (150 + k) = true ∧ s.admits 5 k = true := by
  refine ⟨0, 0, ((State.reset.setFld (uLane 0) F.laneEyeStatBusy 1 0).setDom (150 + 0) domRun), ?_, ?_, ?_⟩ <;> decide +kernel

theorem wit_LinkCommandsComplete_24 : ∃ k : Fin 4, ∃ lane : Fin 40, ∃ mismatches : Nat, ∃ s : State, ∃ u, u = uLane k ∧ ∃ x,
    x = s.laneX k lane ∧ s.flag u F.laneEyeStatBusy lane = true ∧ s.clocked (150 + k) = true ∧
    2 ^ x.scanN * 1000 ≤ x.slices * 1024 * x.mbd ∧ mismatches ≤ 2 ^ x.scanN := by
  refine ⟨0, 0, 1, ((State.reset.setDom 150 domRun).setLaneX 0 0 { mbd := 53125, slices := 1 }).setFld (uLane 0) F.laneEyeStatBusy 1, _, rfl, { mbd := 53125, slices := 1 }, rfl, ?_, ?_, ?_, ?_⟩ <;> decide +kernel

theorem wit_LinkCommandsComplete_25 : ∃ k : Fin 4, ∃ lane : Fin 32, ∃ mode : BitVec 2, ∃ s : State, s.laneOwned k lane = false ∧
    (mode.toNat = 0 ∨ mode.toNat = 2) := by
  refine ⟨0, 0, 0, State.reset, ?_, ?_⟩ <;> decide +kernel

theorem wit_LinkCommandsComplete_26 : ∃ p : Fin 16, ∃ s : State, s.linkState p ≠ 2 ∧ linkActive s p = true ∧
    s.clocked (150 + p / 4) = true := by
  refine ⟨0, ((wLink.setLinkState 0 1).setLaneState 0 0 5), ?_, ?_, ?_⟩ <;> decide +kernel

theorem wit_ReceiverRecoversBytes_1 : ∃ s : State, ∃ r : State, ∃ k : Nat, ∃ j : Nat, ∃ k' : Nat, ∃ j' : Nat, ∃ x, x = s.laneX k j ∧ ∃ y,
    y = r.laneX k' j' ∧ y.pam4 = x.pam4 ∧ y.rxS = x.txS ∧ y.runSym = x.txSym ∧ y.runLen = x.txLen ∧ x.txLen < 63 ∧ y.rest = [] ∧
    y.boundary = 0 := by
  refine ⟨State.reset, State.reset, 0, 0, 0, 0, _, rfl, _, rfl, ?_, ?_, ?_, ?_, ?_, ?_, ?_⟩ <;> decide +kernel

/-! Chunk 06: dsp. -/

def wMatch : Match := ⟨0, 0, 0, ⟨2, 0, 0⟩, [(0, 0)], 1, 0⟩
def wFire : Firing := ⟨wMatch, 0⟩
def wDesc : Desc := ⟨1, 0, 0⟩
def wSlice (x : Slice) : State := ((((((State.reset.setSlice 0 x).setDom 128 domRun).setFld (uDsp 0) F.dspCtrlEn 1).setFld (uDsp 0) F.dspGCtrlEn 1 0).setFld (uDsp 0) F.dspGCtrlIclsOk 255 0).setFld (uDsp 0) F.dspGCtrlNodes 1 0)
def wTok : Token := ⟨0, 0, 0, 0, 0, 0, false, wPkt⟩
def wDop : Packet := wTo opDopnd 1 149 0 0
def wTake : Packet := { wTo opDtake 1 149 0 0 with aux := 1 }
def wTokWin : Packet := wTo opWrite 1 149 (0x0E0000000000 + uDsp 0 * 0x1000000 + 0x600000) 1
def wTakeWin : Packet := wTo opRead 1 149 (0x0E0000000000 + uDsp 0 * 0x1000000 + 0x800000) 2
def wFetched (b : Line) : Packet := { wTo 0x21 1 149 0 1 with body := [b] }
def wFetch (b : Line) : State := (wSlice { fetch := [⟨0, 0, 0, [], false⟩] }).setNetPort (sliceCode 0) { delivered := [wFetched b] }

theorem wit_DispatcherCommandsComplete_1 : ∃ sl : Fin 8, ∃ src : Fin 8, ∃ s : State, ∃ x, x = s.sliceOf sl ∧ ∃ f,
    x.ring.find? (fun f => homeSlice f.key.n f.key.c == src.val) = some f := by
  refine ⟨0, 0, wSlice { ring := [wFire] }, _, rfl, wFire, ?_⟩
  decide +kernel

theorem wit_DispatcherCommandsComplete_2 : ∃ p : Packet, ∃ s : State, ∃ sl, packetSlice p = some sl ∧ p.op = opDopnd ∧
    s.arrived p = true := by
  refine ⟨wDop, wSent (wSlice {}) wDop, 0, ?_, ?_, ?_⟩ <;> decide +kernel

theorem wit_DispatcherCommandsComplete_3 : ∃ p : Packet, ∃ sl : Nat, ∃ t : Token, ∃ x : Slice, ∃ e : Nat × Desc, ∃ s : State,
    packetSlice p = some sl ∧ p.op = opDopnd ∧ s.arrived p = true ∧ t = tokenOf p.addr.toNat p.aux.toNat p.ext p ∧ x = s.sliceOf sl ∧
    s.flag (uDsp sl) F.dspCtrlEn = true ∧ homeSlice t.n t.c = sl ∧ s.flag (uDsp 0) F.dspGCtrlEn t.g = true ∧
    bitOf (s.fld (uDsp 0) F.dspGCtrlIclsOk t.g) t.req.icls.toNat = true ∧ t.g ∉ s.dsp.purging ∧ t.n < s.fld (uDsp 0) F.dspGCtrlNodes t.g ∧
    x.keptDesc t = none ∧ x.fetch = [] ∧ x.line = [] ∧ x.hold = [] ∧ x.cache.find? (fun e => e.1 == t.g * 65536 + t.n) = some e ∧
    t.op < e.2.arity ∧ t.delay = 0 ∧ x.find t.g t.n t.c = none ∧ 0 < s.freeGen sl := by
  refine ⟨wDop, 0, _, _, (0, wDesc), wSent (wSlice { cache := [(0, wDesc)] }) wDop, ?_, ?_, ?_, rfl, rfl, ?_, ?_, ?_, ?_, ?_, ?_, ?_, ?_, ?_, ?_, ?_, ?_, ?_, ?_, ?_⟩ <;> decide +kernel

theorem wit_DispatcherCommandsComplete_4 : ∃ p : Packet, ∃ sl : Nat, ∃ off : Nat, ∃ s : State, sliceSpace p = some (sl, off) ∧
    0x600000 ≤ off ∧ off < 0x610000 ∧ s.arrived p = true ∧ p.op = opWrite ∧ p.len = 1 ∧ p.fullEnables = true := by
  refine ⟨wTokWin, 0, 0x600000, wSent (wSlice {}) wTokWin, ?_, ?_, ?_, ?_, ?_, ?_, ?_⟩ <;> decide +kernel

theorem wit_DispatcherCommandsComplete_5 : ∃ sl : Fin 8, ∃ s : State, ∃ k, k = sliceCode sl ∧ ∃ np, np = s.netPort k ∧ ∃ r, ∃ rest,
    np.delivered = r :: rest ∧ ∃ s1, s1 = s.setNetPort k { np with delivered := rest } ∧ ∃ x, x = s1.sliceOf sl ∧ ∃ f,
    x.fetch.find? (fun f => f.tag == r.tag.toNat) = some f ∧ ∃ e, r.stat = 0 ∧
    descOf (leBytes ((r.payload.drop (r.a48 % 64)).take 16)) = some e := by
  refine ⟨0, wFetch 0x2001, _, rfl, _, rfl, wFetched 0x2001, [], ?_, _, rfl, _, rfl, ⟨0, 0, 0, [], false⟩, ?_, wDesc, ?_, ?_⟩ <;> decide +kernel

theorem wit_DispatcherCommandsComplete_6 : ∃ sl : Fin 8, ∃ s : State, ∃ k, k = sliceCode sl ∧ ∃ np, np = s.netPort k ∧ ∃ r, ∃ rest,
    np.delivered = r :: rest ∧ ∃ s1, s1 = s.setNetPort k { np with delivered := rest } ∧ ∃ x, x = s1.sliceOf sl ∧ ∃ f,
    x.fetch.find? (fun f => f.tag == r.tag.toNat) = some f ∧ (r.stat ≠ 0 ∨ descOf (leBytes ((r.payload.drop (r.a48 % 64)).take 16)) = none) := by
  refine ⟨0, wFetch 0, _, rfl, _, rfl, wFetched 0, [], ?_, _, rfl, _, rfl, ⟨0, 0, 0, [], false⟩, ?_, ?_⟩ <;> decide +kernel

theorem wit_DispatcherCommandsComplete_7 : ∃ sl : Fin 8, ∃ completing : Bool, ∃ s : State, ∃ x, x = s.sliceOf sl ∧ ∃ h,
    x.hold.find? (fun h => heldCompletes x h == completing) = some h ∧ (0 < s.freeGen sl ∨ (completing = true ∧ 0 < s.freeRsv sl)) := by
  refine ⟨0, false, wSlice { hold := [⟨wTok, wDesc⟩] }, _, rfl, ⟨wTok, wDesc⟩, ?_, ?_⟩ <;> decide +kernel

theorem wit_DispatcherCommandsComplete_8 : ∃ sl : Fin 8, ∃ i : Fin 64, ∃ s : State, ∃ h, (s.sliceOf sl).hold[i.val]? = some h := by
  refine ⟨0, 0, wSlice { hold := [⟨wTok, wDesc⟩] }, ⟨wTok, wDesc⟩, ?_⟩
  decide +kernel

theorem wit_DispatcherCommandsComplete_9 : ∃ s : State, s.mode.dormant = false := by
  refine ⟨{ State.reset with mode := { State.reset.mode with dormant := false } }, ?_⟩
  decide +kernel

theorem wit_DispatcherCommandsComplete_10 : ∃ sl : Fin 8, ∃ s : State, ∃ x, x = s.sliceOf sl ∧ ∃ d, ∃ ds, x.delay = d :: ds ∧
    isDue s.now d = true ∧ s.dom (128 + sl) = domRun ∧ ∃ s1, s1 = s.setSlice sl { x with delay := ds } ∧ ∃ s2,
    s2 = (if ticksLeft s.now d.due < -1 then s1.countSat (uDsp sl) F.dspLateCntCount else s1) ∧
    (((s2.sliceOf sl).find d.tok.g d.tok.n d.tok.c).map (fun m => (SMap.find m.ops d.tok.op).isSome)).getD false = true := by
  refine ⟨0, (wSlice { matching := [wMatch], delay := [⟨wTok, wDesc, 0⟩] }).setDom 128 domRun, _, rfl, ⟨wTok, wDesc, 0⟩, [], ?_, ?_, ?_, _, rfl, _, rfl, ?_⟩ <;> decide +kernel

theorem wit_DispatcherCommandsComplete_11 : ∃ sl : Fin 8, ∃ s : State, ∃ x, x = s.sliceOf sl ∧ ∃ d, ∃ ds, x.delay = d :: ds ∧
    isDue s.now d = true ∧ s.dom (128 + sl) = domRun := by
  refine ⟨0, (wSlice { delay := [⟨wTok, wDesc, 0⟩] }).setDom 128 domRun, _, rfl, ⟨wTok, wDesc, 0⟩, [], ?_, ?_, ?_⟩ <;> decide +kernel

theorem wit_DispatcherCommandsComplete_12 : ∃ p : Packet, ∃ s : State, ∃ sl, packetSlice p = some sl ∧ p.op = opDtake ∧ s.arrived p = true ∧
    s.flag (uDsp sl) F.dspCtrlEn = true ∧ p.aux ≠ 0 := by
  refine ⟨wTake, wSent (wSlice {}) wTake, 0, ?_, ?_, ?_, ?_, ?_⟩ <;> decide +kernel

theorem wit_DispatcherCommandsComplete_13 : ∃ sl : Nat, ∃ l : Nat, ∃ mask : BitVec 32, ∃ f : Firing, ∃ s : State,
    bestFiring (s.sliceOf sl) mask = some (l, f) := by
  refine ⟨0, 0, 1, wFire, wSlice { lists := [(0, [wFire])] }, ?_⟩
  decide +kernel

theorem wit_DispatcherCommandsComplete_14 : ∃ p : Packet, ∃ sl : Nat, ∃ off : Nat, ∃ prof : Nat, ∃ s : State, sliceSpace p = some (sl,
    off) ∧ 0x800000 ≤ off ∧ s.arrived p = true ∧ prof = (off - 0x800000) / 0x80 ∧ p.op = opRead ∧ p.len = 2 ∧ p.a48 % 128 = 0 ∧
    p.last = 63 ∧ prof < 64 ∧ p.icls.toNat ≠ iclsDebug ∧ s.flag (uDsp sl) F.dspCtrlEn = true ∧
    BitVec.ofNat 32 (s.fld (uDsp sl) F.dspTpMaskMask prof) ≠ 0 := by
  refine ⟨wTakeWin, 0, 0x800000, _, wSent ((wSlice {}).setFld (uDsp 0) F.dspTpMaskMask 1 0) wTakeWin, ?_, ?_, ?_, rfl, ?_, ?_, ?_, ?_, ?_, ?_, ?_, ?_⟩ <;> decide +kernel

theorem wit_DispatcherCommandsComplete_15 : ∃ sl : Fin 8, ∃ i : Fin 256, ∃ s : State, ∃ x, x = s.sliceOf sl ∧ ∃ w,
    x.waits[i.val]? = some w := by
  refine ⟨0, 0, wSlice { waits := [⟨1, wTake⟩] }, _, rfl, ⟨1, wTake⟩, ?_⟩
  decide +kernel

theorem wit_DispatcherCommandsComplete_16 : ∃ n : Fin 128, ∃ prof : BitVec 3, ∃ r : List (BitVec 3), ∃ s : State, ∃ f, f = s.fpPort n ∧
    f.takeIn = prof :: r ∧ s.clk.halted = false := by
  refine ⟨0, 0, [], State.reset.setFp 0 { takeIn := [0] }, _, rfl, ?_, ?_⟩ <;> decide +kernel

theorem wit_DispatcherCommandsComplete_19 : ∃ g : BitVec 8, ∃ s : State, ∃ gn, gn = g.toNat ∧ gn ∈ s.dsp.purging := by
  refine ⟨0, { State.reset with dsp := { purging := [0] } }, _, rfl, ?_⟩
  decide +kernel

/-! Chunk 07: ddr. -/

def wChan (h : DdrChan) : State := (((State.reset.setChan 0 h).setFld (uDdr 0) F.ddrStatusState ddrActive).setFld (uDdr 0) F.ddrRefMaxDebt 4).setDom 136 domRun
def wQw : QWrite := ⟨0, 0, 0, 0⟩
def wTrain (a b : Bool) : ChannelTraining := ⟨a, 0, 0, b, 0, [], true⟩
def wDdr : State := wChan {}
def wKid (k st : Nat) : State := ({ State.reset with ddr := { installed := 2 ^ 36 } } : State).setKid k st |>.setFld uIpe0 F.ipeKidSizeGib 1 k |>.setFld uIpe0 F.ipeMetaSizeGib 8 |>.setFld uIpe0 F.ipeMetaBaseGib 32
def wRd : Packet := wTo opRead 0 (codeOf (ddrNode 0) 1) 0 1
def wJobs : State := wChan { jobs := [⟨wRd, .clear, false, []⟩] }

theorem wit_DramControllerCommandsComplete_1 : ∃ c : Fin 8, ∃ aged : Bool, ∃ s : State, ∃ h, h = s.chan c ∧ ∃ full,
    full = (decide (s.fld (uDdr c) F.ddrSchedHwm ≤ h.wq.length) || (aged && !h.wq.isEmpty)) ∧ ∃ idle,
    idle = ((s.readQueue c).isEmpty && !h.wq.isEmpty) ∧ h.drain = false ∧ (full = true ∨ idle = true) := by
  refine ⟨0, false, wChan { wq := [wQw] }, _, rfl, _, rfl, _, rfl, ?_, ?_⟩ <;> decide +kernel

theorem wit_DramControllerCommandsComplete_2 : ∃ c : Fin 8, ∃ aged : Bool, ∃ s : State, ∃ h, h = s.chan c ∧ h.drain = true ∧
    ((h.wq.length ≤ s.fld (uDdr c) F.ddrSchedLwm ∧ aged = false) ∨ (h.drainEmpty = true ∧ (s.readQueue c).isEmpty = false)) := by
  refine ⟨0, false, wChan { drain := true }, _, rfl, ?_, ?_⟩ <;> decide +kernel

theorem wit_DramControllerCommandsComplete_3 : ∃ c : Fin 8, ∃ rank : Fin 4, ∃ s : State, ∃ h, h = s.chan c ∧ s.ddrStateOf c = ddrActive ∧
    s.chanAwake c = true ∧ ∃ d, d = SMap.get 0 h.debt rank + 1 ∧ ∃ s1, s1 = s.setChan c { h with debt := SMap.store 0 h.debt rank d } ∧
    s1.fld (uDdr c) F.ddrRefMaxDebt ≤ d ∧ h.alert = false := by
  refine ⟨0, 0, wChan { debt := [(0, 3)] }, _, rfl, ?_, ?_, _, rfl, _, rfl, ?_, ?_⟩
  <;> decide +kernel

theorem wit_DramControllerCommandsComplete_4 : ∃ c : Fin 8, ∃ rank : Fin 4, ∃ s : State, ∃ h, h = s.chan c ∧ s.ddrStateOf c = ddrActive ∧
    s.chanAwake c = true ∧ ∃ d, d = SMap.get 0 h.debt rank + 1 ∧ ∃ s1, s1 = s.setChan c { h with debt := SMap.store 0 h.debt rank d } ∧
    ((d < s1.fld (uDdr c) F.ddrRefMaxDebt ∨ h.alert = true)) := by
  refine ⟨0, 0, wChan {}, _, rfl, ?_, ?_, _, rfl, _, rfl, ?_⟩ <;> decide +kernel

theorem wit_DramControllerCommandsComplete_5 : ∃ c : Fin 8, ∃ rank : Fin 4, ∃ s : State, ∃ d, d = SMap.get 0 (s.chan c).debt rank ∧
    s.ddrStateOf c = ddrActive ∧ s.chanAwake c = true ∧ (s.chan c).alert = false ∧ d ≠ 0 ∧ s.fld (uDdr c) F.ddrRefMaxDebt ≤ d := by
  refine ⟨0, 0, wChan { debt := [(0, 4)] }, _, rfl, ?_, ?_, ?_, ?_, ?_⟩ <;> decide +kernel

theorem wit_DramControllerCommandsComplete_6 : ∃ c : Fin 8, ∃ rank : Fin 4, ∃ bank : BitVec 10, ∃ s : State, ∃ d,
    d = SMap.get 0 (s.chan c).debt rank ∧ s.ddrStateOf c = ddrActive ∧ s.chanAwake c = true ∧ (s.chan c).alert = false ∧
    (s.chan c).replaying = false ∧ d ≠ 0 ∧ d < s.fld (uDdr c) F.ddrRefMaxDebt ∧ s.bankBusy c (s.refreshes c rank bank.toNat) = false := by
  refine ⟨0, 0, 0, wChan { debt := [(0, 3)] }, _, rfl, ?_, ?_, ?_, ?_, ?_, ?_, ?_⟩ <;> decide +kernel

theorem wit_DramControllerCommandsComplete_7 : ∃ c : Fin 8, ∃ bank : BitVec 12, ∃ s : State, ∃ u, u = uDdr c ∧ ∃ h, h = s.chan c ∧ ∃ t,
    t = SMap.get [] h.tracker bank.toNat ∧ s.flag u F.ddrCtrlRdEn = true ∧ ∃ a,
    t.find? (fun a => decide (s.fld u F.ddrRdThActs ≤ a.count)) = some a := by
  refine ⟨0, 0, ((wChan { tracker := [(0, [⟨0, 9, []⟩])] }).setFld (uDdr 0) F.ddrCtrlRdEn 1).setFld (uDdr 0) F.ddrRdThActs 9, _, rfl, _, rfl, _, rfl, ?_, ⟨0, 9, []⟩, ?_⟩ <;> decide +kernel

theorem wit_DramControllerCommandsComplete_10 : ∃ c : Fin 8, ∃ s : State, ∃ u, u = uDdr c ∧ ∃ h, h = s.chan c ∧
    s.flag u F.ddrCtrlParEn = true ∧ h.parity = true ∧ s.ddrStateOf c = ddrActive := by
  refine ⟨0, ((wChan { replaying := true, attempts := 3, parity := true }).setFld (uDdr 0) F.ddrCtrlParEn 1).setFld (uDdr 0) F.ddrReplayReplayMax 4, _, rfl, _, rfl, ?_, ?_, ?_⟩ <;> decide +kernel

theorem wit_DramControllerCommandsComplete_11 : ∃ c : Fin 8, ∃ s : State,
    ((s.flag (uDdr c) F.ddrCtrlParEn = false ∨ (s.chan c).parity = false)) := by
  refine ⟨0, (wDdr.setFld (uDdr 0) F.ddrCtrlParEn 1), ?_⟩
  decide +kernel

theorem wit_DramControllerCommandsComplete_12 : ∃ c : Fin 8, ∃ s : State, ∃ h, h = s.chan c ∧ h.alert = true := by
  refine ⟨0, wChan { alert := true }, _, rfl, ?_⟩
  decide +kernel

theorem wit_DramControllerCommandsComplete_13 : ∃ t : List ChannelTraining, ∃ s : State, s.ddr.trained = false ∧ t.length = 8 := by
  refine ⟨List.replicate 8 (wTrain true true), State.reset, ?_, ?_⟩ <;> decide +kernel

theorem wit_DramControllerCommandsComplete_14 : ∃ t : ChannelTraining, t.present = true ∧ t.ok = true := by
  refine ⟨wTrain true true, ?_, ?_⟩ <;> decide +kernel

theorem wit_DramControllerCommandsComplete_17 : ∃ c : Fin 8, ∃ drift : Nat, ∃ s : State, ∃ u, u = uDdr c ∧
    s.fld u F.ddrRetrainInterval ≠ 0 ∧ s.ddrStateOf c = ddrActive ∧ s.chanAwake c = true ∧ s.fld u F.ddrRetrainForceTh ≤ drift := by
  refine ⟨0, 16, ((wDdr.setFld (uDdr 0) F.ddrRetrainInterval 1).setFld (uDdr 0) F.ddrRetrainForceTh 16), _, rfl, ?_, ?_, ?_, ?_⟩ <;> decide +kernel

theorem wit_DramControllerCommandsComplete_18 : ∃ c : Fin 8, ∃ drift : Nat, ∃ s : State, ∃ u, u = uDdr c ∧
    s.fld u F.ddrRetrainInterval ≠ 0 ∧ s.ddrStateOf c = ddrActive ∧ s.chanAwake c = true ∧ drift < s.fld u F.ddrRetrainForceTh ∧
    s.fld u F.ddrRetrainDriftTh ≤ drift := by
  refine ⟨0, 15, ((wDdr.setFld (uDdr 0) F.ddrRetrainInterval 1).setFld (uDdr 0) F.ddrRetrainForceTh 16).setFld (uDdr 0) F.ddrRetrainDriftTh 15, _, rfl, ?_, ?_, ?_, ?_, ?_⟩ <;> decide +kernel

theorem wit_DramControllerCommandsComplete_19 : ∃ c : Fin 8, ∃ rank : Fin 4, ∃ unmet : Bool, ∃ s : State, ∃ h, h = s.chan c ∧
    rank.val ∈ h.winReq ∧ h.alert = false ∧ h.replaying = false ∧ s.chanAwake c = true ∧ s.ddrStateOf c = ddrActive ∧ s.admits 6 c = true ∧
    ((unmet = true ∨ s.bankBusy c (fun b => b / 1024 == rank.val) = false ∨ (s.meter 6 c).u < s.floorOf 6)) := by
  refine ⟨0, 0, false, wChan { winReq := [0] }, _, rfl, ?_, ?_, ?_, ?_, ?_, ?_, ?_⟩ <;> decide +kernel

theorem wit_IntegrityEngineCommandsComplete_2 : ∃ kid : BitVec 8, ∃ s : State, kid.toNat ≠ 0 ∧ kid.toNat ≠ 255 ∧
    s.flag uIpe0 F.ipeCmdStatBusy = false ∧ s.kidState kid.toNat = kidFree := by
  refine ⟨1, wKid 1 kidFree, ?_, ?_, ?_, ?_⟩ <;> decide +kernel

theorem wit_IntegrityEngineCommandsComplete_3 : ∃ kid : BitVec 8, ∃ s : State, kid.toNat ≠ 0 ∧ kid.toNat ≠ 255 ∧
    s.flag uIpe0 F.ipeCmdStatBusy = false ∧ s.kidState kid.toNat = kidFree := by
  refine ⟨1, wKid 1 kidFree, ?_, ?_, ?_, ?_⟩ <;> decide +kernel

theorem wit_IntegrityEngineCommandsComplete_4 : ∃ kid : BitVec 8, ∃ s : State, kid.toNat ≠ 0 ∧ kid.toNat ≠ 255 ∧
    s.flag uIpe0 F.ipeCmdStatBusy = false ∧ s.kidState kid.toNat = kidKeyed ∧ ∃ t, t = s.setFld uIpe0 F.ipeCmdStatKid kid.toNat ∧
    rangeRefusal t kid.toNat = none := by
  refine ⟨254, wKid 254 kidKeyed, ?_, ?_, ?_, ?_, _, rfl, ?_⟩ <;> decide +kernel

theorem wit_IntegrityEngineCommandsComplete_5 : ∃ kid : BitVec 8, ∃ s : State, s.kidState kid.toNat = kidInitialising ∧
    s.ipe.initLeft = [] := by
  refine ⟨1, wKid 1 kidInitialising, ?_, ?_⟩ <;> decide +kernel

theorem wit_IntegrityEngineCommandsComplete_6 : ∃ kid : BitVec 8, ∃ s : State, kid.toNat ≠ 0 ∧ kid.toNat ≠ 255 ∧
    s.flag uIpe0 F.ipeCmdStatBusy = false ∧ s.kidState kid.toNat = kidKeyed ∧ kidClass kid.toNat = .light ∧ ∃ t,
    t = s.setFld uIpe0 F.ipeCmdStatKid kid.toNat ∧ rangeRefusal t kid.toNat = none := by
  refine ⟨192, wKid 192 kidKeyed, ?_, ?_, ?_, ?_, ?_, _, rfl, ?_⟩ <;> decide +kernel

theorem wit_IntegrityEngineCommandsComplete_7 : ∃ kid : BitVec 8, ∃ s : State, kid.toNat ≠ 0 ∧ kid.toNat ≠ 255 ∧
    s.flag uIpe0 F.ipeCmdStatBusy = false ∧ (s.kidState kid.toNat = kidKeyed ∨ s.kidState kid.toNat = kidLive ∨ s.kidState kid.toNat = kidFaulted) := by
  refine ⟨254, wKid 254 kidFaulted, ?_, ?_, ?_, ?_⟩ <;> decide +kernel

theorem wit_IntegrityEngineCommandsComplete_8 : ∃ kid : BitVec 8, ∃ s : State, ∃ k, k = kid.toNat ∧ s.ipe.retiring = some k ∧
    s.kidBusy k = false := by
  refine ⟨1, { wKid 1 kidRetiring with ipe := { (wKid 1 kidRetiring).ipe with retiring := some 1 } }, _, rfl, ?_, ?_⟩ <;> decide +kernel

theorem wit_IntegrityEngineCommandsComplete_9 : ∃ c : Fin 8, ∃ ref : List (Fin 4), ∃ r : Nat × Nat, ∃ s : State,
    s.ddrStateOf c = ddrActive ∧ s.chanAwake c = true ∧ (s.chan c).alert = false ∧ dueRefresh s c ref = some r := by
  refine ⟨0, [0], (0, 0), wChan { debt := [(0, 1)] }, ?_, ?_, ?_, ?_⟩ <;> decide +kernel

theorem wit_IntegrityEngineCommandsComplete_10 : ∃ c : Fin 8, ∃ ref : List (Fin 4), ∃ s : State, s.ddrStateOf c = ddrActive ∧
    s.chanAwake c = true ∧ (s.chan c).alert = false ∧ dueRefresh s c ref = none := by
  refine ⟨0, [], wChan { replay := [.rfm 0] }, ?_, ?_, ?_, ?_⟩ <;> decide +kernel

theorem wit_IntegrityEngineCommandsComplete_11 : ∃ c : Fin 8, ∃ ref : List (Fin 4), ∃ s : State, s.ddrStateOf c = ddrActive ∧
    s.chanAwake c = true ∧ (s.chan c).alert = false ∧ dueRefresh s c ref = none ∧ (s.chan c).rfm = [] ∧ (s.chan c).replay = [] ∧
    (s.chan c).drain = true := by
  refine ⟨0, [], wChan { wq := [wQw], drain := true }, ?_, ?_, ?_, ?_, ?_, ?_, ?_⟩ <;> decide +kernel

theorem wit_IntegrityEngineCommandsComplete_12 : ∃ c : Fin 8, ∃ ref : List (Fin 4), ∃ s : State, s.ddrStateOf c = ddrActive ∧
    s.chanAwake c = true ∧ (s.chan c).alert = false ∧ dueRefresh s c ref = none ∧ (s.chan c).rfm = [] ∧ (s.chan c).replay = [] ∧
    (s.chan c).drain = false := by
  refine ⟨0, [], wJobs, ?_, ?_, ?_, ?_, ?_, ?_, ?_⟩ <;> decide +kernel

/-! Chunk 08: cfg. -/

def wSig (z x y : Nat) : List Byte :=
  toLeBytes 4 0x47495353 ++ [1, 0, 0, 0] ++ toBeBytes 48 z ++ toBeBytes 48 z ++ toBeBytes 48 z ++ [4] ++ toBeBytes 48 x ++ toBeBytes 48 y ++ List.replicate 7 0
def wImage : List Byte := List.replicate 256 0 ++ wSig
  0x2146ce8d6cf4aa5bee4190f80eeb5b0b5cdfdde8b7bd453b8a0912575975dad3eedcd2c31e98a1a086d842533b92fdd7
  0x4a094fd9b0743b57e195f2f7aabebc05b8e74d2f7d807e0c0a67b786ceb1c6e1fe75638048ad471b5e2755174dae8486
  0xa36a7c6bbd0463a0f2cb655a92fa1d6095898ff7da8b33a5d0e61f656022dac2d4148c65f6e70c6ebcae59f524a853c5
def wImageKey : BitVec 384 := 0xd648f231cb95d1cd9d54042fbd3d606a19e431e138117a2a508a1425219d035296dd706cfd6e42e32e03a1a7bd29c129
def wLd (l : Load) : State := { State.reset.setDom 154 domRun with cfg := { load := some l } }
def wLoad (source phase : Nat) (bytes : List Byte) : Load := { source := source, icls := if source = 2 then 1 else 4, boot := false, seq := 0, bytes := bytes, phase := phase }
def wZero : Load := { wLoad 1 4 (List.replicate 256 0) with runs := [⟨0, 0, 1, true⟩], fence := [0] }
def wEntries : Load := { wLoad 1 5 (List.replicate 256 0) with entries := [⟨0, 0, 0, 0⟩] }
def wStream : Packet := wTo opWrite 4 502 (0x0E0000000000 + uCfg * 0x1000000 + 0x800000) 0
def wSelf : Packet := { wTo opWrite 1 502 (0x0E0000000000 + uCfg * 0x1000000 + 0x600000) 0 with src := 0 }
def wGrant (s : State) : State := (s.setFld uCfg F.cfgSlPortEn 1).setFld uCfg F.cfgSlPortPort 0
def wFlips (s : State) (f : Flip) : State := { s with cfg := { s.cfg with flips := [f] }, bm := { s.bm with clearing := false }, span := { s.span with calibrated := true } }
def wVer : State := ((State.reset.setPlane 0 0 planeVerified).setFld uCfg F.cfgFlipMaskRegions 1 0)
def wBank : State := wFlips { wOn with cfg := { plane := [(0, ⟨0, 0, 1⟩)], bank := [(1, ⟨1, [], [0], 0⟩)] } } { regions := [0], phase := 1 }

theorem wit_LoadCommandsComplete_1 : ∃ src : BitVec 4, ∃ icls : BitVec 3, ∃ s : State, cfgAccepts s icls.toNat = true ∧ src.toNat < 2 ∧
    s.cfg.load = none ∧ s.pinControl = false := by
  refine ⟨0, 4, State.reset, ?_, ?_, ?_, ?_⟩ <;> decide +kernel

theorem wit_LoadCommandsComplete_2 : ∃ icls : BitVec 3, ∃ l : Load, ∃ s : State, cfgAccepts s icls.toNat = true ∧ s.cfg.load = some l := by
  refine ⟨4, wLoad 1 2 [], wLd (wLoad 1 2 []), ?_, ?_⟩ <;> decide +kernel

theorem wit_LoadCommandsComplete_3 : ∃ p : Packet, ∃ l : Load, ∃ s : State, mapAddr (p.a48 / 0x800000 * 0x800000) = .csr uCfg 0x800000 ∧
    isRequest p.op = true ∧ s.arrived p = true ∧ streamDecide s 1 p.icls.toNat p = some .ok ∧ s.cfg.load = some l := by
  refine ⟨wStream, wLoad 1 2 [], wSent ((wLd (wLoad 1 2 [])).setDom 154 domRun) wStream, ?_, ?_, ?_, ?_, ?_⟩ <;> decide +kernel

theorem wit_LoadCommandsComplete_4 : ∃ p : Packet, ∃ l : Load, ∃ s : State, mapAddr (p.a48 / 0x200000 * 0x200000) = .csr uCfg 0x600000 ∧
    isRequest p.op = true ∧ s.arrived p = true ∧ slAdmitted s p.icls.toNat p.src.toNat = true ∧ streamDecide s 2 p.icls.toNat p = some .ok ∧
    s.cfg.load = some l := by
  refine ⟨wSelf, wLoad 2 2 [], wSent (wGrant ((wLd (wLoad 2 2 [])).setDom 154 domRun)) wSelf, ?_, ?_, ?_, ?_, ?_, ?_⟩ <;> decide +kernel

theorem wit_LoadCommandsComplete_5 : ∃ misrouted : Option (BitVec 7), ∃ l : Load, ∃ n0 : Nat, ∃ n : Nat, ∃ o : Nat, ∃ s : State,
    s.loading = some l ∧ l.phase = 4 ∧ frameAt l.runs l.frame 0 = some (n0, o, none) ∧ n = (misrouted.map (·.toNat)).getD n0 ∧
    itemsNow s (dieOfRegion n) 8 1 = 0 := by
  refine ⟨none, wZero, 0, _, 0, { wOn.setDom 154 domRun with cfg := { load := some wZero } }.setMeter 0 0 { u := 2 ^ 40 }, ?_, ?_, ?_, rfl, ?_⟩ <;> decide +kernel

theorem wit_LoadCommandsComplete_6 : ∃ l : Load, ∃ n : Nat, ∃ o : Nat, ∃ place : Option Nat, ∃ f : Frame, ∃ want : Word32, ∃ s : State,
    s.loading = some l ∧ l.phase = 4 ∧ frameAt l.runs l.frame 0 = some (n, o, place) ∧ ∃ off,
    off = 256 + imgManifestLen l.bytes + 256 * place.getD 0 ∧ (place = none ∨ off + 256 ≤ l.bytes.length) ∧
    itemsNow s (dieOfRegion n) 8 1 ≠ 0 ∧ f = (match place with | some _ => BitVec.ofNat 2048 (imgField l.bytes off 256) | none => 0) ∧
    (want = (match place with | some i => BitVec.ofNat 32 (imgField l.bytes (256 + 16 * (imgRuns l.bytes + imgInits l.bytes) + 4 * i) 4) | none => zeroFrameCrc)) ∧ n ∈ l.fence ∧ frameCrc f = want ∧ (if blockOf o = 1 then firstTwice (frameDrivers f) else none) = none := by
  refine ⟨wZero, 0, 0, none, _, _, { wOn.setDom 154 domRun with cfg := { load := some wZero } }, ?_, ?_, ?_, _, rfl, ?_, ?_, rfl, rfl, ?_, ?_, ?_⟩
  <;> first | exact Or.inl rfl | (exact rfl) | decide +kernel

theorem wit_LoadCommandsComplete_7 : ∃ r : BitVec 7, ∃ l : Load, ∃ n0 : Nat, ∃ o : Nat, ∃ s : State, s.loading = some l ∧ l.phase = 4 ∧
    frameAt l.runs l.frame 0 = some (n0, o, none) ∧ itemsNow s (dieOfRegion r.toNat) 8 1 ≠ 0 ∧ r.toNat ∉ l.fence := by
  refine ⟨127, wZero, 0, 0, { wOn.setDom 154 domRun with cfg := { load := some wZero } }, ?_, ?_, ?_, ?_, ?_⟩ <;> decide +kernel

theorem wit_LoadCommandsComplete_8 : ∃ l : Load, ∃ s : State, ∃ r : State × SMap Nat, s.loading = some l ∧ l.phase = 6 ∧ l.checked = false ∧
    r = paced 8 (dieWork 384 l.written) s l.paid ∧ allPaid (dieWork 384 l.written) r.2 = true ∧
    l.written.findSome? (fun n => spanBreach s (s.inactive n) n) = none ∧ recordBreach s l = none := by
  refine ⟨wLoad 1 6 wImage, { wLd (wLoad 1 6 wImage) with fuse := { slots := [(0, wImageKey)] } }, _, ?_, ?_, ?_, rfl, ?_, ?_, ?_⟩ <;> decide +kernel

theorem wit_LoadCommandsComplete_9 : ∃ icls : BitVec 3, ∃ src : BitVec 11, ∃ s : State, slAdmitted s icls.toNat src.toNat = true ∧
    s.cfg.load = none ∧ s.pinControl = false := by
  refine ⟨1, 0, wGrant State.reset, ?_, ?_, ?_⟩ <;> decide +kernel

theorem wit_LoadCommandsComplete_10 : ∃ icls : BitVec 3, ∃ src : BitVec 11, ∃ l : Load, ∃ s : State,
    slAdmitted s icls.toNat src.toNat = true ∧ s.cfg.load = some l ∧ l.source = 2 := by
  refine ⟨1, 0, wLoad 2 2 [], wGrant (wLd (wLoad 2 2 [])), ?_, ?_, ?_⟩ <;> decide +kernel

theorem wit_LoadCommandsComplete_11 : ∃ r : XspiBurst, ∃ s : State, ∃ l, s.loading = some l ∧ l.source = 0 ∧
    xspiPlace s l.bytes.length = (r.port.val, r.addr.toNat) ∧ s.fld uCfg F.cfgXspiCfgRdOpc = r.opc.toNat ∧
    s.fld uCfg F.cfgXspiCfgDummy = r.dummy.toNat ∧ l.bytes.length < 256 := by
  refine ⟨⟨0, 255, 238, 20, []⟩, wLd (wLoad 0 1 (List.replicate 255 0)), wLoad 0 1 (List.replicate 255 0), ?_, ?_, ?_, ?_, ?_, ?_⟩ <;> decide +kernel

theorem wit_LoadCommandsComplete_12 : ∃ r : XspiBurst, ∃ s : State, ∃ l, s.loading = some l ∧ l.source = 0 ∧
    xspiPlace s l.bytes.length = (r.port.val, r.addr.toNat) ∧ s.fld uCfg F.cfgXspiCfgRdOpc = r.opc.toNat ∧
    s.fld uCfg F.cfgXspiCfgDummy = r.dummy.toNat ∧ 256 ≤ l.bytes.length := by
  refine ⟨⟨0, 256, 238, 20, []⟩, wLd (wLoad 0 1 (List.replicate 256 0)), wLoad 0 1 (List.replicate 256 0), ?_, ?_, ?_, ?_, ?_, ?_⟩ <;> decide +kernel

theorem wit_LoadCommandsComplete_13 : ∃ s : State, ∃ l, s.loading = some l ∧ l.source = 0 := by
  refine ⟨wLd (wLoad 0 1 (List.replicate 256 0)), wLoad 0 1 (List.replicate 256 0), ?_, ?_⟩ <;> decide +kernel

theorem wit_LoadCommandsComplete_14 : ∃ s : State, ∃ l, s.loading = some l ∧ l.phase = 5 ∧ ∃ x, l.entries[l.entry]? = some x ∧ ∃ off,
    off = entryOff l.entries l.entry ∧ imgInitOff l.bytes + off + x.len ≤ l.bytes.length ∧ ∃ work,
    work = dieWork (x.len / 256) (if (s.active x.region).isNone then [x.region] else []) ∧ ∃ r, r = paced 8 work s l.paid ∧
    allPaid work r.2 = true := by
  refine ⟨wLd wEntries, wEntries, ?_, ?_, ⟨0, 0, 0, 0⟩, ?_, _, rfl, ?_, _, rfl, _, rfl, ?_⟩ <;> decide +kernel

theorem wit_LoadCommandsComplete_15 : ∃ s : State, ∃ l, s.loading = some l ∧ l.phase = 5 ∧ l.entries[l.entry]? = none ∧
    imgInitOff l.bytes + imgInitLen l.bytes ≤ l.bytes.length ∧ ∃ work,
    work = dieWork 352 (l.regions.filter (fun n => (s.active n).isNone)) ∧ ∃ r, r = paced 8 work s l.paid ∧ allPaid work r.2 = true := by
  refine ⟨wLd (wLoad 1 5 (List.replicate 256 0)), wLoad 1 5 (List.replicate 256 0), ?_, ?_, ?_, ?_, _, rfl, _, rfl, ?_⟩ <;> decide +kernel

theorem wit_LoadCommandsComplete_16 : ∃ l : Load, ∃ s : State, s.loading = some l ∧ l.phase = 6 ∧ l.checked = true ∧
    imgLength l.bytes ≤ l.bytes.length ∧ signatureFail s l.bytes = none := by
  refine ⟨{ wLoad 1 6 wImage with checked := true }, { wLd { wLoad 1 6 wImage with checked := true } with fuse := { slots := [(0, wImageKey)] } }, ?_, ?_, ?_, ?_, ?_⟩ <;> decide +kernel

theorem wit_FlipCommandsComplete_1 : ∃ icls : BitVec 3, ∃ s : State, cfgAccepts s icls.toNat = true ∧
    flipRefused s (flipMaskSet s) = false := by
  refine ⟨4, wVer, ?_, ?_⟩ <;> decide +kernel

theorem wit_FlipCommandsComplete_2 : ∃ icls : BitVec 3, ∃ src : BitVec 11, ∃ s : State, slAdmitted s icls.toNat src.toNat = true ∧
    s.cfg.slSet.any (fun n => !bitOf (s.fld uCfg F.cfgSlGrantRegions (n / 32)) (n % 32)) = false ∧ flipRefused s s.cfg.slSet = false := by
  refine ⟨1, 0, wGrant ({ wVer with cfg := { slSet := [0] } }.setFld uCfg F.cfgSlGrantRegions 1 0), ?_, ?_, ?_⟩ <;> decide +kernel

theorem wit_FlipCommandsComplete_3 : ∃ v : Nat, ∃ r : List Nat, ∃ s : State, cfgAccepts s 4 = true ∧
    (List.range 128).filterMap (fun n => (s.active n).map (fun p => s.planeSvn n p)) = v :: r ∧ ((∀ w ∈ r, w = v)) := by
  refine ⟨0, [], wOn, ?_, ?_, ?_⟩ <;> decide +kernel

theorem wit_FlipCommandsComplete_4 : ∃ i : Nat, ∃ s : State, ∃ f, s.cfg.flips[i]? = some f ∧ f.phase = 0 ∧
    f.regions.any (fun n => !s.regionRuns n) = true := by
  refine ⟨0, wFlips (wOn.setDom 0 domGated) { regions := [0] }, { regions := [0] }, ?_, ?_, ?_⟩ <;> decide +kernel

theorem wit_FlipCommandsComplete_5 : ∃ i : Nat, ∃ s : State, ∃ f, s.cfg.flips[i]? = some f ∧ f.phase = 0 ∧
    f.regions.any (fun n => !s.regionRuns n) = false ∧ s.bm.clearing = false ∧ s.span.calibrated = true := by
  refine ⟨0, wFlips wOn { regions := [0] }, { regions := [0] }, ?_, ?_, ?_, ?_, ?_⟩ <;> decide +kernel

theorem wit_FlipCommandsComplete_6 : ∃ i : Nat, ∃ e : MemEnv, ∃ s : State, ∃ f, s.cfg.flips[i]? = some f ∧ f.phase = 1 ∧ f.fault = false ∧
    ∃ t, initRegions s e (f.regions.filter (fun n => !f.blank.contains n)) = some (t, none) := by
  refine ⟨0, {}, wFlips wOn { regions := [], phase := 1 }, { regions := [], phase := 1 }, ?_, ?_, ?_, wFlips wOn { regions := [], phase := 1 }, ?_⟩ <;> decide +kernel

theorem wit_FlipCommandsComplete_7 : ∃ i : Nat, ∃ e : MemEnv, ∃ s : State, ∃ f, s.cfg.flips[i]? = some f ∧ f.phase = 1 ∧ f.fault = false ∧
    ∃ t, ∃ n, initRegions s e (f.regions.filter (fun n => !f.blank.contains n)) = some (t, some n) := by
  refine ⟨0, {}, wBank, { regions := [0], phase := 1 }, ?_, ?_, ?_, ((initRegions wBank {} [0]).getD (wBank, none)).1, 0, ?_⟩ <;> decide +kernel

theorem wit_FlipCommandsComplete_8 : ∃ i : Nat, ∃ s : State, ∃ f, s.cfg.flips[i]? = some f ∧ f.phase = 2 ∧ f.fault = false := by
  refine ⟨0, wFlips wOn { regions := [0], phase := 2 }, { regions := [0], phase := 2 }, ?_, ?_, ?_⟩ <;> decide +kernel

theorem wit_FlipCommandsComplete_9 : ∃ i : Nat, ∃ s : State, ∃ f, s.cfg.flips[i]? = some f ∧ f.phase = 3 := by
  refine ⟨0, wFlips wOn { regions := [0], phase := 3 }, { regions := [0], phase := 3 }, ?_, ?_⟩ <;> decide +kernel

theorem wit_FlipCommandsComplete_10 : ∃ i : Nat, ∃ s : State, ∃ f, s.cfg.flips[i]? = some f ∧ f.phase = 4 := by
  refine ⟨0, wFlips wOn { regions := [0], phase := 4 }, { regions := [0], phase := 4 }, ?_, ?_⟩ <;> decide +kernel

/-! Chunk 09: scb. -/

def wScb : State := ((wOn.setFld uScb F.scbCtrlEn 1).setFld uScb F.scbRegionEnRegions 1 0).setDom 154 domRun
def wHand (h : Search) : State := { wScb with scb := { eng := [(0, { hand := some h })] } }
def wSearch (src : Nat) (c : Option Frame) : Search := ⟨0, 0, 0, 0, src, c, false, false, false⟩
def wRun (r : DigestRun) : State := { (wOn.setFld uCns F.cnsScopeRegions (2 ^ 32 - 1) 0).setDom 154 domRun with cns := { run := some r } }
def wDone : DigestRun := { pos := (List.range 8).map (fun d => (d, 16 * 22528)) }
def wCmsg (ty : Nat) : Packet := { wTo opCmsg 5 504 0 1 with ext := BitVec.ofNat 64 (ty * 2 ^ 60 + 7 * 2 ^ 32) }
def wCns (ty root : Nat) : State := ((((wSent (State.reset.setDom 154 domRun) (wCmsg ty)).setFld uCns F.cnsCtrlEn 1).setFld uCns F.cnsSysidSysid 1).setFld uCns F.cnsCtrlRoot root).setFld uCns F.cnsRoundRound (if ty = 1 then 0 else 7)
def wRound (ty root : Nat) : State := { wCns ty root with cns := { round := some { ref := 0 } } }
def wScope : DigestRun := { scope := [1] }
def wCns3S : State := { wCns 1 1 with cns := { run := some wDone, starting := true } }
theorem wFldNe (s : State) {u : Nat} {f g : Fld} (v i j a b : Nat) (h : csrHome u (g.at a b) ≠ csrHome u (f.at i j)) :
    (s.setFld u f v i j).fld u g a b = s.fld u g a b := by
  unfold State.fld State.setFld
  rw [State.reg_setReg_ne _ _ h]
theorem wDigestNe (g : Fld) (v : Nat) : ∀ (l : List Nat) (s : State), (∀ k ∈ l,
    csrHome uCns (g.at 0 0) ≠ csrHome uCns (F.cnsDigestDigest.at k 0)) →
    (l.foldl (fun (t : State) k => t.setFld uCns F.cnsDigestDigest (v / 2 ^ (32 * k)) k) s).fld uCns g = s.fld uCns g := by
  intro l
  induction l with
  | nil => intro s _; rfl
  | cons k l ih => exact fun s h => (ih _ (fun q hq => h q (List.mem_cons_of_mem _ hq))).trans (wFldNe s _ _ _ _ _ (h k List.mem_cons_self))
theorem wShown (g : Fld) (s : State) (v a b ph : Nat) (c : CnsState) (h : ∀ k ∈ List.range 12,
    csrHome uCns (g.at 0 0) ≠ csrHome uCns (F.cnsDigestDigest.at k 0))
    (h1 : csrHome uCns (g.at 0 0) ≠ csrHome uCns (F.cnsStatusInvalid.at 0 0)) :
    (State.setFld { (((List.range 12).foldl (fun (t : State) k => t.setFld uCns F.cnsDigestDigest (v / 2 ^ (32 * k)) k) s).setFld uCns F.cnsStatusInvalid a).setFld
      uCns F.cnsStatusCurrent b with cns := c } uCns F.cnsStatusPhase ph).fld uCns g = s.fld uCns g := by
  have e : ∀ x : State, ({ x with cns := c } : State).fld uCns g = x.fld uCns g := fun _ => rfl
  rw [wFldNe (f := F.cnsStatusPhase) _ _ _ _ _ _ h1, e, wFldNe (f := F.cnsStatusCurrent) _ _ _ _ _ _ h1, wFldNe _ _ _ _ _ _ h1, wDigestNe g v _ s h]
theorem wCns3 (s : State) (v a b ph : Nat) (c : CnsState) (t : State)
    (ht : t = State.setFld { (((List.range 12).foldl (fun (t : State) k => t.setFld uCns F.cnsDigestDigest (v / 2 ^ (32 * k)) k) s).setFld uCns F.cnsStatusInvalid a).setFld
      uCns F.cnsStatusCurrent b with cns := c } uCns F.cnsStatusPhase ph) : takesPart t = takesPart s ∧ t.flag uCns F.cnsCtrlRoot = s.flag uCns F.cnsCtrlRoot := by
  subst ht
  unfold takesPart State.flag
  rw [wShown F.cnsCtrlEn s v a b ph c (by decide) (by decide), wShown F.cnsSysidSysid s v a b ph c (by decide) (by decide),
    wShown F.cnsCtrlRoot s v a b ph c (by decide) (by decide)]
  exact ⟨rfl, rfl⟩

theorem wit_ScrubCommandsComplete_1 : ∃ d : Fin 8, ∃ s : State, (s.scrub d).hand = none ∧ s.clocked 154 = true ∧
    nextVisit s d = .lapEnd := by
  refine ⟨0, wScb.setScrub 0 { pos := 16 * 22528 }, ?_, ?_, ?_⟩ <;> decide +kernel

theorem wit_ScrubCommandsComplete_2 : ∃ d : Fin 8, ∃ upset : Frame, ∃ misread : Frame, ∃ tableUpset : Word32, ∃ e : MemEnv, ∃ n : Nat,
    ∃ o : Nat, ∃ p : Nat, ∃ ch : Nat, ∃ s : State, (s.scrub d).hand = none ∧ s.clocked 154 = true ∧ ((∃ pos, nextVisit s d = .lap pos ∧
    n = d.val * 16 + pos / 22528 ∧ o = pos % 22528 ∧ ch = 2) ∨ (nextVisit s d = .first n o ∧ ch = 2) ∨ (∃ k, nextVisit s d = .census k ∧
    n = k / 22528 ∧ o = k % 22528 ∧ ch = 1)) ∧ s.active n = some p ∧ busServes s ch d = true ∧ ∃ t : State, ∃ f : Frame,
    readFrame (s.charge ch d 8) n p o upset misread tableUpset e = some (t, f, true) := by
  refine ⟨0, 0, 0, 0, {}, 0, 0, 0, 2, wScb, ?_, ?_, ?_, ?_, ?_, wScb.charge 2 0 8, 0, ?_⟩
  <;> first | exact Or.inl ⟨0, by decide +kernel⟩ | decide +kernel

theorem wit_ScrubCommandsComplete_3 : ∃ d : Fin 8, ∃ upset : Frame, ∃ misread : Frame, ∃ tableUpset : Word32, ∃ e : MemEnv, ∃ n : Nat,
    ∃ o : Nat, ∃ p : Nat, ∃ ch : Nat, ∃ s : State, (s.scrub d).hand = none ∧ s.clocked 154 = true ∧ ((∃ pos, nextVisit s d = .lap pos ∧
    n = d.val * 16 + pos / 22528 ∧ o = pos % 22528 ∧ ch = 2) ∨ (nextVisit s d = .first n o ∧ ch = 2) ∨ (∃ k, nextVisit s d = .census k ∧
    n = k / 22528 ∧ o = k % 22528 ∧ ch = 1)) ∧ s.active n = some p ∧ busServes s ch d = true ∧ ∃ t : State, ∃ f : Frame,
    readFrame (s.charge ch d 8) n p o upset misread tableUpset e = some (t, f, false) := by
  refine ⟨0, 0, 1, 0, {}, 0, 0, 0, 2, wScb, ?_, ?_, ?_, ?_, ?_, wScb.charge 2 0 8, 1, ?_⟩
  <;> first | exact Or.inl ⟨0, by decide +kernel⟩ | decide +kernel

theorem wit_ScrubCommandsComplete_4 : ∃ d : Fin 8, ∃ h : Search, ∃ c : Frame, ∃ ch : Nat, ∃ s : State, s.searching d = some h ∧
    h.cand = some c ∧ ch = (if h.census then 1 else 2) ∧ h.flipped = false ∧ s.active h.region = some h.plane ∧ busServes s ch d = true ∧
    c = s.frame h.plane h.region h.ordinal := by
  refine ⟨0, wSearch 0 (some 0), 0, _, wHand (wSearch 0 (some 0)), ?_, ?_, rfl, ?_, ?_, ?_, ?_⟩ <;> decide +kernel

theorem wit_ScrubCommandsComplete_5 : ∃ d : Fin 8, ∃ h : Search, ∃ c : Frame, ∃ ch : Nat, ∃ s : State, s.searching d = some h ∧
    h.cand = some c ∧ ch = (if h.census then 1 else 2) ∧ h.flipped = false ∧ s.active h.region = some h.plane ∧ busServes s ch d = true ∧
    c ≠ s.frame h.plane h.region h.ordinal := by
  refine ⟨0, wSearch 0 (some 1), 1, _, wHand (wSearch 0 (some 1)), ?_, ?_, rfl, ?_, ?_, ?_, ?_⟩ <;> decide +kernel

theorem wit_ScrubCommandsComplete_6 : ∃ d : Fin 8, ∃ h : Search, ∃ c : Frame, ∃ ch : Nat, ∃ s : State, s.searching d = some h ∧
    h.cand = some c ∧ ch = (if h.census then 1 else 2) ∧ h.flipped = false ∧ s.active h.region = some h.plane ∧ busServes s ch d = true ∧
    c ≠ s.frame h.plane h.region h.ordinal := by
  refine ⟨0, wSearch 0 (some 1), 1, _, wHand (wSearch 0 (some 1)), ?_, ?_, rfl, ?_, ?_, ?_, ?_⟩ <;> decide +kernel

theorem wit_ScrubCommandsComplete_7 : ∃ d : Fin 8, ∃ s : State, ∃ h, s.searching d = some h ∧ h.cand = none ∧ h.source = 0 := by
  refine ⟨0, wHand (wSearch 0 none), wSearch 0 none, ?_, ?_, ?_⟩ <;> decide +kernel

theorem wit_ScrubCommandsComplete_8 : ∃ d : Fin 8, ∃ e : MemEnv, ∃ s : State, ∃ h, s.searching d = some h ∧ h.cand = none ∧ h.source ≠ 0 ∧
    h.source ≤ 4 ∧ ∃ i, i = h.source - 1 ∧ s.fld uScb F.scbRepairSizeUnits i ≠ 0 ∧ ∃ t, ∃ f, slotFrame s i h.region h.ordinal e = some (t,
    f) := by
  refine ⟨0, {}, (wHand (wSearch 4 none)).setFld uScb F.scbRepairSizeUnits 1 3, wSearch 4 none, ?_, ?_, ?_, ?_, _, rfl, ?_, ((slotFrame ((wHand (wSearch 4 none)).setFld uScb F.scbRepairSizeUnits 1 3) 3 0 0 {}).getD (wScb, none)).1, none, ?_⟩ <;> decide +kernel

theorem wit_ScrubCommandsComplete_9 : ∃ d : Fin 8, ∃ s : State, ∃ h, s.searching d = some h ∧ h.cand = none ∧ h.source ≠ 0 ∧
    4 < h.source := by
  refine ⟨0, wHand (wSearch 5 none), wSearch 5 none, ?_, ?_, ?_, ?_⟩ <;> decide +kernel

theorem wit_ScrubCommandsComplete_10 : ∃ s : State, s.clocked 154 = true := by
  refine ⟨(State.reset.setDom 154 domRun), ?_⟩
  decide +kernel

theorem wit_CensusCommandsComplete_1 : ∃ d : Fin 8, ∃ r : DigestRun, ∃ pos : Nat, ∃ n : Nat, ∃ o : Nat, ∃ p : Nat, ∃ s : State,
    s.computing = some r ∧ pos = SMap.get 0 r.pos d ∧ pos < 16 * 22528 ∧ n = d.val * 16 + pos / 22528 ∧ o = pos % 22528 ∧
    (n * 22528 + o) ∉ s.scb.handed ∧ scopeHas r.scope n = true ∧ s.active n = some p ∧ dynamicFrame n o = true := by
  refine ⟨0, { scope := [16], pos := [(0, 4 * 22528 + ordRegion 100)] }, 4 * 22528 + ordRegion 100, 4, ordRegion 100, 0, (wRun { scope := [16], pos := [(0, 4 * 22528 + ordRegion 100)] }).setFld uCfg F.cfgRegionAct 0 4, ?_, rfl, ?_, rfl, rfl, ?_, ?_, ?_, ?_⟩ <;> decide +kernel

theorem wit_CensusCommandsComplete_2 : ∃ d : Fin 8, ∃ upset : Frame, ∃ misread : Frame, ∃ tableUpset : Word32, ∃ e : MemEnv,
    ∃ r : DigestRun, ∃ pos : Nat, ∃ n : Nat, ∃ o : Nat, ∃ p : Nat, ∃ s : State, s.computing = some r ∧ pos = SMap.get 0 r.pos d ∧
    pos < 16 * 22528 ∧ n = d.val * 16 + pos / 22528 ∧ o = pos % 22528 ∧ (n * 22528 + o) ∉ s.scb.handed ∧ scopeHas r.scope n = true ∧
    s.active n = some p ∧ dynamicFrame n o = false ∧ 3 ≤ s.stage n ∧ busServes s 1 d = true ∧ ∃ t : State, ∃ f : Frame,
    readFrame (s.charge 1 d 8) n p o upset misread tableUpset e = some (t, f, true) := by
  refine ⟨0, 0, 0, 0, {}, wScope, _, _, _, 0, wRun wScope, ?_, rfl, ?_, rfl, rfl, ?_, ?_, ?_, ?_, ?_, ?_, (wRun wScope).charge 1 0 8, 0, ?_⟩ <;> decide +kernel

theorem wit_CensusCommandsComplete_3 : ∃ d : Fin 8, ∃ upset : Frame, ∃ misread : Frame, ∃ tableUpset : Word32, ∃ e : MemEnv,
    ∃ r : DigestRun, ∃ pos : Nat, ∃ n : Nat, ∃ o : Nat, ∃ p : Nat, ∃ s : State, s.computing = some r ∧ pos = SMap.get 0 r.pos d ∧
    pos < 16 * 22528 ∧ n = d.val * 16 + pos / 22528 ∧ o = pos % 22528 ∧ (n * 22528 + o) ∉ s.scb.handed ∧ scopeHas r.scope n = true ∧
    s.active n = some p ∧ dynamicFrame n o = false ∧ 3 ≤ s.stage n ∧ busServes s 1 d = true ∧ ∃ t : State, ∃ f : Frame,
    readFrame (s.charge 1 d 8) n p o upset misread tableUpset e = some (t, f, false) ∧ (n * 22528 + o) ∉ s.cns.unrepaired := by
  refine ⟨0, 0, 1, 0, {}, wScope, _, _, _, 0, wRun wScope, ?_, rfl, ?_, rfl, rfl, ?_, ?_, ?_, ?_, ?_, ?_, (wRun wScope).charge 1 0 8, 1, ?_, ?_⟩ <;> decide +kernel

theorem wit_CensusCommandsComplete_6 : ∃ s : State, s.fld uCns F.cnsCtrlPeriod ≠ 0 ∧ s.clocked 154 = true := by
  refine ⟨((State.reset.setFld uCns F.cnsCtrlPeriod 1).setDom 154 domRun), ?_, ?_⟩ <;> decide +kernel

theorem wit_CensusCommandsComplete_7 : ∃ s : State, ∃ r, s.computing = some r ∧
    (List.range 8).all (fun d => decide (16 * 22528 ≤ SMap.get 0 r.pos d)) = true ∧ ∃ v, v = leBytes (deviceDigest s r) ∧ ∃ s1,
    s1 = (List.range 12).foldl (fun (t : State) k => t.setFld uCns F.cnsDigestDigest (v / 2 ^ (32 * k)) k) s ∧ ∃ s2,
    s2 = (s1.setFld uCns F.cnsStatusInvalid (boolNat (!r.bad.isEmpty))).setFld uCns F.cnsStatusCurrent (boolNat r.bad.isEmpty) ∧ ∃ s3,
    s3 = showCns { s2 with cns := { s2.cns with run := none } } ∧ s3.cns.starting = true ∧ takesPart s3 = true ∧
    s3.flag uCns F.cnsCtrlRoot = true := by
  refine ⟨wCns3S, wDone, ?_, ?_, _, rfl, _, rfl, _, rfl, _, rfl, ?_, ?_, ?_⟩
  exacts [rfl, by decide +kernel, rfl, by unfold showCns; exact (wCns3 wCns3S _ _ _ _ _ _ rfl).1.trans (by decide +kernel), by unfold showCns; exact (wCns3 wCns3S _ _ _ _ _ _ rfl).2.trans (by decide +kernel)]

theorem wit_CensusCommandsComplete_8 : ∃ s : State, ∃ r, s.computing = some r ∧
    (List.range 8).all (fun d => decide (16 * 22528 ≤ SMap.get 0 r.pos d)) = true ∧ ∃ v, v = leBytes (deviceDigest s r) ∧ ∃ s1,
    s1 = (List.range 12).foldl (fun (t : State) k => t.setFld uCns F.cnsDigestDigest (v / 2 ^ (32 * k)) k) s ∧ ∃ s2,
    s2 = (s1.setFld uCns F.cnsStatusInvalid (boolNat (!r.bad.isEmpty))).setFld uCns F.cnsStatusCurrent (boolNat r.bad.isEmpty) ∧ ∃ s3,
    s3 = showCns { s2 with cns := { s2.cns with run := none } } ∧
    ((s3.cns.starting = false ∨ takesPart s3 = false ∨ s3.flag uCns F.cnsCtrlRoot = false)) := by
  refine ⟨wRun wDone, wDone, ?_, ?_, _, rfl, _, rfl, _, rfl, _, rfl, ?_⟩
  exacts [rfl, by decide +kernel, Or.inl rfl]

theorem wit_CensusCommandsComplete_9 : ∃ p : Packet, ∃ s : State, forCensus s p = true ∧ ctype p ≠ 2 ∧ ctype p ≠ 3 ∧ ctype p = 1 ∧
    takesPart s = true ∧ s.flag uCns F.cnsCtrlRoot = false ∧ cmsgRound p ≠ s.fld uCns F.cnsRoundRound := by
  refine ⟨wCmsg 1, wCns 1 0, ?_, ?_, ?_, ?_, ?_, ?_, ?_⟩ <;> decide +kernel

theorem wit_CensusCommandsComplete_10 : ∃ p : Packet, ∃ s : State, forCensus s p = true ∧ ctype p = 2 ∧ ∃ r, s.cns.round = some r ∧
    takesPart s = true ∧ cmsgRound p = s.fld uCns F.cnsRoundRound ∧ (cmsgPort p) ∉ r.got ∧ r.done = false := by
  refine ⟨wCmsg 2, wRound 2 0, ?_, ?_, { ref := 0 }, ?_, ?_, ?_, ?_, ?_⟩ <;> decide +kernel

theorem wit_CensusCommandsComplete_11 : ∃ p : Packet, ∃ s : State, forCensus s p = true ∧ ctype p = 3 ∧ takesPart s = true ∧
    cmsgRound p = s.fld uCns F.cnsRoundRound ∧ ∃ r, s.cns.round = some r ∧ s.flag uCns F.cnsCtrlRoot = true := by
  refine ⟨wCmsg 3, wRound 3 1, ?_, ?_, ?_, ?_, _, rfl, ?_⟩ <;> decide +kernel

theorem wit_CensusCommandsComplete_12 : ∃ p : Packet, ∃ s : State, forCensus s p = true ∧ ctype p = 3 ∧ takesPart s = true ∧
    s.cns.round ≠ none ∧ cmsgRound p = s.fld uCns F.cnsRoundRound ∧ s.flag uCns F.cnsCtrlRoot = false := by
  refine ⟨wCmsg 3, wRound 3 0, ?_, ?_, ?_, ?_, ?_, ?_⟩ <;> decide +kernel

theorem wit_CensusCommandsComplete_13 : ∃ s : State, ∃ r, s.cns.round = some r ∧ r.done = false ∧ takesPart s = true ∧
    s.clocked 154 = true ∧ ∃ s1, s1 = (if r.compared then s else dissent s r) ∧ ∃ r1, s1.cns.round = some r1 := by
  refine ⟨{ wCns 1 1 with cns := { round := some { ref := 0, compared := true } } }, { ref := 0, compared := true }, ?_, ?_, ?_, ?_, _, rfl, { ref := 0, compared := true }, ?_⟩ <;> decide +kernel

/-! Chunk 10: pci. -/

def wPci (x : PciCtl) : State := (((({ State.reset with ddr := { installed := 2 ^ 36 } } : State).setPci 0 x).setFld (uPci 0) F.pciCtrlEn 1).setFld (uPci 0) F.pciStatusUpA 1).setDom 148 domRun
def wPciReq (b : PciBar) : PciReq := ⟨false, b, false, 0, 0, true, false, 0, [], 0⟩
def wDma (x : PciCtl) : State := (((wPci x).setFld (uPci 0) F.pciDmaCtrlEn 1 0).setFld (uPci 0) F.pciDmaPiPi 9 0).setFld (uPci 0) F.pciDmaCtrlRingHost 1 0
def wEnded : DmaDesc := { src := 0, dst := 0, len := 64, flags := 1, moved := 64, tag := none, chunk := 0, status := 1 }
def wOb : PciOb := { req := none, chan := 0, bytes := 4, data := [] }
def wOut (op : Nat) : Packet := wTo op 0 (codeOf (pcieNode 0) 2) 0x0F0000000000 1
def wOutS (op : Nat) : State := wSent ((wPci {}).setFld (uPci 0) F.pciObType 1 0) (wOut op)
def wPm (sw : Nat) (mode : Nat) : State := ((((State.reset.setDom 158 domRun).setFld uPin F.pinPmCtrlEn 1 0 0).setFld uPin F.pinPmCtrlSwen sw 0 0).setFld uPin F.pinPmCtrlMode mode 0 0)

theorem wit_PcieCommandsComplete_1 : ∃ c : Fin 2, ∃ s : State, ∃ u, u = uPci c ∧ s.flag u F.pciCtrlEn = false := by
  refine ⟨0, State.reset.setFld (uPci 0) F.pciCtrlEn 0, _, rfl, ?_⟩
  decide +kernel

theorem wit_PcieCommandsComplete_2 : ∃ c : Fin 2, ∃ r : PciReq, ∃ s : State, s.flag (uPci c) F.pciCtrlEn = true ∧ portUp s c r.port = true ∧
    (if r.port then (s.pciCtl c).modeB else (s.pciCtl c).modeA) = 0 ∧ r.bar = .bar2 ∧ r.vf = false ∧ r.func = 0 := by
  refine ⟨0, wPciReq .bar2, wPci {}, ?_, ?_, ?_, ?_, ?_, ?_⟩ <;> decide +kernel

theorem wit_PcieCommandsComplete_3 : ∃ c : Fin 2, ∃ port : Bool, ∃ speed : BitVec 3, ∃ width : BitVec 5, ∃ s : State,
    s.flag (uPci c) F.pciCtrlEn = true ∧ s.clocked (148 + c) = true ∧ ((port = false ∨ (s.pciCtl c).bifur = true)) ∧ 1 ≤ speed.toNat ∧
    speed.toNat ≤ 5 ∧ width.toNat ∈ [1, 2, 4, 8, 16] ∧ (((s.pciCtl c).bifur = false ∨ width.toNat ≤ 8)) := by
  refine ⟨0, true, 5, 8, wPci { bifur := true }, ?_, ?_, ?_, ?_, ?_, ?_⟩ <;> decide +kernel

theorem wit_PcieCommandsComplete_4 : ∃ c : Fin 2, ∃ port : Bool, ∃ s : State, s.flag (uPci c) F.pciCtrlEn = true ∧
    portUp s c port = true := by
  refine ⟨0, false, wPci {}, ?_, ?_⟩ <;> decide +kernel

theorem wit_PcieCommandsComplete_5 : ∃ c : Fin 2, ∃ r : PciReq, ∃ s : State, ∃ x, x = s.pciCtl c ∧ s.flag (uPci c) F.pciCtrlEn = true ∧
    portUp s c r.port = true ∧ (if r.port then x.modeB else x.modeA) = 0 ∧ hasFunc s c r.vf r.func.toNat = true ∧ r.bar = .bar0 ∧
    inBar0 s c r = true := by
  refine ⟨0, wPciReq .bar0, wPci {}, _, rfl, ?_, ?_, ?_, ?_, ?_, ?_⟩ <;> decide +kernel

theorem wit_PcieCommandsComplete_6 : ∃ c : Fin 2, ∃ i : Nat, ∃ s : State, s.clocked (148 + c) = true ∧ ∃ o, (s.pciCtl c).ob[i]? = some o ∧
    o.stat = none := by
  refine ⟨0, 0, wPci { ob := [wOb] }, ?_, wOb, ?_, ?_⟩ <;> decide +kernel

theorem wit_PcieCommandsComplete_7 : ∃ c : Fin 2, ∃ k : BitVec 8, ∃ s : State, s.clocked (148 + c) = true ∧ ∃ vf : Bool, ∃ f : BitVec 9,
    boolNat vf = dmaFld s c k.toNat F.pciDmaCtrlVf ∧ f.toNat = dmaFld s c k.toNat F.pciDmaCtrlFunc := by
  refine ⟨0, 0, (State.reset.setDom (148 + 0) domRun), ?_, false, 0, ?_, ?_⟩ <;> decide +kernel

theorem wit_PcieCommandsComplete_8 : ∃ c : Fin 2, ∃ k : BitVec 8, ∃ s : State, s.clocked (148 + c) = true ∧ ∃ vf : Bool, ∃ f : BitVec 9,
    ((boolNat vf ≠ dmaFld s c k.toNat F.pciDmaCtrlVf ∨ f.toNat ≠ dmaFld s c k.toNat F.pciDmaCtrlFunc)) := by
  refine ⟨0, 0, (State.reset.setDom (148 + 0) domRun), ?_, false, 1, ?_⟩ <;> decide +kernel

theorem wit_PcieCommandsComplete_9 : ∃ c : Fin 2, ∃ s : State, s.clocked (148 + c) = true := by
  refine ⟨0, (State.reset.setDom (148 + 0) domRun), ?_⟩
  decide +kernel

theorem wit_PcieCommandsComplete_10 : ∃ c : Fin 2, ∃ k : BitVec 8, ∃ s : State, s.clocked (148 + c) = true ∧ ∃ ch, ch = k.toNat ∧ ∃ l,
    l = s.flight c ch ∧ dmaFld s c ch F.pciDmaCtrlEn ≠ 0 ∧ dmaFld s c ch F.pciDmaStatHalted ≠ 1 ∧ l.length < 4 ∧
    (dmaFld s c ch F.pciDmaCiCi + l.length) % 65536 ≠ dmaFld s c ch F.pciDmaPiPi ∧ l.any (fun x => decide (1 < x.status)) = false ∧
    dmaFld s c ch F.pciDmaCtrlRingHost = 1 := by
  refine ⟨0, 0, wDma {}, ?_, _, rfl, _, rfl, ?_, ?_, ?_, ?_, ?_, ?_⟩ <;> decide +kernel

theorem wit_PcieCommandsComplete_11 : ∃ c : Fin 2, ∃ k : BitVec 8, ∃ s : State, s.clocked (148 + c) = true ∧ ∃ ch, ch = k.toNat ∧ ∃ l,
    l = s.flight c ch ∧ dmaFld s c ch F.pciDmaCtrlEn ≠ 0 ∧ dmaFld s c ch F.pciDmaStatHalted ≠ 1 ∧ l.length < 4 ∧
    (dmaFld s c ch F.pciDmaCiCi + l.length) % 65536 ≠ dmaFld s c ch F.pciDmaPiPi ∧ l.any (fun x => decide (1 < x.status)) = false ∧
    dmaFld s c ch F.pciDmaCtrlRingHost = 0 := by
  refine ⟨0, 0, (wDma {}).setFld (uPci 0) F.pciDmaCtrlRingHost 0 0, ?_, _, rfl, _, rfl, ?_, ?_, ?_, ?_, ?_, ?_⟩ <;> decide +kernel

theorem wit_PcieCommandsComplete_13 : ∃ c : Fin 2, ∃ s : State, s.flag (uPci c) F.pciCtrlEn = true ∧ portUp s c false = true ∧
    (s.pciCtl c).modeA = 0 := by
  refine ⟨0, wPci {}, ?_, ?_, ?_⟩ <;> decide +kernel

theorem wit_PcieCommandsComplete_14 : ∃ p : Packet, ∃ c : Nat, ∃ off : Nat, ∃ r : Nat, ∃ port : Bool, ∃ s : State, pciOf p = some c ∧
    s.arrived p = true ∧ mapAddr p.a48 = .pcie c off ∧ r = off / 2 ^ 36 ∧ s.fld (uPci c) F.pciObType r = 1 ∧
    port = s.flag (uPci c) F.pciObPort r ∧ portUp s c port = true ∧ p.op = opWrite := by
  refine ⟨wOut opWrite, 0, 0, _, _, wOutS opWrite, ?_, ?_, ?_, rfl, ?_, rfl, ?_, ?_⟩ <;> decide +kernel

theorem wit_PcieCommandsComplete_15 : ∃ p : Packet, ∃ c : Nat, ∃ off : Nat, ∃ r : Nat, ∃ fn : Nat, ∃ port : Bool, ∃ s : State,
    pciOf p = some c ∧ s.arrived p = true ∧ mapAddr p.a48 = .pcie c off ∧ r = off / 2 ^ 36 ∧ s.fld (uPci c) F.pciObType r = 1 ∧
    port = s.flag (uPci c) F.pciObPort r ∧ portUp s c port = true ∧ p.op = opRead ∧ fn = s.fld (uPci c) F.pciObFunc r ∧ ∃ l,
    l = hostReads c fn p.rangeLen ∧ (s.pciCtl c).ob.length + l.length ≤ 768 := by
  refine ⟨wOut opRead, 0, 0, _, _, _, wOutS opRead, ?_, ?_, ?_, rfl, ?_, rfl, ?_, ?_, rfl, _, rfl, ?_⟩ <;> decide +kernel

theorem wit_PcieCommandsComplete_16 : ∃ c : Fin 2, ∃ i : Nat, ∃ x : PciCtl, ∃ o : PciOb, ∃ s : State, s.clocked (148 + c) = true ∧
    x = s.pciCtl c ∧ x.ob[i]? = some o ∧ o.stat = none := by
  refine ⟨0, 0, { ob := [wOb] }, wOb, wPci { ob := [wOb] }, ?_, ?_, ?_, ?_⟩ <;> decide +kernel

theorem wit_PcieCommandsComplete_17 : ∃ c : Fin 2, ∃ i : Nat, ∃ w : CplOutcome, ∃ o : PciOb, ∃ s : State, s.clocked (148 + c) = true ∧
    (s.pciCtl c).ob[i]? = some o ∧ o.stat = none ∧ w ≠ .success := by
  refine ⟨0, 0, .abort, wOb, wPci { ob := [wOb] }, ?_, ?_, ?_, ?_⟩ <;> decide +kernel

theorem wit_PcieCommandsComplete_18 : ∃ c : Fin 2, ∃ k : BitVec 8, ∃ s : State, dmaFld s c k.toNat F.pciDmaCtrlEn ≠ 1 := by
  refine ⟨0, 0, State.reset, ?_⟩
  decide +kernel

theorem wit_PcieCommandsComplete_19 : ∃ c : Fin 2, ∃ k : BitVec 8, ∃ d : DmaDesc, ∃ rest : List DmaDesc, ∃ ch : Nat, ∃ s : State,
    s.clocked (148 + c) = true ∧ ch = k.toNat ∧ s.flight c ch = d :: rest ∧ d.status ≠ 0 := by
  refine ⟨0, 0, wEnded, [], _, wDma { dma := [(0, [wEnded])] }, ?_, rfl, ?_, ?_⟩ <;> decide +kernel

theorem wit_PcieCommandsComplete_20 : ∃ c : Fin 2, ∃ r : PciReq, ∃ s : State, s.flag (uPci c) F.pciCtrlEn = true ∧
    portUp s c r.port = true ∧ (if r.port then (s.pciCtl c).modeB else (s.pciCtl c).modeA) = 0 ∧ hasFunc s c r.vf r.func.toNat = true ∧
    r.bar = .bar4 := by
  refine ⟨0, ⟨false, .bar4, true, 255, 0, true, false, 0, [], 0⟩, wPci { totalVf := [(0, 256)] }, ?_, ?_, ?_, ?_, ?_⟩ <;> decide +kernel

theorem wit_PinCommandsComplete_1 : ∃ i : Fin 192, ∃ pads : BitVec 192, ∃ h : Nat, ∃ s : State, ∃ s1 : State, s.bankAsleep i = false ∧
    s1 = setPinPads s pads ∧ SMap.find s1.pin.hold i = some h := by
  refine ⟨191, 0, 3, { State.reset with pin := { hold := [(191, 3)] }, mode := { State.reset.mode with dormant := false } }, _, ?_, rfl, ?_⟩ <;> decide +kernel

theorem wit_PinCommandsComplete_2 : ∃ i : Fin 192, ∃ pads : BitVec 192, ∃ f : Nat, ∃ s : State, ∃ s1 : State, s.bankAsleep i = false ∧
    s1 = setPinPads s pads ∧ SMap.find s1.pin.func i = some f ∧ SMap.find s1.pin.hold i = none := by
  refine ⟨159, 0, 3, { State.reset.setDom 158 domRun with pin := { func := [(159, 3)] } }, _, ?_, rfl, ?_, ?_⟩ <;> decide +kernel

theorem wit_PinCommandsComplete_4 : ∃ b : Fin 5, ∃ k : Fin 8, ∃ pads : Word32, ∃ s : State, s.dom 158 = domRun ∧
    s.flag uPin F.pinPmCtrlEn b k = true ∧ ∃ kept, kept = s.pin.pads.filter (fun i => i / 32 ≠ b.val) ∧ ∃ s1 : State,
    (s1 = { s with pin := { s.pin with pads := ((List.range 32).filter (fun t => pads.getLsbD t)).foldl (fun l t => NSet.add l (b * 32 + t)) kept, tick := false } }) ∧ ∃ was, was = s1.pin.cond.contains (b * 8 + k) ∧ ∃ now, now = pmCondition s1 b k ∧ now ≠ was ∧ ∃ s2, s2 = pmStart s1 b k ∧ ∃ mode, mode = s2.fld uPin F.pinPmCtrlMode b k ∧ (mode = 2 ∨ (mode = 1 ∧ now = false) ∨ (mode ≠ 1 ∧ now = true)) ∧ ∃ s3, s3 = s2.setFld uPin F.pinPmStatFired (withBit (s2.fld uPin F.pinPmStatFired b) k true) b ∧ s3.flag uPin F.pinPmCtrlSwen b k = true := by
  refine ⟨0, 0, 0, wPm 1 0, ?_, ?_, _, rfl, _, rfl, _, rfl, _, rfl, ?_, _, rfl, _, rfl, ?_, _, rfl, ?_⟩ <;> decide +kernel

theorem wit_PinCommandsComplete_5 : ∃ b : Fin 5, ∃ k : Fin 8, ∃ pads : Word32, ∃ s : State, s.dom 158 = domRun ∧
    s.flag uPin F.pinPmCtrlEn b k = true ∧ ∃ kept, kept = s.pin.pads.filter (fun i => i / 32 ≠ b.val) ∧ ∃ s1 : State,
    s1 = { s with pin := { s.pin with pads := ((List.range 32).filter (fun t => pads.getLsbD t)).foldl (fun l t => NSet.add l (b * 32 + t)) kept, tick := false } } ∧ ∃ was, was = s1.pin.cond.contains (b * 8 + k) ∧ ∃ now, now = pmCondition s1 b k ∧ now ≠ was ∧ ∃ s2, s2 = pmStart s1 b k ∧ ∃ mode, mode = s2.fld uPin F.pinPmCtrlMode b k ∧ (mode = 2 ∨ (mode = 1 ∧ now = false) ∨ (mode ≠ 1 ∧ now = true)) ∧ ∃ s3, s3 = s2.setFld uPin F.pinPmStatFired (withBit (s2.fld uPin F.pinPmStatFired b) k true) b ∧ s3.flag uPin F.pinPmCtrlSwen b k = false := by
  refine ⟨0, 0, 0, wPm 0 0, ?_, ?_, _, rfl, _, rfl, _, rfl, _, rfl, ?_, _, rfl, _, rfl, ?_, _, rfl, ?_⟩ <;> decide +kernel

theorem wit_PinCommandsComplete_6 : ∃ b : Fin 5, ∃ k : Fin 8, ∃ pads : Word32, ∃ s : State, s.dom 158 = domRun ∧
    s.flag uPin F.pinPmCtrlEn b k = true ∧ ∃ kept, kept = s.pin.pads.filter (fun i => i / 32 ≠ b.val) ∧ ∃ s1 : State,
    s1 = { s with pin := { s.pin with pads := ((List.range 32).filter (fun t => pads.getLsbD t)).foldl (fun l t => NSet.add l (b * 32 + t)) kept, tick := false } } ∧ ∃ was, was = s1.pin.cond.contains (b * 8 + k) ∧ ∃ now, now = pmCondition s1 b k ∧ now ≠ was ∧ ∃ s2, s2 = pmStart s1 b k ∧ ∃ mode, mode = s2.fld uPin F.pinPmCtrlMode b k ∧ mode ≠ 2 ∧ ((mode ≠ 1 ∨ now = true)) ∧ ((mode = 1 ∨ now = false)) := by
  refine ⟨0, 0, 0, wPm 0 1, ?_, ?_, _, rfl, _, rfl, _, rfl, _, rfl, ?_, _, rfl, _, rfl, ?_, ?_, ?_⟩ <;> decide +kernel

/-! Chunk 11: clk. -/

def wVf (v : VfSeq) (t : Nat) : State := { (((State.reset.setFld uClk F.clkVfCtrlTarget t 0).setFld uAo F.pinAoEnPmbEn 1).setFld uClk F.clkVfStatusBusy 0 0) with clk := { vf := [(0, v)] } }
theorem wFar (g t : Nat) : (decide ((2000 : BitVec 16).toNat ≤ (Config.avsMillivolt g t).toNat + 10) && decide ((Config.avsMillivolt g t).toNat ≤ (2000 : BitVec 16).toNat + 10)) = false := by
  have h := (Config.avsMillivolt g t).isLt
  rw [Bool.and_eq_false_iff]
  left
  rw [decide_eq_false_iff_not]
  show ¬ 2000 ≤ _
  omega

theorem wit_OscillatorAndPllCommandsComplete_1 : ∃ s : State, s.flag uClk F.clkOscStatusHfRun = true ∧ s.clk.fallback = false ∧
    s.mode.dormant = false := by
  refine ⟨{ State.reset.setFld uClk F.clkOscStatusHfRun 1 with mode := { dormant := false } }, ?_, ?_, ?_⟩ <;> decide +kernel

theorem wit_OscillatorAndPllCommandsComplete_2 : ∃ count : Nat, ∃ s : State, ∃ e, trimExpected s = some e ∧
    s.flag uClk F.clkOscStatusHfRun = true ∧ e ≠ 0 ∧ ∃ dev : Int, dev = (count : Int) - e ∧ e < 50 * dev.natAbs := by
  refine ⟨97000000, ((State.reset.setFld uClk F.clkOscStatusHfRun 1).setFld uClk F.clkOscCtrlTrimSrc 2), 100000000, ?_, ?_, ?_, _, rfl, ?_⟩ <;> decide +kernel

theorem wit_OscillatorAndPllCommandsComplete_3 : ∃ count : Nat, ∃ s : State, ∃ e, trimExpected s = some e ∧
    s.flag uClk F.clkOscStatusHfRun = true ∧ e ≠ 0 ∧ ∃ dev : Int, dev = (count : Int) - e ∧ 50 * dev.natAbs ≤ e := by
  refine ⟨102000000, ((State.reset.setFld uClk F.clkOscStatusHfRun 1).setFld uClk F.clkOscCtrlTrimSrc 2), 100000000, ?_, ?_, ?_, _, rfl, ?_⟩ <;> decide +kernel

theorem wit_OscillatorAndPllCommandsComplete_4 : ∃ k : Fin 64, ∃ s : State, pllByFirmware k = true ∧ s.flag uClk F.clkPllCfgEn k = false ∧
    s.vcoInRange k = true ∧ s.consumersFit k (s.vfCur 2) = true := by
  refine ⟨47, ((State.reset.setFld uClk F.clkPllCfgEn 0 47).setFld uClk F.clkPllCfgFbdiv 80 47).setFld uClk F.clkPllCfgRefdiv 0 47, ?_, ?_, ?_, ?_⟩ <;> decide +kernel

theorem wit_OscillatorAndPllCommandsComplete_5 : ∃ k : Fin 64, pllByFirmware k = true := by
  refine ⟨52, ?_⟩
  decide +kernel

theorem wit_OscillatorAndPllCommandsComplete_6 : ∃ k : Fin 64, ∃ s : State, s.flag uClk F.clkPllCfgEn k = true := by
  refine ⟨0, (State.reset.setFld uClk F.clkPllCfgEn 1 0), ?_⟩
  decide +kernel

theorem wit_OscillatorAndPllCommandsComplete_7 : ∃ k : Fin 64, ∃ s : State, ∃ feeds,
    feeds = ((pllConsumers s k).any (fun c => s.regionRuns c.1) || (k.val == 52 && !s.clk.spanOff)) ∧ pllByFirmware k = true ∧
    s.fld uClk F.clkPllIdleUs ≠ 0 ∧ s.flag uClk F.clkPllCfgEn k = true ∧ feeds = false := by
  refine ⟨52, { (State.reset.setFld uClk F.clkPllIdleUs 1).setFld uClk F.clkPllCfgEn 1 52 with clk := { spanOff := true } }, _, rfl, ?_, ?_, ?_, ?_⟩ <;> decide +kernel

theorem wit_DomainCommandsComplete_1 : ∃ i : Fin 160, ∃ s : State, i ≠ 156 ∧ i ≠ 157 ∧ ∃ s1, s1 = s.setFld uClk F.clkDomReq 1 i ∧
    s1.dom i = domRun := by
  refine ⟨0, State.reset.setDom 0 domRun, ?_, ?_, _, rfl, ?_⟩ <;> decide +kernel

theorem wit_DomainCommandsComplete_2 : ∃ n : Fin 128, ∃ s : State, s.dom n = domGated ∧ refusesOff s n = false := by
  refine ⟨0, (State.reset.setDom 0 domGated), ?_, ?_⟩ <;> decide +kernel

theorem wit_DomainCommandsComplete_3 : ∃ n : Fin 128, ∃ s : State, s.dom n = domGated ∧ refusesOff s n = true := by
  refine ⟨127, ((State.reset.setDom 127 domGated).setPlane 127 0 planeLoading), ?_, ?_⟩ <;> decide +kernel

theorem wit_DomainCommandsComplete_4 : ∃ n : Fin 128, ∃ s : State, s.dom n = domRun ∧ ∃ s1, s1 = s.setFld uClk F.clkDomReq 2 n ∧
    s1.dom n = domRun := by
  refine ⟨0, (State.reset.setDom 0 domRun), ?_, _, rfl, ?_⟩ <;> decide +kernel

theorem wit_DomainCommandsComplete_5 : ∃ i : Fin 160, i ≠ 156 ∧ i ≠ 157 := by
  refine ⟨0, ?_, ?_⟩ <;> decide +kernel

theorem wit_DomainCommandsComplete_6 : ∃ i : Fin 160, ∃ s : State, i ≠ 156 ∧ i ≠ 157 ∧ ∃ s1, s1 = s.setFld uClk F.clkDomReq 0 i ∧
    s1.dom i = domClosing := by
  refine ⟨0, State.reset.setDom 0 domClosing, ?_, ?_, _, rfl, ?_⟩ <;> decide +kernel

theorem wit_DomainCommandsComplete_7 : ∃ i : Fin 160, ∃ s : State, i ≠ 156 ∧ i ≠ 157 ∧ s.flag uClk F.clkDomAuto i = true ∧
    s.fld uClk F.clkIdleCycles ≠ 0 ∧ s.dom i = domRun := by
  refine ⟨0, (((State.reset.setFld uClk F.clkDomAuto 1 0).setFld uClk F.clkIdleCycles 1).setDom 0 domRun), ?_, ?_, ?_, ?_, ?_⟩ <;> decide +kernel

theorem wit_DomainCommandsComplete_8 : ∃ i : Fin 160, ∃ s : State, s.dom i = domClosing ∧ answersReady s i = true ∧ i.val ∈ s.clk.offs ∧
    refusesOff s i = true := by
  refine ⟨0, { (State.reset.setDom 0 domClosing).setPlane 0 1 planeLoading with clk := { offs := [0] } }, ?_, ?_, ?_, ?_⟩ <;> decide +kernel

theorem wit_DomainCommandsComplete_9 : ∃ i : Fin 160, ∃ s : State, s.dom i = domClosing ∧ answersReady s i = true ∧
    ((i.val ∉ s.clk.offs ∨ refusesOff s i = false)) := by
  refine ⟨0, (State.reset.setDom 0 domClosing), ?_, ?_, ?_⟩ <;> decide +kernel

theorem wit_DomainCommandsComplete_10 : ∃ i : Fin 160, ∃ s : State, s.dom i = domClosing := by
  refine ⟨0, (State.reset.setDom 0 domClosing), ?_⟩
  decide +kernel

theorem wit_DomainCommandsComplete_11 : ∃ i : Fin 160, ∃ s : State, s.dom i = domClosing ∧ s.clk.fallback = false := by
  refine ⟨0, (State.reset.setDom 0 domClosing), ?_, ?_⟩ <;> decide +kernel

theorem wit_DomainCommandsComplete_12 : ∃ i : Fin 160, ∃ s : State, s.dom i = domWaking := by
  refine ⟨0, (State.reset.setDom 0 domWaking), ?_⟩
  decide +kernel

theorem wit_PerformancePointCommandsComplete_1 : ∃ g : Fin 3, ∃ s : State, s.flag uClk F.clkVfStatusBusy g = true := by
  refine ⟨0, (State.reset.setFld uClk F.clkVfStatusBusy 1 0), ?_⟩
  decide +kernel

theorem wit_PerformancePointCommandsComplete_2 : ∃ g : Fin 3, ∃ target : Fin 8, ∃ s : State, ∃ s1,
    s1 = s.setFld uClk F.clkVfCtrlTarget target g ∧ s.flag uClk F.clkVfStatusBusy g = false ∧ ∃ t, t = s1.fld uClk F.clkVfCtrlTarget g ∧
    t < s1.vfCur g := by
  refine ⟨0, 1, (State.reset.setFld uClk F.clkVfStatusCur 2 0).setFld uClk F.clkVfStatusBusy 0 0, _, rfl, ?_, _, rfl, ?_⟩ <;> decide +kernel

theorem wit_PerformancePointCommandsComplete_3 : ∃ g : Fin 3, ∃ target : Fin 8, ∃ s : State, g.val < 2 ∧ ∃ s1,
    s1 = s.setFld uClk F.clkVfCtrlTarget target g ∧ s.flag uClk F.clkVfStatusBusy g = false ∧ ∃ t, t = s1.fld uClk F.clkVfCtrlTarget g ∧
    s1.vfCur g < t := by
  refine ⟨0, 3, (State.reset.setFld uClk F.clkVfStatusCur 2 0).setFld uClk F.clkVfStatusBusy 0 0, ?_, _, rfl, ?_, _, rfl, ?_⟩ <;> decide +kernel

theorem wit_PerformancePointCommandsComplete_4 : ∃ g : Fin 3, ∃ s : State, ∃ v, SMap.find s.clk.vf g = some v ∧ v.settled = false := by
  refine ⟨0, wVf { target := 1, raise := true } 1, { target := 1, raise := true }, ?_, ?_⟩ <;> decide +kernel

theorem wit_PerformancePointCommandsComplete_5 : ∃ g : Fin 3, ∃ millivolt : BitVec 16, ∃ s : State, ∃ v, SMap.find s.clk.vf g = some v ∧
    v.settled = false ∧ ∃ want, want = (Config.avsMillivolt g v.target).toNat ∧ ∃ close,
    close = (decide (millivolt.toNat ≤ want + 10) && decide (want ≤ millivolt.toNat + 10)) ∧ pmbPins s = true ∧
    close = true := by refine ⟨0, BitVec.ofNat 16 (Config.avsMillivolt 0 1).toNat, wVf { target := 1, raise := true } 1, _, rfl, rfl, _, rfl, _, rfl, by decide +kernel, ?_⟩; have h := (Config.avsMillivolt 0 1).isLt; have e : (BitVec.ofNat 16 (Config.avsMillivolt 0 1).toNat).toNat = (Config.avsMillivolt 0 1).toNat := Nat.mod_eq_of_lt (by omega); show (decide (_ ≤ (Config.avsMillivolt 0 1).toNat + 10) && decide ((Config.avsMillivolt 0 1).toNat ≤ _ + 10)) = true; rw [e, Bool.and_eq_true]; exact ⟨decide_eq_true (by omega), decide_eq_true (by omega)⟩

theorem wit_PerformancePointCommandsComplete_6 : ∃ g : Fin 3, ∃ millivolt : BitVec 16, ∃ s : State, ∃ v, SMap.find s.clk.vf g = some v ∧
    v.settled = false ∧ ∃ want, want = (Config.avsMillivolt g v.target).toNat ∧ ∃ close,
    close = (decide (millivolt.toNat ≤ want + 10) && decide (want ≤ millivolt.toNat + 10)) ∧ pmbPins s = true ∧ close = false ∧
    v.retried = true := by
  refine ⟨0, 2000, wVf { target := 1, raise := true, retried := true } 1, { target := 1, raise := true, retried := true }, ?_, ?_, _, rfl, _, rfl, ?_, ?_, ?_⟩
  <;> first | decide +kernel | exact wFar _ _

theorem wit_PerformancePointCommandsComplete_7 : ∃ g : Fin 3, ∃ millivolt : BitVec 16, ∃ s : State, ∃ v, SMap.find s.clk.vf g = some v ∧
    v.settled = false ∧ ∃ want, want = (Config.avsMillivolt g v.target).toNat ∧ ∃ close,
    close = (decide (millivolt.toNat ≤ want + 10) && decide (want ≤ millivolt.toNat + 10)) ∧ pmbPins s = true ∧ close = false ∧
    v.retried = false := by
  refine ⟨0, 2000, wVf { target := 1, raise := true } 1, { target := 1, raise := true }, ?_, ?_, _, rfl, _, rfl, ?_, ?_, ?_⟩
  <;> first | decide +kernel | exact wFar _ _

theorem wit_PerformancePointCommandsComplete_8 : ∃ g : Fin 3, ∃ s : State, ∃ v, SMap.find s.clk.vf g = some v ∧ v.settled = true ∧
    ∃ s1 : State, s1 = { s.setFld uClk F.clkVfStatusBusy 0 g with clk := { s.clk with vf := SMap.erase s.clk.vf g } } ∧ ∃ s2,
    s2 = (if v.failed then ((if v.raise then s1 else s1.setFld uClk F.clkVfStatusVfail 1 g).setFld uClk F.clkVfStatusFail 1 g).edge (8 + g.val) else ((if v.raise then switchPoint s1 g v.target else s1).setFld uClk F.clkVfStatusVfail 0 g).edge (5 + g.val)) ∧ s2.fld uClk F.clkVfCtrlTarget g = v.target := by
  refine ⟨0, wVf { target := 1, raise := false, settled := true } 1, { target := 1, raise := false, settled := true }, ?_, ?_, _, rfl, _, rfl, ?_⟩ <;> decide +kernel

theorem wit_PerformancePointCommandsComplete_9 : ∃ g : Fin 3, ∃ s : State, ∃ v, SMap.find s.clk.vf g = some v ∧ v.settled = true ∧
    ∃ s1 : State, s1 = { s.setFld uClk F.clkVfStatusBusy 0 g with clk := { s.clk with vf := SMap.erase s.clk.vf g } } ∧ ∃ s2,
    s2 = (if v.failed then ((if v.raise then s1 else s1.setFld uClk F.clkVfStatusVfail 1 g).setFld uClk F.clkVfStatusFail 1 g).edge (8 + g.val) else ((if v.raise then switchPoint s1 g v.target else s1).setFld uClk F.clkVfStatusVfail 0 g).edge (5 + g.val)) ∧ s2.fld uClk F.clkVfCtrlTarget g ≠ v.target := by
  refine ⟨0, wVf { target := 1, raise := false, settled := true } 2, { target := 1, raise := false, settled := true }, ?_, ?_, _, rfl, _, rfl, ?_⟩ <;> decide +kernel

/-! Chunk 12: mode. -/

def wMode (m : ModeState) : State := { State.reset with mode := m }
def wUp : ModeState := { dormant := false, strapWindow := false }
def wHeld : ModeState := { wUp with overlay := .contain }
def wOsc (mon qual : Nat) (s : State) : State := (s.setFld uClk F.clkOscCtrlMonEn mon).setFld uClk F.clkOscStatusXtalQual qual
def wFwSig (z x y : Nat) : List Byte :=
  toLeBytes 4 0x47495353 ++ [1, 0, 0, 0] ++ toBeBytes 48 z ++ toBeBytes 48 z ++ toBeBytes 48 z ++ [4] ++ toBeBytes 48 x ++ toBeBytes 48 y ++ List.replicate 7 0
def wFwHead : List Byte := toLeBytes 4 0x31574653 ++ toLeBytes 4 4 ++ List.replicate 60 0
def wFw : List Byte := wFwHead ++ wFwSig
  0x78016a6738e6556adc01b3536e1ef91312b03cc058e35d0a25c2e834e578e1fcb04bca54da192d300a1d290662fe7dc8
  0xa806945c96deacbfbc12eb7a1f742fead5f5e05ccde309c517a5557a6e3205bfa6410c35c450cfb822f5f6906d787d48
  0x86ff835ca4e73b7926e49fa4e89cf4d573b094b5ca0781e2ac674485e728fa37100681c4eb21364115d2ab1c1f83034a
def wFwKey : BitVec 384 := 0x8b11d74cf1f8a0e92d0c0fe7932361752bb0e83bfd5e986a00c860e8ff4d3ce811fd0d50f51030a7383eb70a0f449dfb
def wBoot (phase src : Nat) : State := { ((wMode wUp).setFld uMgt F.mgtBootPhase phase).setFld uMgt F.mgtStrapBootsrc src with fuse := { slots := [(0, wFwKey)] } }
def wWin : Packet := { wTo opWrite 2 1542 (0x0E0000000000 + uMgt * 0x1000000 + 0x800000) 0 with body := [0] }

theorem wit_ContainCommandsComplete_1 : ∃ s : State, s.mode.dormant = false ∧ s.mode.overlay ≠ .contain ∧ s.modeBusy = false := by
  refine ⟨wMode wUp, ?_, ?_, ?_⟩ <;> decide +kernel

theorem wit_ContainCommandsComplete_2 : ∃ s : State, (s.mode.dormant = true ∨ s.mode.overlay = .contain ∨ s.modeBusy = true) := by
  refine ⟨State.reset, ?_⟩
  decide +kernel

theorem wit_ContainCommandsComplete_3 : ∃ s : State, s.mode.overlay = .contain ∧ s.mode.dormant = false ∧
    s.flag uMgt F.mgtModeStatusResumable = true ∧ ∃ s1, s1 = (restart s).setFld uMgt F.mgtModeStatusResumable 0 ∧
    s1.mode.under ≠ .service := by
  refine ⟨(wMode wHeld).setFld uMgt F.mgtModeStatusResumable 1, ?_, ?_, ?_, _, rfl, ?_⟩ <;> decide +kernel

theorem wit_ContainCommandsComplete_4 : ∃ s : State, s.mode.overlay = .contain ∧ s.mode.dormant = false ∧
    s.flag uMgt F.mgtModeStatusResumable = true ∧ ∃ s1, s1 = (restart s).setFld uMgt F.mgtModeStatusResumable 0 ∧
    s1.mode.under = .service := by
  refine ⟨(wMode { wHeld with under := .service }).setFld uMgt F.mgtModeStatusResumable 1, ?_, ?_, ?_, _, rfl, ?_⟩ <;> decide +kernel

theorem wit_ContainCommandsComplete_5 : ∃ s : State, (s.mode.overlay ≠ .contain ∨ s.mode.dormant = true ∨ s.flag uMgt F.mgtModeStatusResumable = false) := by
  refine ⟨State.reset, ?_⟩
  decide +kernel

theorem wit_ContainCommandsComplete_6 : ∃ s : State, s.mode.dormant = false ∧ ∃ c : BitVec 8, s.fld uMgt F.mgtThermCrit ≤ c.toNat ∧
    s.mode.overlay ≠ .contain := by
  refine ⟨wMode wUp, ?_, 255, ?_, ?_⟩ <;> decide +kernel

theorem wit_ContainCommandsComplete_7 : ∃ s : State, s.mode.dormant = false ∧ ∃ rails : BitVec 7, rails ≠ 0 ∧ s.mode.pwrReq = true := by
  refine ⟨wMode { wUp with pwrReq := true }, ?_, 1, ?_, ?_⟩ <;> decide +kernel

theorem wit_ContainCommandsComplete_8 : ∃ celsius : BitVec 8, ∃ s : State, s.mode.overlay = .contain ∧ s.mode.never = false ∧ ∃ ok,
    ok = (match s.fld uMgt F.mgtModeStatusCause with | 1 => s.flag uClk F.clkOscStatusHfRun | 2 => s.flag uClk F.clkOscStatusHfRun | 3 => decide (celsius.toNat + 10 ≤ s.fld uMgt F.mgtThermCrit) | _ => true) ∧ ok = true ∧ s.fld uMgt F.mgtModeStatusCause = 4 := by
  refine ⟨0, (wMode wHeld).setFld uMgt F.mgtModeStatusCause 4, ?_, ?_, _, rfl, ?_, ?_⟩ <;> decide +kernel

theorem wit_ContainCommandsComplete_9 : ∃ celsius : BitVec 8, ∃ s : State, s.mode.overlay = .contain ∧ s.mode.never = false ∧ ∃ ok,
    ok = (match s.fld uMgt F.mgtModeStatusCause with | 1 => s.flag uClk F.clkOscStatusHfRun | 2 => s.flag uClk F.clkOscStatusHfRun | 3 => decide (celsius.toNat + 10 ≤ s.fld uMgt F.mgtThermCrit) | _ => true) ∧ ok = true ∧ s.fld uMgt F.mgtModeStatusCause ≠ 4 := by
  refine ⟨0, (wMode wHeld).setFld uMgt F.mgtModeStatusCause 5, ?_, ?_, _, rfl, ?_, ?_⟩ <;> decide +kernel

theorem wit_ContainCommandsComplete_10 : ∃ c : Fin 8, ∃ s : State, s.mode.overlay = .contain ∧ c.val ∉ s.mode.selfRefresh := by
  refine ⟨7, wMode wHeld, ?_, ?_⟩ <;> decide +kernel

theorem wit_ContainCommandsComplete_11 : ∃ s : State, s.clk.hfStart = true ∧ s.flag uClk F.clkOscStatusHfRun = false ∧
    s.clk.fallback = true ∧ s.clk.hfBarred = false ∧ s.mode.overlay ≠ .contain := by
  refine ⟨{ State.reset.setFld uClk F.clkOscStatusHfRun 0 with clk := { hfStart := true, fallback := true } }, ?_, ?_, ?_, ?_, ?_⟩ <;> decide +kernel

theorem wit_ContainCommandsComplete_12 : ∃ s : State, s.clk.hfStart = true ∧ s.flag uClk F.clkOscStatusHfRun = false ∧
    ((s.clk.fallback = false ∨ s.clk.hfBarred = true ∨ s.mode.overlay = .contain)) ∧ s.clk.fallback = true := by
  refine ⟨{ State.reset.setFld uClk F.clkOscStatusHfRun 0 with clk := { hfStart := true, fallback := true, hfBarred := true } }, ?_, ?_, ?_, ?_⟩ <;> decide +kernel

theorem wit_ContainCommandsComplete_13 : ∃ s : State, s.clk.hfStart = true ∧ s.flag uClk F.clkOscStatusHfRun = false ∧
    ((s.clk.fallback = false ∨ s.clk.hfBarred = true ∨ s.mode.overlay = .contain)) ∧ s.clk.fallback = false := by
  refine ⟨{ State.reset.setFld uClk F.clkOscStatusHfRun 0 with clk := { hfStart := true } }, ?_, ?_, ?_, ?_⟩ <;> decide +kernel

theorem wit_ContainCommandsComplete_14 : ∃ count : Option Nat, ∃ s : State, s.flag uClk F.clkOscCtrlMonEn = true ∧
    s.flag uClk F.clkOscStatusXtalQual = true ∧ ((count = none ∨ ∃ (n : Nat) (e : Int), count = some n ∧
    e = (if s.flag uClk F.clkOscStatusHfRun then 500 else 1526) ∧ (s.fld uClk F.clkMonTol : Int) * e < 1000 * ((n : Int) - e).natAbs)) ∧
    (s.srefXtal = false ∨ s.flag uClk F.clkOscStatusHfRun = true) := by
  refine ⟨none, wOsc 1 1 (State.reset.setFld uClk F.clkOscStatusHfRun 1), ?_, ?_, ?_, ?_⟩
  <;> first | exact Or.inl rfl | decide +kernel

theorem wit_ContainCommandsComplete_15 : ∃ count : Option Nat, ∃ s : State, s.flag uClk F.clkOscCtrlMonEn = true ∧
    s.flag uClk F.clkOscStatusXtalQual = true ∧ ((count = none ∨ ∃ n : Nat, count = some n ∧
    (s.fld uClk F.clkMonTol : Int) * 1526 < 1000 * ((n : Int) - 1526).natAbs)) ∧ s.srefXtal = true ∧
    s.flag uClk F.clkOscStatusHfRun = false := by
  refine ⟨none, wOsc 1 1 (((State.reset.setFld uClk F.clkOscStatusHfRun 0).setFld uClk F.clkOscStatusSref 1).setFld uClk F.clkOscStatusXtalQual 1), ?_, ?_, ?_, ?_, ?_⟩
  <;> first | exact Or.inl rfl | decide +kernel

theorem wit_ContainCommandsComplete_16 : ∃ s : State, s.clk.fallback = true := by
  refine ⟨{ State.reset with clk := { fallback := true } }, ?_⟩
  decide +kernel

theorem wit_ContainCommandsComplete_17 : ∃ count : Nat, ∃ s : State, s.flag uClk F.clkOscStatusHfRun = true ∧
    3052 < 20 * ((count : Int) - 3052).natAbs ∧ s.srefXtal = true := by
  refine ⟨3205, wOsc 0 1 ((State.reset.setFld uClk F.clkOscStatusHfRun 1).setFld uClk F.clkOscStatusSref 1), ?_, ?_, ?_⟩ <;> decide +kernel

theorem wit_ContainCommandsComplete_18 : ∃ count : Nat, ∃ s : State, s.flag uClk F.clkOscStatusHfRun = true ∧
    3052 < 20 * ((count : Int) - 3052).natAbs ∧ s.srefXtal = false := by
  refine ⟨2899, wOsc 0 0 ((State.reset.setFld uClk F.clkOscStatusHfRun 1).setFld uClk F.clkOscStatusSref 0), ?_, ?_, ?_⟩ <;> decide +kernel

theorem wit_ContainCommandsComplete_19 : ∃ s : State, s.mode.dormant = false ∧ s.bootPhase ≠ 5 := by
  refine ⟨wMode wUp, ?_, ?_⟩ <;> decide +kernel

theorem wit_SleepCommandsComplete_1 : ∃ s : State, drowseRefused s = false := by
  refine ⟨wMode wUp, ?_⟩
  decide +kernel

theorem wit_SleepCommandsComplete_2 : ∃ s : State, drowseRefused s = true := by
  refine ⟨State.reset, ?_⟩
  decide +kernel

theorem wit_SleepCommandsComplete_3 : ∃ s : State, s.drowsing = true ∧ s.modeBusy = false := by
  refine ⟨wMode { wUp with overlay := .drowse }, ?_, ?_⟩ <;> decide +kernel

theorem wit_SleepCommandsComplete_4 : ∃ s : State, (s.drowsing = false ∨ s.modeBusy = true) := by
  refine ⟨State.reset, ?_⟩
  decide +kernel

theorem wit_SleepCommandsComplete_5 : ∃ s : State, dormantRefused s = false := by
  refine ⟨wMode wUp, ?_⟩
  decide +kernel

theorem wit_SleepCommandsComplete_6 : ∃ s : State, dormantRefused s = true := by
  refine ⟨State.reset, ?_⟩
  decide +kernel

theorem wit_SleepCommandsComplete_7 : ∃ src : Fin 5, ∃ s : State, bitOf (s.fld uMgt F.mgtWakeEnSrc) src = true ∧ wakeOccurs s src = true ∧
    s.mode.dormant = true ∧ s.mode.pwrReq = false ∧ s.mode.strapWindow = false ∧ src.val ≠ 4 := by
  refine ⟨3, (wMode { strapWindow := false }).setFld uMgt F.mgtWakeEnSrc 8, ?_, ?_, ?_, ?_, ?_, ?_⟩ <;> decide +kernel

theorem wit_SleepCommandsComplete_8 : ∃ src : Fin 5, ∃ s : State, bitOf (s.fld uMgt F.mgtWakeEnSrc) src = true ∧ wakeOccurs s src = true ∧
    s.mode.dormant = false ∧ s.drowsing = true := by
  refine ⟨4, { (wMode { wUp with overlay := .drowse }).setFld uMgt F.mgtWakeEnSrc 16 with evt := { assigned := [(5, 64)] } }, ?_, ?_, ?_, ?_⟩ <;> decide +kernel

theorem wit_SleepCommandsComplete_9 : ∃ s : State, s.present = true ∧ s.flag uMgt F.mgtPresStatusSealBroken = false ∧
    s.mode.dormant = false ∧ (s.modeNo = 1 ∨ s.modeNo = 3) ∧ s.mode.overlay ≠ .contain ∧ s.modeBusy = false := by
  refine ⟨((wMode wUp).setFld uMgt F.mgtPresStatusPresent 1).setFld uMgt F.mgtPresStatusSealBroken 0, ?_, ?_, ?_, ?_, ?_, ?_⟩ <;> decide +kernel

theorem wit_SleepCommandsComplete_10 : ∃ s : State, s.present = true ∧ s.flag uMgt F.mgtPresStatusSealBroken = false ∧
    s.mode.dormant = false ∧ s.modeNo = 6 ∧ s.mode.overlay = .contain ∧ s.modeBusy = false := by
  refine ⟨((wMode wHeld).setFld uMgt F.mgtPresStatusPresent 1).setFld uMgt F.mgtPresStatusSealBroken 0, ?_, ?_, ?_, ?_, ?_, ?_⟩ <;> decide +kernel

theorem wit_SleepCommandsComplete_11 : ∃ bank : Fin 30, ∃ b, b = bank.val ∧ b < 24 := by
  refine ⟨23, _, rfl, ?_⟩
  decide +kernel

theorem wit_SleepCommandsComplete_12 : ∃ bank : Fin 30, ∃ b, b = bank.val ∧ 24 ≤ b ∧ b < 29 := by
  refine ⟨28, _, rfl, ?_, ?_⟩ <;> decide +kernel

theorem wit_SleepCommandsComplete_13 : ∃ bank : Fin 30, ∃ b, b = bank.val ∧ 24 ≤ b ∧ 29 ≤ b := by
  refine ⟨29, _, rfl, ?_, ?_⟩ <;> decide +kernel

theorem wit_ResetCommandsComplete_1 : ∃ lowNs : Nat, lowNs ≤ 8000 := by
  refine ⟨8000, ?_⟩
  decide +kernel

theorem wit_ResetCommandsComplete_3 : ∃ lowNs : Nat, 8000 < lowNs ∧ 10000 ≤ lowNs := by
  refine ⟨10000, ?_, ?_⟩ <;> decide +kernel

theorem wit_ResetCommandsComplete_4 : ∃ lowNs : Nat, 8000 < lowNs ∧ lowNs < 10000 := by
  refine ⟨9999, ?_, ?_⟩ <;> decide +kernel

theorem wit_ResetCommandsComplete_7 : ∃ s : State, s.mode.reset = 2 ∧ s.mode.overlay = .service := by
  refine ⟨wMode { wUp with reset := 2, overlay := .service }, ?_, ?_⟩ <;> decide +kernel

theorem wit_ResetCommandsComplete_8 : ∃ s : State, s.mode.reset = 2 ∧ s.mode.overlay ≠ .service := by
  refine ⟨wMode { wUp with reset := 2 }, ?_, ?_⟩ <;> decide +kernel

theorem wit_ResetCommandsComplete_9 : ∃ s : State, s.mode.dormant = true ∧ s.mode.pwrReq = true := by
  refine ⟨wMode { strapWindow := false, pwrReq := true }, ?_, ?_⟩ <;> decide +kernel

theorem wit_ResetCommandsComplete_10 : ∃ s : State, s.mode.dormant = true ∧ s.mode.pwrReq = true := by
  refine ⟨wMode { strapWindow := false, pwrReq := true }, ?_, ?_⟩ <;> decide +kernel

theorem wit_ResetCommandsComplete_11 : ∃ s : State, s.mode.strapWindow = true := by
  refine ⟨State.reset, ?_⟩
  decide +kernel

theorem wit_ResetCommandsComplete_12 : ∃ recent : Nat, ∃ s : State, s.mode.reset = 1 ∧ s.mode.dormant = false ∧
    4 ≤ min recent s.mode.mgmtResets := by
  refine ⟨4, wMode { wUp with reset := 1, mgmtResets := 4 }, ?_, ?_, ?_⟩ <;> decide +kernel

theorem wit_ResetCommandsComplete_13 : ∃ recent : Nat, ∃ s : State, s.mode.reset = 1 ∧ s.mode.dormant = false ∧
    min recent s.mode.mgmtResets < 4 := by
  refine ⟨9, wMode { wUp with reset := 1, mgmtResets := 3 }, ?_, ?_, ?_⟩ <;> decide +kernel

theorem wit_BootCommandsComplete_1 : ∃ container : List Byte, ∃ bs : List Byte, ∃ n : Nat, ∃ s : State, s.mode.dormant = false ∧
    (s.bootPhase = 2 ∨ s.bootPhase = 4) ∧ bs = (if s.bootPhase = 4 then s.mode.container else container) ∧ fwValid s bs = true ∧
    fwCodeLen bs = some n ∧ (s.bootSrc ≠ 0 ∨ s.bootPhase = 4 ∨ s.anyActive = true) := by
  refine ⟨[], wFw, 4, { wBoot 4 0 with mode := { wUp with container := wFw } }, ?_, ?_, rfl, ?_, ?_, ?_⟩ <;> decide +kernel

theorem wit_BootCommandsComplete_2 : ∃ container : List Byte, ∃ n : Nat, ∃ s : State, s.mode.dormant = false ∧ s.bootPhase = 2 ∧
    fwValid s container = true ∧ fwCodeLen container = some n ∧ s.bootSrc = 0 ∧ s.anyActive = false := by
  refine ⟨wFw, 4, wBoot 2 0, ?_, ?_, ?_, ?_, ?_, ?_⟩ <;> decide +kernel

theorem wit_BootCommandsComplete_3 : ∃ s : State, s.mode.dormant = false ∧ ((s.bootPhase = 2 ∨ s.bootPhase = 4)) ∧ s.bootPhase = 2 := by
  refine ⟨wBoot 2 0, ?_, ?_, ?_⟩ <;> decide +kernel

theorem wit_BootCommandsComplete_4 : ∃ s : State, s.mode.dormant = false ∧ ((s.bootPhase = 2 ∨ s.bootPhase = 4)) ∧ ∃ bs, ∃ bs',
    bs' = (if s.bootPhase = 4 then s.mode.container else bs) ∧ ((s.bootPhase = 4 → fwComplete bs' = true)) ∧ fwValid s bs' = false := by
  refine ⟨wBoot 2 0, ?_, ?_, [], _, rfl, ?_, ?_⟩ <;> decide +kernel

theorem wit_BootCommandsComplete_5 : ∃ p : Packet, ∃ off : Nat, ∃ s : State, isRequest p.op = true ∧ s.arrived p = true ∧
    mapAddr p.a48 = .csr uMgt off ∧ 0x800000 ≤ off ∧ off < 0xA00000 ∧ p.op = opWrite ∧ p.fullEnables = true ∧ p.icls = 2 ∧ s.bootPhase = 4 ∧
    ∃ bs, bs = s.mode.container ++ p.payload ∧ (if 8 ≤ bs.length then fwRoom bs else none) = none := by
  refine ⟨wWin, 0x800000, wSent (wBoot 4 0) wWin, ?_, ?_, ?_, ?_, ?_, ?_, ?_, ?_, ?_, _, rfl, ?_⟩ <;> decide +kernel

theorem wit_BootCommandsComplete_6 : ∃ p : Packet, ∃ off : Nat, ∃ room : Nat, ∃ s : State, isRequest p.op = true ∧ s.arrived p = true ∧
    mapAddr p.a48 = .csr uMgt off ∧ 0x800000 ≤ off ∧ off < 0xA00000 ∧ p.op = opWrite ∧ p.fullEnables = true ∧ p.icls = 2 ∧ s.bootPhase = 4 ∧
    ∃ bs, bs = s.mode.container ++ p.payload ∧ 8 ≤ bs.length ∧ fwRoom bs = some room := by
  refine ⟨wWin, 0x800000, 384, wSent { wBoot 4 0 with mode := { wUp with container := wFwHead ++ wFwHead } } wWin, ?_, ?_, ?_, ?_, ?_, ?_, ?_, ?_, ?_, _, rfl, ?_, ?_⟩ <;> decide +kernel

theorem wit_BootCommandsComplete_7 : ∃ s : State, s.flag uMgt F.mgtBootAutoflip = true ∧ s.cfg.bootSet ≠ [] ∧ s.bm.clearing = false ∧
    s.span.calibrated = true ∧ s.mode.overlay ≠ .contain := by
  refine ⟨{ State.reset.setFld uMgt F.mgtBootAutoflip 1 with cfg := { bootSet := [0] }, bm := { State.reset.bm with clearing := false }, span := { State.reset.span with calibrated := true } }, ?_, ?_, ?_, ?_, ?_⟩ <;> decide +kernel

/-! Chunk 13: dbg. -/

def wCores (s : State) : State := { ((s.setFld uMgt F.mgtCoreRunRun 0xFFFFFFFF).setDom 155 domRun).setDom 147 domRun with clk := {} }
def wFreeze : State := wCores State.reset
def wWd (i : Nat) : State :=
  let s := if i < 32 then ((wFreeze.setFld uEvt F.evtWdCtrlEn 1 i).setFld uEvt F.evtWdReloadUs 64 i).setFld uEvt F.evtWdCountCount 9 i
    else ((wFreeze.setFld uMgt F.mgtWdogCtrlEn 1).setFld uMgt F.mgtWdogReloadLfCycles 64).setFld uMgt F.mgtWdogCountCount 9
  { s with mode := { dormant := false } }
def wLine : CacheLine := ⟨0, false, 0⟩
def wCache : State := wFreeze.setCluster 3 { cache := [(0x3FFFFFFFFFF / 64, wLine)] }
def wKxKey : List Byte := [4] ++ toBeBytes 96 0xaa87ca22be8b05378eb1c71ef320ad746e1d3b628ba79b9859f741e082542a385502f25dbf55296c3a545e3872760ab73617de4a96262c6f5d9e98bf9292dc29f8f41dbd289a147ce9da3113b5f0b8c00a60b1ce1d7e819d7a431d7c90ea0e5f
def wKxWord (x : List Byte) (k : Nat) : Word32 := BitVec.ofNat 32 ((x.getD (4 * k) 0).toNat + (x.getD (4 * k + 1) 0).toNat * 256 + (x.getD (4 * k + 2) 0).toNat * 65536 + (x.getD (4 * k + 3) 0).toNat * 16777216)
def wKxPut (x : List Byte) (s : State) : Nat → State
  | 0 => s
  | n + 1 => (wKxPut x s n).setReg uDbg (0x100 + 4 * (48 + n)) (wKxWord x n)
theorem wKxHome : ∀ k < 12, ∀ n < 12, k ≠ n → csrHome uDbg (0x100 + 4 * (48 + k)) ≠ csrHome uDbg (0x100 + 4 * (48 + n)) := by decide +kernel
theorem wKxPut_reg (x : List Byte) (s : State) (n k : Nat) (hn : n ≤ 12) (hk : k < n) : (wKxPut x s n).reg uDbg (0x100 + 4 * (48 + k)) = wKxWord x k := by
  induction n with
  | zero => omega
  | succ n ih =>
    unfold wKxPut
    by_cases h : k = n
    · subst h; exact State.reg_setReg_self ..
    · rw [State.reg_setReg_ne _ _ (wKxHome k (by omega) n (by omega) h)]; exact ih (by omega) (by omega)
theorem wKxByte (x : List Byte) (k j : Nat) (hj : j < 4) : BitVec.ofNat 8 ((wKxWord x k).toNat / 256 ^ j) = x.getD (4 * k + j) 0 := by
  have h0 := (x.getD (4 * k) 0).isLt
  have h1 := (x.getD (4 * k + 1) 0).isLt
  have h2 := (x.getD (4 * k + 2) 0).isLt
  have h3 := (x.getD (4 * k + 3) 0).isLt
  apply BitVec.eq_of_toNat_eq
  unfold wKxWord
  rw [BitVec.toNat_ofNat, BitVec.toNat_ofNat]
  obtain rfl | rfl | rfl | rfl : j = 0 ∨ j = 1 ∨ j = 2 ∨ j = 3 := by omega
  all_goals simp only [Nat.add_zero, Nat.reducePow, Nat.div_one]; omega
theorem wKxBytes (x : List Byte) (s : State) (hx : x.length = 48) : kxBytes (wKxPut x s 12) 192 48 = x := by
  apply List.ext_getElem
  · rw [kxBytes, List.length_map, List.length_range, hx]
  · intro i h h'
    rw [hx] at h'
    simp only [kxBytes, List.getElem_map, List.getElem_range]
    have e : (192 + i) / 4 = 48 + i / 4 := by omega
    have f : (192 + i) % 4 = i % 4 := by omega
    have g : (wKxPut x s 12).fld uDbg F.dbgKxBufData (48 + i / 4) = (wKxWord x (i / 4)).toNat := by
      unfold State.fld getBits
      rw [show F.dbgKxBufData.at (48 + i / 4) 0 = 0x100 + 4 * (48 + i / 4) from rfl, wKxPut_reg x s 12 _ (by omega) (by omega)]
      exact (congrArg (· % 2 ^ 32) (Nat.div_one _)).trans (Nat.mod_eq_of_lt (wKxWord x (i / 4)).isLt)
    rw [e, f, g, wKxByte x _ _ (by omega), List.getD_eq_getElem?_getD, show 4 * (i / 4) + i % 4 = i by omega, List.getElem?_eq_getElem (by omega)]
    rfl
def wKx : State := wKxPut (kxExpected 1 wKxKey []) { State.reset with dbg := { kxKey := some 1 }, fuse := { debugKey := some wKxKey } } 12
theorem wSetReg (s : State) (u o : Nat) (w : Word32) : (s.setReg u o w).dbg = s.dbg ∧ (s.setReg u o w).fuse = s.fuse := ⟨rfl, rfl⟩
theorem wKx_frame (x : List Byte) (s : State) (n : Nat) : (wKxPut x s n).dbg = s.dbg ∧ (wKxPut x s n).fuse = s.fuse := by
  induction n with
  | zero => exact ⟨rfl, rfl⟩
  | succ n ih =>
    unfold wKxPut
    rw [(wSetReg ..).1, (wSetReg ..).2]
    exact ih
def wDbg (halt : Nat) : State := (wFreeze.setFld uDbg F.dbgLevelCore 2).setFld uDbg F.dbgHstatHalted halt 31
def wCap (trig : Nat) : State := (State.reset.setFld uPrb F.prbCapStatRunning 1).setFld uPrb F.prbCapStatTriggered trig

theorem wit_EventCommandsComplete_1 : ∃ n : BitVec 12, ∃ k, k = n.toNat ∧ k < 2048 := by
  refine ⟨2047, _, rfl, ?_⟩
  decide +kernel

theorem wit_EventCommandsComplete_2 : ∃ n : BitVec 12, ∃ fe : Bool, ∃ s : State, ∃ k, k = n.toNat ∧ 2048 ≤ k ∧
    fe = feInput s ((k - 2048) / 16) (k % 16) ∧ (s.regionRuns ((k - 2048) / 16) = true ∨ fe = false) := by
  refine ⟨4095, false, State.reset, _, rfl, ?_, rfl, ?_⟩ <;> decide +kernel

theorem wit_EventCommandsComplete_5 : ∃ t : Fin 65, ∃ icls : BitVec 3, ∃ n : Nat, ∃ s : State,
    (icls.toNat ≠ 3 ∨ s.flag uDbg F.dbgCtrlPeek = false) ∧ n = claimOf s t ∧ n ≠ 0 := by
  refine ⟨0, 0, 5, { State.reset with evt := { assigned := [(5, 0)] } }, ?_, rfl, ?_⟩ <;> decide +kernel

theorem wit_EventCommandsComplete_6 : ∃ t : Fin 65, ∃ icls : BitVec 3, ∃ s : State, (icls.toNat ≠ 3 ∨ s.flag uDbg F.dbgCtrlPeek = false) ∧
    claimOf s t = 0 := by
  refine ⟨0, 0, State.reset, ?_, ?_⟩ <;> decide +kernel

theorem wit_EventCommandsComplete_7 : ∃ s : State, s.flag uDbg F.dbgCtrlPeek = true := by
  refine ⟨(State.reset.setFld uDbg F.dbgCtrlPeek 1), ?_⟩
  decide +kernel

theorem wit_EventCommandsComplete_8 : ∃ t : Fin 65, ∃ n : BitVec 12, ∃ icls : BitVec 3, ∃ k : Nat, ∃ s : State,
    evtWriter icls.toNat = true ∧ k = n.toNat ∧ s.evtActive k = true ∧ SMap.find s.evt.claimer k = some t.val := by
  refine ⟨0, 5, 0, 5, { State.reset.setActive 5 true with evt := { claimer := [(5, 0)] } }, ?_, rfl, ?_, ?_⟩
  <;> first | exact Or.inl rfl | exact rfl | decide +kernel

theorem wit_EventCommandsComplete_10 : ∃ i : Fin 33, ∃ icls : BitVec 3, ∃ s : State, wdWriter i icls.toNat = true ∧
    wdFrozen s i = false := by
  refine ⟨31, 4, State.reset, ?_, ?_⟩ <;> decide +kernel

theorem wit_EventCommandsComplete_11 : ∃ i : Fin 33, ∃ key : Byte, ∃ icls : BitVec 3, wdWriter i icls.toNat = true ∧ key.toNat ≠ 0x5A := by
  refine ⟨32, 0x5B, 4, ?_, ?_⟩ <;> decide +kernel

theorem wit_EventCommandsComplete_12 : ∃ i : Fin 33, ∃ s : State, wdCounts s i = true ∧ wdReload s i / 8 < wdCount s i := by
  refine ⟨31, wWd 31, ?_, ?_⟩ <;> decide +kernel

theorem wit_EventCommandsComplete_13 : ∃ i : Fin 33, ∃ s : State, wdCounts s i = true ∧ i.val < 32 := by
  refine ⟨31, wWd 31, ?_, ?_⟩ <;> decide +kernel

theorem wit_EventCommandsComplete_14 : ∃ i : Fin 33, ∃ s : State, wdCounts s i = true ∧ 32 ≤ i.val := by
  refine ⟨32, wWd 32, ?_, ?_⟩ <;> decide +kernel

theorem wit_CoreAccessesComplete_1 : ∃ core : Fin 32, ∃ addr : BitVec 56, ∃ size : Fin 4, ∃ l : CacheLine, ∃ x : ClusterX, ∃ s : State,
    coreReady s core = true ∧ addr.toNat % 2 ^ size.val = 0 ∧ takeWindowOf addr.toNat = none ∧ isCacheable addr.toNat = true ∧
    x = s.clusterX (core / 8) ∧ SMap.find x.cache (addr.toNat / 64) = some l := by
  refine ⟨31, 0x3FFFFFFFFFF, 0, wLine, wCache.clusterX 3, wCache, ?_, ?_, ?_, ?_, rfl, ?_⟩ <;> decide +kernel

theorem wit_CoreAccessesComplete_2 : ∃ core : Fin 32, ∃ addr : BitVec 56, ∃ size : Fin 4, ∃ l : CacheLine, ∃ x : ClusterX, ∃ s : State,
    coreReady s core = true ∧ addr.toNat % 2 ^ size.val = 0 ∧ takeWindowOf addr.toNat = none ∧ isCacheable addr.toNat = true ∧
    x = s.clusterX (core / 8) ∧ SMap.find x.cache (addr.toNat / 64) = some l := by
  refine ⟨31, 0x3FFFFFFFFFF, 0, wLine, wCache.clusterX 3, wCache, ?_, ?_, ?_, ?_, rfl, ?_⟩ <;> decide +kernel

theorem wit_CoreAccessesComplete_3 : ∃ core : Fin 32, ∃ addr : BitVec 56, ∃ size : Fin 4, ∃ s : State, coreReady s core = true ∧
    addr.toNat % 2 ^ size.val = 0 ∧ takeWindowOf addr.toNat = none ∧ isCacheable addr.toNat = false := by
  refine ⟨31, 0x0E0000000000, 3, wFreeze, ?_, ?_, ?_, ?_⟩ <;> decide +kernel

theorem wit_CoreAccessesComplete_4 : ∃ core : Fin 32, ∃ op : CoreOp, ∃ addr : BitVec 56, ∃ size : Fin 4, ∃ s : State, ∃ n,
    n = 2 ^ size.val ∧ coreReady s core = true ∧ addr.toNat % n = 0 ∧ (((isAmo op = false ∧ op ≠ .lr ∧ op ≠ .sc) ∨ 4 ≤ n)) := by
  refine ⟨31, .lr, 8, 2, wFreeze, 4, rfl, ?_, ?_, ?_⟩ <;> decide +kernel

theorem wit_CoreAccessesComplete_5 : ∃ core : Fin 32, ∃ s : State, coreReady s core = true := by
  refine ⟨31, wFreeze, ?_⟩
  decide +kernel

theorem wit_CoreAccessesComplete_6 : ∃ core : Fin 32, ∃ off : Fin 128, ∃ size : Fin 4, ∃ s : State, coreReady s core = true ∧ 8 ≤ off.val ∧
    off.val % 2 ^ size.val = 0 := by
  refine ⟨31, 127, 0, wFreeze, ?_, ?_, ?_⟩ <;> decide +kernel

theorem wit_DebugCommandsComplete_1 : ∃ soon : Bool, ∃ s : State, s.fuse.debugKey ≠ none ∧ s.fuse.returned = false ∧
    (s.dbg.kxWrong = false ∨ soon = false) := by
  refine ⟨false, { State.reset with fuse := { debugKey := some [] } }, ?_, ?_, ?_⟩ <;> decide +kernel

theorem wit_DebugCommandsComplete_2 : ∃ d : Nat, ∃ a : List Byte, ∃ s : State, s.dbg.kxKey = some d ∧ s.fuse.debugKey = some a ∧
    kxBytes s 192 48 = kxExpected d a s.dbg.kxChallenge := ⟨1, wKxKey, wKx, by unfold wKx; rw [(wKx_frame _ _ _).1], by unfold wKx; rw [(wKx_frame _ _ _).2], by unfold wKx; rw [(wKx_frame _ _ _).1]; exact wKxBytes _ _ (wKxLength _ _)⟩

theorem wit_DebugCommandsComplete_6 : ∃ i : Fin 33, ∃ s : State, dbgFull s i = true ∧ coreAlive s i = true ∧ halted s i = false := by
  refine ⟨31, wDbg 0, ?_, ?_, ?_⟩ <;> decide +kernel

theorem wit_DebugCommandsComplete_7 : ∃ i : Fin 33, ∃ s : State, dbgFull s i = true ∧ halted s i = true := by
  refine ⟨31, wDbg 1, ?_, ?_⟩ <;> decide +kernel

theorem wit_DebugCommandsComplete_8 : ∃ i : Fin 33, ∃ s : State, dbgFull s i = true ∧ halted s i = true := by
  refine ⟨31, wDbg 1, ?_, ?_⟩ <;> decide +kernel

theorem wit_DebugCommandsComplete_9 : ∃ i : Fin 33, ∃ s : State, s.flag uDbg F.dbgHctlEbreakEn i = true ∧ dbgFull s i = true ∧
    coreAlive s i = true ∧ halted s i = false := by
  refine ⟨31, (wDbg 0).setFld uDbg F.dbgHctlEbreakEn 1 31, ?_, ?_, ?_, ?_⟩ <;> decide +kernel

theorem wit_DebugCommandsComplete_10 : ∃ i : Fin 33, ∃ reg : BitVec 16, ∃ r : Nat, ∃ s : State, dbgFull s i = true ∧ halted s i = true ∧
    r = reg.toNat ∧ isReg r = true ∧ r ≠ 0 := by
  refine ⟨31, 31, 31, wDbg 1, ?_, ?_, rfl, ?_, ?_⟩ <;> decide +kernel

theorem wit_DebugCommandsComplete_11 : ∃ i : Fin 33, ∃ s : State, dbgFull s i = true ∧ halted s i = true := by
  refine ⟨31, wDbg 1, ?_, ?_⟩ <;> decide +kernel

theorem wit_DebugCommandsComplete_12 : ∃ i : Fin 33, ∃ reg : BitVec 16, ∃ r : Nat, ∃ s : State, dbgFull s i = true ∧ halted s i = true ∧
    r = reg.toNat ∧ isReg r = true := by
  refine ⟨31, 0, 0, wDbg 1, ?_, ?_, rfl, ?_⟩ <;> decide +kernel

theorem wit_DebugCommandsComplete_13 : ∃ i : Fin 33, ∃ s : State, dbgSome s i = true ∧ coreAlive s i = true ∧ halted s i = false := by
  refine ⟨31, wDbg 0, ?_, ?_, ?_⟩ <;> decide +kernel

theorem wit_DebugCommandsComplete_14 : ∃ i : Fin 33, ∃ w : Fin 4, ∃ pc : Word64, ∃ write : Bool, ∃ addr : Word64, ∃ size : Fin 4,
    ∃ value : Word64, ∃ scontext : BitVec 16, ∃ s : State, dbgSome s i = true ∧ coreAlive s i = true ∧ halted s i = false ∧
    watchMatches s i w pc.toNat write addr size value.toNat scontext.toNat = true := by
  refine ⟨31, 3, 0, false, 0, 0, 0, 0, (wDbg 0).setFld uDbg F.dbgWcfgEn 1 31 3, ?_, ?_, ?_, ?_⟩ <;> decide +kernel

theorem wit_ProbeCommandsComplete_1 : ∃ s : State, s.clk.halted = false ∧ s.clk.spanOff = false := by
  refine ⟨State.reset, ?_, ?_⟩ <;> decide +kernel

theorem wit_ProbeCommandsComplete_2 : ∃ s : State, fabricLevel s ≠ 0 ∧ s.fld uPrb F.prbCapSizePages ≠ 0 := by
  refine ⟨(State.reset.setFld uDbg F.dbgLevelFabric 1).setFld uPrb F.prbCapSizePages 1, ?_, ?_⟩ <;> decide +kernel

theorem wit_ProbeCommandsComplete_4 : ∃ mask : Nat, ∃ val : Nat, ∃ s : State,
    mask = s.fld uPrb F.prbCapMaskHiMask * 2 ^ 32 + s.fld uPrb F.prbCapMaskLoMask ∧
    val = s.fld uPrb F.prbCapValHiVal * 2 ^ 32 + s.fld uPrb F.prbCapValLoVal ∧ capturing s = true ∧
    s.flag uPrb F.prbCapStatTriggered = false ∧ (s.dbg.line.getLastD 0).toNat &&& mask = val := by
  refine ⟨0, 0, wCap 0, rfl, rfl, ?_, ?_, ?_⟩ <;> decide +kernel

theorem wit_ProbeCommandsComplete_5 : ∃ s : State, capturing s = true ∧ s.flag uPrb F.prbCapStatTriggered = true ∧ s.dbg.post = 0 := by
  refine ⟨wCap 1, ?_, ?_, ?_⟩ <;> decide +kernel

/-! Chunk 14: csr. -/

def wAcc (size : Nat) (off : BitVec 24) : CsrAccess := { unit := BitVec.ofNat 8 uEvt, off := off, size := size, data := 0, icls := 4, src := 0, priv := false }
def wTalk (core : Nat) : State := { (State.reset.setFld uDbg F.dbgStatusStylus 1).setFld uDbg F.dbgLevelCore core with mode := { dormant := false } }
def wTalkOver : State := (wTalk 2).setMeter 8 0 { u := 2 ^ 60 }
def wPins : State := { State.reset with mode := { dormant := false } }
def wVerif : Verif := ⟨wTo opRead 0 256 0 0, .ok, [], false, false, [], none, false, 0, false⟩
def wVf1 (v : Verif) : State := { ((State.reset.setDom 136 domRun).setFld (uDdr 0) F.ddrStatusState ddrActive) with ipe := { verif := [v] } }
def wVerFail : Verif := { wVerif with failed := true, req := wTo opRead 0 256 0 1 }
def wCached (v : Verif) (level : Nat) (crc : Word32) : State :=
  { wVf1 v with ipe := { (wVf1 v).ipe with cache := [(levelKey 0 level, ⟨⟨0, 0⟩, crc, false⟩)] } }
def wUe : MemEnv := { nodeUpset := [(0, 0x110000000011000000001100000000110000000011000000001100000000110000000011)] }

theorem wit_RegisterAccessShape_2 : ∃ a : CsrAccess, ∃ s : State, a.size = 8 ∧ a.off.toNat % 8 = 0 ∧ csrDecide s a true = .ok := by
  refine ⟨wAcc 8 8, State.reset, ?_, ?_, ?_⟩ <;> decide +kernel

theorem wit_RegisterAccessShape_3 : ∃ a : CsrAccess, ∃ s : State, a.size = 8 ∧ a.off.toNat % 8 = 0 ∧ csrDecide s a false = .ok := by
  refine ⟨wAcc 8 8, State.reset, ?_, ?_, ?_⟩ <;> decide +kernel

theorem wit_RegisterWriteCompletes_1 : ∃ a : CsrAccess, ∃ s : State, a.size = 4 ∧ a.off.toNat % 4 = 0 ∧ csrDecide s a true = .ok := by
  refine ⟨wAcc 4 4, State.reset, ?_, ?_, ?_⟩ <;> decide +kernel

theorem wit_RegisterWriteCompletes_2 : ∃ a : CsrAccess, ∃ s : State, a.size = 8 ∧ a.off.toNat % 8 = 0 ∧ csrDecide s a true = .ok := by
  refine ⟨wAcc 8 8, State.reset, ?_, ?_, ?_⟩ <;> decide +kernel

theorem wit_RegisterWriteCompletes_3 : ∃ a : CsrAccess, ∃ st : Stat, ∃ s : State, csrDecide s a true = st ∧ st ≠ .ok := by
  refine ⟨wAcc 4 0xFFFFFC, .decode, State.reset, ?_, ?_⟩ <;> decide +kernel

theorem wit_RegisterWriteCompletes_4 : ∃ a : CsrAccess, a.unit.toNat ≠ uCfg ∧ ((∃ o ∈ csrOffsets a.off.toNat a.size,
    csrImplemented a.unit.toNat o = false)) := by
  refine ⟨wAcc 4 0xFFFFFC, ?_, ?_⟩ <;> decide +kernel

theorem wit_StylusCommandsComplete_3 : ∃ addr : BitVec 56, ∃ s : State, s.entered = true ∧ s.dbg.waiting = none ∧ s.dbg.held = none ∧
    s.modeNo ≠ 0 ∧ s.modeNo ≠ 6 ∧ ∃ t : State, t = { s with dbg := { s.dbg with response := [] } } ∧ 1 ≤ rangeLevel t addr.toNat ∧
    t.admits 8 0 = true := by
  refine ⟨0, wTalk 1, ?_, ?_, ?_, ?_, ?_, _, rfl, ?_, ?_⟩ <;> decide +kernel

theorem wit_StylusCommandsComplete_4 : ∃ addr : BitVec 56, ∃ s : State, s.entered = true ∧ s.dbg.waiting = none ∧ s.dbg.held = none ∧
    s.modeNo ≠ 0 ∧ s.modeNo ≠ 6 ∧ ∃ t : State, t = { s with dbg := { s.dbg with response := [] } } ∧ 1 ≤ rangeLevel t addr.toNat ∧
    t.admits 8 0 = false := by
  refine ⟨0, wTalkOver, ?_, ?_, ?_, ?_, ?_, _, rfl, ?_, ?_⟩ <;> decide +kernel

theorem wit_StylusCommandsComplete_5 : ∃ addr : BitVec 56, ∃ s : State, s.entered = true ∧ s.dbg.waiting = none ∧ s.dbg.held = none ∧
    s.modeNo ≠ 0 ∧ s.modeNo ≠ 6 ∧ ∃ t : State, t = { s with dbg := { s.dbg with response := [] } } ∧ 2 ≤ rangeLevel t addr.toNat ∧
    t.admits 8 0 = true := by
  refine ⟨0, wTalk 2, ?_, ?_, ?_, ?_, ?_, _, rfl, ?_, ?_⟩ <;> decide +kernel

theorem wit_StylusCommandsComplete_6 : ∃ addr : BitVec 56, ∃ s : State, s.entered = true ∧ s.dbg.waiting = none ∧ s.dbg.held = none ∧
    s.modeNo ≠ 0 ∧ s.modeNo ≠ 6 ∧ ∃ t : State, t = { s with dbg := { s.dbg with response := [] } } ∧ rangeLevel t addr.toNat < 2 := by
  refine ⟨0, wTalk 1, ?_, ?_, ?_, ?_, ?_, _, rfl, ?_⟩ <;> decide +kernel

theorem wit_StylusCommandsComplete_7 : ∃ s : State, s.entered = true ∧ s.dbg.waiting = none ∧ s.dbg.held = none ∧ s.modeNo ≠ 0 ∧
    s.modeNo ≠ 6 := by
  refine ⟨wTalk 0, ?_, ?_, ?_, ?_, ?_⟩ <;> decide +kernel

theorem wit_StylusCommandsComplete_8 : ∃ s : State, s.entered = true ∧ s.dbg.waiting = none ∧ s.dbg.held = none ∧ s.modeNo ≠ 0 ∧
    s.modeNo ≠ 6 := by
  refine ⟨wTalk 0, ?_, ?_, ?_, ?_, ?_⟩ <;> decide +kernel

theorem wit_StylusCommandsComplete_9 : ∃ s : State, s.entered = true ∧ s.dbg.waiting = none ∧ s.dbg.held = none ∧ s.modeNo ≠ 0 ∧
    s.modeNo ≠ 6 := by
  refine ⟨wTalk 0, ?_, ?_, ?_, ?_, ?_⟩ <;> decide +kernel

theorem wit_StylusCommandsComplete_10 : ∃ s : State, s.entered = true ∧ s.dbg.waiting = none ∧ s.dbg.held = none := by
  refine ⟨wTalk 0, ?_, ?_, ?_⟩ <;> decide +kernel

theorem wit_StylusCommandsComplete_11 : ∃ s : State, s.entered = false := by
  refine ⟨State.reset, ?_⟩
  decide +kernel

theorem wit_StylusCommandsComplete_12 : ∃ s : State, s.dbg.response = [] := by
  refine ⟨State.reset, ?_⟩
  decide +kernel

theorem wit_StylusCommandsComplete_13 : ∃ s : State, ∃ b, ∃ r, s.dbg.response = b :: r := by
  refine ⟨{ State.reset with dbg := { response := [true] } }, true, [], ?_⟩
  decide +kernel

theorem wit_StylusCommandsComplete_14 : ∃ s : State, s.clk.fallback = false ∧ s.mode.dormant = false := by
  refine ⟨wPins, ?_, ?_⟩ <;> decide +kernel

theorem wit_ScanCommandsComplete_5 : ∃ s : State, pinControlAllowed s = true := by
  refine ⟨wPins, ?_⟩
  decide +kernel

theorem wit_ScanCommandsComplete_6 : ∃ s : State, pinControlAllowed s = true := by
  refine ⟨wPins, ?_⟩
  decide +kernel

theorem wit_ScanCommandsComplete_7 : ∃ s : State, pinControlAllowed s = true := by
  refine ⟨wPins, ?_⟩
  decide +kernel

theorem wit_ScanCommandsComplete_8 : ∃ s : State, pinControlAllowed s = true := by
  refine ⟨wPins, ?_⟩
  decide +kernel

theorem wit_ScanCommandsComplete_9 : ∃ s : State, pinControlAllowed s = true := by
  refine ⟨wPins, ?_⟩
  decide +kernel

theorem wit_ScanCommandsComplete_10 : ∃ s : State, pinControlAllowed s = false := by
  refine ⟨State.reset, ?_⟩
  decide +kernel

theorem wit_VerificationCommandsComplete_1 : ∃ i : Nat, ∃ v : Verif, ∃ s : State, s.ipe.verif[i]? = some v ∧ v.failed = false ∧ v.bad = [] ∧
    v.node = none ∧ v.spec = false := by
  refine ⟨0, wVerif, wVf1 wVerif, ?_, ?_, ?_, ?_, ?_⟩ <;> decide +kernel

theorem wit_VerificationCommandsComplete_2 : ∃ i : Nat, ∃ v : Verif, ∃ s : State, s.ipe.verif[i]? = some v ∧ v.failed = false ∧ v.bad = [] ∧
    v.node = none ∧ v.spec = true := by
  refine ⟨0, { wVerif with spec := true }, wVf1 { wVerif with spec := true }, ?_, ?_, ?_, ?_, ?_⟩ <;> decide +kernel

theorem wit_VerificationCommandsComplete_3 : ∃ i : Nat, ∃ v : Verif, ∃ s : State, s.ipe.verif[i]? = some v ∧ v.failed = false := by
  refine ⟨0, { wVerif with bad := [0] }, wVf1 { wVerif with bad := [0] }, ?_, ?_⟩ <;> decide +kernel

theorem wit_VerificationCommandsComplete_4 : ∃ i : Nat, ∃ v : Verif, ∃ s : State, s.ipe.verif[i]? = some v ∧ v.spec = true ∧
    v.alarmed = false := by
  refine ⟨0, { wVerif with spec := true }, wVf1 { wVerif with spec := true }, ?_, ?_, ?_⟩ <;> decide +kernel

theorem wit_VerificationCommandsComplete_5 : ∃ i : Nat, ∃ e : MemEnv, ∃ v : Verif, ∃ s : State, s.ipe.verif[i]? = some v ∧ v.failed = true ∧
    refetchWaits s v.req = false ∧ ∃ r, r = refetch s v e ∧ r.1.dead = false ∧ r.2.bad = [] ∧ r.1.fail = none := by
  refine ⟨0, {}, wVerFail, wCached wVerFail 0 534929355, ?_, ?_, ?_, _, rfl, ?_, ?_, ?_⟩ <;> decide +kernel

theorem wit_VerificationCommandsComplete_6 : ∃ i : Nat, ∃ e : MemEnv, ∃ v : Verif, ∃ s : State, s.ipe.verif[i]? = some v ∧ v.failed = true ∧
    refetchWaits s v.req = false ∧ ∃ r, r = refetch s v e ∧ r.1.dead = true := by
  refine ⟨0, { rootDouble := true }, wVerFail, wVf1 wVerFail, ?_, ?_, ?_, _, rfl, ?_⟩ <;> decide +kernel

theorem wit_VerificationCommandsComplete_7 : ∃ i : Nat, ∃ e : MemEnv, ∃ v : Verif, ∃ s : State, s.ipe.verif[i]? = some v ∧ v.failed = true ∧
    refetchWaits s v.req = false ∧ ∃ r, r = refetch s v e ∧ r.1.dead = false ∧ ((r.2.bad ≠ [] ∨ r.1.fail ≠ none)) ∧ v.attempts = 0 := by
  refine ⟨0, wUe, wVerFail, wCached wVerFail 1 3265787251, ?_, ?_, ?_, _, rfl, ?_, ?_, ?_⟩
  exacts [rfl, rfl, by decide +kernel, by decide +kernel, Or.inr (by decide +kernel), rfl]

theorem wit_VerificationCommandsComplete_8 : ∃ i : Nat, ∃ e : MemEnv, ∃ v : Verif, ∃ s : State, s.ipe.verif[i]? = some v ∧ v.failed = true ∧
    refetchWaits s v.req = false ∧ ∃ r, r = refetch s v e ∧ r.1.dead = false ∧ ((r.2.bad ≠ [] ∨ r.1.fail ≠ none)) ∧ v.attempts ≠ 0 := by
  refine ⟨0, wUe, { wVerFail with attempts := 1 }, wCached { wVerFail with attempts := 1 } 1 3265787251, ?_, ?_, ?_, _, rfl, ?_, ?_, ?_⟩
  exacts [rfl, rfl, by decide +kernel, by decide +kernel, Or.inr (by decide +kernel), by decide]

/-! Chunk 15: tgt. -/

def wBy (op addr len : Nat) : Packet := wTo op 1 1542 addr len
def wGot (p : Packet) : State := { wSent (State.reset.setDom 159 domRun) p with clk := {} }
def wGen (op : Nat) : Packet := { wTo op 1 1542 0x0C0005300000 1 with ext := 0 }
def wRspp : Packet := { wTo 0x21 1 1542 0 0 with tag := 7 }
def wRspS : State := { State.reset with clk := {}, net := { State.reset.net with rsps := [wRspp], port := [(1542, { outst := [⟨7, wPkt, wPkt, 0, false⟩] })] } }
def wPortOut : State := { State.reset with clk := {}, net := { State.reset.net with port := [(codeOf 31 6, { outst := [⟨7, wPkt, wPkt, 0, false⟩] })] } }
def wLnkP : Packet := wTo opLmsg 0 0 0 0
def wLnkS : State := { (State.reset.setDom 153 domRun).setLnk 15 { arrived := [(7, [wRspp])] } with clk := {} }
def wRel : Packet := { wTo opLmsg 0 1542 0 0 with ext := BitVec.ofNat 64 (2 * 2 ^ 60) }
def wRelS : State := { wSent State.reset wRel with dict := { State.reset.dict with session := [(31, { relay := { state := 1 } })] } }

theorem wit_PlateSramCommandCompletes_1 : ∃ p : Packet, ∃ single : List Nat, ∃ double : List Nat, ∃ off : Nat, ∃ s : State,
    sramOff p = some off ∧ s.arrived p = true ∧ sramTurn s p = true ∧ partitionOf off = .general ∧ p.op = opRead ∧ p.len ≠ 0 ∧ ∃ s1,
    s1 = double.foldl (upsetWord true) (single.foldl (upsetWord false) s) ∧ ∃ ws, ws = wordsOf off p.rangeLen ∧
    ws.any (badWord s1) = false := by
  refine ⟨wGen 1, [0xA60000], [], 0x5300000, wGot (wGen 1), ?_, ?_, ?_, ?_, ?_, ?_, _, rfl, _, rfl, ?_⟩ <;> decide +kernel

theorem wit_PlateSramCommandCompletes_2 : ∃ p : Packet, ∃ single : List Nat, ∃ double : List Nat, ∃ off : Nat, ∃ s : State,
    sramOff p = some off ∧ s.arrived p = true ∧ sramTurn s p = true ∧ partitionOf off = .general ∧ p.op = opRead ∧ p.len ≠ 0 ∧ ∃ s1,
    s1 = double.foldl (upsetWord true) (single.foldl (upsetWord false) s) ∧ ∃ ws, ws = wordsOf off p.rangeLen ∧
    ws.any (badWord s1) = true := by
  refine ⟨wGen 1, [], [0xA60007], 0x5300000, wGot (wGen 1), ?_, ?_, ?_, ?_, ?_, ?_, _, rfl, _, rfl, ?_⟩ <;> decide +kernel

theorem wit_PlateSramCommandCompletes_3 : ∃ p : Packet, ∃ single : List Nat, ∃ double : List Nat, ∃ off : Nat, ∃ s : State,
    sramOff p = some off ∧ s.arrived p = true ∧ sramTurn s p = true ∧ partitionOf off = .general ∧ p.op = opWrite ∧ p.len ≠ 0 ∧ ∃ s1,
    s1 = double.foldl (upsetWord true) (single.foldl (upsetWord false) s) ∧ ∃ ws, ws = wordsOf off p.rangeLen ∧
    (ws.filter (fun w => !coversWord off p.rangeLen w)).any (badWord s1) = false := by
  refine ⟨wGen 2, [], [], 0x5300000, wGot (wGen 2), ?_, ?_, ?_, ?_, ?_, ?_, _, rfl, _, rfl, ?_⟩ <;> decide +kernel

theorem wit_PlateSramCommandCompletes_4 : ∃ p : Packet, ∃ single : List Nat, ∃ double : List Nat, ∃ off : Nat, ∃ s : State,
    sramOff p = some off ∧ s.arrived p = true ∧ sramTurn s p = true ∧ partitionOf off = .general ∧ p.op = opAtomic ∧ ∃ s1,
    s1 = double.foldl (upsetWord true) (single.foldl (upsetWord false) s) ∧ ∃ n, n = p.atomicBytes ∧
    (wordsOf off n).any (badWord s1) = false := by
  refine ⟨wGen 3, [], [], 0x5300000, wGot (wGen 3), ?_, ?_, ?_, ?_, ?_, _, rfl, _, rfl, ?_⟩ <;> decide +kernel

theorem wit_AccessCommandsComplete_1 : ∃ p : Packet, ∃ s : State, p.op = opRead ∧ p.label = 0 ∧ s.atTarget p = true ∧
    mapAddr p.a48 = .dram := by
  refine ⟨wBy 1 0x3FFFFFFFFFF 0, wGot (wBy 1 0x3FFFFFFFFFF 0), ?_, ?_, ?_, ?_⟩ <;> decide +kernel

theorem wit_AccessCommandsComplete_2 : ∃ p : Packet, ∃ n : Nat, ∃ o : Nat, ∃ s : State, p.op = opRead ∧ p.label = 0 ∧ s.arrived p = true ∧
    mapAddr p.a48 = .fabric n o := by
  refine ⟨wBy 1 0x087FFFFFFFFF 0, 127, 0xFFFFFFFF, wGot (wBy 1 0x087FFFFFFFFF 0), ?_, ?_, ?_, ?_⟩ <;> decide +kernel

theorem wit_AccessCommandsComplete_3 : ∃ p : Packet, ∃ off : Nat, ∃ s : State, p.op = opRead ∧ p.label = 0 ∧ s.arrived p = true ∧
    mapAddr p.a48 = .sram off ∧ sramTurn s p = true := by
  refine ⟨wBy 1 0x0C0005FFFFFF 0, 0x5FFFFFF, wGot (wBy 1 0x0C0005FFFFFF 0), ?_, ?_, ?_, ?_, ?_⟩ <;> decide +kernel

theorem wit_AccessCommandsComplete_4 : ∃ p : Packet, ∃ c : Nat, ∃ off : Nat, ∃ s : State, p.op = opRead ∧ p.label = 0 ∧ s.arrived p = true ∧
    mapAddr p.a48 = .pcie c off := by
  refine ⟨wBy 1 0x0FFFFFFFFFFF 0, 1, 0x7FFFFFFFFF, wGot (wBy 1 0x0FFFFFFFFFFF 0), ?_, ?_, ?_, ?_⟩ <;> decide +kernel

theorem wit_AccessCommandsComplete_5 : ∃ p : Packet, ∃ s : State, p.op = opRead ∧ p.label = 0 ∧ s.arrived p = true ∧
    mapAddr p.a48 = .none := by
  refine ⟨wBy 1 0xFFFFFFFFFFFF 0, wGot (wBy 1 0xFFFFFFFFFFFF 0), ?_, ?_, ?_, ?_⟩ <;> decide +kernel

theorem wit_AccessCommandsComplete_6 : ∃ p : Packet, ∃ u : Nat, ∃ off : Nat, ∃ r : State × Stat × Nat, ∃ s : State, p.op = opRead ∧
    p.label = 0 ∧ s.arrived p = true ∧ mapAddr p.a48 = .csr u off ∧ unitKind u ≠ .dsp ∧ u ≠ uCfg ∧ (u ≠ uMgt ∨ off < 0x800000) ∧
    r = csrReadAccess s ⟨BitVec.ofNat 8 u, BitVec.ofNat 24 off, p.rangeLen, BitVec.ofNat 64 (leBytes p.writeBytes), p.icls, p.src, false⟩ ∧
    r.2.1 = .ok := by
  refine ⟨{ wBy 1 (0x0E0000000000 + uClk * 0x1000000) 1 with aux := 3 }, uClk, 0, _, wGot { wBy 1 (0x0E0000000000 + uClk * 0x1000000) 1 with aux := 3 }, ?_, ?_, ?_, ?_, ?_, ?_, ?_, rfl, ?_⟩
  <;> first | decide +kernel | exact Or.inl (by decide) | exact (by decide) | rfl

theorem wit_AccessCommandsComplete_7 : ∃ p : Packet, ∃ s : State, p.op = opWrite ∧ p.label = 0 ∧ s.atTarget p = true ∧
    mapAddr p.a48 = .dram := by
  refine ⟨wBy 2 0x3FFFFFFFFFF 0, wGot (wBy 2 0x3FFFFFFFFFF 0), ?_, ?_, ?_, ?_⟩ <;> decide +kernel

theorem wit_AccessCommandsComplete_8 : ∃ p : Packet, ∃ n : Nat, ∃ o : Nat, ∃ s : State, p.op = opWrite ∧ p.label = 0 ∧ s.arrived p = true ∧
    mapAddr p.a48 = .fabric n o := by
  refine ⟨wBy 2 0x087FFFFFFFFF 0, 127, 0xFFFFFFFF, wGot (wBy 2 0x087FFFFFFFFF 0), ?_, ?_, ?_, ?_⟩ <;> decide +kernel

theorem wit_AccessCommandsComplete_9 : ∃ p : Packet, ∃ off : Nat, ∃ s : State, p.op = opWrite ∧ p.label = 0 ∧ s.arrived p = true ∧
    mapAddr p.a48 = .sram off ∧ sramTurn s p = true := by
  refine ⟨wBy 2 0x0C0005FFFFFF 0, 0x5FFFFFF, wGot (wBy 2 0x0C0005FFFFFF 0), ?_, ?_, ?_, ?_, ?_⟩ <;> decide +kernel

theorem wit_AccessCommandsComplete_10 : ∃ p : Packet, ∃ c : Nat, ∃ off : Nat, ∃ s : State, p.op = opWrite ∧ p.label = 0 ∧
    s.arrived p = true ∧ mapAddr p.a48 = .pcie c off := by
  refine ⟨wBy 2 0x0FFFFFFFFFFF 0, 1, 0x7FFFFFFFFF, wGot (wBy 2 0x0FFFFFFFFFFF 0), ?_, ?_, ?_, ?_⟩ <;> decide +kernel

theorem wit_AccessCommandsComplete_11 : ∃ p : Packet, ∃ s : State, p.op = opWrite ∧ p.label = 0 ∧ s.arrived p = true ∧
    mapAddr p.a48 = .none := by
  refine ⟨wBy 2 0xFFFFFFFFFFFF 0, wGot (wBy 2 0xFFFFFFFFFFFF 0), ?_, ?_, ?_, ?_⟩ <;> decide +kernel

theorem wit_AccessCommandsComplete_12 : ∃ p : Packet, ∃ u : Nat, ∃ off : Nat, ∃ s : State, p.op = opWrite ∧ p.label = 0 ∧
    s.arrived p = true ∧ mapAddr p.a48 = .csr u off ∧ unitKind u ≠ .dsp ∧ u ≠ uCfg ∧ (u ≠ uMgt ∨ off < 0x800000) := by
  refine ⟨wBy 2 (0x0E0000000000 + uClk * 0x1000000) 1, uClk, 0, wGot (wBy 2 (0x0E0000000000 + uClk * 0x1000000) 1), ?_, ?_, ?_, ?_, ?_, ?_, ?_⟩ <;> decide +kernel

theorem wit_AccessCommandsComplete_13 : ∃ p : Packet, ∃ s : State, p.op = opAtomic ∧ p.label = 0 ∧ s.atTarget p = true ∧
    mapAddr p.a48 = .dram := by
  refine ⟨wBy 3 0x3FFFFFFFFFF 0, wGot (wBy 3 0x3FFFFFFFFFF 0), ?_, ?_, ?_, ?_⟩ <;> decide +kernel

theorem wit_AccessCommandsComplete_14 : ∃ p : Packet, ∃ n : Nat, ∃ o : Nat, ∃ s : State, p.op = opAtomic ∧ p.label = 0 ∧
    s.arrived p = true ∧ mapAddr p.a48 = .fabric n o := by
  refine ⟨wBy 3 0x087FFFFFFFFF 0, 127, 0xFFFFFFFF, wGot (wBy 3 0x087FFFFFFFFF 0), ?_, ?_, ?_, ?_⟩ <;> decide +kernel

theorem wit_AccessCommandsComplete_15 : ∃ p : Packet, ∃ off : Nat, ∃ s : State, p.op = opAtomic ∧ p.label = 0 ∧ s.arrived p = true ∧
    mapAddr p.a48 = .sram off ∧ sramTurn s p = true := by
  refine ⟨wBy 3 0x0C0005FFFFFF 0, 0x5FFFFFF, wGot (wBy 3 0x0C0005FFFFFF 0), ?_, ?_, ?_, ?_, ?_⟩ <;> decide +kernel

theorem wit_AccessCommandsComplete_16 : ∃ p : Packet, ∃ c : Nat, ∃ off : Nat, ∃ s : State, p.op = opAtomic ∧ p.label = 0 ∧
    s.arrived p = true ∧ mapAddr p.a48 = .pcie c off := by
  refine ⟨wBy 3 0x0FFFFFFFFFFF 0, 1, 0x7FFFFFFFFF, wGot (wBy 3 0x0FFFFFFFFFFF 0), ?_, ?_, ?_, ?_⟩ <;> decide +kernel

theorem wit_AccessCommandsComplete_17 : ∃ p : Packet, ∃ s : State, p.op = opAtomic ∧ p.label = 0 ∧ s.arrived p = true ∧
    mapAddr p.a48 = .none := by
  refine ⟨wBy 3 0xFFFFFFFFFFFF 0, wGot (wBy 3 0xFFFFFFFFFFFF 0), ?_, ?_, ?_, ?_⟩ <;> decide +kernel

theorem wit_AccessCommandsComplete_18 : ∃ p : Packet, ∃ u : Nat, ∃ off : Nat, ∃ s : State, p.op = opAtomic ∧ p.label = 0 ∧
    s.arrived p = true ∧ mapAddr p.a48 = .csr u off := by
  refine ⟨wBy 3 (0x0E0000000000 + uClk * 0x1000000) 1, uClk, 0, wGot (wBy 3 (0x0E0000000000 + uClk * 0x1000000) 1), ?_, ?_, ?_, ?_⟩ <;> decide +kernel

theorem wit_PortCommandsComplete_1 : ∃ p : Fin 16, ∃ pri : Fin 4, ∃ response : Bool, ∃ lane : Nat, ∃ l : Link, ∃ pkt : Packet,
    ∃ r : List Packet, ∃ s : State, lane = 2 * pri + boolNat response ∧ s.dom (150 + p.val / 4) = domRun ∧ s.clk.halted = false ∧
    l = s.lnk p ∧ SMap.get [] l.arrived lane = pkt :: r ∧ ∃ out, out = linkPacket s p lane pkt ∧ out.1 = true := by
  refine ⟨15, 3, true, 7, { arrived := [(7, [wRspp])] }, wRspp, [], wLnkS, rfl, ?_, ?_, rfl, ?_, _, rfl, ?_⟩ <;> decide +kernel

theorem wit_PortCommandsComplete_2 : ∃ node : BitVec 7, ∃ port : BitVec 4, ∃ s : State, ∃ n, n = node.toNat ∧ ∃ k, k = port.toNat ∧
    portOccupied n k = true ∧ k ≠ 1 ∧ k < 9 ∧ ((k ≠ 0 ∨ (s.regionRuns n = true ∧ fpActs s n = true))) ∧ s.clk.halted = false := by
  refine ⟨96, 6, { State.reset with clk := {} }, 96, rfl, 6, rfl, ?_, ?_, ?_, ?_, ?_⟩ <;> decide +kernel

theorem wit_PortCommandsComplete_3 : ∃ p : Packet, ∃ n : Nat, ∃ k : Nat, ∃ code : Nat, ∃ o : Outst, ∃ np : NetPort, ∃ s : State,
    n = p.dst.toNat / 16 ∧ k = p.dst.toNat % 16 ∧ p ∈ s.net.rsps ∧ portOccupied n k = true ∧ k ≠ 12 ∧ rspWaits s p = false ∧
    rspTurn s p = true ∧ code = codeOf n k ∧ ∃ s1 : State, s1 = { s with net := { s.net with rsps := s.net.rsps.erase p } } ∧
    np = s1.netPort code ∧ np.outst.find? (fun o => o.wireTag == p.tag.toNat) = some o := by
  refine ⟨wRspp, 96, 6, 1542, ⟨7, wPkt, wPkt, 0, false⟩, { outst := [⟨7, wPkt, wPkt, 0, false⟩] }, wRspS, rfl, rfl, ?_, ?_, ?_, ?_, ?_, rfl, _, rfl, rfl, ?_⟩ <;> decide +kernel

theorem wit_PortCommandsComplete_4 : ∃ node : BitVec 7, ∃ port : BitVec 4, ∃ tag : BitVec 16, ∃ k : Nat, ∃ o : Outst, ∃ np : NetPort,
    ∃ s : State, s.clk.halted = false ∧ k = codeOf node.toNat port.toNat ∧ np = s.netPort k ∧
    np.outst.find? (fun o => o.wireTag == tag.toNat) = some o := by
  refine ⟨31, 6, 7, codeOf 31 6, ⟨7, wPkt, wPkt, 0, false⟩, { outst := [⟨7, wPkt, wPkt, 0, false⟩] }, wPortOut, ?_, rfl, rfl, ?_⟩ <;> decide +kernel

theorem wit_PortCommandsComplete_5 : ∃ p : Packet, ∃ n : Nat, ∃ t : State, ∃ s : State, p ∈ s.net.reqs ∧ p.op = opLmsg ∧
    p.dst.toNat = codeOf 96 6 ∧ p.ext.toNat / 2 ^ 60 = 2 ∧ t = s.takeReq p ∧ relaySession t p = some n := by
  refine ⟨wRel, 31, wRelS.takeReq wRel, wRelS, ?_, ?_, ?_, ?_, rfl, ?_⟩ <;> decide +kernel

/-! Chunk 16: dict. -/

def wRec (cs sub index arg : Nat) (data : List Byte) : List Byte := [BitVec.ofNat 8 cs, BitVec.ofNat 8 sub] ++ toLeBytes 2 index ++
    toLeBytes 4 arg ++ data
def wQ (r : List Byte) : DictReq := ⟨3, 1, .mailbox 0, r⟩
def wAsk (r : List Byte) (x : Session) (f : FuseState) (m : Overlay) (pres : Nat) : State :=
  { (((State.reset.setFld uMgt F.mgtBootPhase 5).setFld uMgt F.mgtPresStatusPresent pres).setFld uMgt F.mgtPresStatusSealBroken 0) with
    mode := { dormant := false, overlay := m }, fuse := f, dict := { queue := [wQ r], session := [(3, x)] } }
def wAsk0 (r : List Byte) (x : Session) (f : FuseState) (m : Overlay) (pres : Nat) : State :=
  State.draw { wAsk r x f m pres with dict := { queue := [], session := [(3, x)] } }
theorem wServes (r : List Byte) (x : Session) (f : FuseState) (m : Overlay) (pres : Nat)
  (h : (wAsk r x f m pres).serving = true ∧ (wAsk r x f m pres).bootPhase = 5 ∧ (((wAsk r x f m pres).ses 3).last.map (·.1)) ≠ some 1) :
  ServesFirst (wAsk r x f m pres) (wQ r) (wAsk0 r x f m pres) := ⟨h.1, h.2.1, rfl, show (3 : Nat) ≠ noSession by decide, h.2.2, rfl⟩
theorem wRecData (cs sub index arg : Nat) (d : List Byte) (h : d.length = 48) : ((wQ (wRec cs sub index arg d)).record.drop 8).take 48 = d := List.take_of_length_le (Nat.le_of_eq h)
def wRead : List Byte := wRec 1 1 0xA001 0 []
def wWrite : List Byte := wRec 2 1 0xA001 1 [3]

theorem wit_DictionaryRecordsComplete_1 : ∃ e : DictEnv, ∃ q : DictReq, ∃ o : ObjSub, ∃ bs : List Byte, ∃ s0 : State, ∃ t : State,
    ∃ s : State, ServesFirst s q s0 ∧ ∃ s1, s1 = closeXfer s0 q.session ∧ recCs q.record = 1 ∧
    findSub s1 q.session e (recIndex q.record) (recSub q.record) = .ok o ∧ o.acc ≠ .wo ∧
    readValue s1 q.session e (recIndex q.record) (recSub q.record) o = (t, .ok bs) ∧ bs.length ≤ rmax q.via - 8 := by
  refine ⟨quiet, wQ (wRead), _, _, wAsk0 (wRead) {} {} .none 1, _, wAsk (wRead) {} {} .none 1, ?_, _, rfl, ?_, rfl, ?_, rfl, ?_⟩
  <;> first | exact wServes _ _ _ _ _ (by decide +kernel) | decide +kernel | rfl

theorem wit_DictionaryRecordsComplete_2 : ∃ e : DictEnv, ∃ q : DictReq, ∃ o : ObjSub, ∃ s0 : State, ∃ t : State, ∃ s : State,
    ServesFirst s q s0 ∧ ∃ s1, s1 = closeXfer s0 q.session ∧ recCs q.record = 2 ∧
    admitWrite s1 q.session e (recIndex q.record) (recSub q.record) (recArg q.record) (q.record.getD 8 0) = .ok o ∧
    recArg q.record ≤ rmax q.via - 8 ∧ writeValue s1 q.session e (recIndex q.record) (recSub q.record) o ((q.record.drop 8).take (recArg q.record)) = (t, none) := by
  refine ⟨quiet, wQ (wWrite), _, wAsk0 (wWrite) {} {} .none 1, _, wAsk (wWrite) {} {} .none 1, ?_, _, rfl, ?_, rfl, ?_, rfl⟩
  <;> first | exact wServes _ _ _ _ _ (by decide +kernel) | decide +kernel | rfl

theorem wit_DictionaryRecordsComplete_3 : ∃ e : DictEnv, ∃ q : DictReq, ∃ o : ObjSub, ∃ bs : List Byte, ∃ s0 : State, ∃ t : State,
    ∃ s : State, ServesFirst s q s0 ∧ ∃ s1, s1 = closeXfer s0 q.session ∧ recCs q.record = 3 ∧
    findSub s1 q.session e (recIndex q.record) (recSub q.record) = .ok o ∧ o.acc ≠ .wo ∧
    readValue s1 q.session e (recIndex q.record) (recSub q.record) o = (t, .ok bs) ∧ bs ≠ [] := by
  refine ⟨quiet, wQ (wRec 3 1 0xA001 0 []), _, _, wAsk0 (wRec 3 1 0xA001 0 []) {} {} .none 1, _, wAsk (wRec 3 1 0xA001 0 []) {} {} .none 1, ?_, _, rfl, ?_, rfl, ?_, rfl, ?_⟩
  <;> first | exact wServes _ _ _ _ _ (by decide +kernel) | decide +kernel | rfl

theorem wit_DictionaryRecordsComplete_4 : ∃ q : DictReq, ∃ o : ObjSub, ∃ s0 : State, ∃ s : State, ServesFirst s q s0 ∧ ∃ s1,
    s1 = closeXfer s0 q.session ∧ recCs q.record = 4 ∧ recArg q.record ≠ 0 ∧
    admitWrite s1 q.session quiet (recIndex q.record) (recSub q.record) (recArg q.record) 0 = .ok o := by
  refine ⟨wQ (wRec 4 1 0xA001 1 []), _, wAsk0 (wRec 4 1 0xA001 1 []) {} {} .none 1, wAsk (wRec 4 1 0xA001 1 []) {} {} .none 1, ?_, _, rfl, ?_, ?_, rfl⟩
  <;> first | exact wServes _ _ _ _ _ (by decide +kernel) | decide +kernel | rfl

theorem wit_DictionaryRecordsComplete_5 : ∃ q : DictReq, ∃ x : Xfer, ∃ k : Nat, ∃ s0 : State, ∃ s : State, ServesFirst s q s0 ∧
    recCs q.record = 5 ∧ (s0.ses q.session).silent = false ∧ (s0.ses q.session).xfer = some x ∧ x.write = false ∧ k = recArg q.record ∧
    k = x.last + 1 ∧ k ≤ (x.total + x.room - 1) / x.room := by
  refine ⟨wQ (wRec 5 0 0 1 []), ⟨false, 0xA001, 1, 1, 56, 0, [0], []⟩, 1, wAsk0 (wRec 5 0 0 1 []) { xfer := some ⟨false, 0xA001, 1, 1, 56, 0, [0], []⟩ } {} .none 1, wAsk (wRec 5 0 0 1 []) { xfer := some ⟨false, 0xA001, 1, 1, 56, 0, [0], []⟩ } {} .none 1, ?_, ?_, ?_, ?_, ?_, rfl, ?_, ?_⟩
  <;> first | exact wServes _ _ _ _ _ (by decide +kernel) | decide +kernel | rfl

theorem wit_DictionaryRecordsComplete_6 : ∃ q : DictReq, ∃ x : Xfer, ∃ k : Nat, ∃ need : Nat, ∃ s0 : State, ∃ s : State,
    ServesFirst s q s0 ∧ recCs q.record = 5 ∧ (s0.ses q.session).silent = false ∧ (s0.ses q.session).xfer = some x ∧ x.write = true ∧
    k = recArg q.record ∧ k = x.last + 1 ∧ k < (x.total + x.room - 1) / x.room ∧ need = min x.room (x.total - (k - 1) * x.room) ∧
    need ≤ (q.record.drop 8).length ∧ ((q.record.drop 8).drop need).any (· != 0) = false := by
  refine ⟨wQ (wRec 5 0 0 1 (List.replicate 56 7)), ⟨true, 0xA001, 1, 100, 56, 0, [], []⟩, 1, 56, wAsk0 (wRec 5 0 0 1 (List.replicate 56 7)) { xfer := some ⟨true, 0xA001, 1, 100, 56, 0, [], []⟩ } {} .none 1, wAsk (wRec 5 0 0 1 (List.replicate 56 7)) { xfer := some ⟨true, 0xA001, 1, 100, 56, 0, [], []⟩ } {} .none 1, ?_, ?_, ?_, ?_, ?_, rfl, ?_, ?_, rfl, ?_, ?_⟩
  <;> first | exact wServes _ _ _ _ _ (by decide +kernel) | decide +kernel | rfl

theorem wit_DictionaryRecordsComplete_7 : ∃ e : DictEnv, ∃ q : DictReq, ∃ x : Xfer, ∃ y : Xfer, ∃ o : ObjSub, ∃ k : Nat, ∃ need : Nat,
    ∃ s0 : State, ∃ t : State, ∃ s : State, ServesFirst s q s0 ∧ recCs q.record = 5 ∧ (s0.ses q.session).silent = false ∧
    (s0.ses q.session).xfer = some x ∧ x.write = true ∧ k = recArg q.record ∧ k = x.last + 1 ∧ k = (x.total + x.room - 1) / x.room ∧
    need = min x.room (x.total - (k - 1) * x.room) ∧ need ≤ (q.record.drop 8).length ∧ ((q.record.drop 8).drop need).any (· != 0) = false ∧
    ∃ rsp, rsp = rspRecord q.record 0x85 k ∧ y = { x with last := k, data := x.data ++ (q.record.drop 8).take need, rsp := rsp } ∧
    findSub s0 q.session e x.index x.sub = .ok o ∧ o.acc ≠ .rwp ∧ y.data ≠ [1] ∧ writeValue s0 q.session e x.index x.sub o y.data = (t,
    none) := by
  refine ⟨quiet, wQ (wRec 5 0 0 1 [3]), ⟨true, 0xA001, 1, 1, 56, 0, [], []⟩, _, _, 1, 1, wAsk0 (wRec 5 0 0 1 [3]) { xfer := some ⟨true, 0xA001, 1, 1, 56, 0, [], []⟩ } {} .none 1, _, wAsk (wRec 5 0 0 1 [3]) { xfer := some ⟨true, 0xA001, 1, 1, 56, 0, [], []⟩ } {} .none 1, ?_, ?_, ?_, ?_, ?_, rfl, ?_, ?_, rfl, ?_, ?_, _, rfl, rfl, rfl, ?_, ?_, rfl⟩
  <;> first | exact wServes _ _ _ _ _ (by decide +kernel) | decide +kernel | rfl

theorem wit_DictionaryRecordsComplete_8 : ∃ q : DictReq, ∃ s0 : State, ∃ s : State, ServesFirst s q s0 ∧ recCs q.record = 7 := by
  refine ⟨wQ (wRec 7 0 0 0 []), wAsk0 (wRec 7 0 0 0 []) {} {} .none 1, wAsk (wRec 7 0 0 0 []) {} {} .none 1, ?_, ?_⟩
  <;> first | exact wServes _ _ _ _ _ (by decide +kernel) | decide +kernel | rfl

theorem wit_DictionaryRecordsComplete_9 : ∃ session : Fin 32, ∃ s : State, ∃ x, (s.ses session).xfer = some x ∧
    x.last * x.room < x.total := by
  refine ⟨31, { State.reset with dict := { session := [(31, { xfer := some ⟨false, 0xA001, 1, 1, 56, 0, [0], []⟩ })] } }, ⟨false, 0xA001, 1, 1, 56, 0, [0], []⟩, ?_, ?_⟩ <;> decide +kernel

theorem wit_SecurityObjectsComplete_1 : ∃ q : DictReq, ∃ k : Nat, ∃ s0 : State, ∃ s : State, ServesFirst s q s0 ∧ ∃ s1,
    s1 = closeXfer s0 q.session ∧ recCs q.record = 2 ∧ recIndex q.record = 0xA001 ∧ recSub q.record = 2 ∧ recArg q.record = 48 ∧
    presenceCheck s1 = none ∧ k = s1.selOf q.session 0xA001 1 ∧ keySlotState s1 k = 0 := by
  refine ⟨wQ (wRec 2 2 0xA001 48 (List.replicate 48 0)), 0, wAsk0 (wRec 2 2 0xA001 48 (List.replicate 48 0)) {} {} .none 1, wAsk (wRec 2 2 0xA001 48 (List.replicate 48 0)) {} {} .none 1, ?_, _, rfl, ?_, ?_, ?_, ?_, ?_, rfl, ?_⟩
  <;> first | exact wServes _ _ _ _ _ (by decide +kernel) | decide +kernel | rfl

theorem wit_SecurityObjectsComplete_2 : ∃ q : DictReq, ∃ k : Nat, ∃ s0 : State, ∃ s : State, ServesFirst s q s0 ∧ ∃ s1,
    s1 = closeXfer s0 q.session ∧ recCs q.record = 2 ∧ recIndex q.record = 0xA001 ∧ recSub q.record = 3 ∧ recArg q.record = 1 ∧
    (q.record.drop 8).take 1 = [0x52] ∧ presenceCheck s1 = none ∧ k = s1.selOf q.session 0xA001 1 ∧ ((∃ j < 4, j ≠ k ∧
    keySlotState s1 j = 1)) := by
  refine ⟨wQ (wRec 2 3 0xA001 1 [0x52]), 0, wAsk0 (wRec 2 3 0xA001 1 [0x52]) {} { slots := [(1, 0)] } .none 1, wAsk (wRec 2 3 0xA001 1 [0x52]) {} { slots := [(1, 0)] } .none 1, ?_, _, rfl, ?_, ?_, ?_, ?_, ?_, ?_, rfl, ?_⟩
  <;> first | exact wServes _ _ _ _ _ (by decide +kernel) | decide +kernel | exact ⟨1, by decide, by decide, by decide +kernel⟩

theorem wit_SecurityObjectsComplete_3 : ∃ q : DictReq, ∃ s0 : State, ∃ s : State, ServesFirst s q s0 ∧ ∃ s1, s1 = closeXfer s0 q.session ∧
    recCs q.record = 2 ∧ recIndex q.record = 0xA002 ∧ recSub q.record = 1 ∧ recArg q.record = 32 ∧ presenceCheck s1 = none := by
  refine ⟨wQ (wRec 2 1 0xA002 32 (List.replicate 32 0)), wAsk0 (wRec 2 1 0xA002 32 (List.replicate 32 0)) {} {} .none 1, wAsk (wRec 2 1 0xA002 32 (List.replicate 32 0)) {} {} .none 1, ?_, _, rfl, ?_, ?_, ?_, ?_, ?_⟩
  <;> first | exact wServes _ _ _ _ _ (by decide +kernel) | decide +kernel | rfl

theorem wit_SecurityObjectsComplete_4 : ∃ q : DictReq, ∃ s0 : State, ∃ s : State, ServesFirst s q s0 ∧ ∃ s1, s1 = closeXfer s0 q.session ∧
    recCs q.record = 2 ∧ recIndex q.record = 0xA003 ∧ recSub q.record = 4 ∧ recArg q.record = 48 ∧ presenceCheck s1 = none ∧
    s1.fuse.expert = none := by
  refine ⟨wQ (wRec 2 4 0xA003 48 (List.replicate 48 0)), wAsk0 (wRec 2 4 0xA003 48 (List.replicate 48 0)) {} {} .none 1, wAsk (wRec 2 4 0xA003 48 (List.replicate 48 0)) {} {} .none 1, ?_, _, rfl, ?_, ?_, ?_, ?_, ?_, ?_⟩
  <;> first | exact wServes _ _ _ _ _ (by decide +kernel) | decide +kernel | rfl

theorem wit_SecurityObjectsComplete_5 : ∃ e : DictEnv, ∃ q : DictReq, ∃ s0 : State, ∃ s : State, ServesFirst s q s0 ∧ ∃ s1,
    s1 = closeXfer s0 q.session ∧ recCs q.record = 1 ∧ recIndex q.record = 0xA003 ∧ recSub q.record = 1 ∧
    (s1.dict.wrong = false ∨ e.soon = false) ∧ ∃ c, c = s1.freshBytes 48 ∧ c.length = 48 := by
  refine ⟨⟨0, false, true⟩, wQ (wRec 1 1 0xA003 0 []), wAsk0 (wRec 1 1 0xA003 0 []) {} {} .none 1, wAsk (wRec 1 1 0xA003 0 []) {} {} .none 1, ?_, _, rfl, ?_, ?_, ?_, ?_, _, rfl, ?_⟩
  <;> first | exact wServes _ _ _ _ _ (by decide +kernel) | decide +kernel | rfl

theorem wit_SecurityObjectsComplete_6 : ∃ e : DictEnv, ∃ q : DictReq, ∃ key : BitVec 384, ∃ c : BitVec 384, ∃ s0 : State, ∃ s : State,
    ServesFirst s q s0 ∧ ∃ s1, s1 = closeXfer s0 q.session ∧ recCs q.record = 2 ∧ recIndex q.record = 0xA003 ∧ recSub q.record = 2 ∧
    recArg q.record = 48 ∧ s1.fuse.expert = some key ∧ s1.fuse.returned = false ∧ (s1.ses q.session).challenge = some c ∧ e.late = false ∧
    (q.record.drop 8).take 48 = Crypto.hmac384 (toBeBytes 48 key.toNat) (toBeBytes 48 c.toNat ++ uid ++ [BitVec.ofNat 8 q.session]) := by
  refine ⟨quiet, wQ (wRec 2 2 0xA003 48 (Crypto.hmac384 (toBeBytes 48 (5 : BitVec 384).toNat) (toBeBytes 48 (9 : BitVec 384).toNat ++ uid ++ [BitVec.ofNat 8 3]))), 5, 9, wAsk0 (wRec 2 2 0xA003 48 (Crypto.hmac384 (toBeBytes 48 (5 : BitVec 384).toNat) (toBeBytes 48 (9 : BitVec 384).toNat ++ uid ++ [BitVec.ofNat 8 3]))) { challenge := some 9 } { expert := some 5 } .none 1, wAsk (wRec 2 2 0xA003 48 (Crypto.hmac384 (toBeBytes 48 (5 : BitVec 384).toNat) (toBeBytes 48 (9 : BitVec 384).toNat ++ uid ++ [BitVec.ofNat 8 3]))) { challenge := some 9 } { expert := some 5 } .none 1, ?_, _, rfl, ?_, ?_, ?_, ?_, ?_, ?_, ?_, ?_, ?_⟩
  <;> first | exact wServes _ _ _ _ _ (by decide +kernel) | exact wRecData _ _ _ _ _ (wKxLength _ _) | decide +kernel

theorem wit_SecurityObjectsComplete_7 : ∃ q : DictReq, ∃ s0 : State, ∃ s : State, ServesFirst s q s0 ∧ ∃ s1, s1 = closeXfer s0 q.session ∧
    recCs q.record = 2 ∧ recIndex q.record = 0xA003 ∧ recSub q.record = 3 ∧ recArg q.record = 1 ∧ (q.record.drop 8).take 1 = [1] ∧
    presenceCheck s1 = none := by
  refine ⟨wQ (wRec 2 3 0xA003 1 [1]), wAsk0 (wRec 2 3 0xA003 1 [1]) {} {} .none 1, wAsk (wRec 2 3 0xA003 1 [1]) {} {} .none 1, ?_, _, rfl, ?_, ?_, ?_, ?_, ?_, ?_⟩
  <;> first | exact wServes _ _ _ _ _ (by decide +kernel) | decide +kernel | rfl

theorem wit_SecurityObjectsComplete_8 : ∃ q : DictReq, ∃ s0 : State, ∃ s : State, ServesFirst s q s0 ∧ recCs q.record = 2 ∧
    recIndex q.record = 0xA003 ∧ recSub q.record = 3 ∧ recArg q.record = 1 ∧ (q.record.drop 8).take 1 = [0] := by
  refine ⟨wQ (wRec 2 3 0xA003 1 [0]), wAsk0 (wRec 2 3 0xA003 1 [0]) {} {} .none 1, wAsk (wRec 2 3 0xA003 1 [0]) {} {} .none 1, ?_, ?_, ?_, ?_, ?_, ?_⟩
  <;> first | exact wServes _ _ _ _ _ (by decide +kernel) | decide +kernel | rfl

theorem wit_SecurityObjectsComplete_9 : ∃ q : DictReq, ∃ r : State × List Byte, ∃ s0 : State, ∃ s : State, ServesFirst s q s0 ∧ ∃ s1,
    s1 = closeXfer s0 q.session ∧ recCs q.record = 1 ∧ recIndex q.record = 0xB001 ∧ recSub q.record = 2 ∧ r = attest s1 q.session ∧
    r.2.length ≤ rmax q.via - 8 := by
  refine ⟨wQ (wRec 1 2 0xB001 0 []), _, wAsk0 (wRec 1 2 0xB001 0 []) {} {} .none 1, wAsk (wRec 1 2 0xB001 0 []) {} {} .none 1, ?_, _, rfl, ?_, ?_, ?_, rfl, ?_⟩
  <;> first | exact wServes _ _ _ _ _ (by decide +kernel) | decide +kernel | rfl

theorem wit_SecurityObjectsComplete_10 : ∃ q : DictReq, ∃ s0 : State, ∃ s : State, ServesFirst s q s0 ∧ ∃ s1, s1 = closeXfer s0 q.session ∧
    recCs q.record = 2 ∧ recIndex q.record = 0xA0F0 ∧ recSub q.record = 1 ∧ recArg q.record = 1 ∧ (q.record.drop 8).take 1 = [0x52] ∧
    presenceCheck s1 = none ∧ s1.modeNo = 7 := by
  refine ⟨wQ (wRec 2 1 0xA0F0 1 [0x52]), wAsk0 (wRec 2 1 0xA0F0 1 [0x52]) {} {} .service 1, wAsk (wRec 2 1 0xA0F0 1 [0x52]) {} {} .service 1, ?_, _, rfl, ?_, ?_, ?_, ?_, ?_, ?_, ?_⟩
  <;> first | exact wServes _ _ _ _ _ (by decide +kernel) | decide +kernel | rfl

theorem wit_SecurityObjectsComplete_11 : ∃ steps : Fin 6, ∃ q : DictReq, ∃ rest : List DictReq, ∃ s : State, s.serving = true ∧
    s.dict.queue = q :: rest ∧ recCs q.record = 2 ∧ recIndex q.record = 0xA0F0 ∧ recSub q.record = 1 ∧ recArg q.record = 1 ∧
    q.record.getD 8 0 = 0x52 ∧ presenceCheck s = none ∧ s.modeNo = 7 ∧ s.fuse.returned = false ∧ steps.val < 5 := by
  refine ⟨4, wQ (wRec 2 1 0xA0F0 1 [0x52]), [], wAsk (wRec 2 1 0xA0F0 1 [0x52]) {} {} .service 1, ?_, ?_, ?_, ?_, ?_, ?_, ?_, ?_, ?_, ?_, ?_⟩ <;> decide +kernel

theorem wit_SecurityObjectsComplete_13 : ∃ s : State, s.flag uMgt F.mgtPresStatusHeld = true := by
  refine ⟨State.reset.setFld uMgt F.mgtPresStatusHeld 1, ?_⟩
  decide +kernel

theorem wit_SecurityObjectsComplete_15 : ∃ s : State, s.flag uMgt F.mgtPresStatusSealIntact = true := by
  refine ⟨State.reset.setFld uMgt F.mgtPresStatusSealIntact 1, ?_⟩
  decide +kernel

theorem wit_SecurityObjectsComplete_17 : ∃ s : State, returnOpen s = true ∧ s.bootPhase ≠ 5 ∧ s.mode.dormant = false := by
  refine ⟨{ State.reset with fuse := { returnStarted := true }, mode := { dormant := false } }, ?_, ?_, ?_⟩ <;> decide +kernel

theorem wit_SecurityObjectsComplete_18 : ∃ slot : Fin 8, ∃ s : State, (2 ≤ slot.val ∨ s.bootPhase ≠ 5) := by
  refine ⟨7, State.reset.setFld uMgt F.mgtBootPhase 5, ?_⟩
  decide +kernel

theorem wit_SecurityObjectsComplete_19 : ∃ slot : Fin 8, ∃ s : State, slot.val < 2 ∧ s.bootPhase = 5 := by
  refine ⟨1, State.reset.setFld uMgt F.mgtBootPhase 5, ?_, ?_⟩ <;> decide +kernel

theorem wit_CanAndRelayCommandsComplete_1 : ∃ c : Fin 2, ∃ id : BitVec 29, ∃ data : List Byte, ∃ s : State, canOn s c = true ∧
    s.mode.dormant = false ∧ canLength data.length = data.length ∧ ∃ x, x = id.toNat ∧ bitsOf x 28 21 = 0xB7 ∧
    bitsOf x 20 14 = s.fld uMgt F.mgtStrapNodeId ∧ bitOf x 13 = false ∧ (recordNeed data ≤ data.length ∨ (8 ≤ data.length ∧
    64 < recordNeed data)) := by
  refine ⟨1, 0x16ffc000, List.replicate 8 0, { (((State.reset.setFld uMgt F.mgtStrapNodeId 127).setFld uCan F.mgtCanCtrlEn 1 1).setFld uCan F.mgtCanStatState 0 1).setFld uCan F.mgtCanStatTec 0 1 with mode := { dormant := false } }, ?_, ?_, ?_, 385859584, rfl, ?_, ?_, ?_, ?_⟩ <;> decide +kernel

theorem wit_CanAndRelayCommandsComplete_2 : ∃ c : Fin 2, ∃ id : BitVec 29, ∃ data : List Byte, ∃ s : State, canOn s c = true ∧
    s.mode.dormant = false ∧ canLength data.length = data.length ∧ ∃ x, x = id.toNat ∧
    ((bitsOf x 28 21 ≠ 0xB7 ∨ bitsOf x 20 14 ≠ s.fld uMgt F.mgtStrapNodeId ∨ bitOf x 13 = true ∨ (data.length < recordNeed data ∧
    (data.length < 8 ∨ recordNeed data ≤ 64)))) := by
  refine ⟨1, 0x16ffc000, List.replicate 7 0, { (((State.reset.setFld uMgt F.mgtStrapNodeId 127).setFld uCan F.mgtCanCtrlEn 1 1).setFld uCan F.mgtCanStatState 0 1).setFld uCan F.mgtCanStatTec 0 1 with mode := { dormant := false } }, ?_, ?_, ?_, 385859584, rfl, ?_⟩ <;> decide +kernel

theorem wit_CanAndRelayCommandsComplete_3 : ∃ c : Fin 2, ∃ transmit : Bool, ∃ step : BitVec 4, ∃ s : State, canOn s c = true ∧
    ((step = 8 ∨ (step = 1 ∧ transmit = false))) ∧ transmit = true ∧ ∃ n, n = s.fld uCan F.mgtCanStatTec c + 8 ∧ 255 < n := by
  refine ⟨1, true, 8, { (((State.reset.setFld uMgt F.mgtStrapNodeId 127).setFld uCan F.mgtCanCtrlEn 1 1).setFld uCan F.mgtCanStatState 0 1).setFld uCan F.mgtCanStatTec 248 1 with mode := { dormant := false } }, ?_, ?_, ?_, 256, rfl, ?_⟩ <;> decide +kernel

theorem wit_CanAndRelayCommandsComplete_4 : ∃ c : Fin 2, ∃ transmit : Bool, ∃ step : BitVec 4, ∃ s : State, canOn s c = true ∧
    ((step = 8 ∨ (step = 1 ∧ transmit = false))) ∧ transmit = true ∧ ∃ n, n = s.fld uCan F.mgtCanStatTec c + 8 ∧ n ≤ 255 := by
  refine ⟨1, true, 8, { (((State.reset.setFld uMgt F.mgtStrapNodeId 127).setFld uCan F.mgtCanCtrlEn 1 1).setFld uCan F.mgtCanStatState 0 1).setFld uCan F.mgtCanStatTec 247 1 with mode := { dormant := false } }, ?_, ?_, ?_, 255, rfl, ?_⟩ <;> decide +kernel

theorem wit_CanAndRelayCommandsComplete_5 : ∃ c : Fin 2, ∃ transmit : Bool, ∃ step : BitVec 4, ∃ s : State, canOn s c = true ∧
    ((step = 8 ∨ (step = 1 ∧ transmit = false))) ∧ transmit = false := by
  refine ⟨1, false, 1, { (((State.reset.setFld uMgt F.mgtStrapNodeId 127).setFld uCan F.mgtCanCtrlEn 1 1).setFld uCan F.mgtCanStatState 0 1).setFld uCan F.mgtCanStatTec 0 1 with mode := { dormant := false } }, ?_, ?_, ?_⟩ <;> decide +kernel

theorem wit_CanAndRelayCommandsComplete_6 : ∃ c : Fin 2, ∃ s : State, s.fld uCan F.mgtCanStatState c = 2 := by
  refine ⟨1, { (((State.reset.setFld uMgt F.mgtStrapNodeId 127).setFld uCan F.mgtCanCtrlEn 1 1).setFld uCan F.mgtCanStatState 2 1).setFld uCan F.mgtCanStatTec 0 1 with mode := { dormant := false } }, ?_⟩
  decide +kernel

theorem wit_CanAndRelayCommandsComplete_7 : ∃ q : DictReq, ∃ d : List Byte, ∃ x : Session, ∃ s0 : State, ∃ s : State, ServesFirst s q s0 ∧
    ∃ s1, s1 = closeXfer s0 q.session ∧ recCs q.record = 2 ∧ recIndex q.record = 0xC000 ∧ recSub q.record = 1 ∧ 16 ≤ recArg q.record ∧
    recArg q.record ≤ 4104 ∧ recArg q.record ≤ rmax q.via - 8 ∧ d = (q.record.drop 8).take (recArg q.record) ∧ ∃ b : Nat → Nat,
    b = (fun i => (d.getD i 0).toNat) ∧ b 0 ≤ 15 ∧ b 6 ≤ 15 ∧ x = s1.ses q.session ∧ x.relay.state ≠ 1 := by
  refine ⟨wQ (wRec 2 1 0xC000 4088 (List.replicate 4088 0)), _, {}, wAsk0 (wRec 2 1 0xC000 4088 (List.replicate 4088 0)) {} {} .none 1, wAsk (wRec 2 1 0xC000 4088 (List.replicate 4088 0)) {} {} .none 1, ?_, _, rfl, ?_, ?_, ?_, ?_, ?_, ?_, rfl, _, rfl, ?_, ?_, rfl, ?_⟩
  <;> first | exact wServes _ _ _ _ _ (by decide +kernel) | decide +kernel | rfl

theorem wit_CanAndRelayCommandsComplete_8 : ∃ session : Fin 32, ∃ s : State, ∃ x, x = s.ses session ∧ x.relay.state = 1 := by
  refine ⟨31, { State.reset with dict := { session := [(31, { relay := { state := 1 } })] } }, { relay := { state := 1 } }, rfl, ?_⟩
  decide +kernel

/-! Chunk 17: gen. -/

def wClBits (l : List Nat) : State := l.foldl (fun (s : State) b =>
  s.setFrame 0 0 (ordCluster 0 (b / 16)) (s.frame 0 0 (ordCluster 0 (b / 16)) ||| BitVec.ofNat _ (2 ^ (b % 16)))) wOn
theorem wit_FlipFlopsFollowTheirRule_5_dsel : ∀ d < 3, ∃ s : State, cellField s 0 0 0 0 17 2 = d ∧ bitOf (controlSet s 0 0 0 0) 5 = false ∧
    bitOf (controlSet s 0 0 0 0) 4 = false ∧ s.active 0 = some 0 := by
  intro d h
  obtain rfl | rfl | rfl : d = 0 ∨ d = 1 ∨ d = 2 := by omega
  · exact ⟨wOn, by decide +kernel, by decide +kernel, by decide +kernel, by decide +kernel⟩
  · exact ⟨wClBits [17], by decide +kernel, by decide +kernel, by decide +kernel, by decide +kernel⟩
  · exact ⟨wClBits [18], by decide +kernel, by decide +kernel, by decide +kernel, by decide +kernel⟩

theorem wit_BudgetsAdmitAndCarryDebt_2 : ∃ s : State, ∃ c : Nat, ∃ i : Nat, s.admits c i = true := by
  refine ⟨State.reset, 9, 0, ?_⟩
  decide +kernel

theorem wit_BudgetsAdmitAndCarryDebt_3 : ∃ s : State, ∃ c : Nat, ∃ i : Nat, s.admits c i = false := by
  refine ⟨State.reset.setMeter 0 0 { u := 2 ^ 60 }, 0, 0, ?_⟩
  decide +kernel

theorem wit_BudgetsAdmitAndCarryDebt_5 : ∃ s : State, ∃ c : Nat, ∃ i : Nat, ∃ item : Nat, ∃ frets : List (List Nat),
    (s.meter c i).u = (s.meter c i).debt ∧ (s.meter c i).u ≤ item ∧ ((∀ f ∈ frets, ∀ x ∈ f, x ≤ item)) := by
  refine ⟨State.reset, 0, 0, 3, [[3, 0], [1]], ?_, ?_, ?_⟩ <;> decide +kernel

theorem wit_MemoriesReadBack_1 : ∃ off : Nat, ∃ i : Nat, ∃ bs : List Byte, i < bs.length ∧ partitionOf (off + i) = .general := by
  refine ⟨0x5FFFFFE, 1, [1, 2], ?_, ?_⟩ <;> decide +kernel

theorem wit_MemoriesReadBack_2 : ∃ off : Nat, ∃ o : Nat, ∃ bs : List Byte, (o < off ∨ off + bs.length ≤ o) := by
  refine ⟨1, 0, [], ?_⟩
  decide +kernel

theorem wit_MemoriesReadBack_5 : ∃ n : Nat, ∃ o : Nat, ∃ n' : Nat, ∃ o' : Nat, o < 22528 ∧ n < 128 ∧ o' < 22528 ∧ n' < 128 := by
  refine ⟨127, 22527, 127, 22527, ?_, ?_, ?_, ?_⟩ <;> decide +kernel

theorem wit_FlipFlopsFollowTheirRule_1 : ∃ s : State, ∃ n : Nat, s.active n = none := by
  refine ⟨State.reset, 127, ?_⟩
  decide +kernel

theorem wit_FlipFlopsFollowTheirRule_2 : ∃ s : State, ∃ n : Nat, ∃ col : Nat, ∃ row : Nat, ∃ c : Nat, ∃ p : Nat, s.active n = some p ∧
    ∃ cs, cs = controlSet s n col row (cellField s n col row c 19 1) ∧
    (s.ffHeld n (bitsOf cs 2 0) = true ∨ cellField s n col row c 17 2 = 3) := by
  refine ⟨(wClBits [17, 18]), 0, 0, 0, 0, 0, ?_, _, rfl, ?_⟩ <;> decide +kernel

theorem wit_FlipFlopsFollowTheirRule_3 : ∃ s : State, ∃ n : Nat, ∃ col : Nat, ∃ row : Nat, ∃ c : Nat, ∃ p : Nat, s.active n = some p ∧
    ∃ cs, cs = controlSet s n col row (cellField s n col row c 19 1) ∧ s.ffHeld n (bitsOf cs 2 0) = false ∧
    cellField s n col row c 17 2 ≠ 3 := by
  refine ⟨{ wOn with fab := { wOn.fab with trackEdges := [(0, 2)] } }, 0, 0, 0, 0, 0, ?_, _, rfl, ?_, ?_⟩ <;> decide +kernel

theorem wit_FlipFlopsFollowTheirRule_4 : ∃ s : State, ∃ n : Nat, ∃ col : Nat, ∃ row : Nat, ∃ c : Nat, ∃ csn : Nat, ∃ cs : Nat,
    csn = cellField s n col row c 19 1 ∧ cs = controlSet s n col row csn ∧ bitOf cs 5 = true ∧ pinOf s n col row (81 + 2 * csn) = true := by
  refine ⟨wClBits [1557, 951, 956, 957], 0, 0, 0, 0, _, _, rfl, rfl, ?_, ?_⟩ <;> decide +kernel

theorem wit_FlipFlopsFollowTheirRule_5 : ∃ s : State, ∃ n : Nat, ∃ col : Nat, ∃ row : Nat, ∃ c : Nat, ∃ csn : Nat, ∃ cs : Nat,
    csn = cellField s n col row c 19 1 ∧ cs = controlSet s n col row csn ∧ (bitOf cs 5 = false ∨ pinOf s n col row (81 + 2 * csn) = false) ∧
    (bitOf cs 4 = false ∨ pinOf s n col row (80 + 2 * csn) = true) := by
  refine ⟨wOn, 0, 0, 0, 0, _, _, rfl, rfl, ?_, ?_⟩ <;> decide +kernel

theorem wit_FlipFlopsFollowTheirRule_6 : ∃ s : State, ∃ n : Nat, ∃ col : Nat, ∃ row : Nat, ∃ c : Nat, ∃ csn : Nat, ∃ cs : Nat,
    csn = cellField s n col row c 19 1 ∧ cs = controlSet s n col row csn ∧ (bitOf cs 5 = false ∨ pinOf s n col row (81 + 2 * csn) = false) ∧
    bitOf cs 4 = true ∧ pinOf s n col row (80 + 2 * csn) = false := by
  refine ⟨wClBits [1556, 949, 950], 0, 0, 0, 0, _, _, rfl, rfl, ?_, ?_, ?_⟩ <;> decide +kernel

theorem wit_FlipFlopsFollowTheirRule_7 : ∃ s : State, ∃ n : Nat, ∃ col : Nat, ∃ row : Nat, ∃ c : Nat, cellField s n col row c 17 2 = 3 := by
  refine ⟨wClBits [17, 18], 0, 0, 0, 0, ?_⟩
  decide +kernel

theorem wit_ModeCommandsNeedManagement_1 : ∃ icls : BitVec 3, icls ≠ 4 := by
  refine ⟨0, ?_⟩
  decide +kernel

theorem wit_ClaimTakesBestSource_1 : ∃ s : State, ∃ t : Nat, ∃ n : Nat, (n, t) ∈ s.evt.assigned ∧ n ≠ 0 ∧ ((∀ e ∈ s.evt.assigned,
    e.1 ≠ 0)) := by
  refine ⟨{ State.reset with evt := { assigned := [(7, 0), (3, 0)] } }, 0, 7, ?_, ?_, ?_⟩ <;> decide +kernel

end Sys2Proof.Tests
end

/-! SUPPORT. The scope of the model: what a step takes and keeps, a field's write, accesses of registers, the targets of a request, the
state after reset. -/

namespace Sys2Proof.Machine

open Sys2Proof

/-! ### A step takes one command and keeps what is to be kept (R6, R39) -/

/-- Every command answers a next state that keeps the queue, the burned fuses and the canonical form: one case a constructor of `Instr`,
as `exec` dispatches it. -/
theorem exec_kept {a0 s : State} (h : Kept a0 s) : ∀ c : Instr, KeptOut a0 (exec c s)
  | .csrWrite _ => execCsrWrite_kept h
  | .plateSramAccess _ _ _ => execPlateSramAccess_kept h
  | .errorReportSend _ => execErrorReportSend_kept h
  | .spanFence _ => execSpanFence_kept h
  | .fenceClearChannel _ _ => execFenceClearChannel_kept h
  | .fenceClearAll _ => execFenceClearAll_kept h
  | .rotation _ _ _ => execRotation_kept h
  | .rotationSelectSpare _ _ _ _ _ => execRotationSelectSpare_kept h
  | .rotationSweepDone _ _ _ _ _ _ => execRotationSweepDone_kept h
  | .rotationReturn _ _ _ => execRotationReturn_kept h
  | .spareCalibration _ _ _ _ _ _ => execSpareCalibration_kept h
  | .startupCalibration _ _ _ _ _ _ => execStartupCalibration_kept h
  | .forceRepair _ => execForceRepair_kept h
  | .calNow _ => execCalNow_kept h
  | .bmRead _ _ _ _ => execBmRead_kept h
  | .bmWrite _ _ _ _ => execBmWrite_kept h
  | .lineRefetch _ _ => execLineRefetch_kept h
  | .refetchTimeout _ _ => execRefetchTimeout_kept h
  | .lineCmdRefetch _ _ _ => execLineCmdRefetch_kept h
  | .lineCmdRecompute _ _ _ => execLineCmdRecompute_kept h
  | .lineCmdExecute _ => execLineCmdExecute_kept h
  | .push _ _ => execPush_kept h
  | .pop _ _ => execPop_kept h
  | .flush _ => execFlush_kept h
  | .aperturePush _ => execAperturePush_kept h
  | .aperturePop _ => execAperturePop_kept h
  | .peek _ => execPeek_kept h
  | .heldRequestProceed _ => execHeldRequestProceed_kept h
  | .holdTimeout _ _ => execHoldTimeout_kept h
  | .networkTransferDone _ => execNetworkTransferDone_kept h
  | .memoryClearDone => execMemoryClearDone_kept h
  | .nop _ _ => execNop_kept h
  | .halt _ _ => execHalt_kept h
  | .sig _ _ => execSig_kept h
  | .jmp _ _ => execJmp_kept h
  | .loop _ _ => execLoop_kept h
  | .waitd _ _ => execWaitd_kept h
  | .agset _ _ => execAgset_kept h
  | .agadd _ _ => execAgadd_kept h
  | .ftap _ _ => execFtap_kept h
  | .mac _ _ => execMac_kept h
  | .lddl _ _ => execLddl_kept h
  | .ldc _ _ => execLdc_kept h
  | .st _ _ => execSt_kept h
  | .inp _ _ => execIn_kept h
  | .out _ _ => execOut_kept h
  | .outa _ _ => execOuta_kept h
  | .bfly _ _ => execBfly_kept h
  | .bexp _ _ => execBexp_kept h
  | .engineWaitResume _ _ => execEngineWaitResume_kept h
  | .fifoInput _ _ => execFifoInput_kept h
  | .fifoOutput _ _ _ => execFifoOutput_kept h
  | .engineApertureRequest _ => execEngineApertureRequest_kept h
  | .engineStart _ => execEngineStart_kept h
  | .startPin _ _ => execStartPin_kept h
  | .engineStop _ => execEngineStop_kept h
  | .engineStopComplete _ => execEngineStopComplete_kept h
  | .engineClear _ => execEngineClear_kept h
  | .doorbellAdd _ _ => execDoorbellAdd_kept h
  | .imemDomainWrite _ _ => execImemDomainWrite_kept h
  | .ingressAccept _ _ _ => execIngressAccept_kept h
  | .read _ _ => execRead_kept h
  | .write _ _ => execWrite_kept h
  | .atomic _ _ => execAtomic_kept h
  | .responseAccept _ => execResponseAccept_kept h
  | .requestTimeout _ _ _ => execRequestTimeout_kept h
  | .tagRelease _ _ _ => execTagRelease_kept h
  | .noRoute _ => execNoRoute_kept h
  | .wakeHold _ => execWakeHold_kept h
  | .heldPacketDeliver _ => execHeldPacketDeliver_kept h
  | .wakeFail _ _ => execWakeFail_kept h
  | .iqSubmit _ _ _ _ => execIqSubmit_kept h
  | .tsResponse _ _ => execTsResponse_kept h
  | .linkFrameReceive _ _ => execLinkFrameReceive_kept h
  | .ackTimeout _ => execAckTimeout_kept h
  | .linkEnable _ => execLinkEnable_kept h
  | .linkDisable _ => execLinkDisable_kept h
  | .linkRetrain _ => execLinkRetrain_kept h
  | .linkTransmit _ _ => execLinkTransmit_kept h
  | .linkPacketReceive _ _ _ => execLinkPacketReceive_kept h
  | .markSend _ _ => execMarkSend_kept h
  | .dopnd _ _ => execDopnd_kept h
  | .tokenWindowWrite _ _ => execTokenWindowWrite_kept h
  | .descriptorFetch _ _ => execDescriptorFetch_kept h
  | .heldTokenMatch _ _ _ => execHeldTokenMatch_kept h
  | .tokenHoldTimeout _ _ => execTokenHoldTimeout_kept h
  | .tick => execTick_kept h
  | .delayedTokenRelease _ _ => execDelayedTokenRelease_kept h
  | .firingRingArrive _ _ _ => execFiringRingArrive_kept h
  | .dtake _ _ => execDtake_kept h
  | .takeWaitExpire _ _ => execTakeWaitExpire_kept h
  | .takeWindowRead _ _ => execTakeWindowRead_kept h
  | .takeLoad _ _ _ _ => execTakeLoad_kept h
  | .takeBufferLoad _ _ _ _ _ _ => execTakeBufferLoad_kept h
  | .execTake _ _ => execExecTake_kept h
  | .purge _ => execPurge_kept h
  | .purgeDone _ => execPurgeDone_kept h
  | .inval _ => execInval_kept h
  | .openLoad _ _ => execOpen_kept h
  | .abortLoad _ => execAbort_kept h
  | .flip _ => execFlip_kept h
  | .commitSvn _ => execCommitSvn_kept h
  | .streamWrite _ => execStreamWrite_kept h
  | .xspiRead _ => execXspiRead_kept h
  | .sourceTimeout => execSourceTimeout_kept h
  | .frameWrite _ => execFrameWrite_kept h
  | .initDataWrite _ => execInitDataWrite_kept h
  | .verify => execVerify_kept h
  | .flipWakeTimeout _ => execFlipWakeTimeout_kept h
  | .flipExecute _ => execFlipExecute_kept h
  | .initComplete _ _ => execInitComplete_kept h
  | .outputs _ => execOutputs_kept h
  | .enables _ => execEnables_kept h
  | .resets _ => execResets_kept h
  | .slOpen _ _ => execSlOpen_kept h
  | .slAbort _ _ => execSlAbort_kept h
  | .slFlip _ _ => execSlFlip_kept h
  | .slDataWrite _ => execSlDataWrite_kept h
  | .scrubFrameRead _ _ _ _ _ _ => execScrubFrameRead_kept h
  | .candidateFetch _ _ _ => execCandidateFetch_kept h
  | .repair _ _ => execRepair_kept h
  | .tmrCorrect => execTmrCorrect_kept h
  | .digestNow => execDigestNow_kept h
  | .digestFrameRead _ _ _ _ _ => execDigestFrameRead_kept h
  | .digestDone => execDigestDone_kept h
  | .censusStart => execCensusStart_kept h
  | .roundPeriod => execRoundPeriod_kept h
  | .ref _ => execRef_kept h
  | .summary _ => execSummary_kept h
  | .dissent _ => execDissent_kept h
  | .censusWaitExpire => execCensusWaitExpire_kept h
  | .kidLoad _ _ => execKidLoad_kept h
  | .generate _ => execGenerate_kept h
  | .kidInit _ => execKidInit_kept h
  | .kidInitDone _ => execKidInitDone_kept h
  | .kidEnable _ => execKidEnable_kept h
  | .retire _ => execRetire_kept h
  | .retireDone _ => execRetireDone_kept h
  | .verifyDone _ => execVerifyDone_kept h
  | .vtimeAlarm _ => execVtimeAlarm_kept h
  | .verifyRefetch _ _ => execVerifyRefetch_kept h
  | .alarmPop _ => execAlarmPop_kept h
  | .drainMode _ _ => execDrainMode_kept h
  | .readMode _ _ => execReadMode_kept h
  | .refreshDebt _ _ => execRefreshDebt_kept h
  | .refresh _ _ _ => execRefresh_kept h
  | .rdThreshold _ _ => execRdThreshold_kept h
  | .throttleExpire _ _ => execThrottleExpire_kept h
  | .trackerClear _ => execTrackerClear_kept h
  | .parityAlert _ _ => execParityAlert_kept h
  | .alertClear _ => execAlertClear_kept h
  | .ddrRetrain _ _ _ => execDdrRetrain_kept h
  | .ddrDisable _ => execDdrDisable_kept h
  | .dramTrainingDone _ => execDramTrainingDone_kept h
  | .driftCheck _ _ _ => execDriftCheck_kept h
  | .retrainingWindow _ _ _ => execRetrainingWindow_kept h
  | .retrainingWindowEnd _ _ => execRetrainingWindowEnd_kept h
  | .energyDetect _ _ => execEnergyDetect_kept h
  | .trainLock _ _ _ => execTrainLock_kept h
  | .trainTimeout _ _ => execTrainTimeout_kept h
  | .capsFrameReceive _ _ _ _ => execCapsFrameReceive_kept h
  | .laneSlip _ _ _ => execLaneSlip_kept h
  | .laneDrop _ _ => execLaneDrop_kept h
  | .txSleep _ _ _ => execTxSleep_kept h
  | .rxSleep _ _ _ => execRxSleep_kept h
  | .tuningStep _ _ _ _ _ _ => execTuningStep_kept h
  | .eyeScanStart _ _ => execEyeScanStart_kept h
  | .eyeScanSlice _ _ => execEyeScanSlice_kept h
  | .eyeScanDone _ _ _ => execEyeScanDone_kept h
  | .laneModeWrite _ _ _ => execLaneModeWrite_kept h
  | .pcieEnable _ => execPcieEnable_kept h
  | .pcieLinkDrop _ _ => execPcieLinkDrop_kept h
  | .inboundRequest _ _ => execInboundRequest_kept h
  | .outboundRequest _ => execOutboundRequest_kept h
  | .outboundCompletion _ _ _ _ => execOutboundCompletion_kept h
  | .completionTimeout _ _ => execCompletionTimeout_kept h
  | .dmaDoorbell _ _ _ _ => execDmaDoorbell_kept h
  | .dmaDescriptorCheck _ _ _ => execDmaDescriptorCheck_kept h
  | .dmaWriteBack _ _ => execDmaWriteBack_kept h
  | .dmaEnable _ _ => execDmaEnable_kept h
  | .functionLevelReset _ _ _ => execFunctionLevelReset_kept h
  | .xtalQualify => execXtalQualify_kept h
  | .hfSettle => execHfSettle_kept h
  | .monitorTrip _ => execMonitorTrip_kept h
  | .fallbackTimeout => execFallbackTimeout_kept h
  | .hfCheckFail _ => execHfCheckFail_kept h
  | .trimMeasurement _ _ => execTrimMeasurement_kept h
  | .pllEnable _ _ => execPllEnable_kept h
  | .pllLock _ => execPllLock_kept h
  | .pllStandby _ => execPllStandby_kept h
  | .domainGate _ => execDomainGate_kept h
  | .domainOff _ => execDomainOff_kept h
  | .domainRun _ => execDomainRun_kept h
  | .autoClose _ => execAutoClose_kept h
  | .closeReady _ => execCloseReady_kept h
  | .closeRefuse _ => execCloseRefuse_kept h
  | .closeTimeout _ => execCloseTimeout_kept h
  | .wakeDone _ => execWakeDone_kept h
  | .vfTarget _ _ => execVfTarget_kept h
  | .vfSettle _ _ _ => execVfSettle_kept h
  | .vfDone _ => execVfDone_kept h
  | .fretBoundary => execFretBoundary_kept h
  | .drowse _ => execDrowse_kept h
  | .wake _ => execWake_kept h
  | .wakeSource _ => execWakeSource_kept h
  | .contain _ => execContain_kept h
  | .containCause _ => execContainCause_kept h
  | .resumable _ => execResumable_kept h
  | .resume _ => execResume_kept h
  | .dormant _ => execDormant_kept h
  | .serviceEnter => execServiceEnter_kept h
  | .powerOnReset _ => execPowerOnReset_kept h
  | .pinReset _ => execPinReset_kept h
  | .resetSystemCmd _ _ => execResetSystemCmd_kept h
  | .resetManagementCmd _ _ => execResetManagementCmd_kept h
  | .systemReset => execSystemReset_kept h
  | .managementReset _ => execManagementReset_kept h
  | .strapSample _ _ _ => execStrapSample_kept h
  | .groupBGood => execGroupBGood_kept h
  | .supplyTimeout => execSupplyTimeout_kept h
  | .bootWindowWrite _ => execBootWindowWrite_kept h
  | .handover _ => execHandover_kept h
  | .autoflip => execAutoflip_kept h
  | .objectRead _ => execObjectRead_kept h
  | .objectWrite _ => execObjectWrite_kept h
  | .segRead _ => execSegRead_kept h
  | .segWrite => execSegWrite_kept h
  | .segment _ => execSegment_kept h
  | .recordAbort => execRecordAbort_kept h
  | .transferTimeout _ => execTransferTimeout_kept h
  | .canFrameReceive _ _ _ => execCanFrameReceive_kept h
  | .busOffRejoin _ => execBusOffRejoin_kept h
  | .mailboxDoorbell _ _ => execMailboxDoorbell_kept h
  | .relaySend => execRelaySend_kept h
  | .relayResponse _ => execRelayResponse_kept h
  | .relayTimeout _ => execRelayTimeout_kept h
  | .presencePress _ => execPresencePress_kept h
  | .presenceExpire => execPresenceExpire_kept h
  | .sealBreak => execSealBreak_kept h
  | .challengeRead _ => execChallengeRead_kept h
  | .challengeAnswer _ => execChallengeAnswer_kept h
  | .presenceUnlock => execPresenceUnlock_kept h
  | .lock => execLock_kept h
  | .unlockExpire _ => execUnlockExpire_kept h
  | .keySlotProvision => execKeySlotProvision_kept h
  | .keySlotRevoke => execKeySlotRevoke_kept h
  | .keyWrap => execKeyWrap_kept h
  | .expertKeyWrite => execExpertKeyWrite_kept h
  | .measurementExtend _ _ => execMeasurementExtend_kept h
  | .attestationRead => execAttestationRead_kept h
  | .errorReportReceive _ _ => execErrorReportReceive_kept h
  | .errWindowEnd _ => execErrWindowEnd_kept h
  | .errDeliveryQueued => execErrDeliveryQueued_kept h
  | .errPop => execErrPop_kept h
  | .returnPreparation _ => execReturnPreparation_kept h
  | .returnCompletion => execReturnCompletion_kept h
  | .coreRun _ _ => execCoreRun_kept h
  | .eventEdge _ _ => execEventEdge_kept h
  | .eventReassign _ => execEventReassign_kept h
  | .claim _ _ => execClaim_kept h
  | .completion _ _ _ => execCompletion_kept h
  | .swset _ => execSwset_kept h
  | .watchdogKick _ _ _ => execWatchdogKick_kept h
  | .watchdogWarning _ => execWatchdogWarning_kept h
  | .watchdogExpire _ _ => execWatchdogExpire_kept h
  | .stylusBreak => execStylusBreak_kept h
  | .stylusEntry => execStylusEntry_kept h
  | .rd _ => execRd_kept h
  | .wr _ _ => execWr_kept h
  | .drd _ => execDrd_kept h
  | .dwr _ _ => execDwr_kept h
  | .stylusExit => execStylusExit_kept h
  | .stylusTimeout => execStylusTimeout_kept h
  | .kxStart _ icls => execKxStart_kept (_icls := icls) h
  | .kxAnswer _ icls => execKxAnswer_kept (_icls := icls) h
  | .kxClose icls => execKxClose_kept (_icls := icls) h
  | .kxSessionTimeout => execKxSessionTimeout_kept h
  | .dbgHalt _ _ => execDbgHalt_kept h
  | .dbgResume _ => execDbgResume_kept h
  | .dbgStep _ _ => execDbgStep_kept h
  | .ebreakHalt _ _ => execEbreakHalt_kept h
  | .comparatorMatch _ _ _ _ _ => execComparatorMatch_kept h
  | .watchMatch _ _ _ _ _ _ _ _ _ => execWatchMatch_kept h
  | .registerAccess _ _ _ => execRegisterAccess_kept h
  | .captureArm => execCaptureArm_kept h
  | .captureStop => execCaptureStop_kept h
  | .captureTrigger => execCaptureTrigger_kept h
  | .captureDone => execCaptureDone_kept h
  | .functionSwitch _ _ _ => execFunctionSwitch_kept h
  | .gpioWrite _ _ _ _ _ => execGpioWrite_kept h
  | .patternFire _ _ _ => execPatternFire_kept h
  | .adcConversion _ => execAdcConversion_kept h
  | .idcode => execIdcode_kept h
  | .samplePreload _ _ => execSamplePreload_kept h
  | .extest _ _ => execExtest_kept h
  | .extestPulse _ _ => execExtestPulse_kept h
  | .extestTrain _ _ => execExtestTrain_kept h
  | .clamp => execClamp_kept h
  | .highz => execHighz_kept h
  | .bypass => execBypass_kept h
  | .testLogicReset => execTestLogicReset_kept h
  | .regionalClockEdge _ _ _ _ _ => execRegionalClockEdge_kept h
  | .asyncSetReset _ _ _ _ _ _ => execAsyncSetReset_kept h
  | .spanEdge => execSpanEdge_kept h
  | .dramCommandIssue _ _ _ _ _ _ => execDramCommandIssue_kept h
  | .invalDone _ => execInvalDone_kept h
  | .pcieLinkUp _ _ _ _ => execPcieLinkUp_kept h
  | .canBusError _ _ _ => execCanBusError_kept h
  | .stylusFramingError => execStylusFramingError_kept h
  | .stylusFrameTimeout => execStylusFrameTimeout_kept h
  | .stylusBadFrame => execStylusBadFrame_kept h
  | .stylusSlot => execStylusSlot_kept h
  | .fwFail _ => execFwFail_kept h
  | .selftestFail => execSelftestFail_kept h
  | .contentLost _ => execContentLost_kept h
  | .vccioChange _ _ => execVccioChange_kept h
  | .coreMemoryAccess _ _ _ _ _ _ _ => execCoreMemoryAccess_kept h
  | .laneSignal _ _ _ => execLaneSignal_kept h

theorem step_of_pending_nil {s : State} (h : s.pending = []) : step s = .next (plateTick s) := by
  simp only [step, h]

theorem step_of_pending_cons {c : Instr} {r : List Instr} {s : State} (h : s.pending = c :: r) : step s = exec c { s with pending := r } := by
  simp only [step, h]

/-- A step answers a next state, and keeps what is to be kept of the state with the front command off its queue. -/
theorem step_kept (s : State) : KeptOut { s with pending := s.pending.tail } (step s) := by
  cases h : s.pending with
  | nil =>
    have hs : ({ s with pending := [] } : State) = s := by rw [← h]
    rw [step_of_pending_nil h, List.tail_nil, hs, KeptOut.next_iff]
    exact plateTick_kept (Kept.refl s)
  | cons c r =>
    rw [step_of_pending_cons h]
    exact exec_kept (Kept.refl _) c

/-- Settles O5: what a step keeps is, in part, the queue without its front command. -/
theorem stepTakesOneCommand : Obligations.StepTakesOneCommand := by
  intro s
  obtain ⟨t, hstep, hkept⟩ := step_kept s
  exact ⟨t, hstep, hkept.pending⟩

/-- Settles O7: the canonical form does not speak of the queue, and a step keeps it from the state with the front command off the queue. -/
theorem stepKeepsCanonical : Obligations.StepKeepsCanonical := by
  intro s t hcanon hstep
  obtain ⟨u, hnext, hkept⟩ := step_kept s
  obtain rfl : t = u := by simpa [hstep] using hnext
  exact hkept.canon hcanon

/-- Settles O1, by the case of `step` on a queue that is not empty. -/
theorem stepTakesFrontCommand : Obligations.StepTakesFrontCommand := fun _ _ _ h => step_of_pending_cons h

/-- Settles O3: every command keeps what is to be kept, so it answers a next state. -/
theorem everyCommandCompletes : Obligations.EveryCommandCompletes := by
  intro c s
  obtain ⟨t, hexec, -⟩ := exec_kept (Kept.refl s) c
  exact ⟨t, hexec⟩

/-! ### A field written (R6, R11) -/

theorem State.fld_setFld_self (s : State) (u : Nat) (f : Fld) (v i j : Nat) (h : f.lo ≤ f.hi) (h32 : f.hi < 32) :
    (s.setFld u f v i j).fld u f i j = v % 2 ^ (f.hi + 1 - f.lo) := by
  rw [State.fld, State.setFld, State.reg_setReg_self, getBits_putBits_self _ _ _ _ h h32]

theorem State.fld_setFld_disjoint (s : State) (u : Nat) (f g : Fld) (v i j : Nat) (h : f.lo ≤ f.hi) (hat : g.at i j = f.at i j)
    (hg : g.hi < 32) (hd : f.hi < g.lo ∨ g.hi < f.lo) : (s.setFld u f v i j).fld u g i j = s.fld u g i j := by
  rw [State.fld, State.fld, hat, State.setFld, State.reg_setReg_self, getBits_putBits_ne _ _ _ _ _ _ h hg hd]

theorem State.setFld_sameRegsBut (s : State) (u : Nat) (f : Fld) (v i j : Nat) :
    SameRegsBut [csrHome u (f.at i j)] s (s.setFld u f v i j) :=
  fun _ _ hhome => State.reg_setReg_ne s _ (by simpa using hhome)

/-- Settles O9: a field is read back bit by bit, a register is stored under its home, and a write stores in the register file alone. -/
theorem fieldWrites : Obligations.FieldWrites := by
  intro s u f v i j hlo hhi
  exact ⟨State.fld_setFld_self s u f v i j hlo hhi, fun g hat hg hd => State.fld_setFld_disjoint s u f g v i j hlo hat hg hd,
    State.setFld_sameRegsBut s u f v i j, rfl⟩

/-! ### The shape of a register access (R12) -/

theorem csrOffsets_word {off size : Nat} (hs : size = 4) (ha : off % 4 = 0) : csrOffsets off size = [off] := by
  rw [csrOffsets, if_pos ⟨hs, ha⟩]

theorem csrOffsets_pair {off size : Nat} (hs : size = 8) (ha : off % 8 = 0) : csrOffsets off size = [off, off + 4] := by
  rw [csrOffsets, if_neg (by omega), if_pos ⟨hs, ha⟩]

theorem csrOffsets_misshapen {off size : Nat} (hw : ¬(size = 4 ∧ off % 4 = 0)) (hp : ¬(size = 8 ∧ off % 8 = 0)) : csrOffsets off size = [] := by
  rw [csrOffsets, if_neg hw, if_neg hp]

section
variable {s : State} {a : CsrAccess}

theorem csrDecide_misshapen (write : Bool) (h : csrOffsets a.off.toNat a.size = []) : csrDecide s a write = .decode := by
  simp [csrDecide, h]

/-- An offset without a register, for either half, is DECODE, whatever else the access meets. Of the burin's registers the self-load range
is refused first (R287), so they are left out. -/
theorem csrDecide_unimplemented (write : Bool) (hu : a.unit.toNat ≠ uCfg) {o : Nat} (ho : o ∈ csrOffsets a.off.toNat a.size)
    (hi : csrImplemented a.unit.toNat o = false) : csrDecide s a write = .decode := by
  have hall : (csrOffsets a.off.toNat a.size).all (fun o => csrImplemented a.unit.toNat o) = false :=
    List.all_eq_false.2 ⟨o, ho, by simp [hi]⟩
  simp [csrDecide, hall, hu]

/-! ### What a register access performs (R12, R13) -/

theorem csrWrite_refused {st : Stat} (h : csrDecide s a true = st) (hst : st ≠ .ok) : csrWrite s a = (s, st) := by
  unfold csrWrite
  split
  next hok => exact absurd (h.symm.trans hok) hst
  next => rw [h]

theorem csrReadAccess_refused {st : Stat} (h : csrDecide s a false = st) (hst : st ≠ .ok) : csrReadAccess s a = (s, st, 0) := by
  unfold csrReadAccess
  split
  next hok => exact absurd (h.symm.trans hok) hst
  next => rw [h]

theorem csrWrite_word (hs : a.size = 4) (ha : a.off.toNat % 4 = 0) (h : csrDecide s a true = .ok) :
    csrWrite s a =
      (csrWriteReg s a.unit.toNat a.off.toNat (BitVec.ofNat 32 a.data.toNat) a.icls.toNat a.src.toNat a.priv, .ok) := by
  simp [csrWrite, h, csrOffsets_word hs ha]

theorem csrWrite_pair (hs : a.size = 8) (ha : a.off.toNat % 8 = 0) (h : csrDecide s a true = .ok) :
    csrWrite s a =
      (csrWriteReg (csrWriteReg s a.unit.toNat a.off.toNat (BitVec.ofNat 32 a.data.toNat) a.icls.toNat a.src.toNat a.priv) a.unit.toNat
        (a.off.toNat + 4) (BitVec.ofNat 32 (a.data.toNat / 2 ^ 32)) a.icls.toNat a.src.toNat a.priv, .ok) := by
  simp [csrWrite, h, csrOffsets_pair hs ha]

theorem csrReadAccess_pair (hs : a.size = 8) (ha : a.off.toNat % 8 = 0) (h : csrDecide s a false = .ok) {lo hi : State × Word32}
    (hlo : lo = csrRead s a.unit.toNat a.off.toNat a.icls.toNat) (hhi : hi = csrRead lo.1 a.unit.toNat (a.off.toNat + 4) a.icls.toNat) :
    csrReadAccess s a = (hi.1, .ok, lo.2.toNat + hi.2.toNat * 2 ^ 32) := by
  subst hlo hhi
  simp [csrReadAccess, h, csrOffsets_pair hs ha]

/-- The command answers what the write access completes with, on the state the access leaves. -/
theorem exec_csrWrite_of_eq {t : State} {st : Stat} (h : csrWrite s a = (t, st)) : exec (.csrWrite a) s = .next (t.answer st) := by
  rw [exec_csrWrite, execCsrWrite, h]

theorem exec_csrWrite_refused {st : Stat} (h : csrDecide s a true = st) (hst : st ≠ .ok) : exec (.csrWrite a) s = .next (s.answer st) :=
  exec_csrWrite_of_eq (csrWrite_refused h hst)

end

/-- Settles O44: an access of neither shape covers no register, so it is DECODE and refused. -/
theorem registerAccessShape : Obligations.RegisterAccessShape := by
  refine ⟨fun a s => ?_, fun a s hs ha h s1 h1 => ?_, fun a s hs ha h lo hlo hi hhi => csrReadAccess_pair hs ha h hlo hhi⟩
  · by_cases hw : a.size = 4 ∧ a.off.toNat % 4 = 0
    · exact .inl hw
    · by_cases hp : a.size = 8 ∧ a.off.toNat % 8 = 0
      · exact .inr (.inl hp)
      · have hd := fun write => csrDecide_misshapen (s := s) write (csrOffsets_misshapen hw hp)
        exact .inr (.inr ⟨csrWrite_refused (hd true) nofun, csrReadAccess_refused (hd false) nofun, exec_csrWrite_refused (hd true) nofun⟩)
  · subst h1
    exact csrWrite_pair hs ha h

/-- Settles O45: an access that is decided OK writes the one or two registers it covers, and any other decision is its answer. -/
theorem registerWriteCompletes : Obligations.RegisterWriteCompletes := by
  refine ⟨fun a s hs ha h => exec_csrWrite_of_eq (csrWrite_word hs ha h), fun a s hs ha h s1 h1 => ?_,
    fun a st s h hst => exec_csrWrite_refused h hst, fun a s hu ⟨o, ho, hi⟩ => ?_⟩
  · subst h1
    exact exec_csrWrite_of_eq (csrWrite_pair hs ha h)
  · exact exec_csrWrite_refused (csrDecide_unimplemented true hu ho hi) nofun

/-! ### A request at its target (R12, R172, R173) -/

section
variable {s : State} {p : Packet} {e : MemEnv} {u off n o c : Nat}

theorem State.atTarget_of_arrived (h : s.arrived p = true) : s.atTarget p = true := by
  simp [State.atTarget, h]

theorem exec_read_atTarget (hop : p.op = opRead) (hl : p.label = 0) (ht : s.atTarget p = true) :
    exec (.read p e) s = .next (perform s p e) := by
  rw [exec_read, execRead, if_pos ⟨hop, hl, ht⟩]

theorem exec_write_atTarget (hop : p.op = opWrite) (hl : p.label = 0) (ht : s.atTarget p = true) :
    exec (.write p e) s = .next (perform s p e) := by
  rw [exec_write, execWrite, if_pos ⟨hop, hl, ht⟩]

theorem exec_atomic_atTarget (hop : p.op = opAtomic) (hl : p.label = 0) (ht : s.atTarget p = true) :
    exec (.atomic p e) s = .next (perform s p e) := by
  rw [exec_atomic, execAtomic, if_pos ⟨hop, hl, ht⟩]

theorem perform_dram (h : mapAddr p.a48 = .dram) : perform s p e = handleAlarms (memRequest s p e) := by
  rw [perform, h]

theorem perform_fabric (h : mapAddr p.a48 = .fabric n o) : perform s p e = windowRequest s n o p := by
  rw [perform, h]

theorem perform_sram (h : mapAddr p.a48 = .sram off) (ht : sramTurn s p = true) : perform s p e = sramRequest s off p := by
  simp only [perform, h, ht, if_true]

theorem perform_pcie (h : mapAddr p.a48 = .pcie c off) : perform s p e = outbound s c off p := by
  rw [perform, h]

theorem perform_unmapped (h : mapAddr p.a48 = .none) : perform s p e = s.reply p .decode := by
  rw [perform, h]

theorem perform_csr_atomic (h : mapAddr p.a48 = .csr u off) (hop : p.op = opAtomic) : perform s p e = s.reply p .decode := by
  simp only [perform, h, unitRequest, if_pos hop]

/-- A request outside a unit's windows of data, and no ATOMIC, is an access of the unit's registers. -/
theorem perform_csr_registers (h : mapAddr p.a48 = .csr u off) (hop : p.op ≠ opAtomic) (hdsp : unitKind u ≠ .dsp) (hcfg : u ≠ uCfg)
    (hmgt : u ≠ uMgt ∨ off < 0x800000) : perform s p e = csrRequest s u off p := by
  have hboot : ¬(u = uMgt ∧ 0x800000 ≤ off ∧ off < 0xA00000) := by omega
  simp only [perform, h, unitRequest, if_neg hop, hdsp, hcfg, false_and, if_false, if_neg hboot]

/-- A read that is served answers the register's value. -/
theorem csrRequest_read {r : State × Stat × Nat} (hop : p.op = opRead)
    (hr : r = csrReadAccess s ⟨BitVec.ofNat 8 u, BitVec.ofNat 24 off, p.rangeLen, BitVec.ofNat 64 (leBytes p.writeBytes), p.icls, p.src, false⟩)
    (hok : r.2.1 = .ok) : csrRequest s u off p = r.1.reply p .ok (p.readBody (toLeBytes p.rangeLen r.2.2)) := by
  subst hr
  simp only [csrRequest, if_pos hop, hok, if_true]

/-- A write answers its completion. -/
theorem csrRequest_write {r : State × Stat} (hop : p.op = opWrite)
    (hr : r = csrWrite s ⟨BitVec.ofNat 8 u, BitVec.ofNat 24 off, p.rangeLen, BitVec.ofNat 64 (leBytes p.writeBytes), p.icls, p.src, false⟩) :
    csrRequest s u off p = r.1.reply p r.2 := by
  subst hr
  have hread : p.op ≠ opRead := by rw [hop]; decide
  simp only [csrRequest, if_neg hread]

end

/-- What each of READ, WRITE and ATOMIC does where its address lies in DRAM, a fabric-port window, plate SRAM, a PCIe window, or nowhere:
the command at its target is `perform`, which is told by the target. -/
theorem exec_at_targets {cmd : Packet → MemEnv → Instr} {op : Nat}
    (hex : ∀ {s : State} {p : Packet} {e : MemEnv}, p.op = op → p.label = 0 → s.atTarget p = true → exec (cmd p e) s = .next (perform s p e)) :
    (∀ (p : Packet) (e : MemEnv) (s : State), p.op = op → p.label = 0 → s.atTarget p = true → mapAddr p.a48 = .dram →
      exec (cmd p e) s = .next (handleAlarms (memRequest s p e))) ∧
    (∀ (p : Packet) (e : MemEnv) (n o : Nat) (s : State), p.op = op → p.label = 0 → s.arrived p = true → mapAddr p.a48 = .fabric n o →
      exec (cmd p e) s = .next (windowRequest s n o p)) ∧
    (∀ (p : Packet) (e : MemEnv) (off : Nat) (s : State), p.op = op → p.label = 0 → s.arrived p = true → mapAddr p.a48 = .sram off →
      sramTurn s p = true → exec (cmd p e) s = .next (sramRequest s off p)) ∧
    (∀ (p : Packet) (e : MemEnv) (c off : Nat) (s : State), p.op = op → p.label = 0 → s.arrived p = true → mapAddr p.a48 = .pcie c off →
      exec (cmd p e) s = .next (outbound s c off p)) ∧
    (∀ (p : Packet) (e : MemEnv) (s : State), p.op = op → p.label = 0 → s.arrived p = true → mapAddr p.a48 = .none →
      exec (cmd p e) s = .next (s.reply p .decode)) := by
  refine ⟨?dram, ?fabric, ?sram, ?pcie, ?unmapped⟩
  case dram =>
    intro p e s hop hl ht hm
    rw [hex hop hl ht, perform_dram hm]
  case fabric =>
    intro p e n o s hop hl ha hm
    rw [hex hop hl (State.atTarget_of_arrived ha), perform_fabric hm]
  case sram =>
    intro p e off s hop hl ha hm hturn
    rw [hex hop hl (State.atTarget_of_arrived ha), perform_sram hm hturn]
  case pcie =>
    intro p e c off s hop hl ha hm
    rw [hex hop hl (State.atTarget_of_arrived ha), perform_pcie hm]
  case unmapped =>
    intro p e s hop hl ha hm
    rw [hex hop hl (State.atTarget_of_arrived ha), perform_unmapped hm]

/-- Settles O50: the three commands share the targets outside the units' registers; there each has its own meaning. -/
theorem accessCommandsComplete : Obligations.AccessCommandsComplete := by
  obtain ⟨readDram, readFabric, readSram, readPcie, readNone⟩ := exec_at_targets (cmd := .read) exec_read_atTarget
  obtain ⟨writeDram, writeFabric, writeSram, writePcie, writeNone⟩ := exec_at_targets (cmd := .write) exec_write_atTarget
  obtain ⟨atomicDram, atomicFabric, atomicSram, atomicPcie, atomicNone⟩ := exec_at_targets (cmd := .atomic) exec_atomic_atTarget
  refine ⟨readDram, readFabric, readSram, readPcie, readNone, ?readCsr, writeDram, writeFabric, writeSram, writePcie, writeNone, ?writeCsr,
    atomicDram, atomicFabric, atomicSram, atomicPcie, atomicNone, ?atomicCsr⟩
  case readCsr =>
    intro p e u off r s hop hl ha hm hdsp hcfg hmgt hr hok
    have hne : p.op ≠ opAtomic := by rw [hop]; decide
    rw [exec_read_atTarget hop hl (State.atTarget_of_arrived ha), perform_csr_registers hm hne hdsp hcfg hmgt, csrRequest_read hop hr hok]
  case writeCsr =>
    intro p e u off r s hop hl ha hm hdsp hcfg hmgt hr
    have hne : p.op ≠ opAtomic := by rw [hop]; decide
    rw [exec_write_atTarget hop hl (State.atTarget_of_arrived ha), perform_csr_registers hm hne hdsp hcfg hmgt, csrRequest_write hop hr]
  case atomicCsr =>
    intro p e u off s hop hl ha hm
    rw [exec_atomic_atTarget hop hl (State.atTarget_of_arrived ha), perform_csr_atomic hm hop]

/-! ### The state after reset (R10, R247, R279, R440) -/

/-- Settles O8: a table with nothing listed is canonical. -/
theorem resetIsCanonical : Obligations.ResetIsCanonical := ⟨reset_canonical, rfl, rfl, rfl⟩

/-- CFG_REGION of every region at reset: ACT 3 (none), both planes EMPTY (R278, R279). -/
theorem csrReset_cfgRegion (n : Fin 128) : csrReset (csrHome uCfg (0x400 + 4 * n)) = 0x300#32 := by
  revert n
  decide +kernel

theorem reset_fld_cfgRegion (n : Fin 128) {f : Fld} (h : f.at n 0 = 0x400 + 4 * n) :
    State.reset.fld uCfg f n = getBits 0x300#32 f.hi f.lo := by
  rw [State.fld, h]
  exact congrArg (getBits · f.hi f.lo) (csrReset_cfgRegion n)

theorem reset_active (n : Fin 128) : State.reset.active n = none := by
  have hact : State.reset.fld uCfg F.cfgRegionAct n = 3 := reset_fld_cfgRegion n rfl
  simp [State.active, hact]

theorem reset_planeState (n : Fin 128) : State.reset.planeState n 0 = planeEmpty ∧ State.reset.planeState n 1 = planeEmpty :=
  ⟨reset_fld_cfgRegion (f := F.cfgRegionPlane0) n rfl, reset_fld_cfgRegion (f := F.cfgRegionPlane1) n rfl⟩

/-- Settles O60: no register and no memory is listed at reset, so each reads as its reset value. -/
theorem resetLeaves : Obligations.ResetLeaves :=
  ⟨fun _ _ => rfl, ⟨rfl, rfl, rfl⟩, fun n => ⟨reset_active n, reset_planeState n⟩, fun _ _ _ => rfl, fun _ => rfl⟩

end Sys2Proof.Machine

/-! SUPPORT. The plate's errors and memories: error reports counted and collected, bytes, lines and frames that read back, accesses of
general plate memory. -/

namespace Sys2Proof.Machine

open Sys2Proof

/-! ### Errors raised (R39) -/

theorem reportTotal_cons (r : Report) (l : List Report) : reportTotal (r :: l) = r.count + reportTotal l := by
  simp [reportTotal]

theorem reportTotal_addReport (u cls d : Nat) (l : List Report) : reportTotal (addReport u cls d l) = reportTotal l + 1 := by
  induction l with
  | nil => rfl
  | cons r rs ih =>
    unfold addReport
    split
    · simp only [reportTotal_cons]; omega
    · simp only [reportTotal_cons, ih]; omega

/-- A report that waits stays, with its detail word, and its count does not fall. -/
theorem exists_mem_addReport {r : Report} {l : List Report} (u cls d : Nat) (h : r ∈ l) :
    ∃ x ∈ addReport u cls d l, x.unit = r.unit ∧ x.cls = r.cls ∧ x.detail = r.detail ∧ r.count ≤ x.count := by
  induction l with
  | nil => simp at h
  | cons y ys ih =>
    unfold addReport
    split
    next =>
      rcases List.mem_cons.1 h with rfl | htail
      · exact ⟨_, List.mem_cons_self, rfl, rfl, rfl, Nat.le_succ _⟩
      · exact ⟨r, List.mem_cons_of_mem _ htail, rfl, rfl, rfl, le_rfl⟩
    next =>
      rcases List.mem_cons.1 h with rfl | htail
      · exact ⟨r, List.mem_cons_self, rfl, rfl, rfl, le_rfl⟩
      · obtain ⟨x, hx, hsame⟩ := ih htail
        exact ⟨x, List.mem_cons_of_mem _ hx, hsame⟩

/-! ### The error collector (R493-R497) -/

/-- Whether an entry of the collector's table is the one of a report's key (R493). -/
def entryOfKey (r : Report) (remote : Bool) (x : Nat × ErrEntry) : Bool :=
  x.1 != overflowEntry && x.2.unit == r.unit && x.2.cls == r.cls && x.2.remote == remote

section
variable {s : State} {r : Report} {remote : Bool} {sysid now n count : Nat} {e : ErrEntry}

theorem addErr_open (ho : e.isOpen = true) (hw : noWindow s = false) : addErr s n e count now sysid =
    s.setErr n { e with count := e.count + count, last := now, sysid := sysid, dirty := true } := by
  simp [addErr, ho, hw]

theorem addErr_closed (ho : e.isOpen = false) : addErr s n e count now sysid = deliverErr (s.setErr n
    { e with count := e.count + count, last := now, sysid := sysid, isOpen := !noWindow s, dirty := false }) n 1 := by
  simp [addErr, ho]

theorem newErr_unused {a : Nat} {free : List Nat} (h : unusedErr s = a :: free) :
    newErr s e = createErr s.draw (s.pick (a :: free)) e := by
  unfold newErr
  rw [h]

theorem collect_known {x : Nat × ErrEntry} (h : s.err.entry.find? (entryOfKey r remote) = some x) :
    collect s r remote sysid now = addErr (s.countSat uErr F.mgtErrTotalCount r.count) x.1 x.2 r.count now sysid := by
  unfold entryOfKey at h
  simp only [collect, State.countSat_err, h]

theorem collect_newKey (h : s.err.entry.find? (entryOfKey r remote) = none) :
    collect s r remote sysid now = newErr (s.countSat uErr F.mgtErrTotalCount r.count)
      { unit := r.unit, cls := r.cls, remote := remote, count := r.count, first := now, last := now, detail := r.detail,
        sysid := sysid } := by
  unfold entryOfKey at h
  simp only [collect, State.countSat_err, h]

end

section
variable {s : State}

theorem exec_errorReportSend_some {u : BitVec 8} {r : Report} (h : s.reports.find? (fun r => r.unit == u.toNat) = some r) :
    exec (.errorReportSend u) s = .next { s with reports := s.reports.erase r, path := s.path ++ [r] } := by
  simp only [exec_errorReportSend, execErrorReportSend, h]

theorem exec_errorReportReceive_path {r : Report} {l : List Report} (now : Word64) (h : s.path = r :: l) :
    exec (.errorReportReceive false now) s = .next (collect { s with path := l } r false 0 now.toNat) := by
  simp [execErrorReportReceive, h]

theorem exec_errorReportReceive_remote {r : Report} {origin : Nat} {l : List (Report × Nat)} (now : Word64)
    (h : s.err.remote = (r, origin) :: l) : exec (.errorReportReceive true now) s =
      .next (collect { s with err := { s.err with remote := l } } r true origin now.toNat) := by
  simp [execErrorReportReceive, h]

theorem exec_errWindowEnd_open {n : Fin 513} {e : ErrEntry} (h : SMap.find s.err.entry n = some e) (ho : e.isOpen = true) :
    exec (.errWindowEnd n) s = .next (if e.dirty then deliverErr (s.setErr n { e with dirty := false }) n 2
      else s.setErr n { e with isOpen := false }) := by
  cases hd : e.dirty <;> simp [execErrWindowEnd, h, ho, hd]

end

/-- Settles O10: what is raised is counted by recursion over the reports that wait; what is received goes by the entry of its key. -/
theorem errorReportsAreCounted : Obligations.ErrorReportsAreCounted := by
  refine ⟨fun s u cls d => reportTotal_addReport u cls d s.reports, fun s u cls d r => exists_mem_addReport u cls d,
    fun u r s => exec_errorReportSend_some, ?openEntry, ?closedEntry, ?newKey, fun now r origin l s => exec_errorReportReceive_remote now,
    fun n e s => exec_errWindowEnd_open, fun s => rfl, fun s => rfl, fun s n flags => rfl⟩
  case openEntry =>
    intro now r l s x hpath hfind hopen hwindow
    rw [exec_errorReportReceive_path now hpath, collect_known (s := { s with path := l }) hfind, addErr_open hopen hwindow]
  case closedEntry =>
    intro now r l s x hpath hfind hclosed
    rw [exec_errorReportReceive_path now hpath, collect_known (s := { s with path := l }) hfind, addErr_closed hclosed]
  case newKey =>
    intro now r l a free s hpath hfind hunused
    rw [exec_errorReportReceive_path now hpath, collect_newKey (s := { s with path := l }) hfind, newErr_unused hunused]

/-! ### Bytes of general plate memory (R34, R35) -/

/-- `n` values stored from a key on, as `setSram` stores bytes. -/
def SMap.storeRange {α : Type} [DecidableEq α] (d : α) (m : SMap α) (off n : Nat) (f : Nat → α) : SMap α :=
  (List.range n).foldl (fun m i => SMap.store d m (off + i) (f i)) m

section
variable {α : Type} [DecidableEq α] (d : α) (m : SMap α) (off : Nat) (f : Nat → α)

theorem SMap.storeRange_succ (n : Nat) :
    SMap.storeRange d m off (n + 1) f = SMap.store d (SMap.storeRange d m off n f) (off + n) (f n) := by
  simp [SMap.storeRange, List.range_succ]

theorem SMap.get_storeRange_outside {n k : Nat} (h : k < off ∨ off + n ≤ k) :
    SMap.get d (SMap.storeRange d m off n f) k = SMap.get d m k := by
  induction n with
  | zero => rfl
  | succ n ih => rw [SMap.storeRange_succ, SMap.get_store_ne d _ _ (by omega), ih (by omega)]

theorem SMap.get_storeRange_inside {n i : Nat} (h : i < n) : SMap.get d (SMap.storeRange d m off n f) (off + i) = f i := by
  induction n with
  | zero => omega
  | succ n ih =>
    rw [SMap.storeRange_succ]
    by_cases hlast : i = n
    · rw [hlast, SMap.get_store_self]
    · rw [SMap.get_store_ne d _ _ (by omega), ih (by omega)]

end

section
variable (s : State) (off : Nat) (bs : List Byte)

theorem setSram_mem : (setSram s off bs).sram.mem = SMap.storeRange 0 s.sram.mem off bs.length (fun i => bs.getD i 0) := rfl

theorem sramByte_general {o : Nat} (h : partitionOf o = .general) : sramByte s o = SMap.get 0 s.sram.mem o := by
  rw [sramByte, h]

theorem sramByte_setSram_inside {i : Nat} (hi : i < bs.length) (hg : partitionOf (off + i) = .general) :
    sramByte (setSram s off bs) (off + i) = bs.getD i 0 := by
  rw [sramByte_general _ hg, setSram_mem, SMap.get_storeRange_inside _ _ _ _ hi]

/-- The bytes of the other partitions are their owners', which a store in general plate memory leaves alone. -/
theorem sramByte_setSram_owned {o : Nat} (h : partitionOf o ≠ .general) : sramByte (setSram s off bs) o = sramByte s o := by
  unfold sramByte
  split
  next hg => exact absurd hg h
  all_goals rfl

theorem sramByte_setSram_outside {o : Nat} (ho : o < off ∨ off + bs.length ≤ o) : sramByte (setSram s off bs) o = sramByte s o := by
  by_cases hg : partitionOf o = .general
  · rw [sramByte_general _ hg, sramByte_general _ hg, setSram_mem, SMap.get_storeRange_outside _ _ _ _ ho]
  · exact sramByte_setSram_owned s off bs hg

end

/-! ### Lines of DRAM and frames of a plane (R64, R247) -/

section
variable (s : State)

/-- A store keeps the fillings, so what a filling adds to the line stored is taken off again when it is read. -/
theorem State.dramLine_setDramLine_self (l : Nat) (v : Line) : (s.setDramLine l v).dramLine l = v := by
  have hfill : (s.setDramLine l v).fillOf l = s.fillOf l := rfl
  rw [State.dramLine, hfill, State.setDramLine, SMap.get_store_self, BitVec.xor_assoc, BitVec.xor_self, BitVec.xor_zero]

theorem State.dramLine_setDramLine_ne {l k : Nat} (v : Line) (h : k ≠ l) : (s.setDramLine l v).dramLine k = s.dramLine k := by
  have hfill : (s.setDramLine l v).fillOf k = s.fillOf k := rfl
  rw [State.dramLine, hfill, State.setDramLine, SMap.get_store_ne _ _ _ h, State.dramLine]

theorem frameKey_inj {p n o p' n' o' : Nat} (ho : o < 22528) (hn : n < 128) (ho' : o' < 22528) (hn' : n' < 128)
    (h : frameKey p' n' o' = frameKey p n o) : (p', n', o') = (p, n, o) := by
  unfold frameKey at h
  simp only [Prod.mk.injEq]
  omega

theorem State.frame_setFrame_self (p n o : Nat) (f : Frame) : (s.setFrame p n o f).frame p n o = f := by
  rw [State.frame, State.setFrame, SMap.get_store_self]

theorem State.frame_setFrame_ne {p n o p' n' o' : Nat} (f : Frame) (h : frameKey p' n' o' ≠ frameKey p n o) :
    (s.setFrame p n o f).frame p' n' o' = s.frame p' n' o' := by
  rw [State.frame, State.setFrame, SMap.get_store_ne _ _ _ h, State.frame]

end

/-- Settles O56: each memory is a sparse table, where a store is read back at its key and leaves every other key as it was. -/
theorem memoriesReadBack : Obligations.MemoriesReadBack :=
  ⟨fun s off _ bs => sramByte_setSram_inside s off bs, fun s off _ bs => sramByte_setSram_outside s off bs, fun _ _ _ => rfl,
    fun s l _ v => ⟨s.dramLine_setDramLine_self l v, s.dramLine_setDramLine_ne v, rfl⟩,
    fun s p n o _ _ _ f ho hn ho' hn' => ⟨s.frame_setFrame_self p n o f,
      fun hne => s.frame_setFrame_ne f (fun hkey => hne (frameKey_inj ho hn ho' hn' hkey)), rfl⟩⟩

/-! ### An access to general plate memory (R34-R36, R173) -/

section
variable {s : State} {p : Packet} {off : Nat}

theorem exec_plateSramAccess_served (single double : List Nat) (hoff : sramOff p = some off) (ha : s.arrived p = true)
    (ht : sramTurn s p = true) : exec (.plateSramAccess p single double) s =
      .next (sramRequest (double.foldl (upsetWord true) (single.foldl (upsetWord false) s)) off p) := by
  simp [execPlateSramAccess, hoff, ha, ht]

theorem sramRequest_read (hg : partitionOf off = .general) (hop : p.op = opRead) (hl : p.len ≠ 0) :
    sramRequest s off p = sramRead s off p := by
  have hne : p.op ≠ opAtomic := by rw [hop]; decide
  rw [sramRequest, if_pos hg, if_neg hne, if_neg hl, if_pos hop]

theorem sramRequest_write (hg : partitionOf off = .general) (hop : p.op = opWrite) (hl : p.len ≠ 0) :
    sramRequest s off p = sramWrite s off p := by
  have hatomic : p.op ≠ opAtomic := by rw [hop]; decide
  have hread : p.op ≠ opRead := by rw [hop]; decide
  rw [sramRequest, if_pos hg, if_neg hatomic, if_neg hl, if_neg hread]

theorem sramRequest_atomic (hg : partitionOf off = .general) (hop : p.op = opAtomic) : sramRequest s off p = sramAtomic s off p := by
  rw [sramRequest, if_pos hg, if_pos hop]

/-- The state after a read of the window: single-bit errors corrected, a free value drawn for each word and one more (log entry 94). -/
def sramAfterRead (s : State) (ws : List Nat) : State := { ws.foldl scrubWord s with free := s.free + ws.length + 1 }

/-- The state in which a write stores its bytes: every word it touches holds fresh check bits. -/
def sramRefreshed (s : State) (ws : List Nat) : State :=
  { s with sram := { s.sram with ecc := ws.foldl (fun m w => SMap.erase m w) s.sram.ecc } }

theorem sramRead_readable (h : (wordsOf off p.rangeLen).any (badWord s) = false) : sramRead s off p =
    (sramAfterRead s (wordsOf off p.rangeLen)).reply p .ok (p.readBody (sramBytes s off p.rangeLen)) := by
  simp only [sramRead, sramAfterRead, h, Bool.false_eq_true, if_false]

theorem sramRead_unreadable (h : (wordsOf off p.rangeLen).any (badWord s) = true) : sramRead s off p =
    ((sramAfterRead s (wordsOf off p.rangeLen)).raise (partitionOwner off) 0x03 off).reply p .poison
      (p.readBody (sramBytes s off p.rangeLen)) := by
  simp only [sramRead, sramAfterRead, sramPoison, h, if_true]

theorem sramWrite_readable (h : ((wordsOf off p.rangeLen).filter (fun w => !coversWord off p.rangeLen w)).any (badWord s) = false) :
    sramWrite s off p = (setSram (sramRefreshed s (wordsOf off p.rangeLen)) off p.writeBytes).reply p .ok := by
  simp only [sramWrite, sramRefreshed, h, Bool.false_eq_true, if_false]

theorem sramAtomic_readable {t : State} {old : Nat} (h : (wordsOf off p.atomicBytes).any (badWord s) = false)
    (ht : t = (wordsOf off p.atomicBytes).foldl scrubWord s) (hold : old = leBytes (sramBytes t off p.atomicBytes)) :
    sramAtomic s off p = (setSram t off (toLeBytes p.atomicBytes
      (atomicResult p.aop (8 * p.atomicBytes) old p.operand p.compare))).reply p .ok [] old := by
  subst hold ht
  simp only [sramAtomic, h, Bool.false_eq_true, if_false]

end

/-- Settles O49: the window serves the request it holds first, and each request goes by whether a word it reads holds a double-bit error. -/
theorem plateSramCommandCompletes : Obligations.PlateSramCommandCompletes := by
  refine ⟨?read, ?poisonedRead, ?write, ?atomic⟩
  case read =>
    intro p single double off s hoff ha ht hg hop hl s1 hs1 ws hws t htt hgood
    subst hs1 hws htt
    rw [exec_plateSramAccess_served single double hoff ha ht, sramRequest_read hg hop hl, sramRead_readable hgood, sramAfterRead]
  case poisonedRead =>
    intro p single double off s hoff ha ht hg hop hl s1 hs1 ws hws t htt hbad
    subst hs1 hws htt
    rw [exec_plateSramAccess_served single double hoff ha ht, sramRequest_read hg hop hl, sramRead_unreadable hbad, sramAfterRead]
  case write =>
    intro p single double off s hoff ha ht hg hop hl s1 hs1 ws hws hgood t htt
    subst hs1 hws htt
    rw [exec_plateSramAccess_served single double hoff ha ht, sramRequest_write hg hop hl, sramWrite_readable hgood, sramRefreshed]
  case atomic =>
    intro p single double off s hoff ha ht hg hop s1 hs1 n hn hgood t htt old hold
    subst hs1 hn
    rw [exec_plateSramAccess_served single double hoff ha ht, sramRequest_atomic hg hop, sramAtomic_readable hgood htt hold]

end Sys2Proof.Machine

/-! SUPPORT. The logic fabric: what a flip-flop shows and captures, the regional clock edge, the asynchronous set/reset. -/

namespace Sys2Proof.Machine

open Sys2Proof

section
variable {s : State} {n col row c : Nat}

/-! ### What a flip-flop shows (R42, R43, R46, R271) -/

theorem qUnder_no_active (h : s.active n = none) (sr : Bool) : qUnder s n col row c sr = false := by
  rw [qUnder, h]

/-- A hold and DSEL 3 both come before the set/reset, whatever its pin. -/
theorem qUnder_init {p : Nat} (h : s.active n = some p)
    (hinit : s.ffHeld n (bitsOf (cellSet s n col row c) 2 0) = true ∨ cellField s n col row c 17 2 = 3) (sr : Bool) :
    qUnder s n col row c sr = (cellField s n col row c 20 1 != 0) := by
  simp only [qUnder, h]
  rcases hinit with hheld | hoff
  · rw [if_pos hheld]
  · rw [if_pos hoff, ite_self]

theorem qUnder_live {p : Nat} (h : s.active n = some p) (hheld : s.ffHeld n (bitsOf (cellSet s n col row c) 2 0) = false)
    (hon : cellField s n col row c 17 2 ≠ 3) (sr : Bool) :
    qUnder s n col row c sr = if sr then srval s n col row c else SMap.get false s.fab.q (cellKey n row col c) := by
  simp only [qUnder, h, hheld, hon, Bool.false_eq_true, if_false]

/-! ### What a flip-flop captures (R43, R44, R45) -/

theorem dataInput_o (h : cellField s n col row c 17 2 = 0) : dataInput s n col row c = oOf s n col row c := by
  simp only [dataInput, h]

theorem dataInput_bypass (h : cellField s n col row c 17 2 = 1) : dataInput s n col row c = pinOf s n col row (5 * c + 4) := by
  simp only [dataInput, h]

theorem dataInput_cout (h : cellField s n col row c 17 2 = 2) :
    dataInput s n col row c = evalSig s (n / 16) evalDepth (.co (regionX0 n + col) (regionY0 n + row) c) := by
  simp only [dataInput, h]

section
variable {csn cs : Nat} (hcsn : csn = cellField s n col row c 19 1) (hcs : cs = controlSet s n col row csn)
include hcsn hcs

theorem captureCell_set (hen : bitOf cs 5 = true) (hpin : pinOf s n col row (81 + 2 * csn) = true) :
    captureCell s n col row c = srval s n col row c := by
  subst hcs hcsn
  simp only [captureCell, hen, hpin, Bool.and_self, if_true]

theorem captureCell_data (hsr : bitOf cs 5 = false ∨ pinOf s n col row (81 + 2 * csn) = false)
    (hce : bitOf cs 4 = false ∨ pinOf s n col row (80 + 2 * csn) = true) : captureCell s n col row c = dataInput s n col row c := by
  subst hcs hcsn
  have henabled : (!bitOf (controlSet s n col row (cellField s n col row c 19 1)) 4 ||
      pinOf s n col row (80 + 2 * cellField s n col row c 19 1)) = true := by simpa using hce
  simp only [captureCell, Bool.and_eq_false_iff.2 hsr, henabled, Bool.false_eq_true, if_false, if_true]

theorem captureCell_unchanged (hsr : bitOf cs 5 = false ∨ pinOf s n col row (81 + 2 * csn) = false) (hce : bitOf cs 4 = true)
    (hlow : pinOf s n col row (80 + 2 * csn) = false) : captureCell s n col row c = SMap.get false s.fab.q (cellKey n row col c) := by
  subst hcs hcsn
  simp only [captureCell, Bool.and_eq_false_iff.2 hsr, hce, hlow, Bool.not_true, Bool.or_self, Bool.false_eq_true, if_false]

end

theorem clockedBy_off (h : cellField s n col row c 17 2 = 3) (track edge : Nat) : clockedBy s n col row c track edge = false := by
  simp [clockedBy, h]

end

/-- Settles O57: what a flip-flop shows goes by its hold, DSEL and its asynchronous set/reset, in that order; what it captures goes by its
set/reset, its clock enable and DSEL, in that order. -/
theorem flipFlopsFollowTheirRule : Obligations.FlipFlopsFollowTheirRule := by
  refine ⟨?noPlane, ?init, ?live, ?set, ?data, ?unchanged, ?off⟩
  case noPlane =>
    intro s n col row c h
    exact qUnder_no_active h _
  case init =>
    intro s n col row c p h cs hcs hinit
    subst hcs
    exact qUnder_init h hinit _
  case live =>
    intro s n col row c p h cs hcs hheld hon sr hsr
    subst hcs
    have hq : qOf s n col row c = if sr then srval s n col row c else SMap.get false s.fab.q (cellKey n row col c) := by
      rw [hsr]
      exact qUnder_live h hheld hon _
    exact ⟨fun hhigh => by rw [hq, if_pos hhigh, srval], fun hlow => by rw [hq, hlow, if_neg Bool.false_ne_true]⟩
  case set =>
    intro s n col row c csn cs hcsn hcs hen hpin
    exact captureCell_set hcsn hcs hen hpin
  case data =>
    intro s n col row c csn cs hcsn hcs hsr hce
    rw [captureCell_data hcsn hcs hsr hce]
    exact ⟨dataInput_o, dataInput_bypass, dataInput_cout⟩
  case unchanged =>
    intro s n col row c csn cs hcsn hcs hsr hce hlow
    exact captureCell_unchanged hcsn hcs hsr hce hlow
  case off =>
    intro s n col row c track edge h
    exact clockedBy_off h track edge

/-! ### The regional clock edge (R42-R47, R59, R271) -/

@[simp] theorem State.setQs_nil (s : State) : s.setQs [] = s := rfl

/-- With no edge, the sets that recover and the data inputs noted stay; a free value is spent on each set that recovers. -/
theorem noteEdges_nil (s0 s : State) : noteEdges s0 s [] = { s with free := s.free + s.fab.recov.length } := by
  simp [noteEdges]

section
variable {n : Fin 128} {track : Fin 8} {s s0 : State} {pads : Option (BitVec 48)} {falling : Bool} {also : List (Fin 128 × Fin 8 × Bool)}

theorem exec_regionalClockEdge_runs (hs : s = (setPads s0 n pads).latchAsync) (hrun : s.clockRuns n track = true)
    {l : List (Nat × Nat × Nat)} (hl : l = edgesAt s n track (boolNat falling) also) {loads : List (Nat × Bool)}
    (hloads : loads = l.flatMap (fun x => if s.ffHeld x.1 x.2.1 then [] else captures s x.1 x.2.1 x.2.2)) :
    exec (.regionalClockEdge n track falling pads also) s0 = .next (l.foldl (edgeAround s) (noteEdges s (s.setQs loads) l)) := by
  subst hloads hl hs
  simp only [exec_regionalClockEdge, execRegionalClockEdge, hrun, if_true]

theorem exec_regionalClockEdge_stopped (hs : s = (setPads s0 n pads).latchAsync) (hrun : s.clockRuns n track = false) :
    exec (.regionalClockEdge n track falling pads also) s0 = .next { s with free := s.free + s.fab.recov.length } := by
  subst hs
  simp only [exec_regionalClockEdge, execRegionalClockEdge, hrun, Bool.false_eq_true, if_false, List.flatMap_nil, State.setQs_nil,
    List.foldl_nil, noteEdges_nil]

end

/-! ### The asynchronous set/reset (R46, R47) -/

/-- Whether ASYNC_SET_RESET passes a control set by, whatever its pin: no ACTIVE plane, a region that does not run, a set/reset that is not
asynchronous, or flip-flops in hold. -/
def setIdle (s : State) (n col row csn : Nat) : Bool :=
  (s.active n).isNone || !s.regionRuns n || !setAsync (controlSet s n col row csn) || s.ffHeld n (bitsOf (controlSet s n col row csn) 2 0)

theorem setIdle_eq_false {s : State} {n col row csn : Nat} (hactive : (s.active n).isSome = true) (hruns : s.regionRuns n = true)
    (hasync : setAsync (controlSet s n col row csn) = true) (hheld : s.ffHeld n (bitsOf (controlSet s n col row csn) 2 0) = false) :
    setIdle s n col row csn = false := by
  simp only [setIdle, Option.isNone_eq_false_iff.2 hactive, hruns, hasync, hheld, Bool.not_true, Bool.or_self]

theorem setIdle_of_not_async_or_held {s : State} {n col row csn : Nat}
    (h : setAsync (controlSet s n col row csn) = false ∨ s.ffHeld n (bitsOf (controlSet s n col row csn) 2 0) = true) :
    setIdle s n col row csn = true := by
  rcases h with hsync | hheld
  · simp [setIdle, hsync]
  · simp [setIdle, hheld]

section
variable {s : State} {n : Fin 128} {x : Fin 192} {y : Fin 128} {set rises : Bool} {when : SrTime}

theorem exec_asyncSetReset_idle (h : setIdle s n x y (boolNat set) = true) : exec (.asyncSetReset n x y set rises when) s = .next s := by
  unfold setIdle at h
  simp only [exec_asyncSetReset, execAsyncSetReset, h, if_true]

/-- The pin denies a rise while it is low and a release while it is high; a rise has no time to a clock edge. -/
theorem exec_asyncSetReset_denied (h : (rises = true ∧ pinOf s n x y (81 + 2 * boolNat set) = false) ∨
    (rises = false ∧ pinOf s n x y (81 + 2 * boolNat set) = true) ∨ (rises = true ∧ when ≠ .clear)) :
    exec (.asyncSetReset n x y set rises when) s = .next s := by
  simp only [exec_asyncSetReset, execAsyncSetReset]
  split
  next => rfl
  next =>
    rcases h with ⟨rfl, hlow⟩ | ⟨rfl, hhigh⟩ | ⟨rfl, htimed⟩
    · simp only [hlow]
    · simp only [hhigh]
    · cases when with
      | clear => exact absurd rfl htimed
      | late => rfl
      | early => rfl

section
variable (h : setIdle s n x y (boolNat set) = false)
include h

theorem exec_asyncSetReset_rise (hpin : pinOf s n x y (81 + 2 * boolNat set) = true) :
    exec (.asyncSetReset n x y set true .clear) s = .next (setLoad s n x y (boolNat set)) := by
  unfold setIdle at h
  simp only [exec_asyncSetReset, execAsyncSetReset, h, hpin, Bool.false_eq_true, if_false]

theorem exec_asyncSetReset_release (hpin : pinOf s n x y (81 + 2 * boolNat set) = false) :
    exec (.asyncSetReset n x y set false .clear) s = .next (setLoad s n x y (boolNat set)) := by
  unfold setIdle at h
  simp only [exec_asyncSetReset, execAsyncSetReset, h, hpin, Bool.false_eq_true, if_false]

theorem exec_asyncSetReset_late (hpin : pinOf s n x y (81 + 2 * boolNat set) = false) {t : State}
    (ht : t = setLoad s n x y (boolNat set)) : exec (.asyncSetReset n x y set false .late) s =
      .next { t with fab := { t.fab with recov := NSet.add s.fab.recov (setKey n x y (boolNat set)) } } := by
  unfold setIdle at h
  subst ht
  simp only [exec_asyncSetReset, execAsyncSetReset, h, hpin, Bool.false_eq_true, if_false]

theorem exec_asyncSetReset_early (hpin : pinOf s n x y (81 + 2 * boolNat set) = false) :
    exec (.asyncSetReset n x y set false .early) s = .next (s.setQs ((setCells s n x y (boolNat set)).map (fun c => (cellKey n y x c,
      if bitOf s.fresh c then srval s n x y c else s.fab.lastD.contains (cellKey n y x c))))).draw := by
  unfold setIdle at h
  simp only [exec_asyncSetReset, execAsyncSetReset, h, hpin, Bool.false_eq_true, if_false]

end

end

/-- Settles O16: an edge goes by whether its track runs, a set/reset by whether its control set is idle and by the level of its pin. -/
theorem fabricCommandsComplete : Obligations.FabricCommandsComplete := by
  refine ⟨?runs, ?stopped, ?atOnce, ?timed, ?nothing⟩
  case runs =>
    intro n track falling pads also s0 s hs hrun l hl loads hloads
    exact exec_regionalClockEdge_runs hs hrun hl hloads
  case stopped =>
    intro n track falling pads also s0 s hs hrun
    exact exec_regionalClockEdge_stopped hs hrun
  case atOnce =>
    intro n x y set s csn hcsn cs hcs hactive hruns hasync hheld
    subst hcs hcsn
    have hlive := setIdle_eq_false hactive hruns hasync hheld
    exact ⟨exec_asyncSetReset_rise hlive, exec_asyncSetReset_release hlive⟩
  case timed =>
    intro n x y set s csn hcsn cs hcs hactive hruns hasync hheld hpin t ht
    subst hcs hcsn
    have hlive := setIdle_eq_false hactive hruns hasync hheld
    exact ⟨exec_asyncSetReset_late hlive hpin ht, exec_asyncSetReset_early hlive hpin⟩
  case nothing =>
    intro n x y set rises when s csn hcsn cs hcs h
    subst hcs hcsn
    rcases h with hsync | hheld | hdenied
    · exact exec_asyncSetReset_idle (setIdle_of_not_async_or_held (.inl hsync))
    · exact exec_asyncSetReset_idle (setIdle_of_not_async_or_held (.inr hheld))
    · exact exec_asyncSetReset_denied hdenied

end Sys2Proof.Machine

/-! SUPPORT. The spans and bridges: wires judged and repaired, fences, rotations and the tuner's other work, the span edge and capture. -/

namespace Sys2Proof.Machine

open Sys2Proof

/-! ### A wire judged by its eye (R83, R87) -/

section
variable (s : State) (d site w lo width drv minEye : Nat)

@[simp] theorem State.wire_draw : s.draw.wire = s.wire := rfl

@[simp] theorem State.wire_setWire_self (r : WireRec) : (s.setWire d site w r).wire d site w = r := SMap.get_store_self _ _ _ _

theorem State.wire_setWire_ne {d' site' w' : Nat} (r : WireRec) (h : wireKey d' site' w' ≠ wireKey d site w) :
    (s.setWire d site w r).wire d' site' w' = s.wire d' site' w' := SMap.get_store_ne _ _ _ h

/-- The run of marginal calibrations stops counting at 3, which it reaches from 2. -/
theorem min_run_eq_three (n : Nat) : (min (n + 1) 3 == 3) = decide (2 ≤ n) := by
  rw [Bool.eq_iff_iff, beq_iff_eq, decide_eq_true_eq]
  omega

theorem judgeWire_failed : (judgeWire s d site w lo width drv minEye).2 =
    ((width == 0) || (decide (width < minEye) && decide (2 ≤ (s.wire d site w).margRun))) := by
  by_cases hmarg : width < minEye
  · simp [judgeWire, hmarg, min_run_eq_three]
  · simp [judgeWire, hmarg]

/-- A judgement stores one record of the wire and draws one free value. -/
theorem judgeWire_setWire : ∃ r : WireRec, (judgeWire s d site w lo width drv minEye).1 = (s.setWire d site w r).draw ∧
    r.eye = min width 63 ∧ r.carrier = (s.wire d site w).carrier ∧
    r.margRun = if width < minEye then min ((s.wire d site w).margRun + 1) 3 else 0 :=
  ⟨_, rfl, rfl, rfl, by simp⟩

end

/-! ### A FAILED wire moved by the state of its site (R88) -/

section
variable {s : State} {d site : Nat} (w : Nat)

theorem repairWire_disabled : repairWire s d site w false =
    (s.setWire d site w { s.wire d site w with state := max (s.wire d site w).state 2 }).raise (uDie d) 0x03 := rfl

theorem repairWire_normal (h : s.site d site = 0) : repairWire s d site w true =
    (s.setWire d site w { s.wire d site w with state := 2, carrier := 2 }).setSite d site 1 := by
  simp [repairWire, h]

theorem repairWire_repaired (h : s.site d site = 1) : repairWire s d site w true =
    (((s.setRot d site none).setWire d site w { s.wire d site w with state := 2, carrier := 1 }).setSite d site 2).raise (uDie d) 0x03 := by
  simp [repairWire, h]

theorem repairWire_degraded (h : s.site d site = 2) : repairWire s d site w true =
    ((s.setWire d site w { s.wire d site w with state := 3 }).setSite d site 3).raise (uDie d) 0x03 := by
  simp [repairWire, h]

end

/-- Settles O12: a judgement stores one record of the wire, and a repair goes by REPAIR_EN and the state of the site. -/
theorem wiresAreJudgedAndRepaired : Obligations.WiresAreJudgedAndRepaired := by
  refine ⟨?judged, fun s d site w => repairWire_disabled w, fun s d site w => repairWire_normal w,
    fun s d site w => repairWire_repaired w, fun s d site w => repairWire_degraded w⟩
  case judged =>
    intro s d site w lo width drv minEye
    obtain ⟨r, hstate, heye, hcarrier, hrun⟩ := judgeWire_setWire s d site w lo width drv minEye
    rw [hstate, State.wire_draw, State.wire_setWire_self]
    exact ⟨judgeWire_failed s d site w lo width drv minEye, by rw [← heye, ← hcarrier, ← hrun],
      fun _ _ _ hne => s.wire_setWire_ne d site w r hne, rfl⟩

/-! ### Fences of channels (R77, R78) -/

section
variable {s : State}

theorem exec_spanFence_contended {c : Fin 131072} (hfree : c.val ∉ s.span.fenced) (hmany : 1 < activeDrivers s c) :
    exec (.spanFence c) s = .next (fenceChannel s c) := by
  simp [execSpanFence, hfree, Nat.not_le.2 hmany]

theorem exec_fenceClearChannel_fenced {d : Fin 8} {c : BitVec 17} (hhome : channelDie c.toNat = d) (hfenced : c.toNat ∈ s.span.fenced) :
    exec (.fenceClearChannel d c) s = .next { s with span := { s.span with clearing := NSet.add s.span.clearing c.toNat } } := by
  simp [execFenceClearChannel, fenceClearChannel, hhome, hfenced]

end

/-! ### The budget (R424) -/

theorem State.budgeted_admitted {s : State} {c i cost : Nat} {f : State → State} (h : s.admits c i = true) :
    s.budgeted c i cost f = f (s.charge c i cost) := by
  rw [State.budgeted, if_pos h]

/-- A meter is no register. -/
@[simp] theorem State.charge_fld (s : State) (c n cost u : Nat) (f : Fld) (i j : Nat) :
    (s.charge c n cost).fld u f i j = s.fld u f i j := rfl

@[simp] theorem State.charge_flag (s : State) (c n cost u : Nat) (f : Fld) (i j : Nat) :
    (s.charge c n cost).flag u f i j = s.flag u f i j := rfl

/-! ### A rotation, phase by phase (R83, R84, R87) -/

section
variable {s : State} {d : Fin 8} {site : Fin 24576}

theorem exec_rotation_begins (wire : Fin 32) (hen : s.flag (uDie d) F.spnCtrlCalEn = true)
    (hidle : SMap.find s.span.rot (siteKey d site) = none) (hcan : canRotate s d site = true)
    (hpar : rotating s d < s.fld (uDie d) F.spnCtrlCalPar) (horder : inOrder s d site = true) (hbudget : s.admits 3 d = true) :
    exec (.rotation d site wire) s = .next (({ s.charge 3 d 1059 with span := { (s.charge 3 d 1059).span with
        first := s.span.first.filter (fun k => k != siteKey d site) } }).setRot d site
      (some ⟨wire, 0, s.fld (uDie d) F.spnCtrlMinEye, s.flag (uDie d) F.spnCtrlRepairEn⟩)) := by
  simp only [exec_rotation, execRotation, hen, hidle, hcan, Nat.not_le.2 hpar, horder, State.budgeted_admitted hbudget, Bool.not_true,
    Option.isSome_none, decide_false, Bool.or_self, Bool.false_eq_true, if_false, State.charge_span, State.charge_fld, State.charge_flag]

section
variable {r : Rotation} (hr : SMap.find s.span.rot (siteKey d site) = some r) (lapUs : Word32)
include hr

theorem exec_rotationSelectSpare_matched (hphase : r.phase = 0) (s0Pass : Bool) :
    exec (.rotationSelectSpare d site true s0Pass lapUs) s = .next (s.setRot d site (some { r with phase := 1 })) := by
  simp [execRotationSelectSpare, hr, hphase]

theorem exec_rotationSelectSpare_wireFailed (hphase : r.phase = 0) : exec (.rotationSelectSpare d site false true lapUs) s =
    .next (visitWire (repairWire (s.setRot d site none) d site r.wire r.repairEn) d site r.wire lapUs.toNat) := by
  simp [execRotationSelectSpare, hr, hphase]

theorem exec_rotationSelectSpare_spareFailed (hphase : r.phase = 0) : exec (.rotationSelectSpare d site false false lapUs) s =
    .next { s.setRot d site none with
      span := { (s.setRot d site none).span with s0Bad := NSet.add s.span.s0Bad (siteKey d site) } } := by
  simp [execRotationSelectSpare, hr, hphase, State.setRot]

theorem exec_rotationSweepDone_swept (hphase : r.phase = 1) (lo : BitVec 6) (width : Fin 65) (drv : BitVec 2) :
    exec (.rotationSweepDone d site lo width drv lapUs) s = .next
      (let j := judgeWire s d site r.wire lo.toNat width drv.toNat r.minEye
       if j.2 then visitWire (repairWire (j.1.setRot d site none) d site r.wire r.repairEn) d site r.wire lapUs.toNat
       else j.1.setRot d site (some { r with phase := 2 })) := by
  simp [execRotationSweepDone, hr, hphase, apply_ite Host.Outcome.next]

theorem exec_rotationReturn_returned (hphase : r.phase = 2) : exec (.rotationReturn d site lapUs) s =
    .next (visitWire ((s.setRot d site none).countWrap (uDie d) F.spnRotCountRotations) d site r.wire lapUs.toNat) := by
  simp [execRotationReturn, hr, hphase]

end

/-! ### The tuner's other work (R83, R86, R93) -/

theorem exec_spareCalibration_free {spare : Fin 2} (lo : BitVec 6) (width : Fin 65) (drv : BitVec 2)
    (hen : s.flag (uDie d) F.spnCtrlCalEn = true) (hfree : spareFree s d site spare = true) (hon : s.siteOff d site = false)
    (hbudget : s.admits 3 d = true) : exec (.spareCalibration d site spare lo width drv) s = .next
      (let j := judgeWire (s.charge 3 d 1024) d site (32 + spare.val) lo.toNat width drv.toNat (s.fld (uDie d) F.spnCtrlMinEye)
       if spare.val = 0 then { j.1 with span := { j.1.span with s0Bad := NSet.del j.1.span.s0Bad (siteKey d site) } } else j.1) := by
  simp only [exec_spareCalibration, execSpareCalibration, hen, hfree, hon, State.budgeted_admitted hbudget, Bool.not_true, Bool.or_self,
    Bool.false_eq_true, if_false, State.charge_fld]

theorem exec_startupCalibration_judges (wire : Fin 34) (lo : BitVec 6) (width : Fin 65) (drv : BitVec 2)
    (hleft : s.span.calibrated = false) (hnone : ∀ n < 128, s.active n = none) :
    exec (.startupCalibration d site wire lo width drv) s = .next
      (let j := judgeWire (startWire (startSite s d site) (wireKey d site wire)) d site wire lo.toNat width drv.toNat
         (s.fld (uDie d) F.spnCtrlMinEye)
       if j.2 && decide (wire.val < 32) then repairWire j.1 d site wire (s.flag (uDie d) F.spnCtrlRepairEn) else j.1) := by
  have hstart : (s.span.calibrated || (List.range 128).any (fun n => (s.active n).isSome)) = false := by
    rw [hleft, Bool.false_or, List.any_eq_false]
    intro n hn
    simp [hnone n (List.mem_range.1 hn)]
  simp only [exec_startupCalibration, execStartupCalibration, hstart, Bool.false_eq_true, if_false, apply_ite Host.Outcome.next]

theorem exec_forceRepair_idle (hwire : selWire s d < 32) (hidle : SMap.find s.span.rot (siteKey d (selSite s d)) = none) :
    exec (.forceRepair d) s = .next (repairWire s d (selSite s d) (selWire s d) (s.flag (uDie d) F.spnCtrlRepairEn)) := by
  simp [execForceRepair, forceRepair, hwire, hidle]

end

/-- Settles O11: with the conditions of its rules each command takes its one branch, and a rotation goes by its phase. -/
theorem spanCommandsComplete : Obligations.SpanCommandsComplete :=
  ⟨fun _ _ => exec_spanFence_contended, fun _ _ _ => exec_fenceClearChannel_fenced, fun _ _ => rfl,
    fun _ _ wire _ => exec_rotation_begins wire,
    fun _ _ s0Pass lapUs _ _ hr hphase => exec_rotationSelectSpare_matched hr lapUs hphase s0Pass,
    fun _ _ lapUs _ _ hr hphase => exec_rotationSelectSpare_wireFailed hr lapUs hphase,
    fun _ _ lapUs _ _ hr hphase => exec_rotationSelectSpare_spareFailed hr lapUs hphase,
    fun _ _ lo width drv lapUs _ _ hr hphase => exec_rotationSweepDone_swept hr lapUs hphase lo width drv,
    fun _ _ lapUs _ _ hr hphase => exec_rotationReturn_returned hr lapUs hphase,
    fun _ _ _ lo width drv _ => exec_spareCalibration_free lo width drv,
    fun _ _ wire lo width drv _ => exec_startupCalibration_judges wire lo width drv,
    fun _ _ => exec_forceRepair_idle, fun _ _ => rfl⟩

/-! ### The span edge and capture (R70, R528, R529, R533) -/

section
variable {s : State}

theorem exec_spanEdge_runs (hrun : s.clk.halted = false) (hspan : s.clk.spanOff = false) :
    exec .spanEdge s = .next (probeEdge (spanEdge s.latchAsync)) := by
  simp [execSpanEdge, hrun, hspan]

theorem captureArm_sized (h : s.fld uPrb F.prbCapSizePages ≠ 0) : captureArm s =
    ((({ s with dbg := { s.dbg with samples := [], flits := [], post := 0 } } : State).setFld uPrb F.prbCapStatRunning 1).setFld uPrb
      F.prbCapStatTriggered 0).setFld uPrb F.prbCapPtrOffset 0 := by
  rw [captureArm, if_neg h]

theorem exec_captureArm_permitted (h : fabricLevel s ≠ 0) : exec .captureArm s = .next ((captureArm s).answer .ok) := by
  rw [exec_captureArm, execCaptureArm, if_neg h]

theorem captureTrigger_met {sample : Word64} {mask val : Nat}
    (hmask : mask = s.fld uPrb F.prbCapMaskHiMask * 2 ^ 32 + s.fld uPrb F.prbCapMaskLoMask)
    (hval : val = s.fld uPrb F.prbCapValHiVal * 2 ^ 32 + s.fld uPrb F.prbCapValLoVal) (hrun : capturing s = true)
    (hnew : s.flag uPrb F.prbCapStatTriggered = false) (hmet : sample.toNat &&& mask = val) : captureTrigger s sample =
      captureDone { s.setFld uPrb F.prbCapStatTriggered 1 with dbg := { s.dbg with post := s.fld uPrb F.prbCapPostFlits } } := by
  subst hmask hval
  simp only [captureTrigger, hrun, hnew, hmet, beq_self_eq_true, Bool.not_false, Bool.and_self, if_true]

theorem captureDone_written (hrun : capturing s = true) (htrig : s.flag uPrb F.prbCapStatTriggered = true) (hpost : s.dbg.post = 0) :
    captureDone s = (({ s with dbg := { s.dbg with samples := [], flits := [] } } : State).setFld uPrb F.prbCapStatDone 1).setFld uPrb
      F.prbCapStatRunning 0 := by
  simp only [captureDone, hrun, htrig, hpost, beq_self_eq_true, Bool.and_self, if_true]

end

/-- Settles O43: the edge goes by the span clock, ARM by the FABRIC level and SIZE, the trigger and its end by what they wait for. -/
theorem probeCommandsComplete : Obligations.ProbeCommandsComplete := by
  refine ⟨fun _ => exec_spanEdge_runs, ?arm, fun _ => rfl, ?trigger, ?done⟩
  case arm =>
    intro s hlevel hsize
    rw [exec_captureArm_permitted hlevel, captureArm_sized hsize]
  case trigger =>
    intro mask val s hmask hval hrun hnew hmet
    rw [exec_captureTrigger, execCaptureTrigger, captureTrigger_met hmask hval hrun hnew hmet]
  case done =>
    intro s hrun htrig hpost
    rw [exec_captureDone, execCaptureDone, captureDone_written hrun htrig hpost]

end Sys2Proof.Machine

/-! SUPPORT. A step on an empty queue: one cycle of the plate clock. -/

namespace Sys2Proof.Machine

open Sys2Proof

/-! ### One cycle of the plate clock (R114, R178, R374) -/

section
variable {s : State}

theorem laneSlots_silent (h : ∀ p < 16, portSends s p = false) : laneSlots s = s := by
  refine List.foldlRecOn (motive := (· = s)) _ _ rfl ?_
  rintro t rfl p hp
  rw [h p (List.mem_range.1 hp), if_neg Bool.false_ne_true]

theorem plateTick_halted (h : s.clk.halted = true) : plateTick s = s := if_pos h

theorem plateTick_quiet (hrun : s.clk.halted = false) (hsilent : ∀ p < 16, portSends (plateQueues s) p = false)
    (hidle : meshBusy (plateQueues s) = false) : plateTick s = plateQueues s := by
  simp only [plateTick, laneSlots_silent hsilent, hrun, hidle, Bool.false_eq_true, if_false]

end

/-- Settles O2: a step on an empty queue is `plateTick`, which keeps the queue of commands. -/
theorem idleStepIsOnePlateCycle : Obligations.IdleStepIsOnePlateCycle := by
  refine ⟨fun _ => step_of_pending_nil, fun s => (plateTick_kept (Kept.refl s)).pending, ?halted, ?quiet⟩
  case halted =>
    intro s hnone hhalted
    rw [step_of_pending_nil hnone, plateTick_halted hhalted]
  case quiet =>
    intro s hnone hrun hsilent hidle
    rw [step_of_pending_nil hnone, plateTick_quiet hrun hsilent hidle]

end Sys2Proof.Machine

/-! SUPPORT. Block memories: accesses of the ports, refetches, line commands, and the clearing after reset. -/

namespace Sys2Proof.Machine

open Sys2Proof

/-! ### Accesses of the ports (R95, R100-R102, R104) -/

section
variable {s : State} {i : PortIn} {other : Option PortIn}

section
variable {m port : Nat}

/-- The other port's access takes part only where that port is active and the edges can coincide. -/
theorem portAccess_alone
    (h : ∀ o, other = some o → portActive s m (1 - port) o = false ∨ portsCoincide s m = false) :
    portAccess s m port i other = if i.we then portWrite s m port i else portRead s m port i := by
  cases other with
  | none => rfl
  | some o =>
    rcases h o rfl with hidle | hapart
    · simp [portAccess, hidle]
    · simp [portAccess, hapart]

theorem portAccess_both {o : PortIn} (ho : portActive s m 1 o = true) (hmeet : portsCoincide s m = true) :
    portAccess s m 0 i (some o) = bothPorts s m i o := by
  simp [portAccess, ho, hmeet]

theorem portRead_passing (h : lineOk (s.line m (wordAt s m port i).1) = true) : portRead s m port i =
    (let w := wordAt s m port i
     showData s m port (lineData (s.line m w.1) / 2 ^ w.2.1 % 2 ^ w.2.2) false) := by
  simp only [portRead, h, if_true, Bool.not_true]

theorem portRead_failing (h : lineOk (s.line m (wordAt s m port i).1) = false) : portRead s m port i =
    (let w := wordAt s m port i
     oweRefetch (showData s m port (lineData (s.line m w.1) / 2 ^ w.2.1 % 2 ^ w.2.2) true) m port w.1) := by
  simp only [portRead, h, Bool.false_eq_true, if_false, Bool.not_false]

/-- Read data goes to the output register's input with OREG = 1 and to DOUT with OREG = 0. -/
theorem showData_eq_setPort (s : State) (m port data : Nat) (cerr : Bool) : showData s m port data cerr = s.setPort m port
    (if memPortField (activeRecord s m) port 8 8 = 1 then
      { (s.bmPort m port).edge with busy := true, next := some (BitVec.ofNat 64 data, cerr) }
     else { (s.bmPort m port).edge with busy := true, dout := BitVec.ofNat 64 data, cerr := cerr }) := by
  simp only [showData, BmPort.access, apply_ite (s.setPort m port)]

end

section
variable {m : Fin 16384} {port : Fin 2} {inp : Option PortIn} (hi : i = portInput s m port inp) (hactive : portActive s m port i = true)
include hi hactive

theorem exec_bmRead_active (hwe : i.we = false) : exec (.bmRead m port inp other) s = .next (portAccess s m port i other) := by
  subst hi
  simp only [exec_bmRead, execBmRead, hactive, hwe, Bool.not_true, Bool.or_self, Bool.false_eq_true, if_false]

theorem exec_bmWrite_active (hwe : i.we = true) : exec (.bmWrite m port inp other) s = .next (portAccess s m port i other) := by
  subst hi
  simp only [exec_bmWrite, execBmWrite, hactive, hwe, Bool.not_true, Bool.or_self, Bool.false_eq_true, if_false]

variable (halone : ∀ o, other = some o → portActive s m (1 - port) o = false ∨ portsCoincide s m = false)
include halone

theorem exec_bmRead_alone (hwe : i.we = false) : exec (.bmRead m port inp other) s = .next (portRead s m port i) := by
  rw [exec_bmRead_active hi hactive hwe, portAccess_alone halone, hwe, if_neg Bool.false_ne_true]

theorem exec_bmWrite_alone (hwe : i.we = true) : exec (.bmWrite m port inp other) s = .next (portWrite s m port i) := by
  rw [exec_bmWrite_active hi hactive hwe, portAccess_alone halone, if_pos hwe]

end

end

/-! ### Refetches and line commands (R104, R105, R107) -/

section
variable {s : State}

section
variable {m : Fin 16384} {side : Fin 3} {r : Refetch} (hr : owedRefetch s m side = some r)
include hr

theorem exec_lineRefetch_idle (hidle : sideIdle s m side = true) : exec (.lineRefetch m side) s =
    .next (if lineOk (s.line m r.line) then recordTransient (dropRefetch s r) m else recordStored (dropRefetch s r) m r.line 0) := by
  simp only [exec_lineRefetch, execLineRefetch, hr, hidle, Bool.not_true, Bool.false_eq_true, if_false]

theorem exec_refetchTimeout_owed :
    exec (.refetchTimeout m side) s = .next (recordStored (dropRefetch s r) m r.line 0) := by
  simp only [exec_refetchTimeout, execRefetchTimeout, hr]

end

theorem queueLineCmd_free {d : Nat} (op m line : Nat) (hfree : SMap.find s.bm.lineCmd d = none) : queueLineCmd s d op m line =
    ({ s with bm := { s.bm with lineCmd := SMap.put s.bm.lineCmd d ⟨op, m, line⟩ } }).setFld (uDie d) F.bmLineStatBusy 1 := by
  simp [queueLineCmd, hfree]

theorem exec_lineCmdExecute_idle {d : Fin 8} {c : LineCmd} {m : Nat} (hm : m = d.val * 2048 + c.mem)
    (hc : SMap.find s.bm.lineCmd d = some c) (hmoving : memMoving s m = false) (hidle0 : portIdle s m 0 = true)
    (hidle1 : portIdle s m 1 = true) : exec (.lineCmdExecute d) s = .next
      (let s1 := ({ s with bm := { s.bm with lineCmd := SMap.erase s.bm.lineCmd d } }).setFld (uDie d) F.bmLineStatBusy 0
       if c.op = 2 then (s1.setLine m c.line (lineOf (lineData (s.line m c.line)))).setFld (uDie d) F.bmLineStatResult 3
       else if lineOk (s.line m c.line) then s1.setFld (uDie d) F.bmLineStatResult 1
       else recordStored (s1.setFld (uDie d) F.bmLineStatResult 2) m c.line 2) := by
  subst hm
  simp only [exec_lineCmdExecute, execLineCmdExecute, hc, hmoving, hidle0, hidle1, Bool.not_true, Bool.or_self, Bool.false_eq_true,
    if_false, apply_ite Host.Outcome.next]

end

/-! ### The clearing after reset (R122, R159) -/

/-- Whether a register key lies in the instruction memories of the tap engines (R161). -/
def isImemKey (key : Nat) : Bool :=
  unitKind (key / 0x1000000) == .die && decide (0x800000 ≤ key % 0x1000000) && decide (key % 0x1000000 < 0xC00000) &&
    decide (0x800 ≤ key % 0x1000) && decide (key % 0x1000 < 0xC00)

/-- The engine whose instruction memory a register key lies in. -/
def imemEngine (key : Nat) : Nat := (key / 0x1000000 - uDie 0) * 1024 + (key % 0x1000000 - 0x800000) / 0x1000

/-- An engine after the clearing: its operand memory is 0, unless a load has written it. -/
def engineCleared (s : State) (i : Nat) (e : Engine) : Engine :=
  if s.bm.loadedEng.contains i then e else { e with om := [], badParity := [] }

/-- The state once the clearing after reset is done. -/
def memoriesCleared (s : State) : State :=
  { s with
    bm := { s.bm with lines := s.bm.lines.filter (fun e => s.bm.loadedMem.contains (e.1 / 1024)), clearing := false }
    eng := s.eng.map (fun e => (e.1, engineCleared s e.1 e.2))
    csr := s.csr.filter (fun e => !(isImemKey e.1 && !s.bm.loadedEng.contains (imemEngine e.1))) }

section
variable {s : State}

theorem exec_memoryClearDone_clearing (h : s.bm.clearing = true) : exec .memoryClearDone s = .next (memoriesCleared s) := by
  have hentry : ∀ e : Nat × Engine, (if s.bm.loadedEng.contains e.1 then e else (e.1, { e.2 with om := [], badParity := [] })) =
      (e.1, engineCleared s e.1 e.2) :=
    fun e => by unfold engineCleared; split <;> rfl
  simp only [exec_memoryClearDone, execMemoryClearDone, h, Bool.not_true, Bool.false_eq_true, if_false, hentry, memoriesCleared,
    isImemKey, imemEngine]

theorem memoriesCleared_line (m : Nat) {l : Nat} (hl : l < 1024) :
    (memoriesCleared s).line m l = if m ∈ s.bm.loadedMem then s.line m l else lineOf 0 := by
  have hmem : (m * 1024 + l) / 1024 = m := by omega
  rw [State.line, SMap.get, memoriesCleared, SMap.find_filter_key _ (fun k => s.bm.loadedMem.contains (k / 1024)), hmem]
  by_cases h : m ∈ s.bm.loadedMem
  · simp [h, State.line, SMap.get]
  · simp [h, zeroLine]

/-- An engine that is not listed reads as cleared. -/
theorem engineCleared_default (s : State) (i : Nat) : engineCleared s i {} = {} := by
  unfold engineCleared; split <;> rfl

theorem memoriesCleared_engine (i : Nat) : (memoriesCleared s).engine i = engineCleared s i (s.engine i) := by
  rw [State.engine, SMap.get, memoriesCleared, SMap.find_map _ (fun e => engineCleared s e.1 e.2), State.engine, SMap.get]
  cases SMap.find s.eng i with
  | none => exact (engineCleared_default s i).symm
  | some e => rfl

theorem memoriesCleared_reg (u off : Nat) : (memoriesCleared s).reg u off =
    if isImemKey (csrHome u off) && !s.bm.loadedEng.contains (imemEngine (csrHome u off)) then csrReset (csrHome u off)
    else s.reg u off := by
  rw [State.reg, memoriesCleared, SMap.find_filter_key _ (fun k => !(isImemKey k && !s.bm.loadedEng.contains (imemEngine k)))]
  cases isImemKey (csrHome u off) && !s.bm.loadedEng.contains (imemEngine (csrHome u off)) <;> rfl

theorem unitKind_uDie {d : Nat} (h : d < 8) : unitKind (uDie d) = .die := by
  unfold uDie
  interval_cases d <;> rfl

/-- The registers of a die have their homes in the die itself. -/
theorem csrHome_uDie {d : Nat} (h : d < 8) (off : Nat) : csrHome (uDie d) off = csrKey (uDie d) off := by
  simp [csrHome, unitKind_uDie h]

/-- The register of an entry of an engine's instruction memory: its home, and the engine found again from its key. -/
theorem csrHome_imem {i k key : Nat} (hi : i < 8192) (hk : k < 256) (hkey : key = csrKey (engUnit i) (F.tapImemWord.at (i % 1024) k)) :
    csrHome (engUnit i) (F.tapImemWord.at (i % 1024) k) = key ∧ isImemKey key = true ∧ imemEngine key = i := by
  have hdie : i / 1024 < 8 := by omega
  have hword : key = uDie (i / 1024) * 0x1000000 + (0x800800 + 0x1000 * (i % 1024) + 4 * k) := hkey
  have hunit : key / 0x1000000 = uDie (i / 1024) := by omega
  have hoff : key % 0x1000000 = 0x800800 + 0x1000 * (i % 1024) + 4 * k := by omega
  refine ⟨hkey ▸ csrHome_uDie hdie _, ?_, ?_⟩
  · simp only [isImemKey, hunit, hoff, unitKind_uDie hdie, beq_self_eq_true, Bool.true_and, Bool.and_eq_true, decide_eq_true_eq]
    omega
  · simp only [imemEngine, hunit, hoff, uDie]
    omega

end

/-- Settles O13: an access goes by whether the other port's is made with it; the clearing leaves what a load has written. -/
theorem blockMemoryCommandsComplete : Obligations.BlockMemoryCommandsComplete := by
  refine ⟨?read, ?failingRead, showData_eq_setPort, ?write, ?both, fun _ _ _ _ => exec_lineRefetch_idle,
    fun _ _ _ _ => exec_refetchTimeout_owed, ?queueRefetch, ?queueRecompute, fun _ _ _ _ => exec_lineCmdExecute_idle, ?clearing⟩
  case read =>
    intro m port inp other s i hi hactive hwe halone hok
    rw [exec_bmRead_alone hi hactive halone hwe, portRead_passing hok]
  case failingRead =>
    intro m port inp other s i hi hactive hwe halone hbad
    rw [exec_bmRead_alone hi hactive halone hwe, portRead_failing hbad]
  case write =>
    intro m port inp other s i hi hactive hwe halone
    rw [exec_bmWrite_alone hi hactive halone hwe, portWrite]
  case both =>
    intro m inp o s i hi hactive ho hmeet
    have hread (hwe : i.we = false) : exec (.bmRead m 0 inp (some o)) s = .next (bothPorts s m i o) := by
      rw [exec_bmRead_active (port := 0) hi hactive hwe, ← portAccess_both ho hmeet, Fin.val_zero]
    have hwrite (hwe : i.we = true) : exec (.bmWrite m 0 inp (some o)) s = .next (bothPorts s m i o) := by
      rw [exec_bmWrite_active (port := 0) hi hactive hwe, ← portAccess_both ho hmeet, Fin.val_zero]
    exact ⟨fun hwe hwo => by simp only [hread hwe, bothPorts, hwe, hwo], fun hwe hwo => by simp only [hread hwe, bothPorts, hwe, hwo],
      fun hwe hwo => by simp only [hwrite hwe, bothPorts, hwe, hwo], fun hwe hwo => by simp only [hwrite hwe, bothPorts, hwe, hwo]⟩
  case queueRefetch =>
    intro d m line s hfree
    rw [exec_lineCmdRefetch, execLineCmdRefetch, queueLineCmd_free 1 m line hfree]
  case queueRecompute =>
    intro d m line s hfree
    rw [exec_lineCmdRecompute, execLineCmdRecompute, queueLineCmd_free 2 m line hfree]
  case clearing =>
    intro s hclearing
    refine ⟨memoriesCleared s, exec_memoryClearDone_clearing hclearing, rfl, fun m l => memoriesCleared_line m, ?_, ?_, ?_, ?_, rfl⟩
    · intro i hloaded
      rw [memoriesCleared_engine, engineCleared, if_pos (by simpa using hloaded)]
    · intro i hleft
      rw [memoriesCleared_engine, engineCleared, if_neg (by simpa using hleft)]
    · intro i k hi hk
      obtain ⟨hhome, himem, hengine⟩ := csrHome_imem hi hk rfl
      rw [memoriesCleared_reg, hhome, himem, hengine]
      by_cases h : i ∈ s.bm.loadedEng <;> simp [h]
    · intro u off hother
      rw [memoriesCleared_reg, if_neg]
      simpa [isImemKey] using fun a b c d e => absurd ⟨a, b, c, d, e⟩ hother

end Sys2Proof.Machine

/-! SUPPORT. Queues: pushes and pops of the ports, flushes, and the requests of the queue aperture. -/

namespace Sys2Proof.Machine

open Sys2Proof

/-! ### Pushes and pops of the ports (R112-R115) -/

section
variable {s : State} {m : Fin 16384} {inp : Option PortIn} {i : PortIn} {qn : Nat}

section
variable (hi : i = portInput s m 0 inp) (hqn : qn = portQueue m i) (hport : queuePort s m 0 i = true) (hpresent : qPresent s qn = true)
include hi hqn hport hpresent

theorem exec_push_stored (hflush : (s.queue qn).flushPush = false)
    (hside : s.flag (uDie (qnDie qn)) F.qcCfgPushNet (qnIdx qn) = false) (hfull : queueFull s qn = false) :
    exec (.push m inp) s = .next (showRefused ((putElement s qn ((s.queue qn).rd + (s.queue qn).count) i.din.toNat).setQueue qn
      ((s.queue qn).pushEdge.pushed 1 (flagLag s qn))).draw m false) := by
  subst hqn hi
  simp only [exec_push, execPush, hport, hpresent, hside, hflush, hfull, Bool.not_true, Bool.false_eq_true, if_false]

theorem exec_push_refused (hside : s.flag (uDie (qnDie qn)) F.qcCfgPushNet (qnIdx qn) = false)
    (h : (s.queue qn).flushPush = true ∨ queueFull s qn = true) :
    exec (.push m inp) s = .next (showRefused (refusePush (s.setQueue qn (s.queue qn).pushEdge) qn) m true) := by
  subst hqn hi
  simp only [exec_push, execPush, hport, hpresent, hside, Bool.not_true, Bool.false_eq_true, if_false]
  by_cases hflush : (s.queue (portQueue m (portInput s m 0 inp))).flushPush = true
  · rw [if_pos hflush]
  · rw [if_neg hflush, if_pos (h.resolve_left hflush)]

end

/-- The state after the oldest element has been popped and put at the output register, with CERR as given. -/
def elementPopped (s : State) (m qn : Nat) (cerr : Bool) : State :=
  ((s.setPort m 1 { (s.bmPort m 1).access with
      next := some (BitVec.ofNat 64 (getElement s qn (s.queue qn).rd), cerr), nextValid := true }).setQueue qn
    ((s.queue qn).popEdge.popped 1 (qCap s qn) (flagLag s qn))).draw

section
variable (hi : i = portInput s m 1 inp) (hqn : qn = portQueue m i) (hport : queuePort s m 1 i = true) (hpresent : qPresent s qn = true)
  (hflush : (s.queue qn).flushPop = false) (hside : s.flag (uDie (qnDie qn)) F.qcCfgPopNet (qnIdx qn) = false)
  (hempty : queueEmpty s qn = false)
include hi hqn hport hpresent hflush hside hempty

theorem exec_pop_passing (hok : elementOk s qn (s.queue qn).rd = true) :
    exec (.pop m inp) s = .next (elementPopped s m qn false) := by
  subst hqn hi
  simp only [exec_pop, execPop, elementPopped, hport, hpresent, hflush, hside, hempty, hok, Bool.not_true, Bool.or_self,
    Bool.false_eq_true, if_false, if_true]

theorem exec_pop_failing (hbad : elementOk s qn (s.queue qn).rd = false) :
    exec (.pop m inp) s = .next (oweRefetch ((elementPopped s m qn true).setFld (uDie (qnDie qn)) F.qcStatusCerr 1 (qnIdx qn)) m 1
      (qPlace s qn (s.queue qn).rd).1) := by
  subst hqn hi
  simp only [exec_pop, execPop, elementPopped, hport, hpresent, hflush, hside, hempty, hbad, Bool.not_true, Bool.not_false, Bool.or_self,
    Bool.false_eq_true, if_false]

end

end

/-! ### Flushes (R115) -/

section
variable {s : State} {qn : Nat}

theorem State.queue_flushQueue_self : (flushQueue s qn).queue qn =
    { s.queue qn with flushPush := true, flushPop := true, drop := (s.queue qn).count } :=
  SMap.get_store_self _ _ _ _

theorem State.queue_flushQueue_ne {q : Nat} (h : q ≠ qn) : (flushQueue s qn).queue q = s.queue q :=
  SMap.get_store_ne _ _ _ h

theorem flushQueue_aborts {x : Transfer} (hx : x ∈ (flushQueue s qn).bm.moving) (hqn : x.qn = qn) : x.aborted = true := by
  obtain ⟨t, -, rfl⟩ := List.mem_map.1 hx
  by_cases ht : t.qn = qn
  · rw [if_pos ht]
  · rw [if_neg ht] at hqn
    exact absurd hqn ht

end

theorem Queue.pushEdge_flushed {q : Queue} (h : q.flushPush = true) : q.pushEdge.pushView = 0 := by
  rw [Queue.pushEdge, if_pos h]

theorem Queue.popEdge_flushed {q : Queue} (h : q.flushPop = true) : q.popEdge.popView = 0 ∧ q.popEdge.count = q.count - q.drop := by
  rw [Queue.popEdge, if_pos h]
  exact ⟨rfl, rfl⟩

/-! ### Requests of the queue aperture (R116-R119) -/

section
variable {s s1 : State} {p : Packet} {n o qn : Nat} {push : Bool}

theorem any_held_eq_false (h : ∀ x ∈ s.bm.held, x.qn ≠ qn) : s.bm.held.any (fun x => x.qn == qn) = false := by
  rw [List.any_eq_false]
  intro x hx
  simpa using h x hx

section
variable (hlen : p.len.toNat ≠ 0) (hfull : p.fullEnables = true)
include hlen hfull

/-- A network push or pop that its queue can perform at once begins, in the state that a waiting flush of its side leaves. -/
theorem decideQueue_starts (hwin : windowOf p = some (n, o)) (ho : 0xFFE00000 ≤ o) (hqn : qn = apertureQueue n o)
    (hs1 : s1 = netFlush s qn push) (hop : p.op = if push then opWrite else opRead) (hflip : flipping s1 n = false) (hpresent : qPresent s1 qn = true)
    (hside : s1.flag (uDie (qnDie qn)) (if push then F.qcCfgPushNet else F.qcCfgPopNet) (qnIdx qn) = true)
    (hfits : reqElements s1 qn p ≤ qLimit s1 qn) (hheld : ∀ x ∈ s1.bm.held, x.qn ≠ qn) (hcond : conditionMet s1 qn push p = true) :
    decideQueue s push p = startTransfer (s1.takeReq p) qn push p := by
  subst hqn hs1
  simp only [decideQueue, hwin, Nat.not_lt.2 ho, hop, hlen, hfull, hflip, hpresent, hside, Nat.not_lt.2 hfits, any_held_eq_false hheld,
    hcond, ne_eq, not_true_eq_false, Bool.not_true, Bool.or_self, Bool.false_eq_true, and_false, or_self, if_false]

theorem peekQueue_returns (hqn : qn = apertureQueue n o) (hop : p.op = opRead) (hflip : flipping s n = false)
    (hpresent : qPresent s qn = true) (hside : s.flag (uDie (qnDie qn)) F.qcCfgPopNet (qnIdx qn) = true)
    {k : Nat} (hk : k = reqElements s qn p) (hfits : k ≤ qLimit s qn) (hheld : ∀ x ∈ s.bm.held, x.qn ≠ qn)
    (hcond : conditionMet s qn false p = true) : peekQueue s n o p =
      s.reply p (if (List.range k).all (fun j => elementOk s qn ((s.queue qn).rd + j)) then .ok else .poison)
        (toLines p.len.toNat (elementBytes s qn (s.queue qn).rd k)) := by
  subst hqn hk
  simp only [peekQueue, hop, hlen, hfull, hflip, hpresent, hside, Nat.not_lt.2 hfits, any_held_eq_false hheld,
    hcond, ne_eq, not_true_eq_false, Bool.not_true, Bool.or_self, Bool.false_eq_true, and_false, or_self, if_false]

end

theorem op_of_peeks (h : peeks s p = true) : p.op = opRead := by
  simp only [peeks, Bool.and_eq_true, beq_iff_eq] at h
  exact h.1.2

section
variable (ha : s.arrived p = true) (ht : queueTurn s p = true)
include ha ht

theorem exec_aperturePush_write (hop : p.op = opWrite) : exec (.aperturePush p) s = .next (decideQueue s true p) := by
  have hne : (p.op != opRead) = true := by rw [hop]; rfl
  simp only [exec_aperturePush, execAperturePush, ha, ht, hne, Bool.and_self, if_true]

section
variable (hwin : windowOf p = some (n, o)) (ho : 0xFFE00000 ≤ o)
include hwin ho

theorem exec_aperturePop_read (hop : p.op = opRead) (hpeek : peeks s p = false) :
    exec (.aperturePop p) s = .next (decideQueue s false p) := by
  simp only [exec_aperturePop, execAperturePop, readQueue, ha, ht, hop, hwin, Nat.not_lt.2 ho, hpeek, beq_self_eq_true, Bool.and_self,
    Bool.false_eq_true, if_false, if_true]

theorem exec_peek_peeks (hpeek : peeks s p = true) : exec (.peek p) s = .next (peekQueue s n o p) := by
  simp only [exec_peek, execPeek, readQueue, ha, ht, hwin, Nat.not_lt.2 ho, hpeek, Bool.and_self, if_false, if_true]

end

end

end

section
variable {s : State}

theorem exec_heldRequestProceed_starts {s1 : State} {qn : BitVec 16} {h : HeldReq} (hs1 : s1 = netFlush s h.qn h.push)
    (hfind : s.bm.held.find? (fun h => h.qn == qn.toNat) = some h) (hflip : flipping s1 (qnPort h.qn) = false)
    (hpresent : qPresent s1 h.qn = true)
    (hside : s1.flag (uDie (qnDie h.qn)) (if h.push then F.qcCfgPushNet else F.qcCfgPopNet) (qnIdx h.qn) = true)
    (hfits : reqElements s1 h.qn h.pkt ≤ qLimit s1 h.qn) (hcond : conditionMet s1 h.qn h.push h.pkt = true) :
    exec (.heldRequestProceed qn) s =
      .next (startTransfer { s1 with bm := { s1.bm with held := s1.bm.held.erase h } } h.qn h.push h.pkt) := by
  subst hs1
  simp only [exec_heldRequestProceed, execHeldRequestProceed, hfind, hflip, hpresent, hside, Nat.not_lt.2 hfits, hcond, Bool.not_true,
    Bool.or_self, Bool.false_eq_true, if_false]

theorem exec_holdTimeout_held {n : Fin 128} {i : Fin 8} {h : HeldReq}
    (hslot : (s.bm.held.filter (fun h => qnPort h.qn == n.val))[i.val]? = some h) :
    exec (.holdTimeout n i) s = .next (replyQueue { s with bm := { s.bm with held := s.bm.held.erase h } } h.qn h.pkt .busy) := by
  simp only [exec_holdTimeout, execHoldTimeout, hslot]

theorem exec_networkTransferDone_moving {qn : BitVec 16} {x : Transfer}
    (hfind : s.bm.moving.find? (fun t => t.qn == qn.toNat) = some x) : exec (.networkTransferDone qn) s = .next
      (let s1 : State := { s with bm := { s.bm with moving := s.bm.moving.erase x } }
       if x.aborted then replyQueue s1 x.qn x.pkt .busy else if x.push then finishPush s1 x else finishPop s1 x) := by
  simp only [exec_networkTransferDone, execNetworkTransferDone, hfind, apply_ite Host.Outcome.next]

end

/-- Settles O15: a port's command goes by its own side's flags, a request by its queue, and a flush marks the queue and its transfers. -/
theorem queueCommandsComplete : Obligations.QueueCommandsComplete := by
  refine ⟨fun _ _ _ _ _ => exec_push_stored, fun _ _ _ _ _ => exec_push_refused, fun _ _ _ _ _ => exec_pop_passing,
    fun _ _ _ _ _ => exec_pop_failing, ?flush, ?push, ?pop, ?peek, fun _ _ _ _ => exec_heldRequestProceed_starts,
    fun _ _ _ _ => exec_holdTimeout_held, fun _ _ _ => exec_networkTransferDone_moving⟩
  case flush =>
    intro qn s hpresent
    have hqueue : (flushQueue s qn.toNat).queue qn.toNat = _ := State.queue_flushQueue_self
    obtain ⟨hpopView, hcount⟩ := Queue.popEdge_flushed (q := (flushQueue s qn.toNat).queue qn.toNat) (by rw [hqueue])
    refine ⟨flushQueue s qn.toNat, ?next, hqueue, Queue.pushEdge_flushed (by rw [hqueue]), hpopView, ?count,
      fun _ => State.queue_flushQueue_ne, fun _ _ => rfl, fun _ => flushQueue_aborts, rfl⟩
    case next => rw [exec_flush, execFlush, if_pos hpresent]
    case count => rw [hcount, hqueue, Nat.sub_self]
  case push =>
    intro p n o s qn s1 hqn hs1 ha ht hop hwin ho hlen hfull hflip hpresent hside hfits hheld hcond
    rw [exec_aperturePush_write ha ht hop, decideQueue_starts hlen hfull hwin ho hqn hs1 hop hflip hpresent hside hfits hheld hcond]
  case pop =>
    intro p n o s qn s1 hqn hs1 ha ht hop hpeek hwin ho hlen hfull hflip hpresent hside hfits hheld hcond
    rw [exec_aperturePop_read ha ht hwin ho hop hpeek,
      decideQueue_starts hlen hfull hwin ho hqn hs1 hop hflip hpresent hside hfits hheld hcond]
  case peek =>
    intro p n o s qn hqn k hk ha ht hwin ho hpeek hlen hfull hflip hpresent hside hfits hheld hcond
    rw [exec_peek_peeks ha ht hwin ho hpeek,
      peekQueue_returns hlen hfull hqn (op_of_peeks hpeek) hflip hpresent hside hk hfits hheld hcond]

end Sys2Proof.Machine

/-! SUPPORT. The arithmetic of a tap engine's lanes: signed elements, products, saturation, and the MAC steps of the eight lanes. -/

namespace Sys2Proof.Machine

open Sys2Proof

/-! ### Signed values of a width (R144) -/

theorem signedOf_eq_bmod (w v : Nat) : signedOf (w + 1) v = Int.bmod v (2 ^ (w + 1)) := by
  have hhalf : (((2 ^ (w + 1) : Nat) : Int) + 1) / 2 = ((2 ^ w : Nat) : Int) := by rw [pow_succ]; omega
  rw [signedOf, Int.bmod_def, hhalf, Nat.add_sub_cancel]
  norm_cast

theorem abs_signedOf_le (w v : Nat) : |signedOf (w + 1) v| ≤ 2 ^ w := by
  have hlo := Int.le_bmod (x := v) (Nat.two_pow_pos (w + 1))
  have hhi := Int.bmod_lt (x := v) (Nat.two_pow_pos (w + 1))
  rw [← signedOf_eq_bmod] at hlo hhi
  push_cast [pow_succ] at hlo hhi
  exact abs_le.2 (by omega)

theorem abs_signedOf_mul_le (w x y : Nat) : |signedOf (w + 1) x * signedOf (w + 1) y| ≤ 2 ^ w * 2 ^ w := by
  rw [abs_mul]
  exact mul_le_mul (abs_signedOf_le w x) (abs_signedOf_le w y) (abs_nonneg _) (by positivity)

/-- An integer that fits in a width is read back from its low bits. -/
theorem signedOf_unsignedOf (w : Nat) (x : Int) (hlo : -2 ^ w ≤ x) (hhi : x < 2 ^ w) : signedOf (w + 1) (unsignedOf (w + 1) x) = x := by
  have hpos : ((2 ^ (w + 1) : Nat) : Int) ≠ 0 := by positivity
  rw [signedOf_eq_bmod, unsignedOf, Int.toNat_of_nonneg (Int.emod_nonneg _ hpos), Int.emod_bmod]
  exact Int.bmod_eq_of_le (by push_cast [pow_succ]; omega) (by push_cast [pow_succ]; omega)

/-! ### Saturation (R144) -/

theorem satSigned_eq (w : Nat) (e : Int) : satSigned (w + 1) e =
    (if e < -2 ^ w then -2 ^ w else if 2 ^ w - 1 < e then 2 ^ w - 1 else e, decide (e < -2 ^ w ∨ 2 ^ w - 1 < e)) := by
  have hclamp : clampSigned (w + 1) e = if e < -2 ^ w then -2 ^ w else if 2 ^ w - 1 < e then 2 ^ w - 1 else e := by
    simp only [clampSigned, Nat.add_sub_cancel, Nat.cast_pow, Nat.cast_ofNat, gt_iff_lt]
  rw [satSigned, hclamp]
  refine Prod.ext rfl (Bool.eq_iff_iff.2 ?_)
  simp only [bne_iff_ne, decide_eq_true_iff]
  split_ifs <;> omega

theorem satSigned_of_fits {w : Nat} {e : Int} (hlo : -2 ^ w ≤ e) (hhi : e ≤ 2 ^ w - 1) : satSigned (w + 1) e = (e, false) := by
  rw [satSigned_eq, if_neg (by omega), if_neg (by omega), decide_eq_false (by omega)]

theorem satSigned_fits (w : Nat) (e : Int) : -2 ^ w ≤ (satSigned (w + 1) e).1 ∧ (satSigned (w + 1) e).1 < 2 ^ w := by
  have hpos : (0 : Int) < 2 ^ w := by positivity
  simp only [satSigned_eq]
  split_ifs <;> omega

/-! ### Products of a lane (R144) -/

theorem laneProduct_s18 (x y : Nat) : laneProduct false x y = signedOf 18 x * signedOf 18 y := rfl

theorem laneProduct_i8 (x y : Nat) : laneProduct true x y = signedOf 8 (bitsOf x 7 0) * signedOf 8 (bitsOf y 7 0) +
    (signedOf 8 (bitsOf x 15 8) * signedOf 8 (bitsOf y 15 8) + (signedOf 8 (bitsOf x 23 16) * signedOf 8 (bitsOf y 23 16) +
    signedOf 8 (bitsOf x 31 24) * signedOf 8 (bitsOf y 31 24))) := by
  rw [← add_zero (signedOf 8 (bitsOf x 31 24) * signedOf 8 (bitsOf y 31 24))]
  rfl

theorem laneProduct_s18_bounds (x y : Nat) : -(2 ^ 34) ≤ laneProduct false x y ∧ laneProduct false x y ≤ 2 ^ 34 :=
  abs_le.1 (abs_signedOf_mul_le 17 x y)

/-- Each of the four products is at most 2^14 in magnitude, so their sum is at most 2^16. -/
theorem laneProduct_i8_bounds (x y : Nat) : -(2 ^ 17) < laneProduct true x y ∧ laneProduct true x y < 2 ^ 17 := by
  have hprod (hi lo : Nat) := abs_le.1 (abs_signedOf_mul_le 7 (bitsOf x hi lo) (bitsOf y hi lo))
  have h0 := hprod 7 0
  have h1 := hprod 15 8
  have h2 := hprod 23 16
  have h3 := hprod 31 24
  rw [laneProduct_i8]
  constructor <;> linarith

/-! ### MAC steps (R144) -/

theorem macStep_of_fits {acc p : Int} (hlo : -(2 ^ 47) ≤ acc + p) (hhi : acc + p ≤ 2 ^ 47 - 1) :
    macStep acc p false false = (acc + p, false) :=
  satSigned_of_fits (w := 47) hlo hhi

/-- Full-scale products accumulate exactly as long as their number, with the accumulator they begin from, leaves them room. -/
theorem foldl_macStep_exact (l : List (Nat × Nat)) (acc : Int) (hroom : |acc| + l.length * 2 ^ 34 < 2 ^ 47) :
    l.foldl (fun a q => (macStep a (laneProduct false q.1 q.2) false false).1) acc =
        acc + (l.map (fun q => laneProduct false q.1 q.2)).sum ∧
      |acc + (l.map (fun q => laneProduct false q.1 q.2)).sum| ≤ |acc| + l.length * 2 ^ 34 := by
  induction l generalizing acc with
  | nil => simp
  | cons q l ih =>
    have hp : |laneProduct false q.1 q.2| ≤ 2 ^ 34 := abs_signedOf_mul_le 17 q.1 q.2
    have hacc := (abs_add_le acc (laneProduct false q.1 q.2)).trans (add_le_add_right hp _)
    push_cast [List.length_cons] at hroom ⊢
    have hfits : |acc + laneProduct false q.1 q.2| < 2 ^ 47 := by linarith [Int.natCast_nonneg l.length]
    obtain ⟨hlo, hhi⟩ := abs_lt.1 hfits
    obtain ⟨hfold, hbound⟩ := ih (acc + laneProduct false q.1 q.2) (by linarith)
    rw [List.foldl_cons, macStep_of_fits hlo.le (Int.le_sub_one_of_lt hhi), hfold, List.map_cons, List.sum_cons, ← add_assoc]
    exact ⟨rfl, by linarith⟩

/-! ### The MAC steps of the eight lanes (R144) -/

theorem SMap.get_foldl_store {α : Type} [DecidableEq α] (d : α) (f : Nat → α) (l : List Nat) (m : SMap α) (k : Nat) :
    SMap.get d (l.foldl (fun m j => SMap.store d m j (f j)) m) k = if k ∈ l then f k else SMap.get d m k := by
  induction l generalizing m with
  | nil => rfl
  | cons j l ih =>
    rw [List.foldl_cons, ih]
    by_cases hkj : k = j
    · subst hkj; simp
    · simp [hkj, SMap.get_store_ne]

@[simp] theorem State.engine_setEngine_self (s : State) (i : Nat) (e : Engine) : (s.setEngine i e).engine i = e :=
  SMap.get_store_self _ _ _ _

@[simp] theorem State.engine_setEf (s : State) (i : Nat) (f : Fld) (v j k : Nat) : (s.setEf i f v j).engine k = s.engine k := rfl

@[simp] theorem State.ef_setEngine (s : State) (i : Nat) (e : Engine) (k : Nat) (f : Fld) (j : Nat) :
    (s.setEngine i e).ef k f j = s.ef k f j := rfl

section
variable (s : State) (i : Nat) (clr sub : Bool) (y : Nat → Nat)

/-- The MAC step of lane `j`: its accumulator and whether it saturated. -/
def laneStep (j : Nat) : Int × Bool :=
  macStep (accOf (s.engine i) j) (laneProduct (isI8 s i) (SMap.get 0 (s.engine i).dl j) (y j)) clr sub

/-- The engine after the MAC steps of the eight lanes. -/
def macEngine : Engine :=
  { s.engine i with
    acc := (List.range 8).foldl (fun m j => SMap.store 0 m j (unsignedOf 48 (laneStep s i clr sub y j).1)) (s.engine i).acc }

theorem macLanes_eq : macLanes s i clr sub y =
    if (List.range 8).any (fun j => (laneStep s i clr sub y j).2) then (s.setEngine i (macEngine s i clr sub y)).setEf i F.tapStatusOvf 1
    else s.setEngine i (macEngine s i clr sub y) := rfl

theorem engine_macLanes : (macLanes s i clr sub y).engine i = macEngine s i clr sub y := by
  rw [macLanes_eq]
  split <;> simp

theorem accOf_macEngine {j : Nat} (hj : j < 8) : accOf (macEngine s i clr sub y) j = (laneStep s i clr sub y j).1 := by
  have ⟨hlo, hhi⟩ : -2 ^ 47 ≤ (laneStep s i clr sub y j).1 ∧ (laneStep s i clr sub y j).1 < 2 ^ 47 := satSigned_fits 47 _
  rw [accOf, macEngine, SMap.get_foldl_store, if_pos (List.mem_range.2 hj)]
  exact signedOf_unsignedOf 47 _ hlo hhi

theorem ovf_macLanes : (macLanes s i clr sub y).ef i F.tapStatusOvf =
    if (List.range 8).any (fun j => (laneStep s i clr sub y j).2) then 1 else s.ef i F.tapStatusOvf := by
  rw [macLanes_eq]
  split
  · exact State.fld_setFld_self _ _ _ _ _ _ (by decide) (by decide)
  · rw [State.ef_setEngine]

end

/-- Settles O19: a product is bounded by its factors' widths, a step saturates its exact sum, and 8,191 products of 2^34 stay below 2^47. -/
theorem macStepsSaturate : Obligations.MacStepsSaturate := by
  refine ⟨fun x y => ⟨laneProduct_s18 x y, laneProduct_s18_bounds x y⟩, fun x y => ⟨laneProduct_i8 x y, laneProduct_i8_bounds x y⟩,
    ?step, ?lanes, fun s i clr sub y => ovf_macLanes s i clr sub y, ?exact, rfl, rfl⟩
  case step =>
    intro acc p clr sub e he
    rw [macStep, ← he, satSigned_eq 47]
    exact ⟨rfl, decide_eq_true_iff⟩
  case lanes =>
    intro s i j clr sub y hj
    rw [engine_macLanes]
    exact accOf_macEngine s i clr sub y hj
  case exact =>
    intro l hlen
    have hcount : ((l.length : Nat) : Int) ≤ 8191 := by exact_mod_cast hlen
    obtain ⟨hfold, hbound⟩ := foldl_macStep_exact l 0 (by rw [abs_zero]; linarith)
    rw [zero_add] at hfold hbound
    rw [abs_zero] at hbound
    obtain ⟨hlo, hhi⟩ := abs_le.1 hbound
    exact ⟨hfold, by linarith, by linarith⟩

end Sys2Proof.Machine

/-! SUPPORT. The operand memory of a tap engine: where an element lies in a word, and what a write of it leaves in each bit. -/

namespace Sys2Proof.Machine

open Sys2Proof

/-! ### Bits of a word -/

theorem bitsOf_testBit (v hi lo k : Nat) : (bitsOf v hi lo).testBit k = (decide (k < hi + 1 - lo) && v.testBit (lo + k)) := by
  rw [bitsOf, Nat.testBit_mod_two_pow, Nat.testBit_div_two_pow, Nat.add_comm k lo]

theorem maskAt_testBit (lo n k : Nat) : (maskAt lo n).testBit k = (decide (lo ≤ k) && decide (k < lo + n)) := by
  rw [maskAt, Nat.testBit_mul_two_pow, Nat.testBit_two_pow_sub_one, Bool.eq_iff_iff]
  simp only [Bool.and_eq_true, decide_eq_true_eq]
  omega

theorem maskAt_lt {lo n w : Nat} (h : lo + n ≤ w) : maskAt lo n < 2 ^ w := by
  refine Nat.lt_pow_two_of_testBit _ fun k hk => ?_
  rw [maskAt_testBit, decide_eq_false (p := k < lo + n) (by omega), Bool.and_false]

/-- The bits of a word of which `n` from `lo` on are replaced by those of `v`. -/
theorem replaceBits_testBit (x v : Nat) {lo n w : Nat} (hv : v < 2 ^ n) (hw : lo + n ≤ w) {k : Nat} (hk : k < w) :
    (BitVec.ofNat w ((x &&& (2 ^ w - 1 - maskAt lo n)) + v * 2 ^ lo)).getLsbD k =
      if lo ≤ k ∧ k < lo + n then v.testBit (k - lo) else x.testBit k := by
  have hkept (j : Nat) : (x &&& (2 ^ w - 1 - maskAt lo n)).testBit j = (x.testBit j && (decide (j < w) && !(maskAt lo n).testBit j)) := by
    rw [Nat.testBit_and, Nat.sub_sub, Nat.add_comm 1, Nat.testBit_two_pow_sub_succ (maskAt_lt hw)]
  have hnew {j : Nat} (hj : lo + n ≤ j) : v.testBit (j - lo) = false :=
    Nat.testBit_lt_two_pow (hv.trans_le (Nat.pow_le_pow_right two_pos (by omega)))
  have hdisjoint : BitVec.ofNat w (x &&& (2 ^ w - 1 - maskAt lo n)) &&& BitVec.ofNat w (v * 2 ^ lo) = 0#w := by
    refine BitVec.eq_of_getLsbD_eq fun j _ => ?_
    simp only [BitVec.getLsbD_and, BitVec.getLsbD_ofNat, hkept, maskAt_testBit, Nat.testBit_mul_two_pow]
    by_cases hin : j < lo + n
    · by_cases hlo : lo ≤ j <;> simp [hin, hlo]
    · simp [hnew (Nat.le_of_not_lt hin)]
  rw [BitVec.ofNat_add, BitVec.add_eq_or_of_and_eq_zero _ _ hdisjoint]
  simp only [BitVec.getLsbD_or, BitVec.getLsbD_ofNat, hkept, maskAt_testBit, Nat.testBit_mul_two_pow, hk]
  by_cases hlo : lo ≤ k
  · by_cases hin : k < lo + n
    · simp [hlo, hin]
    · simp [hlo, hin, hnew (Nat.le_of_not_lt hin)]
  · simp [hlo]

/-! ### Where an element lies (R133) -/

/-- The word that holds an element. -/
def omIndex (i8 : Bool) (a : Nat) : Nat := if i8 then a % 4096 / 2 else a % 8192 / 4

/-- The bits of a word that an element's write replaces: a quad's four bits above it are its own. -/
def omCell (i8 : Bool) : Nat := if i8 then 36 else 18

/-- The lowest bit of an element in its word. -/
def omLow (i8 : Bool) (a : Nat) : Nat := if i8 then 36 * (a % 2) else 18 * (a % 4)

/-- The bits of an element. -/
def omWidth (i8 : Bool) : Nat := if i8 then 32 else 18

theorem omIndex_mod (i8 : Bool) (a : Nat) : omIndex i8 a % 2048 = omIndex i8 a := by
  cases i8 <;> simp only [omIndex, Bool.false_eq_true, if_false, if_true] <;> omega

theorem omLow_add_omCell_le (i8 : Bool) (a : Nat) : omLow i8 a + omCell i8 ≤ 72 := by
  cases i8 <;> simp only [omLow, omCell, Bool.false_eq_true, if_false, if_true] <;> omega

theorem omWidth_le_omCell (i8 : Bool) : omWidth i8 ≤ omCell i8 := by cases i8 <;> decide

/-- Two elements of one word have different places in it. -/
theorem omCells_disjoint {i8 : Bool} {a b : Nat} (hne : b % (if i8 then 4096 else 8192) ≠ a % (if i8 then 4096 else 8192))
    (hindex : omIndex i8 b = omIndex i8 a) : omLow i8 b + omCell i8 ≤ omLow i8 a ∨ omLow i8 a + omCell i8 ≤ omLow i8 b := by
  cases i8 <;> simp only [omIndex, omLow, omCell, Bool.false_eq_true, if_false, if_true] at hne hindex ⊢ <;> omega

theorem omElement_testBit (i8 : Bool) (e : Engine) (a k : Nat) :
    (omElement i8 e a).testBit k = (decide (k < omWidth i8) && (omWord e (omIndex i8 a)).testBit (omLow i8 a + k)) := by
  have hbits : omElement i8 e a = bitsOf (omWord e (omIndex i8 a)) (omLow i8 a + (omWidth i8 - 1)) (omLow i8 a) := by cases i8 <;> rfl
  have hpos : 0 < omWidth i8 := by cases i8 <;> decide
  rw [hbits, bitsOf_testBit, show omLow i8 a + (omWidth i8 - 1) + 1 - omLow i8 a = omWidth i8 by omega]

/-! ### A write of an element (R133, R140) -/

theorem omWord_setOmElement_ne {i8 : Bool} {e : Engine} {a v w : Nat} (h : w % 2048 ≠ omIndex i8 a) :
    omWord (setOmElement i8 e a v) w = omWord e w := by
  rw [← omIndex_mod] at h
  exact congrArg BitVec.toNat (SMap.get_store_ne _ _ _ h)

/-- In the word of an element written, the bits of its place are its own, with 0 above them, and every other bit is as it was. -/
theorem omWord_setOmElement_testBit (i8 : Bool) (e : Engine) (a v : Nat) {k : Nat} (hk : k < 72) :
    (omWord (setOmElement i8 e a v) (omIndex i8 a)).testBit k =
      if omLow i8 a ≤ k ∧ k < omLow i8 a + omCell i8 then (v % 2 ^ omWidth i8).testBit (k - omLow i8 a)
      else (omWord e (omIndex i8 a)).testBit k := by
  have hv : v % 2 ^ omWidth i8 < 2 ^ omCell i8 :=
    (Nat.mod_lt _ (by positivity)).trans_le (Nat.pow_le_pow_right two_pos (omWidth_le_omCell i8))
  rw [← replaceBits_testBit _ _ hv (omLow_add_omCell_le i8 a) hk, ← BitVec.testBit_toNat]
  have hset : setOmElement i8 e a v = setOmWord e (omIndex i8 a)
      ((omWord e (omIndex i8 a) &&& (2 ^ 72 - 1 - maskAt (omLow i8 a) (omCell i8))) + v % 2 ^ omWidth i8 * 2 ^ omLow i8 a) := by
    cases i8 <;> rfl
  rw [hset, omWord, setOmWord, SMap.get_store_self]

theorem omElement_setOmElement_self (i8 : Bool) (e : Engine) (a v : Nat) :
    omElement i8 (setOmElement i8 e a v) a = v % 2 ^ omWidth i8 := by
  refine Nat.eq_of_testBit_eq fun k => ?_
  have hwidth := omWidth_le_omCell i8
  have hcell := omLow_add_omCell_le i8 a
  rw [omElement_testBit, Nat.testBit_mod_two_pow]
  by_cases hk : k < omWidth i8
  · rw [omWord_setOmElement_testBit _ _ _ _ (by omega), if_pos (by omega), Nat.add_sub_cancel_left, Nat.testBit_mod_two_pow,
      decide_eq_true hk, Bool.true_and]
  · simp [hk]

theorem omElement_setOmElement_ne {i8 : Bool} (e : Engine) {a b : Nat} (v : Nat)
    (hne : b % (if i8 then 4096 else 8192) ≠ a % (if i8 then 4096 else 8192)) :
    omElement i8 (setOmElement i8 e a v) b = omElement i8 e b := by
  refine Nat.eq_of_testBit_eq fun k => ?_
  rw [omElement_testBit, omElement_testBit]
  by_cases hindex : omIndex i8 b = omIndex i8 a
  · by_cases hk : k < omWidth i8
    · have hwidth := omWidth_le_omCell i8
      have hcell := omLow_add_omCell_le i8 b
      have hdisjoint := omCells_disjoint hne hindex
      rw [hindex, omWord_setOmElement_testBit _ _ _ _ (by omega), if_neg (by omega)]
    · simp [hk]
  · rw [omWord_setOmElement_ne (by rwa [omIndex_mod])]

/-- The four bits above a quad written are 0. -/
theorem omWord_setOmElement_above (e : Engine) (a v : Nat) :
    bitsOf (omWord (setOmElement true e a v) (a % 4096 / 2)) (36 * (a % 2) + 35) (36 * (a % 2) + 32) = 0 := by
  refine Nat.eq_of_testBit_eq fun k => ?_
  rw [bitsOf_testBit, Nat.zero_testBit]
  by_cases hk : k < 4
  · have hbit := omWord_setOmElement_testBit true e a v (k := 36 * (a % 2) + 32 + k) (by omega)
    simp only [omIndex, omLow, omCell, omWidth, if_true] at hbit
    rw [hbit, if_pos (by omega), Nat.testBit_mod_two_pow, decide_eq_false (p := _ < 32) (by omega), Bool.false_and, Bool.and_false]
  · rw [decide_eq_false (by omega), Bool.false_and]

/-- Settles O20: a write replaces the bits of its element's place, and two elements of one word have different places. -/
theorem operandMemoryElements : Obligations.OperandMemoryElements := by
  intro i8 e a v
  refine ⟨omElement_setOmElement_self i8 e a v, fun b => omElement_setOmElement_ne e v, ?_, rfl⟩
  rintro rfl
  exact omWord_setOmElement_above e a v

end Sys2Proof.Machine

/-! SUPPORT. The tap engines' instructions: what each does when it issues, and where its entry suffers an upset. -/

namespace Sys2Proof.Machine

open Sys2Proof

section
variable {s t : State} {i op w : Nat} {o : Out} {body : Nat → State → State}

/-- A command that is the issue of an opcode performs its body where the engine is at an instruction of that opcode, EVT low. -/
theorem performs_of_issues (hmeaning : o = .next (issue s i op false body)) (hop : op < 0x12) (hi : Issues s i op w)
    (ht : t = s.setEngine i { s.engine i with evt := false }) : o = .next (body w t) := by
  rw [hmeaning, issue_of_issues hi hop, ht]

/-- A command that is an issue, of whatever opcode and body, faults with PARITY where the entry at PC suffers an upset (R158). -/
theorem faults_of_upset {op' : Nat} (hmeaning : o = .next (issue s i op' true body)) (hi : Issues s i op w) :
    o = .next ((faultEngine (s.setEngine i { s.engine i with
      badParity := NSet.add (s.engine i).badParity (s.ef i F.tapStatusPc) }) i 2).raise (engUnit i) 0x03) := by
  rw [hmeaning, issue_upset hi]

end

/-- Settles O17: each instruction is the issue of its opcode, which performs its body, or faults where the entry suffers an upset. -/
theorem engineInstructionsComplete : Obligations.EngineInstructionsComplete := by
  refine ⟨?nop, ?halt, ?sig, ?jmp, ?loop, ?waitd, ?agset, ?agadd, ?ftap, ?mac, ?lddl, ?ldc, ?st, ?inp, ?out, ?outa, ?bfly, ?bexp, ?upset⟩
  case upset =>
    intro i op w s c hi hc
    simp only [List.mem_cons, List.not_mem_nil, or_false] at hc
    rcases hc with rfl | rfl | rfl | rfl | rfl | rfl | rfl | rfl | rfl | rfl | rfl | rfl | rfl | rfl | rfl | rfl | rfl | rfl <;>
      exact faults_of_upset rfl hi
  all_goals
    intro i w s t hi ht
    exact performs_of_issues rfl (by decide) hi ht

end Sys2Proof.Machine

/-! SUPPORT. The tap engines' other commands: the fabric interface, the states, doorbells, and accesses of IMEM. -/

namespace Sys2Proof.Machine

open Sys2Proof

/-! ### The fabric interface (R136, R138, R139, R157) -/

/-- An engine after an edge of its interface at which the output FIFO removes its oldest element where ORDY is 1. -/
def outputTaken (s : State) (i : Nat) (rdy : Bool) : State :=
  if rdy then s.setEngine i { s.engine i with fifoOut := (s.engine i).fifoOut.tail } else s

section
variable {i : Fin 8192} {s : State} (hon : interfaceOn s i = true)
include hon

theorem exec_fifoInput_offered {data : Option (BitVec 36)} {v : Nat}
    (hv : (data.map BitVec.toNat).orElse (fun _ => engOffer s i) = some v) : exec (.fifoInput i data) s = .next (offerElement s i v) := by
  simp only [exec_fifoInput, execFifoInput, hon, hv, Bool.not_true, Bool.false_eq_true, if_false]

theorem exec_fifoOutput_offered (rdy : Option Bool) (v : BitVec 36) : exec (.fifoOutput i rdy (some v)) s =
    .next (offerElement (outputTaken s i (rdy.getD (engCell s i 4 1))) i v.toNat) := by
  simp only [exec_fifoOutput, execFifoOutput, outputTaken, hon, Bool.not_true, Bool.false_eq_true, if_false]

theorem exec_fifoOutput_alone (rdy : Option Bool) : exec (.fifoOutput i rdy none) s =
    .next (outputTaken s i (rdy.getD (engCell s i 4 1))) := by
  simp only [exec_fifoOutput, execFifoOutput, outputTaken, hon, Bool.not_true, Bool.false_eq_true, if_false]

theorem exec_startPin_sampled (high : Option Bool) {v : Bool} {s1 : State} (hv : v = high.getD (engCell s i 4 2))
    (hs1 : s1 = s.setEngine i { s.engine i with startPin := v }) :
    exec (.startPin i high) s = .next (if v && !(s.engine i).startPin then startEngine s1 i else s1) := by
  subst hs1 hv
  simp only [exec_startPin, execStartPin, hon, Bool.not_true, Bool.false_eq_true, if_false]

end

/-! ### Stops, doorbells and accesses of IMEM (R149, R155, R157, R163) -/

section
variable {i : Fin 8192} {s : State}

theorem exec_engineStopComplete_stopping {e : Engine} {s1 : State} (he : e = s.engine i) (hstop : e.stopping = true)
    (hwait : s.ef i F.tapStatusWait ≠ 1)
    (hs1 : s1 = (s.setEngine i { e with stopping := false, after := 0, loops := [] }).setEf i F.tapStatusState
      (if s.ef i F.tapStatusState = tapRun then tapIdle else s.ef i F.tapStatusState)) :
    exec (.engineStopComplete i) s = .next (tapCommand s1 i false (2 ≤ e.after) (e.after % 2 == 1)) := by
  subst hs1 he
  simp only [exec_engineStopComplete, execEngineStopComplete, hstop, beq_false_of_ne hwait, Bool.not_true, Bool.or_self,
    Bool.false_eq_true, if_false]

theorem exec_doorbellAdd_held (v : BitVec 16) (h : s.ef i F.tapStatusState = tapHeld) :
    exec (.doorbellAdd i v) s = .next (s.answer .busy) := by
  rw [exec_doorbellAdd, execDoorbellAdd, if_pos h]

theorem exec_doorbellAdd_added (v : BitVec 16) (h : s.ef i F.tapStatusState ≠ tapHeld) :
    exec (.doorbellAdd i v) s = .next ((addDoorbell s i v.toNat).answer .ok) := by
  rw [exec_doorbellAdd, execDoorbellAdd, if_neg h]

theorem exec_engineApertureRequest_arrived {p : Packet} {n o : Nat} (hwin : windowOf p = some (n, o)) (hlo : 0xFF800000 ≤ o)
    (hhi : o < 0xFFC00000) (ha : s.arrived p = true) : exec (.engineApertureRequest p) s = .next (engineAperture s n o p) := by
  simp only [exec_engineApertureRequest, execEngineApertureRequest, hwin, Nat.not_lt.2 hlo, Nat.not_le.2 hhi, ha, Bool.not_true,
    Bool.false_eq_true, or_self, if_false]

theorem exec_imemDomainWrite_taken {data : List Byte} {t : State} (h : imemDomain s i data = .ok t) :
    exec (.imemDomainWrite i data) s = .next (t.answer .ok) := by
  rw [exec_imemDomainWrite, execImemDomainWrite, h]

theorem exec_imemDomainWrite_refused {data : List Byte} {c : Nat} (h : imemDomain s i data = .error c) :
    exec (.imemDomainWrite i data) s = .next (s.answer .ok (toLeBytes 4 c)) := by
  rw [exec_imemDomainWrite, execImemDomainWrite, h]

end

/-- Settles O18: a waiting instruction is tried again by its opcode, each other command goes by the condition its rule names, and START, STOP
and CLEAR are their rules themselves. -/
theorem engineCommandsComplete : Obligations.EngineCommandsComplete := by
  refine ⟨?resume, fun _ _ _ hon _ => exec_fifoInput_offered hon, ?outputOffered, ?outputAlone, exec_engineStart,
    fun _ high _ hon _ hv _ => exec_startPin_sampled hon high hv, exec_engineStop,
    fun _ _ _ he hstop hwait _ => exec_engineStopComplete_stopping he hstop hwait, exec_engineClear,
    fun _ v _ => exec_doorbellAdd_held v, fun _ v _ => exec_doorbellAdd_added v, fun _ _ _ _ => exec_engineApertureRequest_arrived,
    fun _ _ _ _ => exec_imemDomainWrite_taken, fun _ _ _ _ => exec_imemDomainWrite_refused⟩
  case resume =>
    rintro i waited s hcan hwait w rfl t rfl
    refine ⟨?waitd, ?lddl, ?inp, ?out, ?outa⟩ <;> intro hop <;>
      simp only [exec_engineWaitResume, execEngineWaitResume, hcan, beq_false_of_ne hwait, hop, Bool.not_true, Bool.or_self,
        Bool.false_eq_true, if_false]
  case outputOffered =>
    rintro i rdy data s hon s1 rfl v rfl
    exact exec_fifoOutput_offered hon rdy v
  case outputAlone =>
    rintro i rdy data s hon s1 rfl rfl
    exact exec_fifoOutput_alone hon rdy

end Sys2Proof.Machine

/-! SUPPORT. The choice of a router output, and what a flit that moves leaves in the mesh. -/

namespace Sys2Proof.Machine

open Sys2Proof

/-! ### The level an output serves (R178) -/

section
variable {floor1 floor0 v w : Nat} {h : List Nat} {waits : Nat → Bool}

/-- A level that does not wait, or has had its floor, is passed over. -/
theorem not_belowFloor {floor : Nat} (hv : waits v = false ∨ floor ≤ h.count v) : (waits v && decide (h.count v < floor)) = false := by
  rcases hv with hv | hv
  · rw [hv, Bool.false_and]
  · rw [decide_eq_false (Nat.not_lt.2 hv), Bool.and_false]

theorem levelOf_urgent (h3 : waits 3 = true) : levelOf floor1 floor0 h waits = some 3 := if_pos h3

section
variable (h3 : waits 3 = false)
include h3

theorem levelOf_floor1 (h1 : waits 1 = true) (hfew : h.count 1 < floor1) : levelOf floor1 floor0 h waits = some 1 := by
  simp only [levelOf, h3, h1, hfew, Bool.false_eq_true, if_false, decide_true, Bool.and_self, if_true]

/-- Where neither PRI 3 nor PRI 1 below its floor waits, PRI 0 is judged by its own. -/
theorem levelOf_past_floor1 (h1 : waits 1 = false ∨ floor1 ≤ h.count 1) : levelOf floor1 floor0 h waits =
    if waits 0 && decide (h.count 0 < floor0) then some 0 else [2, 1, 0].find? waits := by
  simp only [levelOf, h3, not_belowFloor h1, Bool.false_eq_true, if_false]

theorem levelOf_floor0 (h1 : waits 1 = false ∨ floor1 ≤ h.count 1) (h0 : waits 0 = true) (hfew : h.count 0 < floor0) :
    levelOf floor1 floor0 h waits = some 0 := by
  rw [levelOf_past_floor1 h3 h1, h0, decide_eq_true hfew, Bool.and_self, if_pos rfl]

theorem levelOf_highest (h1 : waits 1 = false ∨ floor1 ≤ h.count 1) (h0 : waits 0 = false ∨ floor0 ≤ h.count 0)
    (hv : levelOf floor1 floor0 h waits = some v) (hle : w ≤ 3) (hw : waits w = true) : w ≤ v := by
  rw [levelOf_past_floor1 h3 h1, not_belowFloor h0, if_neg Bool.false_ne_true] at hv
  obtain rfl | rfl | rfl | rfl : w = 0 ∨ w = 1 ∨ w = 2 ∨ w = 3 := by omega
  · exact Nat.zero_le v
  · rw [List.find?_cons, List.find?_cons, hw] at hv
    cases h2 : waits 2 <;> simp [h2] at hv <;> omega
  · rw [List.find?_cons, hw] at hv
    exact (Option.some.inj hv).le
  · exact absurd (h3.symm.trans hw) Bool.false_ne_true

end

theorem levelOf_waits (hv : levelOf floor1 floor0 h waits = some v) : waits v = true := by
  unfold levelOf at hv
  split_ifs at hv with h3 h1 h0
  · exact Option.some.inj hv ▸ h3
  · exact Option.some.inj hv ▸ (Bool.and_eq_true_iff.1 h1).1
  · exact Option.some.inj hv ▸ (Bool.and_eq_true_iff.1 h0).1
  · exact List.find?_some hv

theorem levelOf_isSome (hle : w ≤ 3) (hw : waits w = true) : (levelOf floor1 floor0 h waits).isSome = true := by
  unfold levelOf
  split_ifs with h3
  · rfl
  · rfl
  · rfl
  · have hlow : w ≠ 3 := by rintro rfl; exact h3 hw
    exact List.find?_isSome.2 ⟨w, by simp only [List.mem_cons, List.not_mem_nil]; omega, hw⟩

end

/-! ### The flit an output chooses (R178) -/

/-- Whether a flit of a level is among those that wait for an output. -/
def levelWaits (l : List Mover) (v : Nat) : Bool := l.any (fun x => x.pri == v)

theorem levelWaits_eq_true {l : List Mover} {v : Nat} : levelWaits l v = true ↔ ∃ y ∈ l, y.pri = v := by
  simp [levelWaits]

theorem levelWaits_eq_false {l : List Mover} {v : Nat} : levelWaits l v = false ↔ ∀ y ∈ l, y.pri ≠ v := by
  simp [levelWaits]

section
variable {s : State} {r out : Nat} {l : List Mover}

/-- The level an output serves, of the flits that wait for it. -/
def outputLevel (s : State) (r out : Nat) (l : List Mover) : Option Nat :=
  levelOf (s.fld (uNoc r) F.nocRtCtrlFloor1) (s.fld (uNoc r) F.nocRtCtrlFloor0) (SMap.get [] s.net.mesh.hist (r * 20 + out)) (levelWaits l)

/-- Whether a response of a level is among those that wait for an output. -/
def responseWaits (l : List Mover) (v : Nat) : Bool := (l.filter (fun x => x.pri == v)).any (·.rsp)

theorem responseWaits_eq_true {v : Nat} : responseWaits l v = true ↔ ∃ y ∈ l, y.pri = v ∧ y.rsp = true := by
  simp only [responseWaits, List.any_eq_true, List.mem_filter, beq_iff_eq, and_assoc]

/-- The flits of a level that wait in its response lane where one does, else in its request lane. -/
def laneAhead (l : List Mover) (v : Nat) : List Mover := (l.filter (fun x => x.pri == v)).filter (fun x => x.rsp == responseWaits l v)

theorem mem_laneAhead {v : Nat} {y : Mover} : y ∈ laneAhead l v ↔ (y ∈ l ∧ y.pri = v) ∧ y.rsp = responseWaits l v := by
  simp only [laneAhead, List.mem_filter, beq_iff_eq]

theorem laneAhead_ne_nil {v : Nat} (hw : levelWaits l v = true) : laneAhead l v ≠ [] := by
  cases hrsp : responseWaits l v with
  | true =>
    obtain ⟨y, hy, hpri, hyr⟩ := responseWaits_eq_true.1 hrsp
    exact List.ne_nil_of_mem (mem_laneAhead.2 ⟨⟨hy, hpri⟩, hyr.trans hrsp.symm⟩)
  | false =>
    obtain ⟨y, hy, hpri⟩ := levelWaits_eq_true.1 hw
    have hyr : y.rsp = false :=
      Bool.eq_false_iff.2 fun hyr => Bool.false_ne_true (hrsp.symm.trans (responseWaits_eq_true.2 ⟨y, hy, hpri, hyr⟩))
    exact List.ne_nil_of_mem (mem_laneAhead.2 ⟨⟨hy, hpri⟩, hyr.trans hrsp.symm⟩)

theorem outputChoice_eq_bind : outputChoice s r out l = (outputLevel s r out l).bind (fun v =>
    turnOf (SMap.get 0 s.net.mesh.turn (meshLane r out v (responseWaits l v))) (laneAhead l v)) := by
  unfold outputChoice
  dsimp only
  split
  next hv => rw [show outputLevel s r out l = none from hv]; rfl
  next v hv => rw [show outputLevel s r out l = some v from hv]; rfl

/-- The flit chosen is of the level served, in the lane ahead there, and of that lane from the input whose turn comes first. -/
theorem outputChoice_spec {x : Mover} (h : outputChoice s r out l = some x) : outputLevel s r out l = some x.pri ∧ x ∈ l ∧
    (∀ y ∈ l, y.pri = x.pri → y.rsp = true → x.rsp = true) ∧
    ∀ t, t = SMap.get 0 s.net.mesh.turn (meshLane r out x.pri x.rsp) →
      ∀ y ∈ l, y.pri = x.pri → y.rsp = x.rsp → (x.input + 20 - t) % 20 ≤ (y.input + 20 - t) % 20 := by
  rw [outputChoice_eq_bind] at h
  obtain ⟨v, hlevel, hchosen⟩ := Option.bind_eq_some_iff.1 h
  obtain ⟨hx, hturn⟩ := turnOf_spec _ _ x hchosen
  obtain ⟨⟨hmem, rfl⟩, hrsp⟩ := mem_laneAhead.1 hx
  refine ⟨hlevel, hmem, fun y hy hpri hyr => hrsp.trans (responseWaits_eq_true.2 ⟨y, hy, hpri, hyr⟩), ?_⟩
  rintro t rfl y hy hpri hyr
  rw [hrsp]
  exact hturn y (mem_laneAhead.2 ⟨⟨hy, hpri⟩, hyr.trans hrsp⟩)

theorem outputChoice_isSome (hle : ∀ y ∈ l, y.pri ≤ 3) (hl : l ≠ []) : (outputChoice s r out l).isSome = true := by
  obtain ⟨y, hy⟩ := List.exists_mem_of_ne_nil l hl
  have hserves : (outputLevel s r out l).isSome = true := levelOf_isSome (hle y hy) (levelWaits_eq_true.2 ⟨y, hy, rfl⟩)
  obtain ⟨v, hv⟩ := Option.isSome_iff_exists.1 hserves
  rw [outputChoice_eq_bind, hv]
  exact turnOf_some _ (laneAhead_ne_nil (levelOf_waits hv))

end

/-! ### The lane of an output (R178) -/

section
variable {m : MeshState} {x : Mover}

theorem meshFree_started {i : Nat} (h : SMap.get 0 m.lock x.outKey = i + 1) : meshFree m x = true ↔ x.input = i := by
  simp only [meshFree, h, Nat.succ_ne_zero, if_false, beq_iff_eq, Nat.add_right_cancel_iff, eq_comm (a := i)]

theorem meshFree_unlocked (h : SMap.get 0 m.lock x.outKey = 0) : meshFree m x = true ↔ x.flit.idx = 0 := by
  simp [meshFree, h]

variable {s : State}

/-! Counting a flit on its link leaves the mesh as the move has made it. -/

theorem meshMove_hist : (meshMove s x).net.mesh.hist =
    SMap.modify [] s.net.mesh.hist (x.router * 20 + x.out) (fun h => (x.pri :: h).take 16) := by
  unfold meshMove; split <;> rfl

theorem meshMove_lock : (meshMove s x).net.mesh.lock =
    SMap.store 0 s.net.mesh.lock x.outKey (if x.last then 0 else x.input + 1) := by
  unfold meshMove; split <;> rfl

theorem meshMove_turn : (meshMove s x).net.mesh.turn =
    if x.last then SMap.store 0 s.net.mesh.turn x.outKey ((x.input + 1) % 20) else s.net.mesh.turn := by
  unfold meshMove; split <;> rfl

end

/-- Settles O4: the level goes by the branches of `levelOf`, the lane and the input by `outputChoice_spec`. -/
theorem plateCycleArbitrates : Obligations.PlateCycleArbitrates := by
  refine ⟨?chosen, fun _ _ _ _ => outputChoice_isSome, fun _ _ _ => meshFree_started, fun _ _ => meshFree_unlocked, ?moved⟩
  case chosen =>
    rintro s r out l x hle h f1 rfl f0 rfl hist rfl t ht
    obtain ⟨hlevel, hmem, hrsp, hturn⟩ := outputChoice_spec h
    have served {v : Nat} (hv : outputLevel s r out l = some v) : x.pri = v := Option.some.inj (hlevel.symm.trans hv)
    refine ⟨hmem, ?_, ?_, ?_, ?_, hrsp, hturn t ht⟩
    · exact fun h3 => served (levelOf_urgent (levelWaits_eq_true.2 h3))
    · exact fun h3 h1 hfew => served (levelOf_floor1 (levelWaits_eq_false.2 h3) (levelWaits_eq_true.2 h1) hfew)
    · exact fun h3 h1 h0 hfew => served
        (levelOf_floor0 (levelWaits_eq_false.2 h3) (h1.imp_left levelWaits_eq_false.2) (levelWaits_eq_true.2 h0) hfew)
    · exact fun h3 h1 h0 y hy => levelOf_highest (levelWaits_eq_false.2 h3) (h1.imp_left levelWaits_eq_false.2)
        (h0.imp_left levelWaits_eq_false.2) hlevel (hle y hy) (levelWaits_eq_true.2 ⟨y, hy, rfl⟩)
  case moved =>
    rintro s x m rfl n rfl k rfl
    refine ⟨?_, ?_, fun hlast => ?_, fun hlast => ?_⟩
    · rw [meshMove_hist, SMap.modify, SMap.get_store_self]
    · rw [meshMove_lock, SMap.get_store_self]
    · rw [meshMove_turn, if_pos hlast, SMap.get_store_self]
    · rw [meshMove_turn, if_neg (Bool.eq_false_iff.1 hlast)]

end Sys2Proof.Machine

/-! SUPPORT. The packet network: packets without a port, packets held for a wake, and the flits that a fabric port takes. -/

namespace Sys2Proof.Machine

open Sys2Proof

/-! ### Packets for a port that is not there (R175) -/

section
variable {p : Packet} {s : State}

theorem exec_noRoute_response (hop : isResponse p.op = true) (hmem : p ∈ s.net.rsps)
    (hport : portOccupied (p.dst.toNat / 16) (p.dst.toNat % 16) = false ∨ p.dst.toNat % 16 = 12) : exec (.noRoute p) s =
      .next ({ s with net := { s.net with rsps := s.net.rsps.erase p } }.countNoRoute (p.dst.toNat / 16)) := by
  have hunserved : (!portOccupied (p.dst.toNat / 16) (p.dst.toNat % 16) || p.dst.toNat % 16 == 12) = true := by simpa using hport
  simp only [exec_noRoute, execNoRoute, hop, List.contains_iff_mem.2 hmem, hunserved, Bool.and_self, if_true]

section
variable (hop : isResponse p.op = false) (hmem : p ∈ s.net.reqs)
include hop hmem

theorem exec_noRoute_request (hreq : isRequest p.op = true)
    (hport : portOccupied (p.dst.toNat / 16) (p.dst.toNat % 16) = false) :
    exec (.noRoute p) s = .next ((s.reply p .noRoute).countNoRoute (p.dst.toNat / 16)) := by
  simp only [exec_noRoute, execNoRoute, hop, hreq, hport, List.contains_iff_mem.2 hmem, Bool.not_true, Bool.or_self,
    Bool.false_eq_true, if_false, if_true]

theorem exec_noRoute_message (hreq : isRequest p.op = false)
    (hport : portOccupied (p.dst.toNat / 16) (p.dst.toNat % 16) = false ∨ p.dst.toNat % 16 = 12) :
    exec (.noRoute p) s = .next ((s.takeReq p).countNoRoute (p.dst.toNat / 16)) := by
  have hunserved : (portOccupied (p.dst.toNat / 16) (p.dst.toNat % 16) && p.dst.toNat % 16 != 12) = false := by
    rcases hport with hfree | hinternal
    · rw [hfree, Bool.false_and]
    · rw [hinternal, bne_self_eq_false, Bool.and_false]
  simp only [exec_noRoute, execNoRoute, hop, hreq, hunserved, List.contains_iff_mem.2 hmem, Bool.not_true, Bool.or_self,
    Bool.false_eq_true, if_false]

end

end

/-! ### Packets held for a wake (R185) -/

section
variable {p : Packet} {s : State} {d : Nat} (hop : isResponse p.op = false)
  (hport : portOccupied (p.dst.toNat / 16) (p.dst.toNat % 16) = true) (hmem : p ∈ s.net.reqs) (hd : dstDomain p = some d)
  (hrun : s.dom d ≠ domRun)
include hop hport hmem hd hrun

theorem exec_wakeHold_unwoken (hen : s.flag (uNoc (p.dst.toNat / 16)) F.nocRtCtrlWakeEn = false) (hstop : s.dom d ≠ domStopped) :
    exec (.wakeHold p) s = .next (failHeld s p) := by
  simp only [exec_wakeHold, execWakeHold, hop, hport, List.contains_iff_mem.2 hmem, hd, hrun, hen, bne_iff_ne.2 hstop, Bool.not_true,
    Bool.not_false, Bool.or_self, Bool.and_self, Bool.false_eq_true, if_false, if_true]

theorem exec_wakeHold_held {s1 s2 : State} (hwake : s.flag (uNoc (p.dst.toNat / 16)) F.nocRtCtrlWakeEn = true ∨ s.dom d = domStopped)
    (hroom : s.heldAt d p < 4) (hs1 : s1 = s.takeReq p)
    (hs2 : s2 = { s1 with net := { s1.net with held := s1.net.held ++ [HeldPkt.mk d p] } }) :
    exec (.wakeHold p) s = .next (s2.routerWake (p.dst.toNat / 16) d) := by
  subst hs1 hs2
  have hwaits : (!s.flag (uNoc (p.dst.toNat / 16)) F.nocRtCtrlWakeEn && s.dom d != domStopped) = false := by
    rcases hwake with hen | hstop
    · rw [hen, Bool.not_true, Bool.false_and]
    · rw [hstop, bne_self_eq_false, Bool.and_false]
  simp only [exec_wakeHold, execWakeHold, hop, hport, List.contains_iff_mem.2 hmem, hd, hrun, hwaits, Nat.not_le.2 hroom, Bool.not_true,
    Bool.or_self, Bool.false_eq_true, if_false]

end

theorem exec_heldPacketDeliver_running {s : State} {d : Fin 160} (hrun : s.dom d = domRun) : exec (.heldPacketDeliver d) s =
    .next { s with net := { s.net with
      reqs := (s.net.held.filter (fun h => h.dom == d.val)).map (·.pkt) ++ s.net.reqs
      held := s.net.held.filter (fun h => h.dom != d.val) } } := by
  rw [exec_heldPacketDeliver, execHeldPacketDeliver, if_neg (not_not_intro hrun)]

theorem exec_wakeFail_asleep {s : State} (node : BitVec 7) {d : Fin 160} (hrun : s.dom d ≠ domRun) (hstop : s.dom d ≠ domStopped) :
    exec (.wakeFail node d) s = .next (failHeldAt s node.toNat d) := by
  rw [exec_wakeFail, execWakeFail, if_neg (not_or.2 ⟨hrun, hstop⟩)]

/-! ### Flits taken on IQ and TS (R188) -/

section
variable {n : Fin 128} {s : State} {f : FpPort} {x : Flit} {r : List Flit} (hf : f = s.fpPort n)

section
variable (hin : f.iqIn = x :: r) (hclk : s.clk.halted = false)
include hf hin hclk

theorem exec_iqSubmit_last (heop : x.eop = true) {h : Line} {body : List Line} (hfs : f.iq ++ [x.data] = h :: body) :
    exec (.iqSubmit n x.data x.eop x.pri) s =
      .next (absorbFp (ingress (s.setFp n { f with iqIn := r, iq := [] }) (n * 16) (ofFlits h body)) n) := by
  subst hf
  simp only [exec_iqSubmit, execIqSubmit, hin, hclk, bne_self_eq_false, Bool.or_self, Bool.false_eq_true, if_false]
  simp only [heop, hfs, if_true, List.headD_cons, List.tail_cons]

theorem exec_iqSubmit_more (heop : x.eop = false) :
    exec (.iqSubmit n x.data x.eop x.pri) s = .next (s.setFp n { f with iqIn := r, iq := f.iq ++ [x.data] }) := by
  subst hf
  simp only [exec_iqSubmit, execIqSubmit, hin, hclk, bne_self_eq_false, Bool.or_self, Bool.false_eq_true, if_false]
  simp only [heop, Bool.false_eq_true, if_false]

end

section
variable (hin : f.tsIn = x :: r) (hclk : s.clk.halted = false)
include hf hin hclk

theorem exec_tsResponse_last (heop : x.eop = true) {h : Line} {body : List Line} (hfs : f.ts ++ [x.data] = h :: body) :
    exec (.tsResponse n x) s = .next (tsPacket (s.setFp n { f with tsIn := r, ts := [] }) n (ofFlits h body)) := by
  subst hf
  simp only [exec_tsResponse, execTsResponse, hin, hclk, bne_self_eq_false, heop, hfs, Bool.or_self, Bool.false_eq_true, if_false, if_true,
    List.headD_cons, List.tail_cons]

theorem exec_tsResponse_more (heop : x.eop = false) :
    exec (.tsResponse n x) s = .next (s.setFp n { f with tsIn := r, ts := f.ts ++ [x.data] }) := by
  subst hf
  simp only [exec_tsResponse, execTsResponse, hin, hclk, bne_self_eq_false, heop, Bool.or_self, Bool.false_eq_true, if_false]

end

end

/-! ### Packets of TS (R174, R189) -/

section
variable {s : State} {n : Nat} {p : Packet}

theorem tsPacket_malformed (hbad : p.malformed true = true) : tsPacket s n p =
    if isRequest p.op then absorbFp ((s.countMalformed n 0 p).deliverTo (n * 16) (localAnswer p.tag p .malformed)) n
    else s.countMalformed n 0 p := if_pos hbad

section
variable (hok : p.malformed true = false)
include hok

theorem tsPacket_matched {q : Packet} (hq : (s.tqOf n).find? (fun q => tsMatches p q) = some q) :
    tsPacket s n p = (s.setTq n ((s.tqOf n).erase q)).inject (n * 16) true p := by
  simp only [tsPacket, hok, hq, Bool.false_eq_true, if_false]

theorem tsPacket_stray (hq : (s.tqOf n).find? (fun q => tsMatches p q) = none) :
    tsPacket s n p = (s.setFld (uNoc n) F.nocPortStatusStray 1 0).raise (uNoc n) 0x02 p.op := by
  simp only [tsPacket, hok, hq, Bool.false_eq_true, if_false]

end

end

/-- Settles O21: a packet goes by the kind of its opcode, by its destination's domain, and a flit by whether it ends its packet. -/
theorem networkCommandsComplete : Obligations.NetworkCommandsComplete := by
  refine ⟨?release, ?noRouteRsp, ?noRouteReq, ?noRouteMsg, ?unwoken, ?held, ?deliver, ?fail, ?iqLast, ?iqMore, ?ts, ?tsPacket, ?tsBad⟩
  case release =>
    rintro node port tag s _ rfl _ rfl
    rfl
  case noRouteRsp =>
    rintro p s _ rfl _ rfl hop hmem hport
    exact exec_noRoute_response hop hmem hport
  case noRouteReq =>
    rintro p s _ rfl _ rfl hop hreq hport hmem
    exact exec_noRoute_request hop hmem hreq hport
  case noRouteMsg =>
    rintro p s _ rfl _ rfl hop hreq hport hmem
    exact exec_noRoute_message hop hmem hreq hport
  case unwoken =>
    rintro p s _ rfl hop hport hmem d hd hrun hen hstop
    exact exec_wakeHold_unwoken hop hport hmem hd hrun hen hstop
  case held =>
    rintro p s _ rfl hop hport hmem d hd hrun hwake hroom s1 hs1 s2 hs2
    exact exec_wakeHold_held hop hport hmem hd hrun hwake hroom hs1 hs2
  case deliver =>
    rintro d s hrun _ rfl
    exact exec_heldPacketDeliver_running hrun
  case fail =>
    rintro node d s hrun hstop _ rfl _ rfl
    exact exec_wakeFail_asleep node hrun hstop
  case iqLast => exact fun n s x r f hf hin hclk heop h body => exec_iqSubmit_last hf hin hclk heop
  case iqMore => exact fun n s x r f hf hin hclk => exec_iqSubmit_more hf hin hclk
  case ts =>
    exact fun n s x r f hf hin hclk =>
      ⟨fun heop h body => exec_tsResponse_last hf hin hclk heop, exec_tsResponse_more hf hin hclk⟩
  case tsPacket => exact fun n p s hok => ⟨fun q => tsPacket_matched hok, tsPacket_stray hok⟩
  case tsBad =>
    rintro n p s hbad _ rfl
    exact tsPacket_malformed hbad

end Sys2Proof.Machine

/-! SUPPORT. The ports: packets of a receiving lane, packets handed in, responses, deadlines, and responses of a relay. -/

namespace Sys2Proof.Machine

open Sys2Proof

/-! ### Packets of a receiving lane (R198, R203) -/

section
variable {s : State}

theorem linkReceive_taken {p lane : Nat} {pkt : Packet} {r : List Packet} {out : Bool × State}
    (harrived : SMap.get [] (s.lnk p).arrived lane = pkt :: r) (hout : out = linkPacket s p lane pkt) (htaken : out.1 = true) :
    linkReceive s p lane = out.2.setLnk p { out.2.lnk p with
      arrived := SMap.store [] (out.2.lnk p).arrived lane r
      stale := SMap.store 0 (out.2.lnk p).stale lane (SMap.get 0 (out.2.lnk p).stale lane - 1)
      freed := if SMap.get 0 (out.2.lnk p).stale lane = 0 then
          SMap.store 0 (out.2.lnk p).freed lane ((SMap.get 0 (out.2.lnk p).freed lane + 1 + pkt.body.length) % 4096)
        else (out.2.lnk p).freed } := by
  subst hout
  simp only [linkReceive, harrived, htaken, if_true]

theorem exec_linkPacketReceive_running {p : Fin 16} (pri : Fin 4) (response : Bool) (hdom : s.dom (150 + p.val / 4) = domRun)
    (hclk : s.clk.halted = false) :
    exec (.linkPacketReceive p pri response) s = .next (absorbLink (linkReceive s p (2 * pri + boolNat response)) p) := by
  simp only [exec_linkPacketReceive, execLinkPacketReceive, hdom, hclk, ne_eq, not_true_eq_false, Bool.false_eq_true, or_self, if_false]

/-! ### Packets handed to a port (R171) -/

theorem exec_ingressAccept_taken {node : BitVec 7} {port : BitVec 4} (p : Packet) (hport : portOccupied node.toNat port.toNat = true)
    (hengine : port.toNat ≠ 1) (hinitiator : port.toNat < 9)
    (hfabric : port.toNat ≠ 0 ∨ (s.regionRuns node.toNat = true ∧ fpActs s node.toNat = true)) (hclk : s.clk.halted = false) :
    exec (.ingressAccept node port p) s =
      .next (absorbAt (ingress s (codeOf node.toNat port.toNat) p) node.toNat port.toNat) := by
  have hacts : (port.toNat == 0 && (!s.regionRuns node.toNat || !fpActs s node.toNat)) = false := by
    rcases hfabric with hother | ⟨hruns, hacts⟩
    · rw [beq_false_of_ne hother, Bool.false_and]
    · rw [hruns, hacts, Bool.not_true, Bool.or_self, Bool.and_false]
  simp only [exec_ingressAccept, execIngressAccept, hport, beq_false_of_ne hengine, decide_eq_false (Nat.not_le.2 hinitiator), hacts, hclk,
    Bool.not_true, Bool.or_self, Bool.false_eq_true, if_false]

/-! ### Responses and deadlines (R182, R183) -/

theorem completeRsp_outstanding {code : Nat} {p : Packet} {o : Outst} {np : NetPort} (hnp : np = s.netPort code)
    (ho : np.outst.find? (fun o => o.wireTag == p.tag.toNat) = some o) : completeRsp s code p =
      drainWaiting (s.setNetPort code { np with outst := np.outst.erase o, delivered := np.delivered ++ [restoreRsp code o p] }) code
        np.waiting.length := by
  subst hnp
  simp only [completeRsp, ho]

theorem exec_responseAccept_taken {p : Packet} (hmem : p ∈ s.net.rsps)
    (hport : portOccupied (p.dst.toNat / 16) (p.dst.toNat % 16) = true) (hinternal : p.dst.toNat % 16 ≠ 12)
    (hwaits : rspWaits s p = false) (hturn : rspTurn s p = true) : exec (.responseAccept p) s =
      .next (absorbAt (completeRsp { s with net := { s.net with rsps := s.net.rsps.erase p } }
        (codeOf (p.dst.toNat / 16) (p.dst.toNat % 16)) p) (p.dst.toNat / 16) (p.dst.toNat % 16)) := by
  simp only [exec_responseAccept, execResponseAccept, List.contains_iff_mem.2 hmem, hport, beq_false_of_ne hinternal, hwaits, hturn,
    Bool.not_true, Bool.or_self, Bool.false_eq_true, if_false]

theorem timeoutReq_outstanding {k tag : Nat} {o : Outst} {np : NetPort} {s1 : State} (hnp : np = s.netPort k)
    (ho : np.outst.find? (fun o => o.wireTag == tag) = some o)
    (hs1 : s1 = s.setNetPort k { np with
      outst := np.outst.erase o
      retired := NSet.add np.retired tag
      delivered := np.delivered ++ [restoreRsp k o (localAnswer o.req.tag o.sent .timeout)] }) : timeoutReq s k tag =
      drainWaiting (((s1.countSat (uNoc (k / 16)) F.nocTmoCntCount 1 (k % 16)).setFld (uNoc (k / 16)) F.nocPortStatusTimeout 1
        (k % 16)).raise (portUnit (k / 16) (k % 16)) 0x01 tag) k np.waiting.length := by
  subst hs1 hnp
  simp only [timeoutReq, ho]

theorem exec_requestTimeout_running (node : BitVec 7) (port : BitVec 4) (tag : BitVec 16) (hclk : s.clk.halted = false) :
    exec (.requestTimeout node port tag) s =
      .next (absorbAt (timeoutReq s (codeOf node.toNat port.toNat) tag.toNat) node.toNat port.toNat) := by
  simp only [exec_requestTimeout, execRequestTimeout, hclk, Bool.false_eq_true, if_false]

/-! ### Responses of a relay (R209, R480) -/

theorem relayArrive_matched {p : Packet} {n : Nat} (hn : relaySession s p = some n) : relayArrive s p =
    s.setSes n { s.ses n with relay := { (s.ses n).relay with state := 2, response := p.payload.take (responseLen p.payload) } } := by
  simp only [relayArrive, hn]

theorem lmsgArrive_response {p : Packet} (idle : Bool) (hmtype : p.ext.toNat / 2 ^ 60 = 2) :
    lmsgArrive s p idle = relayArrive (s.takeReq p) p := by
  simp only [lmsgArrive, hmtype]

theorem exec_relayResponse_arrived {p : Packet} (hmem : p ∈ s.net.reqs) (hop : p.op = opLmsg) (hdst : p.dst.toNat = codeOf 96 6)
    (hmtype : p.ext.toNat / 2 ^ 60 = 2) : exec (.relayResponse p) s = .next (relayArrive (s.takeReq p) p) := by
  simp only [exec_relayResponse, execRelayResponse, List.contains_iff_mem.2 hmem, hop, hdst, hmtype, lmsgArrive_response false hmtype,
    beq_self_eq_true, Bool.and_self, if_true]

end

/-- Settles O51: each command that is taken is its operation on the port, after which the attachment takes what was delivered. -/
theorem portCommandsComplete : Obligations.PortCommandsComplete := by
  refine ⟨?receive, ?handed, ?response, ?deadline, ?relay⟩
  case receive =>
    rintro p pri response _ _ pkt r s rfl hdom hclk rfl harrived out hout htaken _ rfl _ rfl _ rfl
    rw [exec_linkPacketReceive_running pri response hdom hclk, linkReceive_taken harrived hout htaken]
  case handed =>
    rintro node port p s _ rfl _ rfl hport hengine hinitiator hfabric hclk
    exact exec_ingressAccept_taken p hport hengine hinitiator hfabric hclk
  case response =>
    rintro p _ _ _ o np s rfl rfl hmem hport hinternal hwaits hturn rfl s1 hs1 hnp ho _ rfl
    rw [exec_responseAccept_taken hmem hport hinternal hwaits hturn, ← hs1, completeRsp_outstanding hnp ho]
  case deadline =>
    rintro node port tag _ o np s hclk rfl hnp ho s1 hs1 _ rfl
    rw [exec_requestTimeout_running node port tag hclk, timeoutReq_outstanding hnp ho hs1]
  case relay =>
    rintro p n _ _ s hmem hop hdst hmtype rfl hn rfl
    rw [exec_relayResponse_arrived hmem hop hdst hmtype, relayArrive_matched hn]

end Sys2Proof.Machine

/-! SUPPORT. The worker cores: what an access does by its address, and the accesses of the take windows. -/

namespace Sys2Proof.Machine

open Sys2Proof

/-! ### A core that executes performs its access (R501, R502) -/

section
variable {core : Fin 32} {s : State}

/-- An operation is performed where its address is aligned and, for LR, SC and an AMO, its size is at least 4 bytes (R503). -/
theorem exec_coreMemoryAccess_aligned {op : CoreOp} (va : Word64) {addr : BitVec 56} {size : Fin 4} (data : Word64)
    (victim : Option (BitVec 50)) (hready : coreReady s core = true) (halign : addr.toNat % 2 ^ size.val = 0)
    (hwide : (isAmo op = false ∧ op ≠ .lr ∧ op ≠ .sc) ∨ 4 ≤ 2 ^ size.val) :
    exec (.coreMemoryAccess core op va addr size data victim) s = .next (coreAccess s
      { core := core, op := op, va := va, addr := addr.toNat, size := 2 ^ size.val, data := data } (victim.map (·.toNat))) := by
  have hsized : ((isAmo op || op == .lr || op == .sc) && decide (2 ^ size.val < 4)) = false := by
    rcases hwide with ⟨hamo, hlr, hsc⟩ | hfour
    · rw [hamo, beq_false_of_ne hlr, beq_false_of_ne hsc, Bool.or_self, Bool.or_self, Bool.false_and]
    · rw [decide_eq_false (Nat.not_lt.2 hfour), Bool.and_false]
  simp only [exec_coreMemoryAccess, execCoreMemoryAccess, hready, halign, hsized, Bool.not_true, bne_self_eq_false, Bool.or_self,
    Bool.false_eq_true, if_false]

theorem exec_takeLoad_ready (slice : Fin 8) (profile : Fin 64) (va : Word64) (hready : coreReady s core = true) :
    exec (.takeLoad core slice profile va) s = .next (coreAccess s
      { core := core, op := .load, va := va, addr := takeAddr slice profile 0, size := 8, data := 0 } none) := by
  simp only [exec_takeLoad, execTakeLoad, hready, Bool.not_true, Bool.false_eq_true, if_false]

theorem exec_takeBufferLoad_aligned (slice : Fin 8) (profile : Fin 64) {off : Fin 128} {size : Fin 4} (va : Word64)
    (hready : coreReady s core = true) (hoff : 8 ≤ off.val) (halign : off.val % 2 ^ size.val = 0) :
    exec (.takeBufferLoad core slice profile off size va) s = .next (coreAccess s
      { core := core, op := .load, va := va, addr := takeAddr slice profile off, size := 2 ^ size.val, data := 0 } none) := by
  simp only [exec_takeBufferLoad, execTakeBufferLoad, hready, decide_eq_false (Nat.not_lt.2 hoff), halign, Bool.not_true,
    bne_self_eq_false, Bool.or_self, Bool.false_eq_true, if_false]

end

/-! ### Outside the take windows, by whether the address is cacheable (R502) -/

section
variable {s : State} {a : CoreAcc} {victim : Option Nat} (hwin : takeWindowOf a.addr = none)
include hwin

theorem coreAccess_io (hio : isCacheable a.addr = false) : coreAccess s a victim = absorbCore (ioAccess s a) (a.core / 8) := by
  simp only [coreAccess, hwin, hio, Bool.false_eq_true, if_false]

/-- A hit passes the line to the core and performs the access on it. -/
theorem coreAccess_hit {x : ClusterX} {l : CacheLine} {s1 : State} (hmem : isCacheable a.addr = true) (hzic : isZicbom a.op = false)
    (hsc : a.op ≠ .sc) (hx : x = s.clusterX (a.core / 8)) (hl : SMap.find x.cache (a.addr / 64) = some l)
    (hs1 : s1 = s.setCluster (a.core / 8) { x with cache := SMap.put x.cache (a.addr / 64) { l with core := a.core } }) :
    coreAccess s a victim = absorbCore (onLine s1 a l.data) (a.core / 8) := by
  subst hs1 hx
  simp only [coreAccess, hwin, hmem, cacheable, hzic, hsc, hl, false_and, Bool.false_eq_true, if_false, if_true]

end

/-- Settles O41: an access goes by its address, to a take window, a line of the cluster's cache or the cluster's port, and on a line or at
the port by its operation. -/
theorem coreAccessesComplete : Obligations.CoreAccessesComplete := by
  refine ⟨?loadHit, ?storeHit, ?loadIo, ?access, ?take, ?buffer⟩
  case loadHit =>
    rintro core va addr size data victim l x s hready halign hwin hmem hx hl s1 hs1
    rw [exec_coreMemoryAccess_aligned (op := .load) va data victim hready halign (.inl (by decide))]
    exact congrArg (.next : State → Out) (coreAccess_hit hwin hmem rfl nofun hx hl hs1)
  case storeHit =>
    rintro core va addr size data victim l x s hready halign hwin hmem hx hl s1 hs1
    rw [exec_coreMemoryAccess_aligned (op := .store) va data victim hready halign (.inl (by decide))]
    exact congrArg (.next : State → Out) (coreAccess_hit hwin hmem rfl nofun hx hl hs1)
  case loadIo =>
    rintro core va addr size data victim s hready halign hwin hio
    rw [exec_coreMemoryAccess_aligned (op := .load) va data victim hready halign (.inl (by decide)), coreAccess_io hwin hio]
    rfl
  case access =>
    rintro core op va addr size data victim s _ rfl hready halign hwide
    exact exec_coreMemoryAccess_aligned va data victim hready halign hwide
  case take =>
    rintro core slice profile va s hready _ rfl
    rw [exec_takeLoad_ready slice profile va hready, coreAccess_takeAddr s none slice.isLt profile.isLt (by decide) rfl,
      takeAccess_take s slice profile rfl rfl]
  case buffer =>
    rintro core slice profile off size va s hready hoff halign
    rw [exec_takeBufferLoad_aligned slice profile va hready hoff halign,
      coreAccess_takeAddr s none slice.isLt profile.isLt off.isLt rfl, takeAccess_operand s slice profile hoff rfl]

end Sys2Proof.Machine

/-! SUPPORT. The dataflow dispatcher: tokens decided, matched and released, takes, and the end of a purge. -/

namespace Sys2Proof.Machine

open Sys2Proof

section
variable {s : State}

/-! ### Firings on the ring (R228) -/

section
variable {sl src : Fin 8} {x : Slice} {f : Firing} (hx : x = s.sliceOf sl)
  (hf : x.ring.find? (fun f => homeSlice f.key.n f.key.c == src.val) = some f)
include hx hf

theorem exec_firingRingArrive_joins :
    exec (.firingRingArrive sl src false) s = .next (joinList (s.setSlice sl { x with ring := x.ring.erase f }) sl f) := by
  subst hx
  simp only [exec_firingRingArrive, execFiringRingArrive, hf, Bool.false_eq_true, if_false]

theorem exec_firingRingArrive_lost : exec (.firingRingArrive sl src true) s = .next (loseKey s f.key.g f.key.n f.key.c) := by
  subst hx
  simp only [exec_firingRingArrive, execFiringRingArrive, hf, if_true]

end

/-! ### Tokens that arrive (R226, R227) -/

theorem exec_dopnd_arrived {p : Packet} {sl : Nat} {t : Token} (lost : Bool) (hsl : packetSlice p = some sl) (hop : p.op = opDopnd)
    (harrived : s.arrived p = true) (ht : t = tokenOf p.addr.toNat p.aux.toNat p.ext p) : exec (.dopnd p lost) s =
      .next (arriveToken (if lost then loseKey (s.takeReq p) t.g t.n t.c else s.takeReq p) sl t) := by
  subst ht
  simp only [exec_dopnd, execDopnd, hsl, hop, harrived, ne_eq, not_true_eq_false, Bool.not_true, Bool.false_eq_true, or_self, if_false]

theorem exec_tokenWindowWrite_token {p : Packet} {sl off : Nat} {t : Token} (lost : Bool) (hsl : sliceSpace p = some (sl, off))
    (hlo : 0x600000 ≤ off) (hhi : off < 0x610000) (harrived : s.arrived p = true) (hop : p.op = opWrite) (hlen : p.len = 1)
    (hfull : p.fullEnables = true) (ht : t = tokenRecord p) : exec (.tokenWindowWrite p lost) s =
      .next (arriveToken (if lost then loseKey (s.takeReq p) t.g t.n t.c else s.takeReq p) sl t) := by
  subst ht
  simp only [exec_tokenWindowWrite, execTokenWindowWrite, hsl, hlo, hhi, harrived, tokenWindow, hop, hlen, hfull, and_self, if_true]

/-- A token that finds its slice free of earlier ones is decided at once. -/
theorem arriveToken_first {sl : Nat} (t : Token) (hfetch : (s.sliceOf sl).fetch = []) (hline : (s.sliceOf sl).line = []) :
    arriveToken s sl t = decideToken s sl t := by
  simp only [arriveToken, hfetch, hline, List.isEmpty_nil, Bool.and_self, if_true]

/-- A token that no row before the descriptor refuses goes on to its descriptor. -/
theorem decideToken_permitted {sl : Nat} {t : Token} (hen : s.flag (uDsp sl) F.dspCtrlEn = true) (hhome : homeSlice t.n t.c = sl)
    (hgraph : s.flag (uDsp 0) F.dspGCtrlEn t.g = true)
    (hclass : bitOf (s.fld (uDsp 0) F.dspGCtrlIclsOk t.g) t.req.icls.toNat = true) (hpurge : t.g ∉ s.dsp.purging)
    (hnode : t.n < s.fld (uDsp 0) F.dspGCtrlNodes t.g) : decideToken s sl t = findDesc s sl t := by
  have hnotPurged : s.dsp.purging.contains t.g = false := by simpa using hpurge
  simp only [decideToken, hen, hhome, hgraph, hclass, hnotPurged, Nat.not_le.2 hnode, ne_eq, not_true_eq_false, Bool.not_true,
    Bool.false_eq_true, if_false]

theorem findDesc_cached {sl : Nat} {t : Token} {e : Nat × Desc} (hkept : (s.sliceOf sl).keptDesc t = none)
    (hcache : (s.sliceOf sl).cache.find? (fun e => e.1 == t.g * 65536 + t.n) = some e) : findDesc s sl t = decideDesc s sl t e.2 := by
  simp only [findDesc, hkept, hcache]

/-- With no token held, none goes before the one that is decided. -/
theorem decideDesc_noneHeld {sl : Nat} (t : Token) (d : Desc) (hhold : (s.sliceOf sl).hold = []) :
    decideDesc s sl t d = matchToken s sl t d := by
  rw [decideDesc, hhold, List.length_nil, settleHeld]

/-- The operand of a new key takes a free slot of the general pool. -/
theorem matchToken_newKey {sl : Nat} {t : Token} {d : Desc} (hop : t.op < d.arity) (hdelay : t.delay = 0)
    (hnew : (s.sliceOf sl).find t.g t.n t.c = none) (hfree : 0 < s.freeGen sl) :
    matchToken s sl t d = answerToken (putOperand (s.takeSlots sl 1 0) sl t d 1 0) sl t .ok := by
  simp only [matchToken, Nat.not_le.2 hop, hdelay, hnew, hfree, ne_eq, not_true_eq_false, Option.map_none, Option.getD_none,
    Bool.false_eq_true, if_false, if_true]

/-! ### Fetched descriptors (R224, R226) -/

section
variable {sl : Fin 8} {k : Nat} {np : NetPort} {r : Packet} {rest : List Packet} {s1 : State} {x : Slice} {f : Fetch} (lost : Bool)
  (hk : k = sliceCode sl) (hnp : np = s.netPort k) (hdel : np.delivered = r :: rest)
  (hs1 : s1 = s.setNetPort k { np with delivered := rest }) (hx : x = s1.sliceOf sl)
  (hf : x.fetch.find? (fun f => f.tag == r.tag.toNat) = some f)
include hk hnp hdel hs1 hx hf

theorem exec_descriptorFetch_valid {e : Desc} {s2 : State} (hstat : r.stat = 0)
    (he : descOf (leBytes ((r.payload.drop (r.a48 % 64)).take 16)) = some e)
    (hs2 : s2 = s1.setSlice sl { x with
      fetch := x.fetch.erase f
      cache := if f.stale then x.cache else ((f.g * 65536 + f.n, e) :: x.cache).take 1024 }) :
    exec (.descriptorFetch sl lost) s =
      .next (advanceLine sl x.line.length (f.toks.foldl (fun t k => useDesc t sl k e lost) s2)) := by
  subst hk hnp hs1 hx hs2
  simp only [exec_descriptorFetch, execDescriptorFetch, hdel, hf, hstat, he, if_true]

theorem exec_descriptorFetch_invalid (hbad : r.stat ≠ 0 ∨ descOf (leBytes ((r.payload.drop (r.a48 % 64)).take 16)) = none) :
    exec (.descriptorFetch sl lost) s = .next (advanceLine sl x.line.length (f.toks.foldl (fun t k => answerToken t sl k .decode)
      ((s1.setSlice sl { x with fetch := x.fetch.erase f }).setFld (uDsp sl) F.dspStatusDescerr 1))) := by
  have hnone : (if r.stat = 0 then descOf (leBytes ((r.payload.drop (r.a48 % 64)).take 16)) else none) = none := by
    rcases hbad with hstat | hdesc
    · exact if_neg hstat
    · rw [hdesc, ite_self]
  subst hk hnp hs1 hx
  simp only [exec_descriptorFetch, execDescriptorFetch, hdel, hf, hnone]

end

/-! ### Held tokens (R229, R230) -/

theorem exec_heldTokenMatch_free {sl : Fin 8} {completing : Bool} {h : HeldTok} (lost : Bool)
    (hh : (s.sliceOf sl).hold.find? (fun h => heldCompletes (s.sliceOf sl) h == completing) = some h)
    (hfree : 0 < s.freeGen sl ∨ (completing = true ∧ 0 < s.freeRsv sl)) : exec (.heldTokenMatch sl completing lost) s =
      .next (matchHeld (if lost then loseKey s h.tok.g h.tok.n h.tok.c else s) sl h) := by
  simp only [exec_heldTokenMatch, execHeldTokenMatch, hh, hfree, if_true]

section
variable {sl : Fin 8} {i : Fin 64} {h : HeldTok} {s1 : State} (hi : (s.sliceOf sl).hold[i.val]? = some h)
  (hs1 : s1 = settleHeld sl (s.sliceOf sl).hold.length s)
include hi hs1

theorem exec_tokenHoldTimeout_held (hh : h ∈ (s1.sliceOf sl).hold) : exec (.tokenHoldTimeout sl i) s =
    .next (answerBusySlot (s1.setSlice sl { s1.sliceOf sl with hold := (s1.sliceOf sl).hold.erase h }) sl h.tok) := by
  subst hs1
  simp only [exec_tokenHoldTimeout, execTokenHoldTimeout, hi, List.contains_iff_mem.2 hh, if_true]

theorem exec_tokenHoldTimeout_matched (hh : h ∉ (s1.sliceOf sl).hold) : exec (.tokenHoldTimeout sl i) s = .next s1 := by
  subst hs1
  simp only [exec_tokenHoldTimeout, execTokenHoldTimeout, hi, List.contains_iff_mem, hh, if_false]

end

/-! ### Ticks and delayed tokens (R231-R233) -/

theorem exec_tick_advances (hmode : s.mode.dormant = false) {v : Nat} {s1 : State} (hv : v = (s.now + 1) % 2 ^ 48)
    (hs1 : s1 = ({ s with pin := { s.pin with tick := true } }.setFld (uDsp 0) F.dspNowLoNow v).setFld (uDsp 0) F.dspNowHiNow
      (v / 2 ^ 32)) : exec .tick s =
    .next ((List.range 8).foldl (fun t sl => if (t.sliceOf sl).delay.any (isDue v) then t.wakeDom (128 + sl) else t) s1) := by
  subst hs1 hv
  simp only [exec_tick, execTick, hmode, Bool.false_eq_true, if_false]

section
variable {sl : Fin 8} {x : Slice} {d : Delayed} {ds : List Delayed} (hx : x = s.sliceOf sl) (hd : x.delay = d :: ds)
  (hdue : isDue s.now d = true) (hrun : s.dom (128 + sl) = domRun)
include hx hd hdue hrun

theorem exec_delayedTokenRelease_lost :
    exec (.delayedTokenRelease sl true) s = .next (loseKey s d.tok.g d.tok.n d.tok.c) := by
  subst hx
  simp only [exec_delayedTokenRelease, execDelayedTokenRelease, hd, hdue, hrun, Bool.not_true, bne_self_eq_false, Bool.or_self,
    Bool.false_eq_true, if_false, if_true]

/-- The first due token leaves the list, counted where it is late, and is a duplicate of an operand already held, or the operand. -/
theorem exec_delayedTokenRelease_due {s1 s2 : State} (hs1 : s1 = s.setSlice sl { x with delay := ds })
    (hs2 : s2 = if ticksLeft s.now d.due < -1 then s1.countSat (uDsp sl) F.dspLateCntCount else s1) :
    exec (.delayedTokenRelease sl false) s =
      .next (if (((s2.sliceOf sl).find d.tok.g d.tok.n d.tok.c).map (fun m => (SMap.find m.ops d.tok.op).isSome)).getD false then
        (countDup s2 sl).freeSlots sl 1 0 else putOperand s2 sl d.tok d.desc 1 0) := by
  subst hs2 hs1 hx
  simp only [exec_delayedTokenRelease, execDelayedTokenRelease, hd, hdue, hrun, Bool.not_true, bne_self_eq_false, Bool.or_self,
    Bool.false_eq_true, if_false]
  exact (apply_ite (.next : State → Out) _ _ _).symm

end

/-! ### Takes (R234, R235, R238, R240) -/

theorem exec_dtake_permitted {p : Packet} {sl : Nat} (lost : Bool) (hsl : packetSlice p = some sl) (hop : p.op = opDtake)
    (harrived : s.arrived p = true) (hen : s.flag (uDsp sl) F.dspCtrlEn = true) (hmask : p.aux ≠ 0) :
    exec (.dtake p lost) s = .next (beginTake (s.takeReq p) sl p.aux (p.ext.toNat % 2 ^ 32) p lost) := by
  simp only [exec_dtake, execDtake, hsl, hop, harrived, hen, hmask, ne_eq, not_true_eq_false, Bool.not_true, Bool.false_eq_true, or_self,
    if_false]

theorem serveTake_found {sl l : Nat} {mask : BitVec 32} {f : Firing} (wait : Nat) (req : Packet)
    (hbest : bestFiring (s.sliceOf sl) mask = some (l, f)) : serveTake s sl mask wait req =
      deliverFiring (s.setSlice sl { s.sliceOf sl with
        lists := SMap.store [] (s.sliceOf sl).lists l ((SMap.get [] (s.sliceOf sl).lists l).drop 1) }) sl req f := by
  simp only [serveTake, hbest]

/-- A READ of a profile's whole window that is no debug access, with the slice enabled and the profile's mask not 0, is a take. -/
theorem takeWindow_take {p : Packet} {sl off prof : Nat} {mask : BitVec 32} (lost : Bool) (hprof : prof = (off - 0x800000) / 0x80)
    (hop : p.op = opRead) (hlen : p.len = 2) (ha : p.a48 % 128 = 0) (hlast : p.last = 63) (hp : prof < 64)
    (hdebug : p.icls.toNat ≠ iclsDebug) (hen : s.flag (uDsp sl) F.dspCtrlEn = true)
    (hm : mask = BitVec.ofNat 32 (s.fld (uDsp sl) F.dspTpMaskMask prof)) (hmask : mask ≠ 0) : takeWindow s sl off p lost =
      beginTake (s.takeReq p) sl mask (s.fld (uDsp sl) F.dspTpWaitWait prof) p lost := by
  subst hm
  simp only [takeWindow, ← hprof, hop, hlen, ha, hlast, Nat.not_le.2 hp, hdebug, hen, hmask, ne_eq, not_true_eq_false, Bool.not_true,
    Bool.false_eq_true, or_self, if_false]

theorem exec_takeWindowRead_window {p : Packet} {sl off : Nat} (lost : Bool) (hsl : sliceSpace p = some (sl, off))
    (hoff : 0x800000 ≤ off) (harrived : s.arrived p = true) : exec (.takeWindowRead p lost) s = .next (takeWindow s sl off p lost) := by
  simp only [exec_takeWindowRead, execTakeWindowRead, hsl, hoff, harrived, and_self, if_true]

theorem exec_takeWaitExpire_waiting {sl : Fin 8} {i : Fin 256} {x : Slice} {w : Take} (hx : x = s.sliceOf sl)
    (hw : x.waits[i.val]? = some w) : exec (.takeWaitExpire sl i) s =
      .next (answerTake (s.setSlice sl { x with waits := x.waits.erase w }) w.req none) := by
  subst hx
  simp only [exec_takeWaitExpire, execTakeWaitExpire, hw]

/-- The DTAKE of a profile of a region's execution port (R240); the rules give its PRI no value. -/
def execTakePacket (s : State) (n : Fin 128) (prof : BitVec 3) : Packet :=
  let u := uDsp (n / 16)
  { pri := BitVec.ofNat 2 (s.fresh % 3), opc := 0x09, len := 0, tag := prof.zeroExtend 16,
    dst := BitVec.ofNat 11 (sliceCode (s.fld u F.dspXpSliceSlice (n % 16) prof.toNat)), src := 0, label := 0, icls := 1, stat := 0,
    addr := 0, aux := BitVec.ofNat 32 (s.fld u F.dspXpMaskMask (n % 16) prof.toNat), hoplim := 0,
    ext := BitVec.ofNat 64 (s.fld u F.dspXpWaitWait (n % 16) prof.toNat), hdata := 0, body := [] }

theorem exec_execTake_taken {n : Fin 128} {prof : BitVec 3} {r : List (BitVec 3)} {f : FpPort} (hf : f = s.fpPort n)
    (hin : f.takeIn = prof :: r) (hclk : s.clk.halted = false) : exec (.execTake n prof) s =
      .next (absorbFp (ingress (s.draw.setFp n { f with takeIn := r }) (n * 16) (execTakePacket s n prof) true) n) := by
  subst hf
  simp only [exec_execTake, execExecTake, hin, hclk, bne_self_eq_false, Bool.or_self, Bool.false_eq_true, if_false, execTakePacket]

/-! ### The end of a purge (R241) -/

theorem exec_purgeDone_purging {g : BitVec 8} {s1 : State} (hpurge : g.toNat ∈ s.dsp.purging)
    (hs1 : s1 = setGraphBusy { s with dsp := { s.dsp with purging := NSet.del s.dsp.purging g.toNat } } g.toNat) :
    exec (.purgeDone g) s = .next ((List.range 8).foldl (fun (t : State) sl =>
      ((t.sliceOf sl).purgeWait.filter (fun k => k.g == g.toNat)).foldl (fun u k => arriveToken u sl k)
        (t.setSlice sl { t.sliceOf sl with purgeWait := (t.sliceOf sl).purgeWait.filter (fun k => k.g != g.toNat) })) s1) := by
  subst hs1
  simp only [exec_purgeDone, execPurgeDone, List.contains_iff_mem.2 hpurge, Bool.not_true, Bool.false_eq_true, if_false]

end

/-- Settles O24: with the conditions of its rules each command takes its one branch, and a token goes through the rows of R226 in order. -/
theorem dispatcherCommandsComplete : Obligations.DispatcherCommandsComplete := by
  refine ⟨?ring, ?dopnd, ?newKey, ?window, ?fetched, ?badDesc, ?heldMatch, ?holdEnd, ?tick, ?duplicate, ?release, ?dtake, ?serve, ?read,
    ?expire, ?execTake, ?purge, ?inval, ?purgeDone, ?invalDone⟩
  case ring =>
    rintro sl src s x hx f hf
    exact ⟨exec_firingRingArrive_joins hx hf, exec_firingRingArrive_lost hx hf⟩
  case dopnd =>
    rintro p lost s sl hsl hop harrived t ht s1 rfl x rfl
    exact exec_dopnd_arrived lost hsl hop harrived ht
  case newKey =>
    rintro p sl t x e s hsl hop harrived ht rfl hen hhome hgraph hclass hpurge hnode hkept hfetch hline hhold hcache hop' hdelay hnew hfree
    rw [exec_dopnd_arrived false hsl hop harrived ht, if_neg Bool.false_ne_true]
    -- What the hypotheses say of `s` holds after the request has left the mesh, which no slice and no register belongs to.
    rw [arriveToken_first (s := s.takeReq p) t hfetch hline,
      decideToken_permitted (s := s.takeReq p) hen hhome hgraph hclass hpurge hnode, findDesc_cached (s := s.takeReq p) hkept hcache,
      decideDesc_noneHeld (s := s.takeReq p) t e.2 hhold, matchToken_newKey (s := s.takeReq p) hop' hdelay hnew hfree]
  case window =>
    rintro p sl off s hsl hlo hhi harrived hop hlen hfull t ht
    have arrives (lost : Bool) := exec_tokenWindowWrite_token lost hsl hlo hhi harrived hop hlen hfull ht
    exact ⟨arrives false, arrives true⟩
  case fetched =>
    rintro sl lost s k hk np hnp r rest hdel s1 hs1 x hx f hf e hstat he s2 hs2
    exact exec_descriptorFetch_valid lost hk hnp hdel hs1 hx hf hstat he hs2
  case badDesc =>
    rintro sl lost s k hk np hnp r rest hdel s1 hs1 x hx f hf hbad
    exact exec_descriptorFetch_invalid lost hk hnp hdel hs1 hx hf hbad
  case heldMatch =>
    rintro sl completing s _ rfl h hh hfree
    exact ⟨exec_heldTokenMatch_free false hh hfree, exec_heldTokenMatch_free true hh hfree⟩
  case holdEnd =>
    rintro sl i s h hi s1 hs1 _ rfl
    exact ⟨exec_tokenHoldTimeout_held hi hs1, exec_tokenHoldTimeout_matched hi hs1⟩
  case tick => exact fun s hmode v hv s1 hs1 => exec_tick_advances hmode hv hs1
  case duplicate =>
    rintro sl s x hx d ds hd hdue hrun s1 hs1 s2 hs2 hdup
    rw [exec_delayedTokenRelease_due hx hd hdue hrun hs1 hs2, if_pos hdup]
  case release =>
    rintro sl s x hx d ds hd hdue hrun s1 hs1 s2 hs2
    refine ⟨exec_delayedTokenRelease_lost hx hd hdue hrun, fun hnew => ?_⟩
    rw [exec_delayedTokenRelease_due hx hd hdue hrun hs1 hs2, hnew, if_neg Bool.false_ne_true]
  case dtake => exact fun p lost s sl hsl hop harrived hen hmask => exec_dtake_permitted lost hsl hop harrived hen hmask
  case serve => exact fun sl l mask wait req f s hbest => serveTake_found wait req hbest
  case read =>
    rintro p sl off prof s hsl hoff harrived hprof hop hlen ha hlast hp hdebug hen hmask
    rw [exec_takeWindowRead_window false hsl hoff harrived, takeWindow_take false hprof hop hlen ha hlast hp hdebug hen rfl hmask]
    rfl
  case expire => exact fun sl i s x hx w hw => exec_takeWaitExpire_waiting hx hw
  case execTake =>
    rintro n prof r s f hf hin hclk _ rfl _ rfl
    exact exec_execTake_taken hf hin hclk
  case purge => exact fun g s => rfl
  case inval => exact fun g s => rfl
  case purgeDone =>
    rintro g s _ rfl hpurge s1 hs1
    exact exec_purgeDone_purging hpurge hs1
  case invalDone =>
    rintro g s _ rfl
    rfl

end Sys2Proof.Machine

/-! SUPPORT. Configuration loads: how one begins and ends, image bytes, frames, initialisation data, and the last checks. -/

namespace Sys2Proof.Machine

open Sys2Proof

section
variable {s : State} {l : Load}

/-! ### A load begins and ends (R249, R262, R266, R277, R287, R288) -/

/-- The registers as a load begins: the next sequence number, no failure code, BUSY, and the stream at its start (R249, R277). -/
def openRegs (s : State) : State :=
  ((((s.setFld uCfg F.cfgLoadSeqSeq (s.fld uCfg F.cfgLoadSeqSeq + 1)).setFld uCfg F.cfgStatusFailCode 0).setFld uCfg
    F.cfgStatusBusy 1).setFld uCfg F.cfgStreamPosLoPos 0).setFld uCfg F.cfgStreamPosHiPos 0

theorem openFrom_idle (source icls : Nat) (boot : Bool) (hload : s.cfg.load = none) (hpins : s.pinControl = false) :
    openFrom s source icls boot = showPhase { openRegs s with cfg := { (openRegs s).cfg with
      load := some { source := source, icls := icls, boot := boot, seq := (openRegs s).fld uCfg F.cfgLoadSeqSeq }
      fenced := none
      lastSelf := source == 2 } } 1 := by
  simp only [openFrom, hload, hpins, Option.isSome_none, Bool.or_self, Bool.false_eq_true, if_false, openRegs]

theorem exec_openLoad_manager {src : BitVec 4} {icls : BitVec 3} (haccept : cfgAccepts s icls.toNat = true) (hsrc : src.toNat < 2) :
    exec (.openLoad src icls) s = .next ((openFrom s src.toNat icls.toNat false).answer .ok) := by
  simp only [exec_openLoad, execOpen, cfgOpen, haccept, Nat.not_le.2 hsrc, Bool.not_true, Bool.false_eq_true, if_false]

theorem exec_slOpen_admitted {icls : BitVec 3} {src : BitVec 11} (hadmit : slAdmitted s icls.toNat src.toNat = true) :
    exec (.slOpen icls src) s = .next ((openFrom s 2 icls.toNat false).answer .ok) := by
  simp only [exec_slOpen, execSlOpen, hadmit, Bool.not_true, Bool.false_eq_true, if_false]

theorem cfgAbort_load (hload : s.cfg.load = some l) : cfgAbort s = failLoad s l failAborted l.bytes.length := by
  simp only [cfgAbort, hload]

theorem exec_abortLoad_load {icls : BitVec 3} (haccept : cfgAccepts s icls.toNat = true) (hload : s.cfg.load = some l) :
    exec (.abortLoad icls) s = .next ((failLoad s l failAborted l.bytes.length).answer .ok) := by
  simp only [exec_abortLoad, execAbort, haccept, cfgAbort_load hload, Bool.not_true, Bool.false_eq_true, if_false]

theorem exec_slAbort_ownLoad {icls : BitVec 3} {src : BitVec 11} (hadmit : slAdmitted s icls.toNat src.toNat = true)
    (hload : s.cfg.load = some l) (hown : l.source = 2) :
    exec (.slAbort icls src) s = .next ((failLoad s l failAborted l.bytes.length).answer .ok) := by
  simp only [exec_slAbort, execSlAbort, slAbort, hadmit, hload, hown, cfgAbort_load hload, Bool.not_true, Bool.false_eq_true, if_false,
    if_true]

theorem exec_sourceTimeout_xspi (hload : s.loading = some l) (hsource : l.source = 0) :
    exec .sourceTimeout s = .next (failLoad s l failSource l.bytes.length) := by
  simp only [exec_sourceTimeout, execSourceTimeout, hload, hsource, if_true]

/-! ### Image bytes (R261, R262, R284, R287) -/

theorem streamRequest_accepted {source : Nat} {p : Packet} (hok : streamDecide s source p.icls.toNat p = some .ok)
    (hload : s.cfg.load = some l) {s1 : State} (hs1 : s1 = appendImage s l p.payload) : streamRequest s source p =
      if s1.cfg.fenced = some source then { s1 with cfg := { s1.cfg with fenced := none } }.reply p .fenced else s1.reply p .ok := by
  subst hs1
  simp only [streamRequest, hok, hload]

theorem exec_streamWrite_window {p : Packet} (hmap : mapAddr (p.a48 / 0x800000 * 0x800000) = .csr uCfg 0x800000)
    (hreq : isRequest p.op = true) (harrived : s.arrived p = true) : exec (.streamWrite p) s = .next (streamRequest s 1 p) := by
  simp only [exec_streamWrite, execStreamWrite, hmap, hreq, harrived, and_self, if_true]

theorem exec_slDataWrite_window {p : Packet} (hmap : mapAddr (p.a48 / 0x200000 * 0x200000) = .csr uCfg 0x600000)
    (hreq : isRequest p.op = true) (harrived : s.arrived p = true) (hadmit : slAdmitted s p.icls.toNat p.src.toNat = true) :
    exec (.slDataWrite p) s = .next (streamRequest s 2 p) := by
  simp only [exec_slDataWrite, execSlDataWrite, slData, hmap, hreq, harrived, hadmit, and_self, Bool.not_true, Bool.false_eq_true,
    if_false, if_true]

/-- The burin takes what an xSPI read brings where it is the read it makes. -/
theorem exec_xspiRead_made {r : XspiBurst} (hload : s.loading = some l) (hsource : l.source = 0)
    (hplace : xspiPlace s l.bytes.length = (r.port.val, r.addr.toNat)) (hopc : s.fld uCfg F.cfgXspiCfgRdOpc = r.opc.toNat)
    (hdummy : s.fld uCfg F.cfgXspiCfgDummy = r.dummy.toNat) :
    exec (.xspiRead r) s = .next (appendImage s l (r.data.take (xspiWants l))) := by
  simp only [exec_xspiRead, execXspiRead, hload, hsource, hplace, hopc, hdummy, ne_eq, not_true_eq_false, or_self, if_false]

theorem xspiWants_header (h : l.bytes.length < 256) : xspiWants l = 256 - l.bytes.length := if_pos h

theorem xspiWants_afterHeader (h : 256 ≤ l.bytes.length) :
    xspiWants l = min (4096 - l.bytes.length % 4096) (imgLength l.bytes - l.bytes.length) := if_neg (Nat.not_lt.2 h)

/-! ### Frames (R75, R258, R263, R276, R285) -/

/-- The image offset of the frame at a place of the frame section. -/
def frameOff (bs : List Byte) (place : Option Nat) : Nat := 256 + imgManifestLen bs + 256 * place.getD 0

/-- The frame that an image holds at a place; a frame of a ZFILL run is zero (R256). -/
def placedFrame (bs : List Byte) (place : Option Nat) : Frame :=
  match place with
  | some _ => BitVec.ofNat 2048 (imgField bs (frameOff bs place) 256)
  | none => 0

/-- The CRC that the manifest gives the frame at a place (R258). -/
def placedFrameCrc (bs : List Byte) (place : Option Nat) : Word32 :=
  match place with
  | some i => BitVec.ofNat 32 (imgField bs (256 + 16 * (imgRuns bs + imgInits bs) + 4 * i) 4)
  | none => zeroFrameCrc

section
variable {misrouted : Option (BitVec 7)} {n0 n o : Nat} {place : Option Nat} (hload : s.loading = some l) (hphase : l.phase = 4)
  (hframe : frameAt l.runs l.frame 0 = some (n0, o, place)) (hn : n = (misrouted.map (·.toNat)).getD n0)
  (hbytes : place = none ∨ frameOff l.bytes place + 256 ≤ l.bytes.length)
include hload hphase hframe hn hbytes

/-- The next frame, its bytes there, is held where the budget of its die admits none, and lands where it admits one. -/
theorem exec_frameWrite_next : exec (.frameWrite misrouted) s =
    if itemsNow s (dieOfRegion n) 8 1 = 0 then .next (s.hold 0 (dieOfRegion n))
    else .next (landFrame (loadCharge s (dieOfRegion n) 8) l n o (placedFrame l.bytes place) (placedFrameCrc l.bytes place)) := by
  have hin : ¬(place.isSome = true ∧ l.bytes.length < frameOff l.bytes place + 256) := by
    rintro ⟨hsome, hshort⟩
    rcases hbytes with rfl | hfull
    · simp at hsome
    · omega
  simp only [frameOff] at hin
  simp only [exec_frameWrite, execFrameWrite, hload, hphase, hframe, ← hn, hin, ne_eq, not_true_eq_false, if_false]
  rw [if_neg (by decide)]
  cases place <;> rfl

theorem exec_frameWrite_held (hbudget : itemsNow s (dieOfRegion n) 8 1 = 0) :
    exec (.frameWrite misrouted) s = .next (s.hold 0 (dieOfRegion n)) := by
  rw [exec_frameWrite_next hload hphase hframe hn hbytes, if_pos hbudget]

theorem exec_frameWrite_lands (hbudget : itemsNow s (dieOfRegion n) 8 1 ≠ 0) : exec (.frameWrite misrouted) s =
    .next (landFrame (loadCharge s (dieOfRegion n) 8) l n o (placedFrame l.bytes place) (placedFrameCrc l.bytes place)) := by
  rw [exec_frameWrite_next hload hphase hframe hn hbytes, if_neg hbudget]

end

theorem landFrame_outside {n : Nat} (o : Nat) (f : Frame) (want : Word32) (hout : n ∉ l.fence) :
    landFrame s l n o f want = failLoad s l failFence (farOf n o) := by
  simp only [landFrame, List.contains_eq_mem, decide_eq_false hout, Bool.not_false, if_true]

/-- Inside the fence a frame whose CRC is right and that drives no channel twice is written into the inactive plane. -/
theorem landFrame_written {n o : Nat} {f : Frame} {want : Word32} (hfence : n ∈ l.fence) (hcrc : frameCrc f = want)
    (hspan : (if blockOf o = 1 then firstTwice (frameDrivers f) else none) = none) :
    landFrame s l n o f want = afterFrames (s.setFrame (s.inactive n) n o f) { l with
      frame := l.frame + 1
      crc := SMap.store zeroFrameCrc l.crc (n * 22528 + o) want
      written := if blockOf o = 1 then NSet.add l.written n else l.written } := by
  simp only [landFrame, List.contains_iff_mem.2 hfence, hcrc, hspan, ne_eq, not_true_eq_false, Bool.not_true, Bool.false_eq_true, if_false]

/-! ### Initialisation data (R257, R264, R578) -/

/-- The data of the entry that a load comes to next. -/
def entryData (l : Load) (x : InitEntry) : List Byte := (l.bytes.drop (imgInitOff l.bytes + entryOff l.entries l.entry)).take x.len

/-- The items of an entry on its die's bus: those of what is written directly, in a region with no ACTIVE plane (R264). -/
def entryWork (s : State) (x : InitEntry) : SMap Nat := dieWork (x.len / 256) (if (s.active x.region).isNone then [x.region] else [])

theorem exec_initDataWrite_entry (e : MemEnv) {x : InitEntry} {r : State × SMap Nat} (hload : s.loading = some l) (hphase : l.phase = 5)
    (hx : l.entries[l.entry]? = some x) (hbytes : imgInitOff l.bytes + entryOff l.entries l.entry + x.len ≤ l.bytes.length)
    (hr : r = paced 8 (entryWork s x) s l.paid) (hpaid : allPaid (entryWork s x) r.2 = true) : exec (.initDataWrite e) s =
      .next ((stageBytes (if (s.active x.region).isNone then loadTarget r.1 x (entryData l x) else r.1) l (entryOff l.entries l.entry)
        (entryData l x) e (fun t => t.setLoad (some { l with entry := l.entry + 1, paid := [] }))).getD
        (r.1.setLoad (some { l with paid := r.2 }))) := by
  subst hr
  simp only [entryWork] at hpaid
  simp only [exec_initDataWrite, execInitDataWrite, hload, hphase, hx, Nat.not_lt.2 hbytes, entryData, entryWork, hpaid, ne_eq,
    not_true_eq_false, Bool.not_true, Bool.false_eq_true, if_false]

theorem exec_initDataWrite_end (e : MemEnv) {work : SMap Nat} {r : State × SMap Nat} (hload : s.loading = some l) (hphase : l.phase = 5)
    (hend : l.entries[l.entry]? = none) (hbytes : imgInitOff l.bytes + imgInitLen l.bytes ≤ l.bytes.length)
    (hwork : work = dieWork 352 (l.regions.filter (fun n => (s.active n).isNone))) (hr : r = paced 8 work s l.paid)
    (hpaid : allPaid work r.2 = true) :
    exec (.initDataWrite e) s = .next ((finishInit r.1 l e).getD (r.1.setLoad (some { l with paid := r.2 }))) := by
  simp only [exec_initDataWrite, execInitDataWrite, hload, hphase, hend, Nat.not_lt.2 hbytes, ← hwork, ← hr, hpaid, ne_eq,
    not_true_eq_false, Bool.not_true, Bool.false_eq_true, if_false]

/-! ### The checks of the planes and of the signature block (R75, R257, R259, R265) -/

theorem exec_verify_unchecked (hload : s.loading = some l) (hphase : l.phase = 6) (hchecked : l.checked = false) :
    exec .verify s = .next (checkPlanes s l) := by
  simp only [exec_verify, execVerify, hload, hphase, hchecked, ne_eq, not_true_eq_false, Bool.false_eq_true, if_false]

theorem exec_verify_checked (hload : s.loading = some l) (hphase : l.phase = 6) (hchecked : l.checked = true) :
    exec .verify s = .next (judgeBlock s l) := by
  simp only [exec_verify, execVerify, hload, hphase, hchecked, ne_eq, not_true_eq_false, if_false, if_true]

theorem checkPlanes_passed {r : State × SMap Nat} {l1 : Load} (hr : r = paced 8 (dieWork 384 l.written) s l.paid)
    (hpaid : allPaid (dieWork 384 l.written) r.2 = true)
    (hspan : l.written.findSome? (fun n => spanBreach s (s.inactive n) n) = none) (hrecord : recordBreach s l = none)
    (hl1 : l1 = { l with checked := true, paid := [] }) : checkPlanes s l = judgeBlock (r.1.setLoad (some l1)) l1 := by
  simp only [checkPlanes, ← hr, hpaid, hspan, hrecord, ← hl1, Bool.not_true, Bool.false_eq_true, if_false]

theorem judgeBlock_passed (hbytes : imgLength l.bytes ≤ l.bytes.length) (hsign : signatureFail s l.bytes = none) :
    judgeBlock s l = verified s l := by
  simp only [judgeBlock, Nat.not_lt.2 hbytes, hsign, if_false]

end

/-- Settles O27: a load begins where none runs, its bytes go by the write's decision, a frame by its budget, fence and checks, and a section
or a check goes on once the budget has admitted its beats. -/
theorem loadCommandsComplete : Obligations.LoadCommandsComplete := by
  refine ⟨?opened, ?abort, ?stream, ?slData, ?frameHeld, ?frame, ?misrouted, ?planes, ?slOpened, ?slAbort, ?xspiHeader, ?xspiBody,
    ?timeout, ?entry, ?sectionEnd, ?block⟩
  case opened =>
    rintro src icls s haccept hsrc hload hpins _ rfl _ rfl
    rw [exec_openLoad_manager haccept hsrc, openFrom_idle _ _ _ hload hpins, beq_false_of_ne (Nat.ne_of_lt hsrc)]
    rfl
  case abort => exact fun icls l s haccept hload => exec_abortLoad_load haccept hload
  case stream =>
    rintro p l s hmap hreq harrived hok hload s1 hs1
    rw [exec_streamWrite_window hmap hreq harrived, streamRequest_accepted hok hload hs1]
  case slData =>
    rintro p l s hmap hreq harrived hadmit hok hload s1 hs1
    rw [exec_slDataWrite_window hmap hreq harrived hadmit, streamRequest_accepted hok hload hs1]
  case frameHeld =>
    rintro misrouted l n0 n o s hload hphase hframe hn hbudget
    exact exec_frameWrite_held hload hphase hframe hn (.inl rfl) hbudget
  case frame =>
    rintro l n o place f want s hload hphase hframe _ rfl hbytes hbudget hf hwant hfence hcrc hspan
    have hplaced : f = placedFrame l.bytes place := by cases place <;> exact hf
    have hplacedCrc : want = placedFrameCrc l.bytes place := by cases place <;> exact hwant
    rw [exec_frameWrite_lands (misrouted := none) (n := n) hload hphase hframe rfl hbytes hbudget, ← hplaced, ← hplacedCrc,
      landFrame_written hfence hcrc hspan]
  case misrouted =>
    rintro r l n0 o s hload hphase hframe hbudget hout
    rw [exec_frameWrite_lands (misrouted := some r) (n := r.toNat) hload hphase hframe rfl (.inl rfl) hbudget,
      landFrame_outside o _ _ hout]
  case planes =>
    rintro l s r hload hphase hchecked hr hpaid hspan hrecord l1 hl1
    rw [exec_verify_unchecked hload hphase hchecked, checkPlanes_passed hr hpaid hspan hrecord hl1]
  case slOpened =>
    rintro icls src s hadmit hload hpins _ rfl _ rfl
    rw [exec_slOpen_admitted hadmit, openFrom_idle _ _ _ hload hpins]
    rfl
  case slAbort => exact fun icls src l s hadmit hload hown => exec_slAbort_ownLoad hadmit hload hown
  case xspiHeader =>
    rintro r s l hload hsource hplace hopc hdummy hheader
    rw [exec_xspiRead_made hload hsource hplace hopc hdummy, xspiWants_header hheader]
  case xspiBody =>
    rintro r s l hload hsource hplace hopc hdummy hbody _ rfl
    rw [exec_xspiRead_made hload hsource hplace hopc hdummy, xspiWants_afterHeader hbody]
  case timeout => exact fun s l hload hsource => exec_sourceTimeout_xspi hload hsource
  case entry =>
    rintro e s l hload hphase x hx _ rfl hbytes _ rfl _ rfl r hr hpaid _ rfl
    exact exec_initDataWrite_entry e hload hphase hx hbytes hr hpaid
  case sectionEnd =>
    rintro e s l hload hphase hend hbytes work hwork r hr hpaid
    exact exec_initDataWrite_end e hload hphase hend hbytes hwork hr hpaid
  case block =>
    rintro l s hload hphase hchecked hbytes hsign
    rw [exec_verify_checked hload hphase hchecked, judgeBlock_passed hbytes hsign]

end Sys2Proof.Machine

/-! SUPPORT. Flips and their releases, COMMIT_SVN, and the fuses, which it and other commands burn. -/

namespace Sys2Proof.Machine

open Sys2Proof

/-! ### The fuses (R274, R482, R484, R488, R489, R573) -/

/-- Settles O6: what a step keeps is, in part, the burned fuses, and taking the front command off the queue leaves them alone. -/
theorem fusesOnlyBurn : Obligations.FusesOnlyBurn := by
  intro s t hstep
  obtain ⟨u, hnext, hkept⟩ := step_kept s
  obtain rfl : t = u := by simpa [hstep] using hnext
  exact hkept.fuse

section
variable {s : State} {i : Nat} {f : Flip}

/-! ### A flip accepted (R267, R269, R288) -/

theorem flipSet_accepted {regions : NSet} (hbar : flipRefused s regions = false) {s1 : State}
    (hs1 : s1 = regions.foldl (fun (t : State) n => t.wakeDom n) s) :
    flipSet s regions = { s1 with cfg := { s1.cfg with flips := s1.cfg.flips ++ [{ regions := regions }] } } := by
  subst hs1
  simp only [flipSet, hbar, Bool.false_eq_true, if_false]

theorem exec_flip_manager {icls : BitVec 3} (haccept : cfgAccepts s icls.toNat = true) :
    exec (.flip icls) s = .next ((flipSet s (flipMaskSet s)).answer .ok) := by
  simp only [exec_flip, execFlip, haccept, Bool.not_true, Bool.false_eq_true, if_false]

theorem exec_slFlip_granted {icls : BitVec 3} {src : BitVec 11} (hadmit : slAdmitted s icls.toNat src.toNat = true)
    (hgrant : s.cfg.slSet.any (fun n => !bitOf (s.fld uCfg F.cfgSlGrantRegions (n / 32)) (n % 32)) = false) :
    exec (.slFlip icls src) s = .next ((flipSet s s.cfg.slSet).answer .ok) := by
  simp only [exec_slFlip, execSlFlip, slFlip, hadmit, hgrant, Bool.not_true, Bool.false_eq_true, if_false]

/-! ### COMMIT_SVN (R267, R274) -/

theorem exec_commitSvn_manager (haccept : cfgAccepts s 4 = true) : exec (.commitSvn 4) s = .next ((commitSvn s).answer .ok) := by
  have haccept : cfgAccepts s (4 : BitVec 3).toNat = true := haccept
  simp only [exec_commitSvn, execCommitSvn, haccept, ne_eq, not_true_eq_false, Bool.not_true, Bool.false_eq_true, if_false]

theorem commitSvn_agreed {v svn : Nat} {r : List Nat}
    (hacts : (List.range 128).filterMap (fun n => (s.active n).map (fun p => s.planeSvn n p)) = v :: r) (hsame : ∀ w ∈ r, w = v)
    (hsvn : svn = max v s.fuse.svn) : commitSvn s =
      ((List.range 128).flatMap (fun n => [(n, 0), (n, 1)])).foldl (fun (t : State) x =>
        if t.planeState x.1 x.2 = planeVerified ∧ t.planeSvn x.1 x.2 < svn then t.setPlane x.1 x.2 planeStale else t)
        (({ s with fuse := { s.fuse with svn := svn } } : State).setFld uCfg F.cfgSvnCounter svn) := by
  have hagree : r.any (fun w => w != v) = false := by simpa using hsame
  subst hsvn
  simp only [commitSvn, hacts, hagree, Bool.false_eq_true, if_false]

/-! ### The flip executed, or refused (R269, R270, R275) -/

theorem exec_flipWakeTimeout_asleep (hf : s.cfg.flips[i]? = some f) (hphase : f.phase = 0)
    (hasleep : f.regions.any (fun n => !s.regionRuns n) = true) : exec (.flipWakeTimeout i) s = .next (cfgRefuse (s.dropFlip f)) := by
  simp only [exec_flipWakeTimeout, execFlipWakeTimeout, hf, hphase, hasleep, and_self, if_true]

section
variable (hf : s.cfg.flips[i]? = some f) (hphase : f.phase = 0) (hruns : f.regions.any (fun n => !s.regionRuns n) = false)
  (hclear : s.bm.clearing = false) (hcal : s.span.calibrated = true)
include hf hphase hruns hclear hcal

theorem exec_flipExecute_barred (hbar : flipBarred s f.regions = true) :
    exec (.flipExecute i) s = .next (cfgRefuse (s.dropFlip f)) := by
  simp only [exec_flipExecute, execFlipExecute, hf, hphase, hruns, hclear, hcal, hbar, ne_eq, not_true_eq_false, Bool.not_true,
    Bool.false_eq_true, or_self, if_false, if_true]

/-- Every region flips, and what a faulted flip of those regions left is replaced. -/
theorem exec_flipExecute_flips (hbar : flipBarred s f.regions = false) {blank : NSet}
    (hblank : blank = f.regions.filter (fun n => (s.active n).isNone)) {s1 s2 : State}
    (hs1 : s1 = s.setFlip i { f with phase := 1, blank := blank }) (hs2 : s2 = f.regions.foldl flipRegion s1) :
    exec (.flipExecute i) s = .next (showReleasing { s2 with cfg := { s2.cfg with
      flips := s2.cfg.flips.filter (fun g => !(g.fault && g.regions.any (fun n => f.regions.contains n))) } }) := by
  subst hblank hs1 hs2
  simp only [exec_flipExecute, execFlipExecute, hf, hphase, hruns, hclear, hcal, hbar, ne_eq, not_true_eq_false, Bool.not_true,
    Bool.false_eq_true, or_self, if_false]

end

/-! ### The stages of a release (R264, R270-R273) -/

section
variable {e : MemEnv} {t : State} (hf : s.cfg.flips[i]? = some f) (hphase : f.phase = 1) (hfault : f.fault = false)
include hf hphase hfault

theorem exec_initComplete_initialised
    (hinit : initRegions s e (f.regions.filter (fun n => !f.blank.contains n)) = some (t, none)) :
    exec (.initComplete i e) s = .next (t.setFlip i { f with phase := 2 }) := by
  simp only [exec_initComplete, execInitComplete, hf, hphase, hfault, hinit, ne_eq, not_true_eq_false, Bool.false_eq_true, or_self,
    if_false]

theorem exec_initComplete_failed {n : Nat}
    (hinit : initRegions s e (f.regions.filter (fun n => !f.blank.contains n)) = some (t, some n)) :
    exec (.initComplete i e) s = .next (initFault t i f n) := by
  simp only [exec_initComplete, execInitComplete, hf, hphase, hfault, hinit, ne_eq, not_true_eq_false, Bool.false_eq_true, or_self,
    if_false]

end

theorem exec_outputs_initialised (hf : s.cfg.flips[i]? = some f) (hphase : f.phase = 2) (hfault : f.fault = false) :
    exec (.outputs i) s = .next (f.regions.foldl releasePins ((setStage s f 1).setFlip i { f with phase := 3 })) := by
  simp only [exec_outputs, execOutputs, hf, hphase, hfault, ne_eq, not_true_eq_false, Bool.false_eq_true, or_self, if_false]

theorem exec_enables_passing (hf : s.cfg.flips[i]? = some f) (hphase : f.phase = 3) :
    exec (.enables i) s = .next ((setStage s f 2).setFlip i { f with phase := 4 }) := by
  simp only [exec_enables, execEnables, hf, hphase, ne_eq, not_true_eq_false, if_false]

theorem exec_resets_enabled (hf : s.cfg.flips[i]? = some f) (hphase : f.phase = 4) {s1 s2 s3 : State}
    (hs1 : s1 = (setStage s f 3).dropFlip f)
    (hs2 : s2 = { s1 with fab := { s1.fab with trackEdges := s1.fab.trackEdges.filter (fun x => !f.regions.contains (x.1 / 8)) } })
    (hs3 : s3 = f.regions.foldl releaseEngines s2) :
    exec (.resets i) s = .next (cfgEvent ((showReleasing s3).setFld uCfg F.cfgStatusFlipped 1)) := by
  subst hs1 hs2 hs3
  simp only [exec_resets, execResets, hf, hphase, ne_eq, not_true_eq_false, if_false]

end

/-- Settles O28: a flip goes by what bars it and by the phase it is in, COMMIT_SVN by whether the active planes share one SVN. -/
theorem flipCommandsComplete : Obligations.FlipCommandsComplete := by
  refine ⟨?flip, ?slFlip, ?commit, ?asleep, ?execute, ?initialised, ?initFailed, ?outputs, ?enables, ?resets⟩
  case flip =>
    rintro icls s haccept hbar s1 hs1
    rw [exec_flip_manager haccept, flipSet_accepted hbar hs1]
  case slFlip =>
    rintro icls src s hadmit hgrant hbar s1 hs1
    rw [exec_slFlip_granted hadmit hgrant, flipSet_accepted hbar hs1]
  case commit =>
    rintro v r s haccept hacts hsame svn hsvn
    rw [exec_commitSvn_manager haccept, commitSvn_agreed hacts hsame hsvn]
  case asleep => exact fun i s f hf hphase hasleep => exec_flipWakeTimeout_asleep hf hphase hasleep
  case execute =>
    rintro i s f hf hphase hruns hclear hcal
    refine ⟨exec_flipExecute_barred hf hphase hruns hclear hcal, ?_⟩
    rintro hbar blank hblank s1 hs1 s2 hs2 _ rfl
    exact exec_flipExecute_flips hf hphase hruns hclear hcal hbar hblank hs1 hs2
  case initialised => exact fun i e s f hf hphase hfault t hinit => exec_initComplete_initialised hf hphase hfault hinit
  case initFailed => exact fun i e s f hf hphase hfault t n hinit => exec_initComplete_failed hf hphase hfault hinit
  case outputs => exact fun i s f hf hphase hfault => exec_outputs_initialised hf hphase hfault
  case enables => exact fun i s f hf hphase => exec_enables_passing hf hphase
  case resets => exact fun i s f hf hphase s1 hs1 s2 hs2 s3 hs3 => exec_resets_enabled hf hphase hs1 hs2 hs3

end Sys2Proof.Machine

/-! SUPPORT. Verifications of the protection engines: how one ends, its late alarm, and its refetches. -/

namespace Sys2Proof.Machine

open Sys2Proof

/-! ### A verification completes (R327, R328) -/

/-- A failure of the data's tags alone is alarmed at once, a failure of a node waits for its refetch. -/
theorem verifyFail_tags (s : State) (i : Nat) {v : Verif} (hnode : v.node = none) :
    verifyFail s i v = alarmOnce (setVerif s i { v with failed := true, alarmed := true }) v 0 := by
  simp only [verifyFail, hnode, Option.isNone_none, if_true]

theorem verifyFail_node (s : State) (i : Nat) {v : Verif} (hnode : v.node ≠ none) :
    verifyFail s i v = setVerif s i { v with failed := true } := by
  simp only [verifyFail, Option.isNone_iff_eq_none, hnode, if_false]

section
variable {s : State} {i : Nat} {v : Verif} (hv : s.ipe.verif[i]? = some v)
include hv

theorem verifyDone_passed (hfailed : v.failed = false) (hbad : v.bad = []) (hnode : v.node = none) :
    verifyDone s i = if v.spec then dropVerif s v else answerHeld (dropVerif s v) v v.stat v.data 0 := by
  simp only [verifyDone, hv, hfailed, hbad, hnode, List.isEmpty_nil, Option.isNone_none, Bool.and_self, Bool.false_eq_true, if_false,
    if_true]

theorem verifyDone_failed (hfailed : v.failed = false) (hfails : v.bad ≠ [] ∨ v.node ≠ none) : verifyDone s i = verifyFail s i v := by
  have hwrong : ¬(v.bad.isEmpty && v.node.isNone) = true := by simpa [imp_iff_not_or] using hfails
  simp only [verifyDone, hv, hfailed, hwrong, Bool.false_eq_true, if_false]

/-! ### The late alarm (R328) -/

theorem verifyTimeout_late (hspec : v.spec = true) (halarm : v.alarmed = false) : verifyTimeout s i =
    lateAlarm (if v.failed then setVerif s i { v with alarmed := true } else dropVerif s v) v.req 3 := by
  simp only [verifyTimeout, hv, hspec, halarm, Bool.not_true, Bool.or_self, Bool.false_eq_true, if_false]

/-! ### A refetch returns (R330, R333, R335, R336) -/

section
variable {e : MemEnv} {r : Walk × LinesRead} (hfailed : v.failed = true) (hready : refetchWaits s v.req = false) (hr : r = refetch s v e)
include hfailed hready hr

theorem verifyRefetch_deadRoot (hdead : r.1.dead = true) : verifyRefetch s i e =
    if v.spec then alarmOnce (dropVerif r.1.st v) v 1
    else answerHeld (loggedFault (dropVerif r.1.st v) v.req 1) v .poison (poisonBody v.req) 0 := by
  simp only [verifyRefetch, hv, hfailed, hready, ← hr, hdead, Bool.not_true, Bool.or_self, Bool.false_eq_true, if_false, if_true]

theorem verifyRefetch_passed (hlive : r.1.dead = false) (hbad : r.2.bad = []) (hnode : r.1.fail = none) :
    verifyRefetch s i e = refetchPass r.2.st v r.2 e := by
  simp only [verifyRefetch, hv, hfailed, hready, ← hr, hlive, hbad, hnode, List.isEmpty_nil, Option.isNone_none, Bool.and_self,
    Bool.not_true, Bool.or_self, Bool.false_eq_true, if_false, if_true]

/-- A refetch that fails leaves one more attempt if it is the first, and is the failure of the lines or the node if it is the second. -/
theorem verifyRefetch_failed (hlive : r.1.dead = false) (hfails : r.2.bad ≠ [] ∨ r.1.fail ≠ none) : verifyRefetch s i e =
    if v.attempts = 0 then verifyFail r.2.st i { v with attempts := 1, bad := r.2.bad, node := r.1.fail }
    else refetchFail r.2.st v r.2.bad r.1.fail := by
  have hwrong : ¬(r.2.bad.isEmpty && r.1.fail.isNone) = true := by simpa [imp_iff_not_or] using hfails
  simp only [verifyRefetch, hv, hfailed, hready, ← hr, hlive, hwrong, Bool.not_true, Bool.or_self, Bool.false_eq_true, if_false]

end

end

/-- Settles O48: a verification goes by whether its tags and nodes pass, a refetch by the root, the lines and the nodes it finds, and by
the attempts made; the alarms signalled are handled last. -/
theorem verificationCommandsComplete : Obligations.VerificationCommandsComplete := by
  refine ⟨?passed, ?passedEarly, ?failed, ?late, ?again, ?deadRoot, ?firstFails, ?secondFails⟩
  case passed =>
    rintro i v s hv hfailed hbad hnode hspec
    rw [exec_verifyDone, execVerifyDone, verifyDone_passed hv hfailed hbad hnode, hspec, if_neg Bool.false_ne_true]
  case passedEarly =>
    rintro i v s hv hfailed hbad hnode hspec
    rw [exec_verifyDone, execVerifyDone, verifyDone_passed hv hfailed hbad hnode, if_pos hspec]
  case failed =>
    rintro i v s hv hfailed
    refine ⟨fun hbad hnode => ?_, fun hnode => ?_⟩
    · rw [exec_verifyDone, execVerifyDone, verifyDone_failed hv hfailed (.inl hbad), verifyFail_tags s i hnode]
    · rw [exec_verifyDone, execVerifyDone, verifyDone_failed hv hfailed (.inr hnode), verifyFail_node s i hnode]
  case late =>
    rintro i v s hv hspec halarm
    refine ⟨fun hfailed => ?_, fun hfailed => ?_⟩
    · rw [exec_vtimeAlarm, execVtimeAlarm, verifyTimeout_late hv hspec halarm, hfailed, if_neg Bool.false_ne_true]
    · rw [exec_vtimeAlarm, execVtimeAlarm, verifyTimeout_late hv hspec halarm, if_pos hfailed]
  case again =>
    rintro i e v s hv hfailed hready r hr hlive hbad hnode
    rw [exec_verifyRefetch, execVerifyRefetch, verifyRefetch_passed hv hfailed hready hr hlive hbad hnode]
  case deadRoot =>
    rintro i e v s hv hfailed hready r hr hdead _ rfl
    rw [exec_verifyRefetch, execVerifyRefetch, verifyRefetch_deadRoot hv hfailed hready hr hdead]
  case firstFails =>
    rintro i e v s hv hfailed hready r hr hlive hfails hfirst
    rw [exec_verifyRefetch, execVerifyRefetch, verifyRefetch_failed hv hfailed hready hr hlive hfails, if_pos hfirst]
  case secondFails =>
    rintro i e v s hv hfailed hready r hr hlive hfails hsecond
    rw [exec_verifyRefetch, execVerifyRefetch, verifyRefetch_failed hv hfailed hready hr hlive hfails, if_neg hsecond]

end Sys2Proof.Machine

/-! SUPPORT. The scrubber: the frame of a visit read and judged, candidates from the repair sources, and repairs. -/

namespace Sys2Proof.Machine

open Sys2Proof

/-! ### The frame of a visit (R291, R295, R302, R424) -/

/-- What a frame of a visit reads as is judged: passed, taken in hand, or not there while the table's block is still rebuilt. -/
def judgeRead (s : State) (d : Nat) (v : Visit) (n p o : Nat) (cen : Bool) : Option (State × Frame × Bool) → Out
  | none => .next s
  | some (t, _, true) => .next (passFrame t d v)
  | some (t, _, false) =>
    .next (t.setScrub d { t.scrub d with hand := some ⟨n, p, o, t.fcEntry n o, 0, none, cen, isFirst v, false⟩ })

section
variable {s : State} {d : Fin 8} {upset misread : Frame} {tableUpset lapUs : Word32} {e : MemEnv} (hhand : (s.scrub d).hand = none)
  (hclock : s.clocked 154 = true)
include hhand hclock

theorem exec_scrubFrameRead_lapEnd (hvisit : nextVisit s d = .lapEnd) :
    exec (.scrubFrameRead d upset misread tableUpset lapUs e) s = .next (endLap s d lapUs.toNat) := by
  simp only [exec_scrubFrameRead, execScrubFrameRead, hhand, hclock, hvisit, Option.isSome_none, Bool.not_true, Bool.false_eq_true,
    or_self, if_false, if_true]

/-- A visit of a lap or of a region placed first reads within the scrubbing budget, one of the census within the census budget: each of
the three is judged by the three ways its read can end. -/
theorem exec_scrubFrameRead_served {n o p ch : Nat}
    (hvisit : (∃ pos, nextVisit s d = .lap pos ∧ n = d.val * 16 + pos / 22528 ∧ o = pos % 22528 ∧ ch = 2) ∨
      (nextVisit s d = .first n o ∧ ch = 2) ∨ (∃ k, nextVisit s d = .census k ∧ n = k / 22528 ∧ o = k % 22528 ∧ ch = 1))
    (hact : s.active n = some p) (hserves : busServes s ch d = true) :
    exec (.scrubFrameRead d upset misread tableUpset lapUs e) s =
      judgeRead s d (nextVisit s d) n p o (decide (ch = 1)) (readFrame (s.charge ch d 8) n p o upset misread tableUpset e) := by
  rcases hread : readFrame (s.charge ch d 8) n p o upset misread tableUpset e with _ | ⟨t, f, _ | _⟩ <;>
  · rcases hvisit with ⟨pos, hvisit, rfl, rfl, rfl⟩ | ⟨hvisit, rfl⟩ | ⟨k, hvisit, rfl, rfl, rfl⟩ <;>
    simp only [exec_scrubFrameRead, execScrubFrameRead, judgeRead, hhand, hclock, hvisit, hact, hserves, hread, Option.isSome_none,
      Bool.not_true, Bool.false_eq_true, or_self, if_false, if_true, OfNat.ofNat_ne_one, decide_true, decide_false]

end

/-! ### Candidates (R295) -/

section
variable {s : State} {d : Fin 8} {h : Search} (hsearch : s.searching d = some h)
include hsearch

section
variable {xspi : Option (List Byte)} {e : MemEnv} (hcand : h.cand = none)
include hcand

theorem exec_candidateFetch_zero (hsource : h.source = 0) : exec (.candidateFetch d xspi e) s =
    .next (offerFrame s d h (if s.flag uScb F.scbCtrlZeroTry then some 0 else none)) := by
  simp only [exec_candidateFetch, execCandidateFetch, hsearch, hcand, hsource, Option.isSome_none, Bool.false_eq_true, if_false, if_true]

theorem exec_candidateFetch_slot {i : Nat} {t : State} {f : Option Frame} (hsource : h.source ≠ 0) (hslot : h.source ≤ 4)
    (hi : i = h.source - 1) (hsize : s.fld uScb F.scbRepairSizeUnits i ≠ 0) (hframe : slotFrame s i h.region h.ordinal e = some (t, f)) :
    exec (.candidateFetch d xspi e) s = .next (offerFrame t d h f) := by
  subst hi
  simp only [exec_candidateFetch, execCandidateFetch, hsearch, hcand, hsource, hslot, hsize, hframe, Option.isSome_none,
    Bool.false_eq_true, if_false, if_true]

theorem exec_candidateFetch_xspi (hsource : h.source ≠ 0) (hlast : 4 < h.source) : exec (.candidateFetch d xspi e) s = .next
    (offerFrame s d h (if s.flag uScb F.scbCtrlXspiTry then xspi.bind (fun bs => imageFrame bs h.region h.ordinal) else none)) := by
  simp only [exec_candidateFetch, execCandidateFetch, hsearch, hcand, hsource, Nat.not_le.2 hlast, Option.isSome_none, Bool.false_eq_true,
    if_false]

end

/-! ### Repairs (R296, R298, R300, R424) -/

section
variable {c : Frame} {ch : Nat} (hcand : h.cand = some c) (hch : ch = (if h.census then 1 else 2)) (hflipped : h.flipped = false)
  (hact : s.active h.region = some h.plane) (hserves : busServes s ch d = true)
include hcand hch hflipped hact hserves

theorem exec_repair_right (hright : c = s.frame h.plane h.region h.ordinal) {t : State}
    (ht : t = (s.charge ch d 16).countSat uScb F.scbFalseCntCount) (readBack : Bool) :
    exec (.repair d readBack) s = .next (passFrame (t.setScrub d { t.scrub d with hand := none }) d (searchVisit h)) := by
  subst ht
  simp only [exec_repair, execRepair, hsearch, hcand, ← hch, hflipped, hact, hserves, ← hright, ne_eq, not_true_eq_false, Bool.not_true,
    Bool.false_eq_true, or_self, if_false, if_true]

section
variable (hwrong : c ≠ s.frame h.plane h.region h.ordinal)
include hwrong

theorem exec_repair_corrected {s1 s2 t : State} (hs1 : s1 = (s.charge ch d 16).setFrame h.plane h.region h.ordinal c)
    (hs2 : s2 = { s1 with cns := { s1.cns with unrepaired := NSet.del s1.cns.unrepaired (h.region * 22528 + h.ordinal) } })
    (ht : t = (s2.setFld uScb F.scbStatusCorrected 1).countSat uScb F.scbCorrCntCount) :
    exec (.repair d true) s = .next (passFrame (t.setScrub d { t.scrub d with hand := none }) d (searchVisit h)) := by
  subst hs1 hs2 ht
  simp only [exec_repair, execRepair, hsearch, hcand, ← hch, hflipped, hact, hserves, hwrong, ne_eq, not_true_eq_false, Bool.not_true,
    Bool.false_eq_true, or_self, if_false]

theorem exec_repair_unrepaired : exec (.repair d false) s = .next (unrepaired (s.charge ch d 16) d h) := by
  simp only [exec_repair, execRepair, hsearch, hcand, ← hch, hflipped, hact, hserves, hwrong, ne_eq, not_true_eq_false, Bool.not_true,
    Bool.not_false, Bool.false_eq_true, or_self, if_false, if_true]

end

end

end

/-! ### The triplicated state (R299) -/

theorem exec_tmrCorrect_clocked {s : State} (hclock : s.clocked 154 = true) : exec .tmrCorrect s =
    .next (((s.setFld uScb F.scbStatusTmr 1).countSat uScb F.scbTmrCntCount).raise uScb 0x15) := by
  simp only [exec_tmrCorrect, execTmrCorrect, hclock, Bool.not_true, Bool.false_eq_true, if_false]

/-- Settles O29: a visit goes by the frame it reads, a search by the source that has its turn, and a repair by whether the frame was
wrong and whether it reads back. -/
theorem scrubCommandsComplete : Obligations.ScrubCommandsComplete := by
  refine ⟨?lapEnd, ?passes, ?fails, ?right, ?corrected, ?unrepaired, ?zero, ?slot, ?xspi, ?tmr⟩
  case lapEnd => exact fun d upset misread tableUpset lapUs e s hhand hclock hvisit => exec_scrubFrameRead_lapEnd hhand hclock hvisit
  case passes =>
    rintro d upset misread tableUpset lapUs e n o p ch s hhand hclock hvisit hact hserves t f hread
    rw [exec_scrubFrameRead_served hhand hclock hvisit hact hserves, hread, judgeRead]
  case fails =>
    rintro d upset misread tableUpset lapUs e n o p ch s hhand hclock hvisit hact hserves t f hread
    rw [exec_scrubFrameRead_served hhand hclock hvisit hact hserves, hread, judgeRead]
  case right =>
    exact fun d h c ch s hsearch hcand hch hflipped hact hserves hright t ht r =>
      exec_repair_right hsearch hcand hch hflipped hact hserves hright ht r
  case corrected =>
    exact fun d h c ch s hsearch hcand hch hflipped hact hserves hwrong s1 hs1 s2 hs2 t ht =>
      exec_repair_corrected hsearch hcand hch hflipped hact hserves hwrong hs1 hs2 ht
  case unrepaired =>
    exact fun d h c ch s hsearch hcand hch hflipped hact hserves hwrong =>
      exec_repair_unrepaired hsearch hcand hch hflipped hact hserves hwrong
  case zero => exact fun d xspi e s h hsearch hcand hsource => exec_candidateFetch_zero hsearch hcand hsource
  case slot =>
    exact fun d xspi e s h hsearch hcand hsource hslot i hi hsize t f hframe =>
      exec_candidateFetch_slot hsearch hcand hsource hslot hi hsize hframe
  case xspi => exact fun d xspi e s h hsearch hcand hsource hlast => exec_candidateFetch_xspi hsearch hcand hsource hlast
  case tmr => exact fun s hclock => exec_tmrCorrect_clocked hclock

end Sys2Proof.Machine

/-! SUPPORT. The census: the frames of a digest run, the digest shown, and the messages and the end of a round. -/

namespace Sys2Proof.Machine

open Sys2Proof

/-! ### The frames of a digest run (R297, R301, R302, R424) -/

section
variable {s : State} {r : DigestRun} (hrun : s.computing = some r)
include hrun

section
variable {d : Fin 8} {upset misread : Frame} {tableUpset : Word32} {e : MemEnv} {pos n o p : Nat} {next : DigestRun}
  (hpos : pos = SMap.get 0 r.pos d) (hmore : pos < 16 * 22528) (hn : n = d.val * 16 + pos / 22528) (ho : o = pos % 22528)
  (hfree : (n * 22528 + o) ∉ s.scb.handed) (hscope : scopeHas r.scope n = true) (hact : s.active n = some p)
  (hnext : next = { r with pos := SMap.put r.pos d (pos + 1) })
include hpos hmore hn ho hfree hscope hact hnext

theorem exec_digestFrameRead_dynamic (hdynamic : dynamicFrame n o = true) :
    exec (.digestFrameRead d upset misread tableUpset e) s = .next (s.setRun next) := by
  subst hpos hn ho hnext
  simp only [exec_digestFrameRead, execDigestFrameRead, hrun, Nat.not_le.2 hmore, List.contains_iff_mem, hfree, hscope, hact, hdynamic,
    or_self, if_false, if_true]

section
variable (hstatic : dynamicFrame n o = false) (hstage : 3 ≤ s.stage n) (hserves : busServes s 1 d = true) {t : State} {f : Frame}
include hstatic hstage hserves

theorem exec_digestFrameRead_passes
    (hread : readFrame (s.charge 1 d 8) n p o upset misread tableUpset e = some (t, f, true)) :
    exec (.digestFrameRead d upset misread tableUpset e) s =
      .next (t.setRun { next with seen := SMap.store 0 r.seen (n * 22528 + o) f }) := by
  subst hpos hn ho hnext
  simp only [exec_digestFrameRead, execDigestFrameRead, hrun, Nat.not_le.2 hmore, List.contains_iff_mem, hfree, hscope, hact, hstatic,
    Nat.not_lt.2 hstage, hserves, hread, Bool.not_true, Bool.false_eq_true, or_self, if_false, if_true]

theorem exec_digestFrameRead_fails
    (hread : readFrame (s.charge 1 d 8) n p o upset misread tableUpset e = some (t, f, false))
    (hnew : (n * 22528 + o) ∉ s.cns.unrepaired) : exec (.digestFrameRead d upset misread tableUpset e) s =
      .next { t with scb := { t.scb with handed := NSet.add t.scb.handed (n * 22528 + o) } } := by
  subst hpos hn ho hnext
  simp only [exec_digestFrameRead, execDigestFrameRead, hrun, Nat.not_le.2 hmore, List.contains_iff_mem, hfree, hscope, hact, hstatic,
    Nat.not_lt.2 hstage, hserves, hread, hnew, Bool.not_true, Bool.false_eq_true, or_self, if_false, if_true]

end

end

/-! ### The digest shown (R301, R302, R304, R305) -/

theorem exec_digestDone_shown (hall : (List.range 8).all (fun d => decide (16 * 22528 ≤ SMap.get 0 r.pos d)) = true) {v : Nat}
    {s1 s2 s3 : State} (hv : v = leBytes (deviceDigest s r))
    (hs1 : s1 = (List.range 12).foldl (fun (t : State) k => t.setFld uCns F.cnsDigestDigest (v / 2 ^ (32 * k)) k) s)
    (hs2 : s2 = (s1.setFld uCns F.cnsStatusInvalid (boolNat (!r.bad.isEmpty))).setFld uCns F.cnsStatusCurrent (boolNat r.bad.isEmpty))
    (hs3 : s3 = showCns { s2 with cns := { s2.cns with run := none } }) : exec .digestDone s =
      .next (if s3.cns.starting ∧ takesPart s3 ∧ s3.flag uCns F.cnsCtrlRoot then adopt s3 s3.digest
        else compareOwn { s3 with cns := { s3.cns with starting := false } }) := by
  simp only [exec_digestDone, execDigestDone, hrun, hall, ← hv, ← hs1, ← hs2, ← hs3, Bool.not_true, Bool.false_eq_true, if_false,
    apply_ite Host.Outcome.next]

end

/-! ### Rounds (R303-R307) -/

theorem exec_roundPeriod_set {s : State} (hperiod : s.fld uCns F.cnsCtrlPeriod ≠ 0) (hclock : s.clocked 154 = true) :
    exec .roundPeriod s = .next (startRound s) := by
  simp only [exec_roundPeriod, execRoundPeriod, hperiod, hclock, Bool.not_true, Bool.false_eq_true, or_self, if_false]

section
variable {s : State} {p : Packet} (hmsg : forCensus s p = true) (hpart : takesPart s = true)
include hmsg hpart

theorem exec_ref_newRound (htype : ctype p = 1) (hroot : s.flag uCns F.cnsCtrlRoot = false)
    (hround : cmsgRound p ≠ s.fld uCns F.cnsRoundRound) {s1 : State} (hs1 : s1 = (s.takeReq p).setFld uCns F.cnsRoundRound (cmsgRound p)) :
    exec (.ref p) s = .next (adopt s1 (BitVec.ofNat 384 ((p.body.getD 0 0).toNat))) := by
  subst hs1
  simp only [exec_ref, execRef, hmsg, hpart, htype, hroot, hround, OfNat.one_ne_ofNat, ne_eq, not_true_eq_false,
    Bool.not_true, Bool.false_eq_true, or_self, if_false]

section
variable (hround : cmsgRound p = s.fld uCns F.cnsRoundRound)
include hround

theorem exec_summary_first {r : Round} (htype : ctype p = 2) (hr : s.cns.round = some r) (hnew : (cmsgPort p) ∉ r.got)
    (hopen : r.done = false) : exec (.summary p) s = .next (tryFinish ((s.takeReq p).setRound { r with
        got := NSet.add r.got (cmsgPort p)
        count := r.count + p.aux.toNat
        dissents := r.dissents + p.hdata.toNat % 2 ^ 32 })) := by
  simp only [exec_summary, execSummary, hmsg, hpart, hround, htype, hr, List.contains_iff_mem, hnew, hopen, ne_eq, not_true_eq_false,
    Bool.not_true, Bool.false_eq_true, or_self, if_false]

section
variable (htype : ctype p = 3) {s1 : State} {subject : Nat} (hs1 : s1 = s.takeReq p) (hsubject : subject = p.ext.toNat % 65536)
include htype hs1 hsubject

theorem exec_dissent_root {r : Round} (hr : s.cns.round = some r) (hroot : s.flag uCns F.cnsCtrlRoot = true) :
    exec (.dissent p) s = .next (if r.done then s1 else s1.setRound (r.note subject)) := by
  have hr1 : (s.takeReq p).cns.round = some r := hr
  subst hs1 hsubject
  simp only [exec_dissent, execDissent, hmsg, hpart, hround, htype, hr, hr1, hroot, Option.isNone_some, ne_eq, not_true_eq_false,
    Bool.not_true, Bool.false_eq_true, or_self, if_false, if_true]

theorem exec_dissent_passedOn (hr : s.cns.round ≠ none) (hroot : s.flag uCns F.cnsCtrlRoot = false) : exec (.dissent p) s =
    .next ((rolePorts s 1).foldl
      (fun (t : State) q => sendCmsg t q 3 subject 0 0 (BitVec.ofNat 384 (p.body.getD 0 0).toNat)) s1) := by
  subst hs1 hsubject
  simp only [exec_dissent, execDissent, hmsg, hpart, hround, htype, Option.isNone_iff_eq_none, hr, hroot, ne_eq, not_true_eq_false,
    Bool.not_true, Bool.false_eq_true, or_self, if_false]

end

end

end

theorem exec_censusWaitExpire_open {s s1 : State} {r r1 : Round} (hr : s.cns.round = some r) (hopen : r.done = false)
    (hpart : takesPart s = true) (hclock : s.clocked 154 = true) (hs1 : s1 = (if r.compared then s else dissent s r))
    (hr1 : s1.cns.round = some r1) : exec .censusWaitExpire s = .next (finishRound s1 r1) := by
  simp only [exec_censusWaitExpire, execCensusWaitExpire, hr, hopen, hpart, hclock, ← hs1, hr1, Bool.not_true, Bool.false_eq_true,
    or_self, if_false]

/-- Settles O30: a digest run goes by the frame it reads, its end by whether a root's round waits for the digest, and a message of a round
by the round it names and by whether the device is the root. -/
theorem censusCommandsComplete : Obligations.CensusCommandsComplete := by
  refine ⟨?dynamic, ?passes, ?fails, fun s => exec_digestNow s, fun s => exec_censusStart s, ?period, ?reference, ?compared, ?ref,
    ?summary, ?noted, ?passedOn, ?expired⟩
  case dynamic =>
    exact fun d upset misread tableUpset e r pos n o p s hrun hpos hmore hn ho hfree hscope hact next hnext hdynamic =>
      exec_digestFrameRead_dynamic hrun hpos hmore hn ho hfree hscope hact hnext hdynamic
  case passes =>
    exact fun d upset misread tableUpset e r pos n o p s hrun hpos hmore hn ho hfree hscope hact next hnext hstatic hstage hserves t f
      hread => exec_digestFrameRead_passes hrun hpos hmore hn ho hfree hscope hact hnext hstatic hstage hserves hread
  case fails =>
    exact fun d upset misread tableUpset e r pos n o p s hrun hpos hmore hn ho hfree hscope hact next hnext hstatic hstage hserves t f
      hread hnew => exec_digestFrameRead_fails hrun hpos hmore hn ho hfree hscope hact hnext hstatic hstage hserves hread hnew
  case period => exact fun s hperiod hclock => exec_roundPeriod_set hperiod hclock
  case reference =>
    rintro s r hrun hall v hv s1 hs1 s2 hs2 s3 hs3 hstarting hpart hroot
    rw [exec_digestDone_shown hrun hall hv hs1 hs2 hs3, if_pos ⟨hstarting, hpart, hroot⟩]
  case compared =>
    rintro s r hrun hall v hv s1 hs1 s2 hs2 s3 hs3 hnot
    have hnot : ¬(s3.cns.starting = true ∧ takesPart s3 = true ∧ s3.flag uCns F.cnsCtrlRoot = true) := by
      simpa only [not_and_or, Bool.not_eq_true] using hnot
    rw [exec_digestDone_shown hrun hall hv hs1 hs2 hs3, if_neg hnot]
  case ref =>
    exact fun p s hmsg _ _ htype hpart hroot hround s1 hs1 => exec_ref_newRound hmsg hpart htype hroot hround hs1
  case summary =>
    exact fun p s hmsg htype r hr hpart hround hnew hopen => exec_summary_first hmsg hpart hround htype hr hnew hopen
  case noted =>
    exact fun p s hmsg htype hpart hround r hr s1 hs1 subject hsubject hroot =>
      exec_dissent_root hmsg hpart hround htype hs1 hsubject hr hroot
  case passedOn =>
    exact fun p s hmsg htype hpart hr hround s1 hs1 subject hsubject hroot =>
      exec_dissent_passedOn hmsg hpart hround htype hs1 hsubject hr hroot
  case expired =>
    exact fun s r hr hopen hpart hclock s1 hs1 r1 hr1 => exec_censusWaitExpire_open hr hopen hpart hclock hs1 hr1

end Sys2Proof.Machine

/-! SUPPORT. The protection engines' commands on keys, and what a DRAM channel issues next. -/

namespace Sys2Proof.Machine

open Sys2Proof

/-! ### A command of IPE_KID_CMD that is accepted (R338, R339, R340, R341) -/

section
variable {kid : BitVec 8} {s t : State} (h0 : kid.toNat ≠ 0) (h255 : kid.toNat ≠ 255) (hidle : s.flag uIpe0 F.ipeCmdStatBusy = false)
  (ht : t = s.setFld uIpe0 F.ipeCmdStatKid kid.toNat)
include h0 h255 hidle ht

/-- None of the refusals that come first applies: the command is performed on the state that names its KID, and IPE_WRAP is cleared. -/
theorem kidCommand_accepted {fits : Bool} (hfits : fits = true) (f : State → State) :
    kidCommand s kid.toNat fits f = clearWrap (f t) := by
  simp only [kidCommand, h0, h255, hidle, hfits, ← ht, or_self, Bool.not_true, Bool.false_eq_true, if_false]

section
variable (hfree : s.kidState kid.toNat = kidFree)
include hfree

theorem exec_kidLoad_unwrapped (e : Fin 8) {key : Nat} (hkey : Crypto.keyUnwrap s.kek s.wrapped = some key) :
    exec (.kidLoad e kid) s = .next (clearWrap (installKey t kid.toNat (BitVec.ofNat 256 key))) := by
  rw [exec_kidLoad, execKidLoad, kidLoad, kidCommand_accepted h0 h255 hidle ht (beq_iff_eq.2 hfree), hkey]

theorem exec_kidLoad_wrongKey (e : Fin 8) (hkey : Crypto.keyUnwrap s.kek s.wrapped = none) :
    exec (.kidLoad e kid) s = .next (clearWrap ((refuseCmd t kid.toNat 5).raise (uIpe e) 0x14 kid.toNat)) := by
  rw [exec_kidLoad, execKidLoad, kidLoad, kidCommand_accepted h0 h255 hidle ht (beq_iff_eq.2 hfree), hkey]

theorem exec_generate_free : exec (.generate kid) s =
    .next (clearWrap (installKey { t with free := t.free + 8 } kid.toNat ((t.freshLine).truncate 256))) := by
  rw [exec_generate, execGenerate, kidGenerate, kidCommand_accepted h0 h255 hidle ht (beq_iff_eq.2 hfree)]

end

section
variable (hkeyed : s.kidState kid.toNat = kidKeyed) (hrange : rangeRefusal t kid.toNat = none)
include hkeyed hrange

theorem exec_kidInit_keyed {t1 t2 : State}
    (ht1 : t1 = showMeta (((t.bindKid kid.toNat).setKid kid.toNat kidInitialising).setFld uIpe0 F.ipeCmdStatBusy 1))
    (ht2 : t2 = (if kidClass kid.toNat = .full then dropMeta t1 kid.toNat else scrambleRange t1 kid.toNat)) :
    exec (.kidInit kid) s = .next (clearWrap (initAdvance { t2 with ipe := { t2.ipe with
      initLeft := (List.range 8).map (fun e => (e, initLines kid.toNat (t.kidSize kid.toNat))) } })) := by
  rw [exec_kidInit, execKidInit, kidInit, kidCommand_accepted h0 h255 hidle ht (beq_iff_eq.2 hkeyed), hrange]
  subst ht1 ht2
  rfl

theorem exec_kidEnable_light (hlight : kidClass kid.toNat = .light) :
    exec (.kidEnable kid) s = .next (clearWrap ((t.bindKid kid.toNat).setKid kid.toNat kidLive)) := by
  have hfits : (s.kidState kid.toNat == kidKeyed && kidClass kid.toNat == .light) = true := by rw [hkeyed, hlight]; rfl
  rw [exec_kidEnable, execKidEnable, kidEnable, kidCommand_accepted h0 h255 hidle ht hfits, hrange]

end

theorem exec_retire_installed
    (hstate : s.kidState kid.toNat = kidKeyed ∨ s.kidState kid.toNat = kidLive ∨ s.kidState kid.toNat = kidFaulted) {t1 : State}
    (ht1 : t1 = (t.setKid kid.toNat kidRetiring).setFld uIpe0 F.ipeCmdStatBusy 1) :
    exec (.retire kid) s = .next (clearWrap { t1 with ipe := { t1.ipe with retiring := some kid.toNat } }) := by
  have hfits : (s.kidState kid.toNat == kidKeyed || s.kidState kid.toNat == kidLive || s.kidState kid.toNat == kidFaulted) = true := by
    simpa only [Bool.or_eq_true, beq_iff_eq, or_assoc] using hstate
  rw [exec_retire, execRetire, kidRetire, kidCommand_accepted h0 h255 hidle ht hfits, ht1]

end

/-! ### The end of an initialising and of a retiring (R331, R339, R340) -/

section
variable {kid : BitVec 8} {s : State}

theorem exec_kidInitDone_allWritten (hinit : s.kidState kid.toNat = kidInitialising) (hleft : s.ipe.initLeft = []) :
    exec (.kidInitDone kid) s = .next ((s.setKid kid.toNat kidLive).setFld uIpe0 F.ipeCmdStatBusy 0) := by
  rw [exec_kidInitDone, execKidInitDone, if_pos ⟨hinit, hleft⟩]

theorem exec_retireDone_idle {k : Nat} (hk : k = kid.toNat) (hretiring : s.ipe.retiring = some k) (hidle : s.kidBusy k = false)
    {s1 s2 : State} (hs1 : s1 = releaseQuar (if s.kidBound k then (dropMeta s k).unbindKid k else s) k)
    (hs2 : s2 = { s1 with ipe := { s1.ipe with key := SMap.erase s1.ipe.key k, retiring := none } }) :
    exec (.retireDone kid) s = .next (showMeta ((s2.setKid k kidFree).setFld uIpe0 F.ipeCmdStatBusy 0)) := by
  subst hk hs1 hs2
  simp only [exec_retireDone, execRetireDone, hretiring, hidle, ne_eq, not_true_eq_false, Bool.false_eq_true, or_self, if_false]

end

/-! ### The command issued next (R356, R357, R359, R360, R361, R425) -/

section
variable {c : Fin 8} {met old gap : List Nat} {ref : List (Fin 4)} {s : State}

/-- An RFM that a device asks for is noted before the rest of the command. -/
theorem exec_dramCommandIssue_asked (b : BitVec 12) (rank : Bool) : exec (.dramCommandIssue c met old gap (some (b, rank)) ref) s =
    exec (.dramCommandIssue c met old gap none ref) (s.setChan c { s.chan c with
      rfm := NSet.add (s.chan c).rfm (if rank then 4096 + b.toNat / 1024 else b.toNat) }) := by
  simp only [exec_dramCommandIssue, execDramCommandIssue]

/-! #### The write chosen in drain mode -/

section
variable (hdrain : (s.chan c).drain = true)
include hdrain

theorem issueNext_write {i : Nat} {w : QWrite}
    (hpick : pick s c ((s.chan c).wq.map (fun w => s.candidate w.line w.pri w.src)) met old gap = some i)
    (hw : (s.chan c).wq[i]? = some w) : issueNext s c met old gap = issueWrite s c w := by
  simp only [issueNext, hdrain, hpick, hw, Option.bind_some, if_true]

theorem issueNext_noWrite (hpick : pick s c ((s.chan c).wq.map (fun w => s.candidate w.line w.pri w.src)) met old gap = none) :
    issueNext s c met old gap = initLinesTo s c (s.capOf 7) := by
  simp only [issueNext, hdrain, hpick, Option.bind_none, if_true]

end

/-! #### The read chosen in read mode -/

section
variable {rq : List (Job × Nat)} (hdrain : (s.chan c).drain = false) (hrq : rq = (s.readQueue c).take 64)
include hdrain hrq

theorem issueNext_read {i : Nat} {x : Job × Nat}
    (hpick : pick s c (rq.map (fun x => s.candidate x.2 x.1.req.pri.toNat x.1.req.src.toNat)) met old gap = some i)
    (hx : rq[i]? = some x) : issueNext s c met old gap = issueRead s c x.2 x.1.req.src.toNat := by
  simp only [issueNext, hdrain, ← hrq, hpick, hx, Option.bind_some, Bool.false_eq_true, if_false]

theorem issueNext_noRead
    (hpick : pick s c (rq.map (fun x => s.candidate x.2 x.1.req.pri.toNat x.1.req.src.toNat)) met old gap = none) :
    issueNext s c met old gap = initLinesTo s c (s.capOf 7) := by
  simp only [issueNext, hdrain, ← hrq, hpick, Option.bind_none, Bool.false_eq_true, if_false]

end

/-! #### Refreshes, RFMs and replays go before it -/

section
variable (hactive : s.ddrStateOf c = ddrActive) (hawake : s.chanAwake c = true) (halert : (s.chan c).alert = false)
include hactive hawake halert

theorem exec_dramCommandIssue_refresh {r : Nat × Nat} (hdue : dueRefresh s c ref = some r) :
    exec (.dramCommandIssue c met old gap none ref) s = .next (if (s.chan c).replaying then s else refreshRank s c r.1 r.2) := by
  simp only [exec_dramCommandIssue, execDramCommandIssue, hactive, hawake, halert, hdue, ne_eq, not_true_eq_false, Bool.not_true,
    Bool.false_eq_true, or_self, if_false]

section
variable (hdue : dueRefresh s c ref = none)
include hdue

theorem exec_dramCommandIssue_rfm {b : Nat} {l : List Nat} (hrfm : (s.chan c).rfm = b :: l) :
    exec (.dramCommandIssue c met old gap none ref) s = .next (issueRfm s c b) := by
  simp only [exec_dramCommandIssue, execDramCommandIssue, hactive, hawake, halert, hdue, hrfm, ne_eq, not_true_eq_false, Bool.not_true,
    Bool.false_eq_true, or_self, if_false]

theorem exec_dramCommandIssue_replay {k : DramCmd} {rest : List DramCmd} (hrfm : (s.chan c).rfm = [])
    (hreplay : (s.chan c).replay = k :: rest) : exec (.dramCommandIssue c met old gap none ref) s = .next (reissue s c k rest) := by
  simp only [exec_dramCommandIssue, execDramCommandIssue, hactive, hawake, halert, hdue, hrfm, hreplay, ne_eq, not_true_eq_false,
    Bool.not_true, Bool.false_eq_true, or_self, if_false]

theorem exec_dramCommandIssue_next (hrfm : (s.chan c).rfm = []) (hreplay : (s.chan c).replay = []) :
    exec (.dramCommandIssue c met old gap none ref) s = .next (issueNext s c met old gap) := by
  simp only [exec_dramCommandIssue, execDramCommandIssue, hactive, hawake, halert, hdue, hrfm, hreplay, ne_eq, not_true_eq_false,
    Bool.not_true, Bool.false_eq_true, or_self, if_false]

end

end

end

/-- Settles O26: a command on a key that no refusal bars is performed on the state that names its KID, and a channel issues the first that
is due of a refresh, an RFM, a replayed command and the write or read chosen. -/
theorem integrityEngineCommandsComplete : Obligations.IntegrityEngineCommandsComplete := by
  refine ⟨?alarmPop, ?load, ?generate, ?init, ?initDone, ?enable, ?retire, ?retireDone, ?refresh, ?due, ?write, ?read, ?asked⟩
  case alarmPop => exact fun e s => by rw [exec_alarmPop, execAlarmPop, popAlarm]
  case load =>
    rintro e kid s h0 h255 hidle hfree t ht
    cases hkey : Crypto.keyUnwrap s.kek s.wrapped with
    | some key => exact exec_kidLoad_unwrapped h0 h255 hidle ht hfree e hkey
    | none => exact exec_kidLoad_wrongKey h0 h255 hidle ht hfree e hkey
  case generate => exact fun kid s h0 h255 hidle hfree t ht => exec_generate_free h0 h255 hidle ht hfree
  case init =>
    exact fun kid s h0 h255 hidle hkeyed t ht hrange t1 ht1 t2 ht2 => exec_kidInit_keyed h0 h255 hidle ht hkeyed hrange ht1 ht2
  case initDone => exact fun kid s hinit hleft => exec_kidInitDone_allWritten hinit hleft
  case enable =>
    exact fun kid s h0 h255 hidle hkeyed hlight t ht hrange => exec_kidEnable_light h0 h255 hidle ht hkeyed hrange hlight
  case retire => exact fun kid s h0 h255 hidle hstate t ht t1 ht1 => exec_retire_installed h0 h255 hidle ht hstate ht1
  case retireDone =>
    exact fun kid s k hk hretiring hidle s1 hs1 s2 hs2 => exec_retireDone_idle hk hretiring hidle hs1 hs2
  case refresh =>
    exact fun c met old gap ref r s hactive hawake halert hdue => exec_dramCommandIssue_refresh hactive hawake halert hdue
  case due =>
    rintro c met old gap ref s hactive hawake halert hdue
    exact ⟨fun b l hrfm => exec_dramCommandIssue_rfm hactive hawake halert hdue hrfm,
      fun k rest hrfm hreplay => exec_dramCommandIssue_replay hactive hawake halert hdue hrfm hreplay⟩
  case write =>
    rintro c met old gap ref s hactive hawake halert hdue hrfm hreplay hdrain
    rw [exec_dramCommandIssue_next hactive hawake halert hdue hrfm hreplay]
    exact ⟨fun i w hpick hw => congrArg Host.Outcome.next (issueNext_write hdrain hpick hw),
      fun hpick => congrArg Host.Outcome.next (issueNext_noWrite hdrain hpick)⟩
  case read =>
    rintro c met old gap ref rq s hactive hawake halert hdue hrfm hreplay hdrain hrq
    rw [exec_dramCommandIssue_next hactive hawake halert hdue hrfm hreplay]
    exact ⟨fun i x hpick hx => congrArg Host.Outcome.next (issueNext_read hdrain hrq hpick hx),
      fun hpick => congrArg Host.Outcome.next (issueNext_noRead hdrain hrq hpick)⟩
  case asked => exact fun c met old gap b rank ref s => exec_dramCommandIssue_asked b rank

end Sys2Proof.Machine

/-! SUPPORT. The serial lanes: what a lane sends, a receiver in step with it recovers. -/

namespace Sys2Proof.Machine

open Sys2Proof

/-! ### A lane's line code both ways (R371, R372, R373) -/

/-- The scrambled bits of whole bytes, made into symbols and back (R372). -/
theorem symBits_toSymbols_scramble (p : Bool) (S : Nat) (bs : List Byte) :
    (toSymbols p (scramble S (bytesToBits bs)).1).flatMap (symBits p) = (scramble S (bytesToBits bs)).1 :=
  symBits_toSymbols p (4 * bs.length) _ (by rw [scramble_length, bytesToBits_length]; omega)

theorem laneX_countSat (s : State) (u : Nat) (f : Fld) (n i j k l : Nat) : (s.countSat u f n i j).laneX k l = s.laneX k l := rfl

/-- A lane that has sent bytes: its scrambler and its run have moved on, and its symbols are the stuffed ones (R371-R373). -/
theorem laneX_sendBytes {s : State} {k j : Nat} {bs : List Byte} {x : LaneX} (hx : x = s.laneX k j) :
    (sendBytes s k j bs).laneX k j =
      { x with
        txS := (scramble x.txS (bytesToBits bs)).2
        txSym := (stuff x.pam4 x.txSym x.txLen (toSymbols x.pam4 (scramble x.txS (bytesToBits bs)).1)).2.1
        txLen := (stuff x.pam4 x.txSym x.txLen (toSymbols x.pam4 (scramble x.txS (bytesToBits bs)).1)).2.2
        sentSyms := (stuff x.pam4 x.txSym x.txLen (toSymbols x.pam4 (scramble x.txS (bytesToBits bs)).1)).1 } := by
  subst hx
  rw [sendBytes, laneX_setLaneX]

/-- A receiver with no bits left over, whose symbols are those of the scrambled bits of `bs`: it has the bytes, and its lane is in the
transmitter's state (R371-R373). -/
theorem receiveSymbols_of_unstuff {r : State} {k j sym len S : Nat} {ys : List (BitVec 2)} {bs : List Byte} {y : LaneX}
    (hy : y = r.laneX k j) (hrest : y.rest = []) (hboundary : y.boundary = 0)
    (hys : unstuff y.pam4 y.runSym y.runLen ys = ((scramble y.rxS (bytesToBits bs)).1, [], sym, len))
    (hS : (scramble y.rxS (bytesToBits bs)).2 = S) :
    receiveSymbols r k j bs.length ys = (bs, (r.setLaneX k j { y with
      rxS := S, runSym := sym, runLen := len, rest := [], boundary := 0,
      stuffAge := stuffAges [] y.stuffAge ys.length }).countSat (uLane k) F.laneStuffCntCount 0 j) := by
  have hbits : (bytesToBits bs).drop (8 * bs.length) = [] := List.drop_of_length_le (bytesToBits_length bs).le
  subst hy hS
  simp only [receiveSymbols, hys, scramble_scramble, hrest, hboundary, List.nil_append, List.drop_zero, Nat.zero_add, hbits,
    bitsToBytes_bytesToBits, List.length_nil]

/-- Settles O23: the receiver deletes what was stuffed, reads the scrambled bits from the symbols, and the scrambler is its own inverse. -/
theorem receiverRecoversBytes : Obligations.ReceiverRecoversBytes := by
  rintro s r k j k' j' bs x hx y hy hpam hscr hsym hlen h63 hrest hboundary a ha b hb z hz
  obtain ⟨hunstuff, hrun⟩ := unstuff_stuff x.pam4 (toSymbols x.pam4 (scramble x.txS (bytesToBits bs)).1) x.txSym x.txLen h63
  rw [laneX_sendBytes hx] at ha
  rw [symBits_toSymbols_scramble] at hunstuff
  have hreceive := receiveSymbols_of_unstuff (bs := bs) (ys := a.sentSyms) (sym := a.txSym) (len := a.txLen) (S := a.txS) hy hrest
    hboundary (by rw [hpam, hsym, hlen, hscr, ha, hunstuff]) (by rw [hscr, ha])
  have hlane : z = { y with
      rxS := a.txS, runSym := a.txSym, runLen := a.txLen, rest := [], boundary := 0,
      stuffAge := stuffAges [] y.stuffAge a.sentSyms.length } := by
    rw [hz, hb, hreceive, laneX_countSat, laneX_setLaneX]
  refine ⟨?bytes, ?run, hlane, ?rest⟩
  case bytes => rw [hb, hreceive]
  case run => rw [ha]; exact hrun
  case rest => rw [hlane, hb, hreceive]

end Sys2Proof.Machine

/-! SUPPORT. The budgets: what each meter admits, and the debt that a run of frets carries. -/

namespace Sys2Proof.Machine

open Sys2Proof

/-! ### Meters (R424) -/

section
variable {s : State} {c i : Nat}

theorem State.meter_setMeter_self (m : BudInst) : (s.setMeter c i m).meter c i = m := SMap.get_store_self _ _ _ _

theorem State.meter_setMeter_ne (m : BudInst) {c' i' : Nat} (h : budKey c' i' ≠ budKey c i) :
    (s.setMeter c i m).meter c' i' = s.meter c' i' := SMap.get_store_ne _ _ _ h

theorem State.capOf_setMeter (m : BudInst) (c' : Nat) : (s.setMeter c i m).capOf c' = s.capOf c' := rfl

theorem State.admits_iff : s.admits c i = true ↔ (s.meter c i).u < s.capOf c := decide_eq_true_iff

theorem State.meter_charge_self (cost : Nat) :
    (s.charge c i cost).meter c i = { s.meter c i with u := (s.meter c i).u + cost, admitted := true } := State.meter_setMeter_self _

theorem State.meter_hold_self : (s.hold c i).meter c i =
    { s.meter c i with waiting := true, held := (s.meter c i).held || !s.admits c i } := State.meter_setMeter_self _

theorem State.budgeted_held (h : s.admits c i = false) (cost : Nat) (f : State → State) : s.budgeted c i cost f = s.hold c i :=
  if_neg (by simp [h])

/-- STARVED of the status register aside, a boundary replaces the meter alone. -/
theorem meterBoundary_bud : (meterBoundary s c i).bud = (s.setMeter c i ((s.meter c i).boundary (s.capOf c))).bud := by
  unfold meterBoundary
  dsimp only
  split <;> rfl

theorem meter_meterBoundary_self : (meterBoundary s c i).meter c i = (s.meter c i).boundary (s.capOf c) := by
  rw [State.meter, meterBoundary_bud]
  exact State.meter_setMeter_self _

theorem meter_meterBoundary_ne {c' i' : Nat} (h : budKey c' i' ≠ budKey c i) :
    (meterBoundary s c i).meter c' i' = s.meter c' i' := by
  rw [State.meter, meterBoundary_bud]
  exact State.meter_setMeter_ne _ h

theorem capOf_meterBoundary (c' : Nat) : (meterBoundary s c i).capOf c' = s.capOf c' := by
  rw [State.capOf, meterBoundary_bud]
  rfl

/-! ### The items of a fret -/

/-- What an item that asks for its budget leaves: CAP and the debt as they were, and U past CAP by less than the item, if U moved. -/
theorem State.budgeted_meter {item cost : Nat} (hcost : cost ≤ item) : ∀ t, t = s.budgeted c i cost id →
    t.capOf c = s.capOf c ∧ (t.meter c i).debt = (s.meter c i).debt ∧ (s.meter c i).u ≤ (t.meter c i).u ∧
      (t.meter c i).u ≤ max (s.meter c i).u (s.capOf c + item) := by
  rintro t rfl
  cases ha : s.admits c i with
  | true =>
    have hcap := State.admits_iff.1 ha
    rw [State.budgeted_admitted ha, id_eq, State.meter_charge_self]
    exact ⟨rfl, rfl, by dsimp only; omega, by dsimp only; omega⟩
  | false =>
    rw [State.budgeted_held ha, State.meter_hold_self]
    exact ⟨rfl, rfl, le_rfl, le_max_left _ _⟩

end

/-- What the items of a fret leave: U does not fall, and is past CAP by no more than one item, unless the debt was. -/
theorem foldl_budgeted_meter {c i item : Nat} (items : List Nat) : ∀ s : State, (∀ x ∈ items, x ≤ item) →
    ∀ t, t = items.foldl (fun t cost => t.budgeted c i cost id) s →
    t.capOf c = s.capOf c ∧ (t.meter c i).debt = (s.meter c i).debt ∧ (s.meter c i).u ≤ (t.meter c i).u ∧
      (t.meter c i).u ≤ max (s.meter c i).u (s.capOf c + item) := by
  induction items with
  | nil =>
    rintro s - t rfl
    exact ⟨rfl, rfl, le_rfl, le_max_left _ _⟩
  | cons cost items ih =>
    rintro s hitems t rfl
    rw [List.forall_mem_cons] at hitems
    obtain ⟨hcap, hdebt, hlo, hhi⟩ := State.budgeted_meter (s := s) (c := c) (i := i) hitems.1 _ rfl
    obtain ⟨hcap', hdebt', hlo', hhi'⟩ := ih (s.budgeted c i cost id) hitems.2 _ rfl
    rw [hcap] at hcap' hhi'
    exact ⟨hcap', hdebt'.trans hdebt, hlo.trans hlo', hhi'.trans (by omega)⟩

/-! ### A run of frets -/

/-- The work charged and the debt at the start are at most CAP for each fret and one item: a fret charges what it adds to U, and the
boundary takes CAP off (R424). -/
theorem budRun_work_add_debt {c i item : Nat} (frets : List (List Nat)) : ∀ s : State, (s.meter c i).u = (s.meter c i).debt →
    (s.meter c i).u ≤ item → (∀ f ∈ frets, ∀ x ∈ f, x ≤ item) →
    (budRun c i frets s).2 + (s.meter c i).debt ≤ frets.length * s.capOf c + item := by
  induction frets with
  | nil =>
    rintro s hdebt hitem -
    simp only [budRun, List.length_nil]
    omega
  | cons f frets ih =>
    intro s hdebt hitem hfrets
    rw [List.forall_mem_cons] at hfrets
    obtain ⟨hcap, hkept, hlo, hhi⟩ := foldl_budgeted_meter f s hfrets.1 _ rfl
    have hmeter : (budFret c i f s).meter c i = _ := meter_meterBoundary_self
    have hcap' : (budFret c i f s).capOf c = s.capOf c := (capOf_meterBoundary c).trans hcap
    have hrun := ih (budFret c i f s) (by rw [hmeter]; rfl) (by rw [hmeter]; simp only [BudInst.boundary]; omega) hfrets.2
    rw [hcap', hmeter] at hrun
    simp only [budRun, hmeter, BudInst.boundary, List.length_cons, Nat.succ_mul] at hrun ⊢
    omega

/-- Settles O55: a meter goes by whether its U is below CAP, and the bound over a run of frets is that of the work and the debt together. -/
theorem budgetsAdmitAndCarryDebt : Obligations.BudgetsAdmitAndCarryDebt := by
  refine ⟨fun s c i => State.admits_iff, ?admitted, ?held, ?boundary, ?run⟩
  case admitted =>
    intro s c i cost ha
    have hcap := State.admits_iff.1 ha
    rw [State.meter_charge_self]
    exact ⟨rfl, by dsimp only; omega, rfl, fun _ _ h => State.meter_setMeter_ne _ h⟩
  case held =>
    intro s c i cost ha
    rw [State.meter_hold_self]
    exact ⟨State.budgeted_held ha cost id, rfl⟩
  case boundary =>
    intro s c i
    rw [meter_meterBoundary_self]
    exact ⟨rfl, fun _ _ h => meter_meterBoundary_ne h⟩
  case run =>
    intro s c i item frets hdebt hitem hfrets
    have hrun := budRun_work_add_debt frets s hdebt hitem hfrets
    omega

end Sys2Proof.Machine

/-! SUPPORT. The event distributor. -/

namespace Sys2Proof.Machine

open Sys2Proof

/-! ### The source a claim returns (R510, R511) -/

/-- A source comes no later than another in the order of claims: a higher PRIO, or the same and no higher number. -/
def claimsBefore (s : State) (a b : Nat) : Prop :=
  s.fld uEvt F.evtPrioPrio b < s.fld uEvt F.evtPrioPrio a ∨ (s.fld uEvt F.evtPrioPrio b = s.fld uEvt F.evtPrioPrio a ∧ a ≤ b)

section
variable {s : State}

theorem claimsBefore_refl (a : Nat) : claimsBefore s a a := .inr ⟨rfl, le_rfl⟩

theorem claimsBefore.trans {a b c : Nat} (hab : claimsBefore s a b) (hbc : claimsBefore s b c) : claimsBefore s a c := by
  unfold claimsBefore at *
  omega

/-- The better of two sources is one of them and comes before both. -/
theorem betterSource_spec (a b : Nat) : ∀ m, m = betterSource s a b → (m = a ∨ m = b) ∧ claimsBefore s m a ∧ claimsBefore s m b := by
  rintro m rfl
  unfold betterSource claimsBefore
  dsimp only
  split <;> omega

/-- The best of a list of sources is one of them and comes before each. -/
theorem foldl_betterSource_spec (l : List Nat) : ∀ n m, m = l.foldl (betterSource s) n →
    m ∈ n :: l ∧ ∀ k ∈ n :: l, claimsBefore s m k := by
  induction l with
  | nil =>
    rintro n m rfl
    exact ⟨List.mem_cons_self, List.forall_mem_singleton.2 (claimsBefore_refl _)⟩
  | cons a l ih =>
    rintro n m hm
    obtain ⟨hmem, hbest⟩ := ih (betterSource s n a) m hm
    obtain ⟨hone, hn, ha⟩ := betterSource_spec (s := s) n a _ rfl
    rw [List.forall_mem_cons] at hbest
    obtain ⟨hfirst, hrest⟩ := hbest
    constructor
    · rcases List.mem_cons.1 hmem with rfl | hl
      · rcases hone with h | h <;> simp [h]
      · simp [hl]
    · simp only [List.forall_mem_cons]
      exact ⟨hfirst.trans hn, hfirst.trans ha, hrest⟩

theorem mem_sourcesOf_iff {n t : Nat} : n ∈ (s.evt.assigned.filter (fun e => e.2 == t)).map (·.1) ↔ (n, t) ∈ s.evt.assigned := by
  simp

/-- What a claim returns is a source assigned to the target that comes before every other. -/
theorem claimOf_spec {n t : Nat} (h : (n, t) ∈ s.evt.assigned) :
    (claimOf s t, t) ∈ s.evt.assigned ∧ claimsBefore s (claimOf s t) n := by
  have hn := mem_sourcesOf_iff.2 h
  rw [← mem_sourcesOf_iff (t := t)]
  unfold claimOf
  split
  next hnil => simp [hnil] at hn
  next a l hcons =>
    rw [hcons] at hn ⊢
    obtain ⟨hmem, hbest⟩ := foldl_betterSource_spec (s := s) l a _ rfl
    exact ⟨hmem, hbest n hn⟩

end

/-- Settles O59: a claim keeps the better of two sources down the list of those assigned to its target. -/
theorem claimTakesBestSource : Obligations.ClaimTakesBestSource := fun _ _ _ hassigned _ _ => claimOf_spec hassigned

end Sys2Proof.Machine

/-! SUPPORT. The DRAM controllers: drain and read mode, refreshes, row disturbance, parity alerts, training and retraining windows. -/

namespace Sys2Proof.Machine

open Sys2Proof

/-! ### Modes of the scheduler (R356) -/

section
variable {c : Fin 8} {s : State}

theorem exec_drainMode_enters {aged full : Bool} (hdrain : (s.chan c).drain = false)
    (hfull : full = (decide (s.fld (uDdr c) F.ddrSchedHwm ≤ (s.chan c).wq.length) || (aged && !(s.chan c).wq.isEmpty)))
    (hdue : full = true ∨ ((s.readQueue c).isEmpty && !(s.chan c).wq.isEmpty) = true) :
    exec (.drainMode c aged) s = .next (s.setChan c { s.chan c with drain := true, drainEmpty := !full }) := by
  simp only [exec_drainMode, execDrainMode, hdrain, ← hfull, Bool.or_eq_true_iff.2 hdue, Bool.not_false, Bool.and_self, if_true]

theorem exec_readMode_enters {aged : Bool} (hdrain : (s.chan c).drain = true)
    (hdue : ((s.chan c).wq.length ≤ s.fld (uDdr c) F.ddrSchedLwm ∧ aged = false) ∨
      ((s.chan c).drainEmpty = true ∧ (s.readQueue c).isEmpty = false)) :
    exec (.readMode c aged) s = .next (s.setChan c { s.chan c with drain := false, drainEmpty := false }) := by
  rw [exec_readMode, execReadMode]
  exact if_pos (by simpa [hdrain] using hdue)

/-! ### Refreshes (R359, R361) -/

section
variable {rank : Fin 4} (hactive : s.ddrStateOf c = ddrActive) (hawake : s.chanAwake c = true)
include hactive hawake

theorem exec_refreshDebt_active {d : Nat} {s1 : State} (hd : d = SMap.get 0 (s.chan c).debt rank + 1)
    (hs1 : s1 = s.setChan c { s.chan c with debt := SMap.store 0 (s.chan c).debt rank d }) :
    exec (.refreshDebt c rank) s =
      .next (if s1.fld (uDdr c) F.ddrRefMaxDebt ≤ d ∧ (s.chan c).alert = false then forceRefresh s1 c rank else s1) := by
  subst hs1 hd
  simp only [exec_refreshDebt, execRefreshDebt, hactive, hawake, ne_eq, not_true_eq_false, Bool.not_true, Bool.not_eq_true',
    Bool.false_eq_true, or_self, if_false]

section
variable {bank : BitVec 10} (halert : (s.chan c).alert = false) (howed : SMap.get 0 (s.chan c).debt rank ≠ 0)
include halert howed

theorem exec_refresh_forced (hmax : s.fld (uDdr c) F.ddrRefMaxDebt ≤ SMap.get 0 (s.chan c).debt rank) :
    exec (.refresh c rank bank) s = .next (forcedRefresh s c rank bank.toNat) := by
  simp only [exec_refresh, execRefresh, hactive, hawake, halert, howed, hmax, ne_eq, not_true_eq_false, Bool.not_true,
    Bool.false_eq_true, or_self, if_false, if_true]

theorem exec_refresh_idleBanks (hmax : SMap.get 0 (s.chan c).debt rank < s.fld (uDdr c) F.ddrRefMaxDebt)
    (hreplay : (s.chan c).replaying = false) (hidle : s.bankBusy c (s.refreshes c rank bank.toNat) = false) :
    exec (.refresh c rank bank) s = .next (refreshRank s c rank bank.toNat) := by
  simp only [exec_refresh, execRefresh, hactive, hawake, halert, howed, Nat.not_le.2 hmax, hreplay, hidle, ne_eq, not_true_eq_false,
    Bool.not_true, Bool.false_eq_true, or_self, if_false]

end

end

/-! ### Row disturbance (R360) -/

theorem exec_rdThreshold_reached {bank : BitVec 12} {a : ActRow} {src i : Nat} {s1 s2 : State}
    (hen : s.flag (uDdr c) F.ddrCtrlRdEn = true)
    (hrow : (SMap.get [] (s.chan c).tracker bank.toNat).find? (fun a => decide (s.fld (uDdr c) F.ddrRdThActs ≤ a.count)) = some a)
    (hsrc : src = leadingSource a.srcs) (hi : i = throttleSlot s c bank.toNat src)
    (hs1 : s1 = s.setChan c { s.chan c with
      rfm := NSet.add (s.chan c).rfm bank.toNat
      tracker := SMap.store [] (s.chan c).tracker bank.toNat ((SMap.get [] (s.chan c).tracker bank.toNat).erase a)
      thrBank := SMap.put (s.chan c).thrBank i bank.toNat })
    (hs2 : s2 = ((s1.setFld (uDdr c) F.ddrThrValid 1 i).setFld (uDdr c) F.ddrThrSrc src i).setFld (uDdr c) F.ddrThrLeft
      (s.fld (uDdr c) F.ddrRdThrDuration) i) :
    exec (.rdThreshold c bank) s = .next (showThrottling (s2.countSat (uDdr c) F.ddrRdCntCount) c) := by
  subst hs2 hs1 hi hsrc
  simp only [exec_rdThreshold, execRdThreshold, hen, hrow, Bool.not_true, Bool.false_eq_true, if_false]

/-! ### Command-parity alerts (R361, R362) -/

theorem exec_parityAlert_inUse {done : Fin 65} {n : Nat} {s1 s2 : State} (hen : s.flag (uDdr c) F.ddrCtrlParEn = true)
    (hparity : (s.chan c).parity = true) (hactive : s.ddrStateOf c = ddrActive)
    (hn : n = if (s.chan c).replaying then (s.chan c).attempts + 1 else (s.chan c).attempts)
    (hs1 : s1 = (s.setFld (uDdr c) F.ddrStatusAlert 1).countSat (uDdr c) F.ddrAlertCntCount)
    (hs2 : s2 = s1.setChan c { s.chan c with
      alert := true
      replaying := false
      attempts := n
      replay := (s.chan c).retry.drop done ++ (s.chan c).replay
      jobs := forgetReads ((s.chan c).retry.drop done) (s.chan c).jobs
      winReq := (s.chan c).winOpen.foldl NSet.add (s.chan c).winReq
      winOpen := [] }) :
    exec (.parityAlert c done) s =
      .next (if (s.chan c).replaying ∧ s.fld (uDdr c) F.ddrReplayReplayMax ≤ n then exhaust s2 c else s2) := by
  subst hs2 hs1 hn
  simp only [exec_parityAlert, execParityAlert, hen, hparity, hactive, bne_self_eq_false, Bool.not_true, Bool.or_self,
    Bool.false_eq_true, if_false, apply_ite Host.Outcome.next]

theorem exec_parityAlert_unused {done : Fin 65} (hunused : s.flag (uDdr c) F.ddrCtrlParEn = false ∨ (s.chan c).parity = false) :
    exec (.parityAlert c done) s = .next s := by
  rw [exec_parityAlert, execParityAlert]
  exact if_pos (by rcases hunused with h | h <;> simp [h])

theorem exec_alertClear_alert (halert : (s.chan c).alert = true) :
    exec (.alertClear c) s = .next (overdueRefreshes ((s.setChan c { s.chan c with
      alert := false
      openRow := []
      replaying := !(s.chan c).replay.isEmpty
      attempts := if (s.chan c).replay.isEmpty then 0 else (s.chan c).attempts }).countSat (uDdr c) F.ddrReplayCntCount) c) := by
  simp only [exec_alertClear, execAlertClear, halert, Bool.not_true, Bool.false_eq_true, if_false]

/-! ### Training (R349, R362, R363) -/

/-- What a retraining does is told by whether it succeeds. -/
theorem exec_ddrRetrain_outcome {t : ChannelTraining} {lost : Bool} {s1 s2 : State} (hs1 : s1 = if lost then s.loseContents c else s)
    (hs2 : s2 = s1.setChan c { s1.chan c with
      alert := false, replaying := false, attempts := 0, replay := [], retry := [], openRow := [], winReq := [], winOpen := []
      lb := if lost then [] else (s1.chan c).lb }) :
    ((t.present && t.ok) = true → exec (.ddrRetrain c t lost) s = .next (flushWrites (passTraining s2 c t) c)) ∧
    ((t.present && t.ok) = false → exec (.ddrRetrain c t lost) s = .next (dropJobs (failTraining s2 c) c)) := by
  subst hs2 hs1
  constructor <;> intro hok <;> simp only [exec_ddrRetrain, execDdrRetrain, hok, Bool.false_eq_true, if_true, if_false]

/-! ### Retraining windows (R364, R424) -/

section
variable {rank : Fin 4} {drift : Nat} (hinterval : s.fld (uDdr c) F.ddrRetrainInterval ≠ 0) (hactive : s.ddrStateOf c = ddrActive)
  (hawake : s.chanAwake c = true)
include hinterval hactive hawake

theorem exec_driftCheck_forced (hdrift : s.fld (uDdr c) F.ddrRetrainForceTh ≤ drift) :
    exec (.driftCheck c rank drift) s = .next ((s.setChan c { s.chan c with
      winOpen := NSet.add (s.chan c).winOpen rank
      winReq := NSet.del (s.chan c).winReq rank }).countSat (uDdr c) F.ddrFwinCntCount) := by
  simp only [exec_driftCheck, execDriftCheck, hinterval, hactive, hawake, hdrift, ne_eq, not_true_eq_false, Bool.not_true,
    Bool.false_eq_true, or_self, if_false, if_true]

theorem exec_driftCheck_requested (hforce : drift < s.fld (uDdr c) F.ddrRetrainForceTh)
    (hdrift : s.fld (uDdr c) F.ddrRetrainDriftTh ≤ drift) :
    exec (.driftCheck c rank drift) s = .next (s.setChan c { s.chan c with winReq := NSet.add (s.chan c).winReq rank }) := by
  simp only [exec_driftCheck, execDriftCheck, hinterval, hactive, hawake, Nat.not_le.2 hforce, hdrift, ne_eq, not_true_eq_false,
    Bool.not_true, Bool.false_eq_true, or_self, if_false, if_true]

end

theorem exec_retrainingWindow_admitted {rank : Fin 4} {unmet : Bool} {t : State} (hreq : rank.val ∈ (s.chan c).winReq)
    (halert : (s.chan c).alert = false) (hreplay : (s.chan c).replaying = false) (hawake : s.chanAwake c = true)
    (hactive : s.ddrStateOf c = ddrActive) (hadmits : s.admits 6 c = true)
    (hfirst : unmet = true ∨ s.bankBusy c (fun b => b / 1024 == rank.val) = false ∨ (s.meter 6 c).u < s.floorOf 6)
    (ht : t = s.charge 6 c (s.fld (uDdr c) F.ddrRetrainWinUs * 1000)) :
    exec (.retrainingWindow c rank unmet) s = .next (t.setChan c { t.chan c with
      winOpen := NSet.add (t.chan c).winOpen rank
      winReq := NSet.del (t.chan c).winReq rank }) := by
  have hgoes : ((!unmet && s.bankBusy c (fun b => b / 1024 == rank.val)) && decide (s.floorOf 6 ≤ (s.meter 6 c).u)) = false := by
    rcases hfirst with h | h | h <;> simp [h]
  subst ht
  simp only [exec_retrainingWindow, execRetrainingWindow, List.contains_iff_mem.2 hreq, halert, hreplay, hawake, hactive, hgoes,
    State.budgeted_admitted hadmits, bne_self_eq_false, Bool.not_true, Bool.or_self, Bool.false_eq_true, if_false]

end

/-- Settles O25: each command goes by the conditions of its rule; a refresh, a parity alert, a retraining and a drift by what they find. -/
theorem dramControllerCommandsComplete : Obligations.DramControllerCommandsComplete := by
  refine ⟨?drain, ?read, ?debtForced, ?debtOwed, ?forced, ?idle, ?disturbed, fun c i s => exec_throttleExpire c i s,
    fun c s => exec_trackerClear c s, ?alert, fun c done s => exec_parityAlert_unused, ?cleared, ?trained, ?retrained, ?retrain,
    fun c s s1 hs1 => hs1 ▸ exec_ddrDisable c s, ?driftForced, ?driftRequested, ?window, ?windowEnd⟩
  case drain =>
    rintro c aged s _ rfl full hfull _ rfl hdrain hdue
    exact exec_drainMode_enters hdrain hfull hdue
  case read =>
    rintro c aged s _ rfl hdrain hdue
    exact exec_readMode_enters hdrain hdue
  case debtForced =>
    rintro c rank s _ rfl hactive hawake d hd s1 hs1 hmax halert
    rw [exec_refreshDebt_active hactive hawake hd hs1, if_pos ⟨hmax, halert⟩]
  case debtOwed =>
    rintro c rank s _ rfl hactive hawake d hd s1 hs1 hnot
    rw [exec_refreshDebt_active hactive hawake hd hs1, if_neg]
    rintro ⟨hmax, halert⟩
    rcases hnot with hlt | htrue
    · omega
    · simp [halert] at htrue
  case forced =>
    rintro c rank bank s _ rfl hactive hawake halert howed hmax
    exact exec_refresh_forced hactive hawake halert howed hmax
  case idle =>
    rintro c rank bank s _ rfl hactive hawake halert hreplay howed hmax hidle
    exact exec_refresh_idleBanks hactive hawake halert howed hmax hreplay hidle
  case disturbed =>
    rintro c bank s _ rfl _ rfl _ rfl hen a hrow src hsrc i hi s1 hs1 s2 hs2
    exact exec_rdThreshold_reached hen hrow hsrc hi hs1 hs2
  case alert =>
    rintro c done s _ rfl _ rfl hen hparity hactive n hn s1 hs1 s2 hs2
    exact exec_parityAlert_inUse hen hparity hactive hn hs1 hs2
  case cleared =>
    rintro c s _ rfl halert
    exact exec_alertClear_alert halert
  case trained =>
    rintro t s huntrained ht _ rfl _ rfl _ rfl _ rfl
    exact (exec_dramTrainingDone t s).trans (if_neg (by simp [huntrained, ht]))
  case retrained =>
    rintro c t lost s s1 hs1 _ rfl s2 hs2 hpresent hok
    exact (exec_ddrRetrain_outcome hs1 hs2).1 (by rw [hpresent, hok]; rfl)
  case retrain =>
    rintro c t lost s s1 hs1 _ rfl s2 hs2
    exact exec_ddrRetrain_outcome hs1 hs2
  case driftForced =>
    rintro c rank drift s _ rfl _ rfl hinterval hactive hawake hdrift
    exact exec_driftCheck_forced hinterval hactive hawake hdrift
  case driftRequested =>
    rintro c rank drift s _ rfl _ rfl hinterval hactive hawake hforce hdrift
    exact exec_driftCheck_requested hinterval hactive hawake hforce hdrift
  case window =>
    rintro c rank unmet s _ rfl hreq halert hreplay hawake hactive hadmits hfirst t ht
    exact exec_retrainingWindow_admitted hreq halert hreplay hawake hactive hadmits hfirst ht
  case windowEnd =>
    rintro c rank s _ rfl
    exact exec_retrainingWindowEnd c rank s

end Sys2Proof.Machine

/-! SUPPORT. The PCIe controllers: ports, inbound and outbound requests, the mailbox, DMA rings. -/

namespace Sys2Proof.Machine

open Sys2Proof

/-! ### Ports (R386, R387) -/

section
variable {c : Fin 2} {s : State}

theorem exec_pcieLinkUp_trained {port : Bool} {speed : BitVec 3} {width : BitVec 5} (hen : s.flag (uPci c) F.pciCtrlEn = true)
    (hclock : s.clocked (148 + c) = true) (hport : port = false ∨ (s.pciCtl c).bifur = true)
    (hspeed : 1 ≤ speed.toNat ∧ speed.toNat ≤ 5) (hwidth : width.toNat ∈ [1, 2, 4, 8, 16])
    (hhalf : (s.pciCtl c).bifur = false ∨ width.toNat ≤ 8) :
    exec (.pcieLinkUp c port speed width) s = .next (showPort s c port 1 speed.toNat width.toNat) := by
  have hexists : (port && !(s.pciCtl c).bifur) = false := by rcases hport with h | h <;> simp [h]
  have htrains : trains s c speed.toNat width.toNat = true := by
    unfold trains
    rw [List.contains_iff_mem.2 hwidth]
    simpa [hspeed] using hhalf
  simp only [exec_pcieLinkUp, execPcieLinkUp, hen, hexists, hclock, htrains, Bool.not_true, Bool.or_self, Bool.false_eq_true, if_false]

theorem exec_pcieLinkDrop_up {port : Bool} (hen : s.flag (uPci c) F.pciCtrlEn = true) (hup : portUp s c port = true) :
    exec (.pcieLinkDrop c port) s =
      .next (((showPort s c port 0 0 0).setFld (uPci c) F.pciStatusLinkDrop 1).raise (uPci c) 0x09) := by
  simp only [exec_pcieLinkDrop, execPcieLinkDrop, hen, hup, Bool.not_true, Bool.or_self, Bool.false_eq_true, if_false]

/-! ### Inbound requests (R388, R389, R390) -/

section
variable {r : PciReq} (hen : s.flag (uPci c) F.pciCtrlEn = true) (hup : portUp s c r.port = true)
  (hendpoint : (if r.port then (s.pciCtl c).modeB else (s.pciCtl c).modeA) = 0) (hfunc : hasFunc s c r.vf r.func.toNat = true)
include hen hup hendpoint hfunc

theorem exec_inboundRequest_bar0 (hbar : r.bar = .bar0) (hin : inBar0 s c r = true) : exec (.inboundRequest c r) s =
    .next (pciRun (s.setPci c { s.pciCtl c with inq := (s.pciCtl c).inq ++ [⟨r, false, []⟩] }) c) := by
  simp only [exec_inboundRequest, execInboundRequest, hen, hup, hendpoint, hfunc, hbar, hin, bne_self_eq_false, Bool.not_true,
    Bool.or_self, Bool.false_eq_true, if_false, if_true]

theorem exec_inboundRequest_mailbox (hbar : r.bar = .bar2) (hvf : r.vf = false) (hzero : r.func = 0) :
    exec (.inboundRequest c r) s = .next (mailboxRequest s c r) := by
  rw [hvf, hzero] at hfunc
  simp only [exec_inboundRequest, execInboundRequest, hen, hup, hendpoint, hfunc, hbar, hvf, hzero, bne_self_eq_false, Bool.not_true,
    Bool.or_self, Bool.false_eq_true, if_false]

theorem exec_inboundRequest_bar4 (hbar : r.bar = .bar4) : exec (.inboundRequest c r) s = .next (bar4Request s c r) := by
  simp only [exec_inboundRequest, execInboundRequest, hen, hup, hendpoint, hfunc, hbar, bne_self_eq_false, Bool.not_true,
    Bool.or_self, Bool.false_eq_true, if_false]

end

/-! ### The outbound window (R391) -/

section
variable {s : State} {p : Packet} {c off r : Nat} {port : Bool} (hr : r = off / 2 ^ 36) (htype : s.fld (uPci c) F.pciObType r = 1)
  (hport : port = s.flag (uPci c) F.pciObPort r) (hup : portUp s c port = true)
include hr htype hport hup

theorem outbound_write (hop : p.op = opWrite) : outbound s c off p =
    (hostWrite s c port (s.fld (uPci c) F.pciObFunc r) (obHost s c r + off % 2 ^ 36) p.writeBytes).reply p .ok := by
  have hatomic : opWrite ≠ opAtomic := by decide
  subst hport hr
  simp only [outbound, hatomic, htype, hup, hop, OfNat.one_ne_ofNat, one_ne_zero, Bool.not_true, Bool.false_eq_true, or_self, false_and,
    if_false, if_true]

theorem outbound_read {fn : Nat} (hop : p.op = opRead) (hfn : fn = s.fld (uPci c) F.pciObFunc r)
    (hroom : (s.pciCtl c).ob.length + (hostReads c fn p.rangeLen).length ≤ 768) : outbound s c off p =
    hostRead (s.takeReq p) c port fn (obHost s c r + off % 2 ^ 36) p.rangeLen (some p) 0 := by
  have hatomic : p.op ≠ opAtomic := by rw [hop]; decide
  have hwrite : p.op ≠ opWrite := by rw [hop]; decide
  subst hfn hport hr
  simp only [outbound, hatomic, hwrite, htype, hup, hostRoom, hroom, decide_true, OfNat.one_ne_ofNat, one_ne_zero, Bool.not_true,
    Bool.false_eq_true, or_self, false_and, if_false, if_true]

end

theorem exec_outboundRequest_arrived {p : Packet} {c off : Nat} (hpci : pciOf p = some c) (hreq : isRequest p.op = true)
    (harrived : s.arrived p = true) (hmap : mapAddr p.a48 = .pcie c off) :
    exec (.outboundRequest p) s = .next (outbound s c off p) := by
  simp only [exec_outboundRequest, execOutboundRequest, hpci, hreq, harrived, hmap, Bool.not_true, Bool.or_self, Bool.false_eq_true,
    if_false, if_true]

theorem obOpen_eq_some {i : Nat} {o : PciOb} (hclock : s.clocked (148 + c) = true) (ho : (s.pciCtl c).ob[i]? = some o)
    (hopen : o.stat = none) : obOpen s c i = some o := by
  rw [obOpen, if_pos hclock, ho]
  exact Option.filter_some_pos (by rw [hopen]; rfl)

/-! ### DMA rings (R392, R393, R394) -/

theorem exec_dmaDoorbell_function {k : BitVec 8} {pi : BitVec 16} {vf : Bool} {f : BitVec 9} (hclock : s.clocked (148 + c) = true) :
    exec (.dmaDoorbell c k pi (some (vf, f))) s = .next (doorbell s c k.toNat pi.toNat vf f.toNat) := by
  simp only [exec_dmaDoorbell, execDmaDoorbell, hclock, Bool.not_true, Bool.false_eq_true, if_false]

theorem exec_dmaDoorbell_device {k : BitVec 8} {pi : BitVec 16} (hclock : s.clocked (148 + c) = true) :
    exec (.dmaDoorbell c k pi none) s = .next (writePi s c k.toNat pi.toNat) := by
  simp only [exec_dmaDoorbell, execDmaDoorbell, hclock, Bool.not_true, Bool.false_eq_true, if_false]

theorem dmaBegin_append {ch : Nat} {l : List DmaDesc} {d : DmaDesc} {st : Nat} (hst : st = descStatus s d) : dmaBegin s c ch l.length d =
    if st ≠ 0 then s.putFlight c ch l.length { d with status := st }
    else if bitOf d.flags 3 = true ∧ l ≠ [] then s.putFlight c ch l.length { d with stage := .fence }
    else dmaRead s c ch l.length d := by
  simp only [dmaBegin, ← hst, Bool.and_eq_true, bne_iff_ne, ne_eq, List.length_eq_zero_iff]

section
variable {k : BitVec 8} {desc : BitVec 256} {ch : Nat} {l : List DmaDesc} (hclock : s.clocked (148 + c) = true) (hch : ch = k.toNat)
  (hl : l = s.flight c ch) (hen : dmaFld s c ch F.pciDmaCtrlEn ≠ 0) (hrun : dmaFld s c ch F.pciDmaStatHalted ≠ 1) (hfew : l.length < 4)
  (hmore : (dmaFld s c ch F.pciDmaCiCi + l.length) % 65536 ≠ dmaFld s c ch F.pciDmaPiPi)
  (hgood : l.any (fun x => decide (1 < x.status)) = false)
include hclock hch hl hen hrun hfew hmore hgood

theorem exec_dmaDescriptorCheck_host (hring : dmaFld s c ch F.pciDmaCtrlRingHost = 1) : exec (.dmaDescriptorCheck c k desc) s =
    .next (pciRun (dmaBegin (s.setFlight c ch (l ++ [parseDesc desc.toNat])) c ch l.length (parseDesc desc.toNat)) c) := by
  subst hch hl
  simp only [exec_dmaDescriptorCheck, execDmaDescriptorCheck, hclock, hen, hrun, Nat.not_le.2 hfew, hmore, hgood, hring, Bool.not_true,
    Bool.false_eq_true, or_self, if_false, if_true]

theorem exec_dmaDescriptorCheck_device (hring : dmaFld s c ch F.pciDmaCtrlRingHost = 0) {a t : Nat} {s1 : State}
    (ha : a = ringEntry s c ch l.length) (ht : t = (takeTag s c).1)
    (hs1 : s1 = (takeTag s c).2.setFlight c ch (l ++ [{ parseDesc 0 with src := a, tag := some t, stage := .fetch }])) :
    exec (.dmaDescriptorCheck c k desc) s =
      .next (pciRun (ingress s1.draw (pciCode c) (byteReq opRead (s1.fresh % 3) t a 32 [])) c) := by
  subst hch hl hs1 ht ha
  simp only [exec_dmaDescriptorCheck, execDmaDescriptorCheck, hclock, hen, hrun, Nat.not_le.2 hfew, hmore, hgood, hring, Bool.not_true,
    Bool.false_eq_true, zero_ne_one, or_self, if_false]

end

theorem exec_dmaWriteBack_ended {k : BitVec 8} {d : DmaDesc} {rest : List DmaDesc} {ch addr : Nat} {s1 s2 s3 : State}
    (hclock : s.clocked (148 + c) = true) (hch : ch = k.toNat) (hflight : s.flight c ch = d :: rest) (hended : d.status ≠ 0)
    (haddr : addr = ringEntry s c ch 0)
    (hs1 : s1 = if d.status = 1 then (shiftReads s c ch).setFlight c ch rest else (dropReads s c ch).setFlight c ch [])
    (hs2 : s2 = (ringWrite (ringWrite s1 c ch (addr + 24) [BitVec.ofNat 8 d.status]) c ch (addr + 28) (toLeBytes 4 d.moved)).setFld
      (uPci c) F.pciDmaCiCi (dmaFld s c ch F.pciDmaCiCi + 1) ch)
    (hs3 : s3 = if bitOf d.flags 2 then dmaInterrupt s2 c ch else s2) : exec (.dmaWriteBack c k) s =
      .next (pciRun (if d.status = 1 then passFence s3 c ch
        else (s3.setFld (uPci c) F.pciDmaStatHalted 1 ch).setFld (uPci c) F.pciDmaStatLast d.status ch) c) := by
  subst hs3 hs2 hs1 haddr hch
  simp only [exec_dmaWriteBack, execDmaWriteBack, hflight, hclock, hended, Bool.not_true, Bool.false_eq_true, or_self, if_false]

end

/-- Settles O31: a request of the host goes by its BAR, one to the host by its direction and its outcome, and a descriptor by where its ring
lies and how it ends. -/
theorem pcieCommandsComplete : Obligations.PcieCommandsComplete := by
  refine ⟨?enable, ?mailbox, ?linkUp, fun c port s hen hup => exec_pcieLinkDrop_up hen hup, ?bar0, ?timeout, ?doorbellOwn, ?doorbellOther,
    ?doorbellDevice, ?descriptorHost, ?descriptorDevice, ?functionReset, ?mailboxDoorbell,
    ?outWrite, ?outRead, ?success, ?failure, ?dmaEnable, ?writeBack, ?bar4⟩
  case enable =>
    rintro c s _ rfl _ rfl hoff
    simp only [exec_pcieEnable, execPcieEnable, pcieEnable, hoff, Bool.false_eq_true, if_false]
  case mailbox =>
    intro c r s hen hup hendpoint hbar hvf hzero
    exact exec_inboundRequest_mailbox hen hup hendpoint (by rw [hvf, hzero]; rfl) hbar hvf hzero
  case linkUp =>
    exact fun c port speed width s hen hclock hport hspeed hwidth hhalf =>
      exec_pcieLinkUp_trained hen hclock hport hspeed hwidth hhalf
  case bar0 =>
    rintro c r s _ rfl hen hup hendpoint hfunc hbar hin
    exact exec_inboundRequest_bar0 hen hup hendpoint hfunc hbar hin
  case timeout =>
    rintro c i s hclock o ho hopen _ rfl
    rw [exec_completionTimeout, execCompletionTimeout, obOpen_eq_some hclock ho hopen]
  case doorbellOwn =>
    rintro c k pi _ s hclock vf f rfl hvf hf
    rw [exec_dmaDoorbell_function hclock, doorbell, if_pos ⟨hvf, hf⟩]
  case doorbellOther =>
    rintro c k pi _ s hclock vf f rfl hother
    rw [exec_dmaDoorbell_function hclock, doorbell, if_neg (not_and_or.2 hother)]
  case doorbellDevice =>
    rintro c k pi _ s hclock rfl
    exact exec_dmaDoorbell_device hclock
  case descriptorHost =>
    rintro c k desc s hclock ch hch l hl _ rfl d hd hen hrun hfew hmore hgood hring _ rfl st hst
    have hparse : d = parseDesc desc.toNat := hd
    rw [exec_dmaDescriptorCheck_host hclock hch hl hen hrun hfew hmore hgood hring, ← hparse, dmaBegin_append hst]
  case descriptorDevice =>
    rintro c k desc s hclock ch hch l hl hen hrun hfew hmore hgood hring a ha t ht s1 hs1
    exact exec_dmaDescriptorCheck_device hclock hch hl hen hrun hfew hmore hgood hring ha ht hs1
  case functionReset =>
    intro c vf func s
    rw [exec_functionLevelReset, execFunctionLevelReset]
  case mailboxDoorbell =>
    rintro c seq _ s hen hup hendpoint rfl _ rfl
    simp only [exec_mailboxDoorbell, execMailboxDoorbell, mailboxDoorbell, hen, hup, hendpoint, bne_self_eq_false, Bool.not_true,
      Bool.or_self, Bool.false_eq_true, if_false]
  case outWrite =>
    intro p c off r port s hpci harrived hmap hr htype hport hup hop
    rw [exec_outboundRequest_arrived hpci (by rw [hop]; rfl) harrived hmap, outbound_write hr htype hport hup hop]
  case outRead =>
    rintro p c off r fn port s hpci harrived hmap hr htype hport hup hop hfn _ rfl hroom _ rfl
    rw [exec_outboundRequest_arrived hpci (by rw [hop]; rfl) harrived hmap, outbound_read hr htype hport hup hop hfn hroom, hostRead]
  case success =>
    rintro c i data _ _ o s hclock rfl ho hopen rfl
    rw [exec_outboundCompletion, execOutboundCompletion, obOpen_eq_some hclock ho hopen]
  case failure =>
    rintro c i w data o s hclock ho hopen hw _ rfl
    rw [exec_outboundCompletion, execOutboundCompletion, obOpen_eq_some hclock ho hopen]
    cases w with
    | success => exact absurd rfl hw
    | unsupported | abort | retry | poisoned => rfl
  case dmaEnable =>
    intro c k s hoff
    rw [exec_dmaEnable, execDmaEnable, dmaEnable, if_neg hoff]
  case writeBack =>
    intro c k d rest ch addr s hclock hch hflight hended haddr s1 hs1 s2 hs2 s3 hs3
    exact exec_dmaWriteBack_ended hclock hch hflight hended haddr hs1 hs2 hs3
  case bar4 =>
    intro c r s hen hup hendpoint hfunc hbar
    exact exec_inboundRequest_bar4 hen hup hendpoint hfunc hbar

end Sys2Proof.Machine

/-! SUPPORT. Oscillators and PLLs, clock domains and performance points. -/

namespace Sys2Proof.Machine

open Sys2Proof

/-! ### Oscillators, trim and PLLs (R399, R404, R406, R408) -/

section
variable {s : State}

theorem exec_xtalQualify_running (hrun : s.flag uClk F.clkOscStatusHfRun = true) (hfallback : s.clk.fallback = false)
    (hdormant : s.mode.dormant = false) : exec .xtalQualify s = .next (settleOsc (s.setFld uClk F.clkOscStatusXtalQual 1)) := by
  simp only [exec_xtalQualify, execXtalQualify, hrun, hfallback, hdormant, Bool.not_true, Bool.or_self, Bool.false_eq_true, if_false]

section
variable {count e : Nat} {dev : Int} (hexpected : trimExpected s = some e) (hrun : s.flag uClk F.clkOscStatusHfRun = true) (he : e ≠ 0)
  (hdev : dev = (count : Int) - e)
include hexpected hrun he hdev

theorem exec_trimMeasurement_discarded (hoff : e < 50 * dev.natAbs) :
    exec (.trimMeasurement count e) s = .next ((takeMark s).countSat uClk F.clkTrimCntDiscard) := by
  subst hdev
  simp only [exec_trimMeasurement, execTrimMeasurement, hexpected, hrun, he, hoff, bne_self_eq_false, decide_false, Bool.not_true,
    Bool.or_self, Bool.false_eq_true, if_false, if_true]

theorem exec_trimMeasurement_kept (hnear : 50 * dev.natAbs ≤ e) {n : Int × State} (hn : n = nearest (takeMark s) (dev * 1000000) e) :
    exec (.trimMeasurement count e) s = .next (keepMeasure (takeMark s) n.1 n.2) := by
  subst hn hdev
  simp only [exec_trimMeasurement, execTrimMeasurement, hexpected, hrun, he, Nat.not_lt.2 hnear, bne_self_eq_false, decide_false,
    Bool.not_true, Bool.or_self, Bool.false_eq_true, if_false]

end

section
variable {k : Fin 64} (hfirmware : pllByFirmware k = true)
include hfirmware

theorem exec_pllEnable_fits (hoff : s.flag uClk F.clkPllCfgEn k = false) (hvco : s.vcoInRange k = true)
    (hfit : s.consumersFit k (s.vfCur 2) = true) :
    exec (.pllEnable k true) s = .next (s.setFld uClk F.clkPllCfgEn 1 k).noteAllRecords := by
  simp only [exec_pllEnable, execPllEnable, pllEnable, hfirmware, hoff, hvco, hfit, Bool.not_true, Bool.or_self, Bool.false_eq_true,
    if_false, if_true]

theorem exec_pllEnable_cleared : exec (.pllEnable k false) s =
    .next (((s.setFld uClk F.clkPllCfgEn 0 k).setFld uClk F.clkPllCfgLock 0 k).setFld uClk F.clkPllOutStandby 0 k) := by
  simp only [exec_pllEnable, execPllEnable, pllEnable, hfirmware, Bool.not_true, Bool.false_eq_true, if_false]

theorem exec_pllStandby_idle {feeds : Bool}
    (hfeeds : feeds = ((pllConsumers s k).any (fun c => s.regionRuns c.1) || (k.val == 52 && !s.clk.spanOff)))
    (hidle : s.fld uClk F.clkPllIdleUs ≠ 0) (hen : s.flag uClk F.clkPllCfgEn k = true) (hnone : feeds = false) :
    exec (.pllStandby k) s = .next (s.setFld uClk F.clkPllOutStandby 1 k) := by
  simp only [exec_pllStandby, execPllStandby, ← hfeeds, hfirmware, hidle, hen, hnone, decide_false, Bool.not_true, Bool.or_self,
    Bool.false_eq_true, if_false]

end

end

/-- Settles O33: a measurement goes by how far it is from its expected count, a PLL by whether firmware programs it and what it feeds. -/
theorem oscillatorAndPllCommandsComplete : Obligations.OscillatorAndPllCommandsComplete := by
  refine ⟨fun s hrun hfallback hdormant => exec_xtalQualify_running hrun hfallback hdormant,
    fun count s e hexpected hrun he dev hdev hoff => exec_trimMeasurement_discarded hexpected hrun he hdev hoff,
    fun count s e hexpected hrun he dev hdev hnear n hn => exec_trimMeasurement_kept hexpected hrun he hdev hnear hn,
    fun k s hfirmware hoff hvco hfit => exec_pllEnable_fits hfirmware hoff hvco hfit,
    fun k s hfirmware => exec_pllEnable_cleared hfirmware, ?lock,
    fun k s feeds hfeeds hfirmware hidle hen hnone => exec_pllStandby_idle hfirmware hfeeds hidle hen hnone⟩
  case lock =>
    intro k s hen
    rw [exec_pllLock, execPllLock, if_pos hen]

/-! ### A close begun, ended and denied (R411, R412, R413) -/

section
variable {s : State} {i : Nat}

/-- A running domain other than the two that never close is CLOSING. -/
theorem beginClose_running (h156 : i ≠ 156) (h157 : i ≠ 157) (hrun : s.dom i = domRun) (off : Bool) : beginClose s i off =
    { s.setDom i domClosing with clk := { (s.setDom i domClosing).clk with
      offs := if off then NSet.add (s.setDom i domClosing).clk.offs i else NSet.del (s.setDom i domClosing).clk.offs i } } := by
  simp only [beginClose, h156, h157, hrun, ne_eq, not_true_eq_false, or_self, if_false]

end

theorem val_ne_of_ne {i : Fin 160} (h156 : i ≠ 156) (h157 : i ≠ 157) : i.val ≠ 156 ∧ i.val ≠ 157 :=
  ⟨fun h => h156 (Fin.ext h), fun h => h157 (Fin.ext h)⟩

section
variable {i : Fin 160} {n : Fin 128} {s : State}

section
variable (h156 : i ≠ 156) (h157 : i ≠ 157)
include h156 h157

theorem exec_domainGate_running {s1 s2 : State} (hs1 : s1 = s.setFld uClk F.clkDomReq 1 i) (hrun : s1.dom i = domRun)
    (hs2 : s2 = s1.setDom i domClosing) :
    exec (.domainGate i) s = .next { s2 with clk := { s2.clk with offs := NSet.del s2.clk.offs i } } := by
  obtain ⟨h156, h157⟩ := val_ne_of_ne h156 h157
  subst hs2
  simp only [exec_domainGate, execDomainGate, domGate, ← hs1, beginClose_running h156 h157 hrun, h156, h157, Bool.false_eq_true, or_self,
    if_false]

theorem exec_autoClose_running (hauto : s.flag uClk F.clkDomAuto i = true) (hidle : s.fld uClk F.clkIdleCycles ≠ 0)
    (hrun : s.dom i = domRun) {s1 : State} (hs1 : s1 = s.setDom i domClosing) :
    exec (.autoClose i) s = .next { s1 with clk := { s1.clk with offs := NSet.del s1.clk.offs i } } := by
  obtain ⟨h156, h157⟩ := val_ne_of_ne h156 h157
  subst hs1
  simp only [exec_autoClose, execAutoClose, hauto, bne_iff_ne.2 hidle, beginClose_running h156 h157 hrun, Bool.and_self,
    Bool.false_eq_true, if_false, if_true]

/-- RUN is a wake of the domain on the state that shows the request. -/
theorem exec_domainRun_wakes : exec (.domainRun i) s = .next ((s.setFld uClk F.clkDomReq 0 i).wakeDom i) := by
  obtain ⟨h156, h157⟩ := val_ne_of_ne h156 h157
  simp only [exec_domainRun, execDomainRun, domRunReq, h156, h157, or_self, if_false]

end

theorem exec_domainOff_gated (hgated : s.dom n = domGated) : exec (.domainOff n) s =
    .next (if refusesOff s n then denyClose (s.setFld uClk F.clkDomReq 2 n) n else (s.setFld uClk F.clkDomReq 2 n).setDom n domOff) := by
  simp only [exec_domainOff, execDomainOff, domOffReq, hgated, if_true]

theorem exec_domainOff_running (hrun : s.dom n = domRun) {s1 s2 : State} (hs1 : s1 = s.setFld uClk F.clkDomReq 2 n)
    (hrun1 : s1.dom n = domRun) (hs2 : s2 = s1.setDom n domClosing) :
    exec (.domainOff n) s = .next { s2 with clk := { s2.clk with offs := NSet.add s2.clk.offs n } } := by
  have hgated : s.dom n ≠ domGated := by rw [hrun]; decide
  have hclosing : s.dom n ≠ domClosing := by rw [hrun]; decide
  subst hs2
  simp only [exec_domainOff, execDomainOff, domOffReq, hgated, hclosing, ← hs1,
    beginClose_running (by omega : n.val ≠ 156) (by omega : n.val ≠ 157) hrun1, if_false, if_true]

section
variable (hclosing : s.dom i = domClosing)
include hclosing

theorem exec_closeReady_denied (hready : answersReady s i = true) (hoff : i.val ∈ s.clk.offs) (hrefuses : refusesOff s i = true) :
    exec (.closeReady i) s = .next (settleMoves (denyClose s i)) := by
  simp only [exec_closeReady, execCloseReady, hclosing, hready, List.contains_iff_mem.2 hoff, hrefuses, ne_eq, not_true_eq_false,
    Bool.not_true, Bool.and_self, Bool.false_eq_true, or_self, if_false, if_true]

theorem exec_closeReady_stops (hready : answersReady s i = true) (hnot : i.val ∉ s.clk.offs ∨ refusesOff s i = false) {s2 : State}
    (hs2 : s2 = (domStops s i).setDom i (if s.clk.offs.contains i.val then domOff else domGated)) :
    exec (.closeReady i) s = .next (settleMoves (wakeClosed { s2 with clk := { s2.clk with offs := NSet.del s2.clk.offs i } } i)) := by
  have hcloses : (s.clk.offs.contains i.val && refusesOff s i) = false := by
    rcases hnot with h | h
    · rw [Bool.eq_false_iff.2 (mt List.contains_iff_mem.1 h), Bool.false_and]
    · rw [h, Bool.and_false]
  subst hs2
  simp only [exec_closeReady, execCloseReady, hclosing, hready, hcloses, ne_eq, not_true_eq_false, Bool.not_true, Bool.false_eq_true,
    or_self, if_false]

theorem exec_closeTimeout_denied (hfallback : s.clk.fallback = false) {s1 s2 : State} (hs1 : s1 = denyClose s i)
    (hs2 : s2 = if s1.flag uClk F.clkDenyValid then s1 else (s1.setFld uClk F.clkDenyValid 1).setFld uClk F.clkDenyDomain i) :
    exec (.closeTimeout i) s = .next (settleMoves (s2.raise uClk 0x0F i)) := by
  subst hs2 hs1
  simp only [exec_closeTimeout, execCloseTimeout, hclosing, hfallback, ne_eq, not_true_eq_false, Bool.false_eq_true, or_self, if_false]

end

end

/-- Settles O34: a request goes by the state the domain is in, and an answer to a close by whether the region refuses to be off. -/
theorem domainCommandsComplete : Obligations.DomainCommandsComplete := by
  refine ⟨?gate, ?off, ?offDenied, ?offRunning, ?run, ?runClosing, ?auto,
    fun i s hclosing hready hoff hrefuses => exec_closeReady_denied hclosing hready hoff hrefuses, ?stops, ?refused, ?timeout, ?woken⟩
  case gate =>
    intro i s h156 h157 s1 hs1 hrun s2 hs2
    exact exec_domainGate_running h156 h157 hs1 hrun hs2
  case off =>
    intro n s hgated hoff
    rw [exec_domainOff_gated hgated, hoff, if_neg Bool.false_ne_true]
  case offDenied =>
    rintro n s hgated _ rfl hrefuses
    rw [exec_domainOff_gated hgated, if_pos hrefuses]
  case offRunning =>
    intro n s hrun s1 hs1 hrun1 s2 hs2
    exact exec_domainOff_running hrun hs1 hrun1 hs2
  case run =>
    rintro i s h156 h157 s1 hs1
    rw [exec_domainRun_wakes h156 h157, ← hs1]
    constructor
    · intro hgated
      rw [State.wakeDom, if_pos hgated]
    · intro hoff
      rw [State.wakeDom, if_neg (by rw [hoff]; decide), if_pos hoff]
  case runClosing =>
    rintro i s h156 h157 s1 hs1 hclosing
    rw [exec_domainRun_wakes h156 h157, ← hs1, State.wakeDom, if_neg (by rw [hclosing]; decide), if_neg (by rw [hclosing]; decide),
      if_pos hclosing]
  case auto =>
    rintro i s h156 h157 hauto hidle hrun s1 hs1
    exact exec_autoClose_running h156 h157 hauto hidle hrun hs1
  case stops =>
    rintro i s hclosing hready hnot _ rfl s2 hs2
    exact exec_closeReady_stops hclosing hready hnot hs2
  case refused =>
    intro i s hclosing
    rw [exec_closeRefuse, execCloseRefuse, if_neg (not_not.2 hclosing)]
  case timeout =>
    intro i s hclosing hfallback s1 hs1 s2 hs2
    exact exec_closeTimeout_denied hclosing hfallback hs1 hs2
  case woken =>
    intro i s hwaking
    rw [exec_wakeDone, execWakeDone, if_neg (not_not.2 hwaking)]

/-! ### A performance point's sequence (R416) -/

section
variable {g : Fin 3} {target : Fin 8} {s s1 : State} (hs1 : s1 = s.setFld uClk F.clkVfCtrlTarget target g)
include hs1

theorem exec_vfTarget_busy (hbusy : s.flag uClk F.clkVfStatusBusy g = true) : exec (.vfTarget g target) s = .next s1 := by
  rw [exec_vfTarget, execVfTarget, vfTarget, if_pos hbusy, hs1]

section
variable (hidle : s.flag uClk F.clkVfStatusBusy g = false)
include hidle

theorem exec_vfTarget_idle : exec (.vfTarget g target) s = .next (startVf s1 g) := by
  rw [exec_vfTarget, execVfTarget, vfTarget, if_neg (by simp [hidle]), hs1]

end

end

section
variable {g : Nat} {s : State} {t : Nat} (ht : t = s.fld uClk F.clkVfCtrlTarget g)
include ht

theorem startVf_raise (hraise : t < s.vfCur g) : startVf s g =
    { s.setFld uClk F.clkVfStatusBusy 1 g with clk := { s.clk with vf := SMap.put s.clk.vf g { target := t, raise := true } } } := by
  simp only [startVf, ← ht, hraise, decide_true, Bool.not_true, Bool.false_and, Bool.true_or, Bool.false_eq_true, if_false, if_true]

theorem startVf_lower (hg : g < 2) (hlower : s.vfCur g < t) {s2 : State} (hs2 : s2 = switchPoint s g t) : startVf s g =
    { s2.setFld uClk F.clkVfStatusBusy 1 g with clk := { s2.clk with vf := SMap.put s2.clk.vf g { target := t, raise := false } } } := by
  have hraise : decide (t < s.vfCur g) = false := decide_eq_false (by omega)
  have hne : (t == s.vfCur g) = false := beq_false_of_ne (by omega)
  have hnot : (g == 2) = false := beq_false_of_ne (by omega)
  simp only [startVf, ← ht, hraise, hne, hnot, ← hs2, Bool.and_false, Bool.false_and, Bool.or_self, Bool.false_eq_true, if_false]

end

section
variable {g : Fin 3} {millivolt : BitVec 16} {fault close : Bool} {s : State} {v : VfSeq} {want : Nat}
  (hv : SMap.find s.clk.vf g = some v)
include hv

section
variable (hunsettled : v.settled = false) (hwant : want = (Config.avsMillivolt g v.target).toNat)
  (hclose : close = (decide (millivolt.toNat ≤ want + 10) && decide (want ≤ millivolt.toNat + 10)))
include hunsettled hwant hclose

/-- What a settling does is told by the fault, the pins, the voltage and the retry. -/
theorem exec_vfSettle_unsettled : exec (.vfSettle g millivolt fault) s =
    .next (s.setVf g (if fault = true ∨ pmbPins s = false then { v with settled := true, failed := true }
      else if close then { v with settled := true }
      else if v.retried then { v with settled := true, failed := true }
      else { v with retried := true })) := by
  subst hclose hwant
  simp only [exec_vfSettle, execVfSettle, hv, hunsettled, Bool.or_eq_true, Bool.not_eq_true', Bool.false_eq_true, if_false]
  split_ifs <;> rfl

end

theorem exec_vfDone_settled (hsettled : v.settled = true) {s1 s2 : State}
    (hs1 : s1 = { s.setFld uClk F.clkVfStatusBusy 0 g with clk := { s.clk with vf := SMap.erase s.clk.vf g } })
    (hs2 : s2 = if v.failed then
        ((if v.raise then s1 else s1.setFld uClk F.clkVfStatusVfail 1 g).setFld uClk F.clkVfStatusFail 1 g).edge (8 + g.val)
      else ((if v.raise then switchPoint s1 g v.target else s1).setFld uClk F.clkVfStatusVfail 0 g).edge (5 + g.val)) :
    exec (.vfDone g) s = .next (settleMoves (if s2.fld uClk F.clkVfCtrlTarget g = v.target then s2 else startVf s2 g)) := by
  subst hs2 hs1
  simp only [exec_vfDone, execVfDone, hv, hsettled, Bool.not_true, Bool.false_eq_true, if_false, apply_ite settleMoves,
    apply_ite Host.Outcome.next]

end

/-- Settles O35: a target starts the sequence its direction asks for, and a sequence ends by what the regulator answers. -/
theorem performancePointCommandsComplete : Obligations.PerformancePointCommandsComplete := by
  refine ⟨fun g target s s1 hs1 hbusy => exec_vfTarget_busy hs1 hbusy, ?raise, ?lower, ?fault, ?close, ?missed, ?retry, ?done, ?again⟩
  case raise =>
    rintro g target s s1 hs1 hidle t ht hraise _ rfl
    rw [exec_vfTarget_idle hs1 hidle, startVf_raise ht hraise]
    rfl
  case lower =>
    rintro g target s hg s1 hs1 hidle t ht hlower s2 hs2 _ rfl
    rw [exec_vfTarget_idle hs1 hidle, startVf_lower ht hg hlower hs2]
    rfl
  case fault =>
    intro g millivolt fault s v hv hunsettled want hwant close hclose hfault
    rw [exec_vfSettle_unsettled hv hunsettled hwant hclose, if_pos hfault]
  case close =>
    intro g millivolt fault s v hv hunsettled want hwant close hclose hfault hpins hnear
    rw [exec_vfSettle_unsettled hv hunsettled hwant hclose, if_neg (by simp [hfault, hpins]), if_pos hnear]
  case missed =>
    intro g millivolt fault s v hv hunsettled want hwant close hclose hfault hpins hfar hretried
    rw [exec_vfSettle_unsettled hv hunsettled hwant hclose, if_neg (by simp [hfault, hpins]), if_neg (by simp [hfar]), if_pos hretried]
  case retry =>
    intro g millivolt fault s v hv hunsettled want hwant close hclose hfault hpins hfar hretried
    rw [exec_vfSettle_unsettled hv hunsettled hwant hclose, if_neg (by simp [hfault, hpins]), if_neg (by simp [hfar]),
      if_neg (by simp [hretried])]
  case done =>
    intro g s v hv hsettled s1 hs1 s2 hs2 hsame
    rw [exec_vfDone_settled hv hsettled hs1 hs2, if_pos hsame]
  case again =>
    intro g s v hv hsettled s1 hs1 s2 hs2 hother
    rw [exec_vfDone_settled hv hsettled hs1 hs2, if_neg hother]

end Sys2Proof.Machine

/-! SUPPORT. The modes: CONTAIN and the oscillator fallbacks, DROWSE, DORMANT and SERVICE, resets and supplies, the boot ROM. -/

namespace Sys2Proof.Machine

open Sys2Proof

/-! ### Who may command a mode (R458, R490) -/

theorem toNat_ne_four {icls : BitVec 3} (h : icls ≠ 4) : icls.toNat ≠ 4 := fun h4 => h (BitVec.eq_of_toNat_eq h4)

theorem modeWriter_other {icls : BitVec 3} (h : icls ≠ 4) : modeWriter icls.toNat = false := beq_false_of_ne (toNat_ne_four h)

/-- Settles O58: each of these commands asks for ICLS 4 before anything else. -/
theorem modeCommandsNeedManagement : Obligations.ModeCommandsNeedManagement := by
  intro icls key slot s h
  have hw := modeWriter_other h
  refine ⟨?_, ?_, ?_, ?_, ?_, ?_, ?_, ?_⟩
  · simp only [exec_contain, execContain, hw, Bool.false_eq_true, if_false]
  · simp only [exec_resume, execResume, hw, Bool.false_eq_true, if_false]
  · simp only [exec_drowse, execDrowse, hw, Bool.not_false, if_true]
  · simp only [exec_wake, execWake, hw, Bool.false_eq_true, if_false]
  · simp only [exec_dormant, execDormant, hw, Bool.not_false, if_true]
  · rw [exec_resetSystemCmd, execResetSystemCmd, if_pos h]
  · rw [exec_resetManagementCmd, execResetManagementCmd, if_pos h]
  · rw [exec_measurementExtend, execMeasurementExtend, if_pos h]

section
variable {s : State}

theorem exec_contain_management : exec (.contain 4) s = .next ((commandContain s).answer .ok) := rfl

theorem exec_resume_management : exec (.resume 4) s = .next ((resumeMode s).answer .ok) := rfl

theorem exec_wake_management : exec (.wake 4) s = .next ((commandWake s).answer .ok) := rfl

/-! ### CONTAIN (R434, R452, R453, R454) -/

/-- A mode held while a transition into DROWSE is under way is the mode before it (R436, R453). -/
theorem enterContain_entered {cause prev : Nat} {under : Overlay} {s1 s2 : State} (hdormant : s.mode.dormant = false)
    (hoverlay : s.mode.overlay ≠ .contain)
    (hunder : under = if s.mode.overlay = .drowse ∧ !s.mode.moving.isEmpty ∧ !s.mode.exiting then .none else s.mode.overlay)
    (hprev : prev = ({ s with mode := { s.mode with overlay := under } } : State).modeNo)
    (hs1 : s1 = (((s.setFld uMgt F.mgtModePrev prev).setFld uMgt F.mgtModeStatusCause cause).setFld uMgt F.mgtModeStatusContained 1).setFld
      uMgt F.mgtModeStatusResumable (boolNat ((cause == 5 || cause == 6) && !s.mode.never)))
    (hs2 : s2 = stopDomains (cfgAbort (restDram (idlePcie (idleLanes s1)))) allDomains) :
    enterContain s cause = { s2 with
      clk := { s2.clk with halted := true }
      mode := { s2.mode with overlay := .contain, under := under, moving := [], exiting := false } } := by
  subst hs2 hs1 hprev hunder
  rw [enterContain, if_neg (by simp [hdormant, hoverlay])]

theorem commandContain_entered (hdormant : s.mode.dormant = false) (hoverlay : s.mode.overlay ≠ .contain) (hbusy : s.modeBusy = false) :
    commandContain s = enterContain s 5 := by
  rw [commandContain, if_neg (by simp [hdormant, hoverlay, hbusy])]

theorem commandContain_refused (h : s.mode.dormant = true ∨ s.mode.overlay = .contain ∨ s.modeBusy = true) :
    commandContain s = s.setFld uMgt F.mgtModeStatusRefused 1 := by
  rw [commandContain, if_pos h, modeRefuse]

theorem resumeMode_resumable {s1 s2 : State} (hoverlay : s.mode.overlay = .contain) (hdormant : s.mode.dormant = false)
    (hresumable : s.flag uMgt F.mgtModeStatusResumable = true) (hs1 : s1 = (restart s).setFld uMgt F.mgtModeStatusResumable 0)
    (hs2 : s2 = { s1 with mode := { s1.mode with overlay := s1.mode.under, under := .none } }) :
    resumeMode s = if s1.mode.under = .service then stopDomains s2 regionDomains else s2 := by
  subst hs2 hs1
  rw [resumeMode, if_neg (by simp [hoverlay, hdormant, hresumable])]

theorem resumeMode_refused
    (h : s.mode.overlay ≠ .contain ∨ s.mode.dormant = true ∨ s.flag uMgt F.mgtModeStatusResumable = false) :
    resumeMode s = s.setFld uMgt F.mgtModeStatusRefused 1 := by
  rw [resumeMode, if_pos (by simpa using h), modeRefuse]

theorem exec_containCause_thermal {c : BitVec 8} (hdormant : s.mode.dormant = false) (hcrit : s.fld uMgt F.mgtThermCrit ≤ c.toNat)
    (hoverlay : s.mode.overlay ≠ .contain) :
    exec (.containCause (.thermal c)) s = .next (enterContain (s.raise uMgt 0x0C c.toNat) 3) := by
  simp only [exec_containCause, execContainCause, hdormant, Nat.not_lt.2 hcrit, hoverlay, Bool.false_eq_true, or_self, if_false]

theorem exec_containCause_supply {rails : BitVec 7} {lost : NSet} {good : Nat} {s1 s2 : State} (hdormant : s.mode.dormant = false)
    (hrails : rails ≠ 0) (hpwr : s.mode.pwrReq = true)
    (hlost : lost = ((List.range 7).filter (fun i => rails.getLsbD i)).foldl NSet.add s.mode.lost)
    (hgood : good = s.fld uMgt F.mgtSupplyCore &&& (127 - rails.toNat))
    (hs1 : s1 = { s.setFld uMgt F.mgtSupplyCore good with mode := { s.mode with
      lost := lost, never := s.mode.never || lost.any (fun i => i < 5) } })
    (hs2 : s2 = if s1.mode.never then s1.setFld uMgt F.mgtModeStatusResumable 0 else s1) :
    exec (.containCause (.supply rails)) s = .next (enterContain s2 4) := by
  subst hs2 hs1 hgood hlost
  simp only [exec_containCause, execContainCause, hdormant, hrails, hpwr, Bool.not_true, Bool.false_eq_true, or_self, if_false]

/-! ### The oscillator fallbacks (R400, R401, R402, R403) -/

section
variable (hstart : s.clk.hfStart = true) (hstopped : s.flag uClk F.clkOscStatusHfRun = false) {s1 : State}
  (hs1 : s1 = { s.setFld uClk F.clkOscStatusHfRun 1 with clk := { s.clk with hfStart := false } })
include hstart hstopped hs1

theorem exec_hfSettle_endsFallback (hfallback : s.clk.fallback = true) (hbarred : s.clk.hfBarred = false)
    (hoverlay : s.mode.overlay ≠ .contain) {s2 : State}
    (hs2 : s2 = { s1.setFld uClk F.clkOscStatusSref 0 with clk := { s1.clk with fallback := false } }) :
    exec .hfSettle s = .next (showQual (restoreDomains s2)) := by
  subst hs2 hs1
  simp only [exec_hfSettle, execHfSettle, hstart, hstopped, hfallback, hbarred, bne_iff_ne.2 hoverlay, Bool.not_true, Bool.not_false,
    Bool.or_self, Bool.and_self, Bool.false_eq_true, if_false, if_true]

theorem exec_hfSettle_keepsFallback (hfallback : s.clk.fallback = true)
    (hbars : s.clk.hfBarred = true ∨ s.mode.overlay = .contain) : exec .hfSettle s = .next s1 := by
  have hstays : (!s.clk.hfBarred && s.mode.overlay != .contain) = false := by rcases hbars with h | h <;> simp [h]
  subst hs1
  simp only [exec_hfSettle, execHfSettle, hstart, hstopped, hfallback, hstays, Bool.not_true, Bool.or_self, Bool.true_and,
    Bool.false_eq_true, if_false, if_true]

theorem exec_hfSettle_noFallback (hfallback : s.clk.fallback = false) :
    exec .hfSettle s = .next (settleOsc { s1 with clk := { s1.clk with hfBarred := false } }) := by
  subst hs1
  simp only [exec_hfSettle, execHfSettle, hstart, hstopped, hfallback, Bool.not_true, Bool.or_self, Bool.false_and, Bool.false_eq_true,
    if_false]

end

theorem monitorTrips_noEdges : monitorTrips s none = true := rfl

theorem monitorTrips_count {n : Nat} {e : Int} (he : e = if s.flag uClk F.clkOscStatusHfRun then 500 else 1526)
    (hoff : (s.fld uClk F.clkMonTol : Int) * e < 1000 * ((n : Int) - e).natAbs) : monitorTrips s (some n) = true := by
  subst he
  refine decide_eq_true ?_
  cases hrun : s.flag uClk F.clkOscStatusHfRun <;> simp only [hrun, Bool.false_eq_true, if_false, if_true] at hoff ⊢ <;> exact_mod_cast hoff

section
variable {count : Option Nat} {s1 s2 : State} (hmon : s.flag uClk F.clkOscCtrlMonEn = true)
  (hqual : s.flag uClk F.clkOscStatusXtalQual = true) (htrips : monitorTrips s count = true)
  (hs1 : s1 = ((s.setFld uClk F.clkOscStatusXtalQual 0).setFld uClk F.clkOscStatusTrip 1).raise uClk 0x0B)
  (hs2 : s2 = if s.fld uClk F.clkOscCtrlTrimSrc = 1 then loseLock s1 else s1)
include hmon hqual htrips hs1 hs2

theorem exec_monitorTrip_switches (hsref : s.srefXtal = false ∨ s.flag uClk F.clkOscStatusHfRun = true) :
    exec (.monitorTrip count) s = .next (showQual (s2.setFld uClk F.clkOscStatusSref 0)) := by
  have hswitch : (!s.srefXtal || s.flag uClk F.clkOscStatusHfRun) = true := by rcases hsref with h | h <;> simp [h]
  subst hs2 hs1
  simp only [exec_monitorTrip, execMonitorTrip, hmon, hqual, htrips, hswitch, Bool.not_true, Bool.or_self, Bool.false_eq_true, if_false,
    if_true]

theorem exec_monitorTrip_stops (hsref : s.srefXtal = true) (hstopped : s.flag uClk F.clkOscStatusHfRun = false) {s3 : State}
    (hs3 : s3 = stopDomains s2 allDomains) : exec (.monitorTrip count) s =
      .next (showQual { s3 with clk := { s3.clk with fallback := true, hfStart := true, halted := true } }) := by
  subst hs3 hs2 hs1
  simp only [exec_monitorTrip, execMonitorTrip, hmon, hqual, htrips, hsref, hstopped, Bool.not_true, Bool.or_self, Bool.false_eq_true,
    if_false]

end

theorem exec_hfCheckFail_off {count : Nat} {s1 : State} (hrun : s.flag uClk F.clkOscStatusHfRun = true)
    (hoff : 3052 < 20 * ((count : Int) - 3052).natAbs) (hs1 : s1 = (s.setFld uClk F.clkOscStatusHffail 1).raise uClk 0x0B) :
    exec (.hfCheckFail count) s = .next (if s.srefXtal then
        { s1.setFld uClk F.clkOscStatusHfRun 0 with clk := { s1.clk with hfBarred := true, hfStart := false } }
      else enterContain s1 2) := by
  subst hs1
  simp only [exec_hfCheckFail, execHfCheckFail, hrun, Nat.not_le.2 hoff, decide_false, Bool.not_true, Bool.or_self, Bool.false_eq_true,
    if_false, apply_ite Host.Outcome.next]

end

/-- Settles O36: CONTAIN and its resume go by the mode and RESUMABLE, and a fallback by what SREF is and whether the HF oscillator runs. -/
theorem containCommandsComplete : Obligations.ContainCommandsComplete := by
  refine ⟨?entered, ?refused, ?resumed, ?resumedService, ?notResumed, ?thermal, ?supply, ?resumableSupply, ?resumableOther, ?lost,
    fun s hstart hstopped s1 hs1 hfallback hbarred hoverlay s2 hs2 =>
      exec_hfSettle_endsFallback hstart hstopped hs1 hfallback hbarred hoverlay hs2,
    ?settleKept, fun s hstart hstopped s1 hs1 _ hfallback => exec_hfSettle_noFallback hstart hstopped hs1 hfallback, ?switches, ?stops, ?timeout, ?barred,
    ?checkContain, ?selftest⟩
  case entered =>
    rintro icls s rfl hdormant hoverlay hbusy under hunder prev hprev s1 hs1 s2 hs2 _ rfl
    rw [exec_contain_management, commandContain_entered hdormant hoverlay hbusy,
      enterContain_entered hdormant hoverlay hunder hprev hs1 hs2]
  case refused =>
    rintro icls s rfl h
    rw [exec_contain_management, commandContain_refused h]
  case resumed =>
    rintro icls s rfl hoverlay hdormant hresumable s1 hs1 hunder
    rw [exec_resume_management, resumeMode_resumable hoverlay hdormant hresumable hs1 rfl, if_neg hunder]
  case resumedService =>
    rintro icls s rfl hoverlay hdormant hresumable s1 hs1 hunder
    rw [exec_resume_management, resumeMode_resumable hoverlay hdormant hresumable hs1 rfl, if_pos hunder, hunder]
  case notResumed =>
    rintro icls s rfl h
    rw [exec_resume_management, resumeMode_refused h]
  case thermal =>
    rintro _ s hdormant c rfl hcrit hoverlay
    exact exec_containCause_thermal hdormant hcrit hoverlay
  case supply =>
    rintro _ s hdormant rails rfl hrails hpwr lost hlost good hgood s1 hs1 s2 hs2
    exact exec_containCause_supply hdormant hrails hpwr hlost hgood hs1 hs2
  case resumableSupply =>
    rintro celsius s hoverlay hnever ok hok htrue _ rfl hcause
    simp only [exec_resumable, execResumable, hoverlay, hnever, hcause, ne_eq, not_true_eq_false, Bool.not_true, Bool.false_eq_true,
      or_self, if_false, if_true]
  case resumableOther =>
    rintro celsius s hoverlay hnever ok hok htrue _ rfl hcause
    rw [exec_resumable, execResumable, if_neg (by simp [hoverlay, hnever])]
    refine (if_neg ?_).trans (if_neg hcause)
    rw [Bool.not_eq_true', Bool.not_eq_false]
    exact hok.symm.trans htrue
  case lost =>
    intro c s hoverlay hout
    rw [exec_contentLost, execContentLost, if_neg (by simp [hoverlay, hout])]
  case settleKept =>
    intro s hstart hstopped s1 hs1 hbars hfallback
    exact exec_hfSettle_keepsFallback hstart hstopped hs1 hfallback (hbars.resolve_left (by simp [hfallback]))
  case switches =>
    rintro count s hmon hqual hcount s1 hs1 s2 hs2 hsref
    have htrips : monitorTrips s count = true := by
      rcases hcount with rfl | ⟨n, e, rfl, he, hoff⟩
      · exact monitorTrips_noEdges
      · exact monitorTrips_count he hoff
    exact exec_monitorTrip_switches hmon hqual htrips hs1 hs2 hsref
  case stops =>
    rintro count s hmon hqual hcount s1 hs1 s2 hs2 hsref hstopped s3 hs3
    have htrips : monitorTrips s count = true := by
      rcases hcount with rfl | ⟨n, rfl, hoff⟩
      · exact monitorTrips_noEdges
      · exact monitorTrips_count (e := 1526) (by rw [hstopped]; rfl) hoff
    exact exec_monitorTrip_stops hmon hqual htrips hs1 hs2 hsref hstopped hs3
  case timeout =>
    intro s hfallback
    rw [exec_fallbackTimeout, execFallbackTimeout, hfallback, if_neg (by simp)]
  case barred =>
    intro count s hrun hoff s1 hs1 hsref
    rw [exec_hfCheckFail_off hrun hoff hs1, if_pos hsref]
  case checkContain =>
    intro count s hrun hoff s1 hs1 hsref
    rw [exec_hfCheckFail_off hrun hoff hs1, if_neg (by simp [hsref])]
  case selftest =>
    rintro s hdormant hphase _ rfl
    rw [exec_selftestFail, execSelftestFail, if_neg (by simp [hdormant, hphase])]

/-! ### DROWSE, DORMANT and SERVICE (R434, R435, R450, R451, R455) -/

section
variable {s : State}

theorem exec_drowse_management :
    exec (.drowse 4) s = .next (if drowseRefused s then (modeRefuse s).answer .ok else (enterDrowse s).answer .ok) := by
  rw [apply_ite Host.Outcome.next]
  rfl

theorem exec_dormant_management :
    exec (.dormant 4) s = .next (if dormantRefused s then (modeRefuse s).answer .ok else (enterDormant s).answer .ok) := by
  rw [apply_ite Host.Outcome.next]
  rfl

section
variable {src : Fin 5} {noted : State} (hen : bitOf (s.fld uMgt F.mgtWakeEnSrc) src = true) (hoccurs : wakeOccurs s src = true)
  (hnoted : noted = s.setFld uMgt F.mgtWakeSrcSrc (withBit (s.fld uMgt F.mgtWakeSrcSrc) src true))
include hen hoccurs hnoted

theorem exec_wakeSource_dormant (hdormant : s.mode.dormant = true) (hpwr : s.mode.pwrReq = false) (hstrap : s.mode.strapWindow = false)
    (hsrc : src.val ≠ 4) {t : State} (ht : t = systemReset noted F.mgtResetCauseDormantExit) :
    exec (.wakeSource src) s = .next { t.setFld uClk F.clkOscStatusHfRun 1 with clk := { t.clk with hfStart := false } } := by
  subst ht hnoted
  simp only [exec_wakeSource, execWakeSource, hen, hoccurs, hdormant, hpwr, hstrap, beq_false_of_ne hsrc, Bool.not_true, Bool.or_self,
    Bool.false_eq_true, if_false, if_true]

theorem exec_wakeSource_drowse (hdormant : s.mode.dormant = false) (hdrowsing : s.drowsing = true) :
    exec (.wakeSource src) s = .next (leaveDrowse noted) := by
  subst hnoted
  simp only [exec_wakeSource, execWakeSource, hen, hoccurs, hdormant, hdrowsing, Bool.not_true, Bool.or_self, Bool.false_eq_true,
    if_false, if_true]

end

/-- SERVICE from a mode that may enter it: out of CONTAIN the device starts again first. -/
theorem exec_serviceEnter_entered {s1 : State} (hpresent : s.present = true)
    (hseal : s.flag uMgt F.mgtPresStatusSealBroken = false) (hdormant : s.mode.dormant = false)
    (hmode : s.modeNo = 1 ∨ s.modeNo = 3 ∨ s.modeNo = 6) (hbusy : s.modeBusy = false)
    (hs1 : s1 = stopDomains ((if s.mode.overlay = .contain then restart s else s).setFld uMgt F.mgtModePrev s.modeNo) regionDomains) :
    exec .serviceEnter s = .next { s1 with mode := { s1.mode with overlay := .service, under := .none } } := by
  have hfrom : (s.modeNo == 1 || s.modeNo == 3 || s.modeNo == 6) = true := by rcases hmode with h | h | h <;> simp [h]
  subst hs1
  simp only [exec_serviceEnter, execServiceEnter, enterService, hpresent, hseal, hdormant, hfrom, hbusy, Bool.not_true, Bool.not_false,
    Bool.and_self, Bool.or_self, Bool.false_eq_true, if_false, if_true]

end

/-- Settles O37: a mode command goes by its refusal, a wake source by the mode it finds, and a rail by its bank. -/
theorem sleepCommandsComplete : Obligations.SleepCommandsComplete := by
  refine ⟨?drowse, ?drowseRefused, ?wake, ?wakeRefused, ?dormant, ?dormantRefused, ?wakeDormant, ?wakeDrowse, ?service, ?serviceContain,
    ?user, ?bank, ?always⟩
  case drowse =>
    rintro icls s rfl hadmitted
    rw [exec_drowse_management, hadmitted, if_neg Bool.false_ne_true]
  case drowseRefused =>
    rintro icls s rfl hrefused
    rw [exec_drowse_management, if_pos hrefused, modeRefuse]
  case wake =>
    rintro icls s rfl hdrowsing hbusy
    rw [exec_wake_management, commandWake, hdrowsing, hbusy, if_neg (by simp)]
  case wakeRefused =>
    rintro icls s rfl hrefused
    rw [exec_wake_management, commandWake, if_pos (by simpa using hrefused), modeRefuse]
  case dormant =>
    rintro icls s rfl hadmitted
    rw [exec_dormant_management, hadmitted, if_neg Bool.false_ne_true]
  case dormantRefused =>
    rintro icls s rfl hrefused
    rw [exec_dormant_management, if_pos hrefused, modeRefuse]
  case wakeDormant =>
    rintro src s hen hoccurs hdormant hpwr hstrap hsrc noted hnoted t ht
    exact exec_wakeSource_dormant hen hoccurs hnoted hdormant hpwr hstrap hsrc ht
  case wakeDrowse =>
    rintro src s hen hoccurs noted hnoted hdormant hdrowsing
    exact exec_wakeSource_drowse hen hoccurs hnoted hdormant hdrowsing
  case service =>
    rintro s hpresent hseal hdormant hmode hoverlay hbusy s1 hs1
    exact exec_serviceEnter_entered hpresent hseal hdormant (hmode.imp_right .inl) hbusy (by rw [if_neg hoverlay, hs1])
  case serviceContain =>
    rintro s hpresent hseal hdormant hmode hoverlay hbusy s1 hs1
    exact exec_serviceEnter_entered hpresent hseal hdormant (.inr (.inr hmode)) hbusy (by rw [if_pos hoverlay, hmode, hs1])
  case user =>
    rintro bank good s _ rfl huser
    rw [exec_vccioChange, execVccioChange]
    exact if_pos huser
  case bank =>
    rintro bank good s _ rfl hlo hhi
    rw [exec_vccioChange, execVccioChange]
    exact (if_neg (Nat.not_lt.2 hlo)).trans (if_pos hhi)
  case always =>
    rintro bank good s _ rfl hlo hhi rfl
    rw [exec_vccioChange, execVccioChange]
    exact (if_neg (Nat.not_lt.2 hlo)).trans ((if_neg (Nat.not_lt.2 hhi)).trans (if_neg Bool.false_ne_true))

/-! ### Resets, straps and supplies (R438, R439, R440, R441, R442, R457) -/

section
variable {s : State}

theorem exec_systemReset_scheduled {t : State} (hreset : s.mode.reset = 2) (ht : t = systemReset s F.mgtResetCauseSysCmd) :
    exec .systemReset s = .next (if s.mode.overlay = .service then t.setFld uMgt F.mgtResetCauseServiceExit 1 else t) := by
  subst ht
  rw [exec_systemReset, execSystemReset, if_neg (not_not.2 hreset), apply_ite Host.Outcome.next]

theorem exec_managementReset_scheduled {recent : Nat} (hreset : s.mode.reset = 1) (hdormant : s.mode.dormant = false) :
    exec (.managementReset recent) s = .next (managementReset (s.setFld uMgt F.mgtResetCauseMgtCmd 1) recent) := by
  rw [exec_managementReset, execManagementReset, if_neg (by simp [hreset, hdormant])]

section
variable (hdormant : s.mode.dormant = true) (hpwr : s.mode.pwrReq = true)
include hdormant hpwr

theorem exec_groupBGood_waiting : exec .groupBGood s =
    .next (bootStart { s.setFld uMgt F.mgtSupplyCore 127 with mode := { s.mode with dormant := false } }) := by
  simp only [exec_groupBGood, execGroupBGood, hdormant, hpwr, Bool.not_true, Bool.or_self, Bool.false_eq_true, if_false]

theorem exec_supplyTimeout_waiting : exec .supplyTimeout s =
    .next { s.setFld uMgt F.mgtResetCauseSupplyTmo 1 with mode := { s.mode with pwrReq := false } } := by
  simp only [exec_supplyTimeout, execSupplyTimeout, hdormant, hpwr, Bool.not_true, Bool.or_self, Bool.false_eq_true, if_false]

end

end

/-- Settles O38: a pin reset goes by how long RESET_N is low, a scheduled reset by its kind, and a management reset by how many came before. -/
theorem resetCommandsComplete : Obligations.ResetCommandsComplete := by
  refine ⟨?pinShort, fun sealIntact s => exec_powerOnReset sealIntact s, ?pinLong, ?pinBetween, ?system, ?management, ?systemService,
    ?systemOther, fun s hdormant hpwr => exec_groupBGood_waiting hdormant hpwr, fun s hdormant hpwr => exec_supplyTimeout_waiting hdormant hpwr,
    ?strap, ?loop, ?restart⟩
  case pinShort =>
    intro lowNs s hshort
    rw [exec_pinReset, execPinReset, if_pos hshort]
  case pinLong =>
    intro lowNs s hlo hlong
    rw [exec_pinReset, execPinReset, if_neg (Nat.not_le.2 hlo), if_pos hlong]
  case pinBetween =>
    intro lowNs s hlo hhi
    rw [exec_pinReset, execPinReset, if_neg (Nat.not_le.2 hlo), if_neg (Nat.not_le.2 hhi), apply_ite Host.Outcome.next]
  case system =>
    rintro key icls s rfl rfl
    rfl
  case management =>
    rintro key icls s rfl rfl
    rfl
  case systemService =>
    intro s hreset t ht hservice
    rw [exec_systemReset_scheduled hreset ht, if_pos hservice]
  case systemOther =>
    intro s hreset t ht hother
    rw [exec_systemReset_scheduled hreset ht, if_neg hother]
  case strap =>
    rintro bootsrc pull node s hwindow _ rfl
    simp only [exec_strapSample, execStrapSample, hwindow, Bool.not_true, Bool.false_eq_true, if_false]
  case loop =>
    rintro recent s hreset hdormant hfifth _ rfl
    rw [exec_managementReset_scheduled hreset hdormant]
    exact congrArg Host.Outcome.next (if_pos hfifth)
  case restart =>
    rintro recent s hreset hdormant hfew _ rfl _ rfl _ rfl
    rw [exec_managementReset_scheduled hreset hdormant]
    exact congrArg Host.Outcome.next (if_neg (Nat.not_le.2 hfew))

/-! ### The boot ROM (R443, R444, R445, R447, R448, R449) -/

section
variable {s : State}

/-- A container handed over: it is loaded and measured, and opens the xSPI load only where it came from xSPI with no region ACTIVE. -/
theorem exec_handover_valid {container bs : List Byte} {n : Nat} {s1 s2 : State} (hdormant : s.mode.dormant = false)
    (hphase : s.bootPhase = 2 ∨ s.bootPhase = 4) (hbs : bs = if s.bootPhase = 4 then s.mode.container else container)
    (hvalid : fwValid s bs = true) (hlen : fwCodeLen bs = some n)
    (hs1 : s1 = { s with mode := { s.mode with code := (bs.drop 64).take n, container := [] } })
    (hs2 : s2 = measureFw ((s1.setFld uMgt F.mgtFwVersionLoVersion (fwField bs 16 4)).setFld uMgt F.mgtFwVersionHiVersion
      (fwField bs 20 4)) bs n) :
    exec (.handover container) s = .next ((if s.bootSrc = 0 ∧ s.bootPhase ≠ 4 ∧ s.anyActive = false then
        openFrom (((s2.wakeDom 154).setFld uCfg F.cfgXspiBaseAddr (fwField bs 12 4)).setFld uMgt F.mgtBootAutoload 1) 0 4 true
      else s2).setFld uMgt F.mgtBootPhase 5) := by
  subst hs2 hs1
  simp only [exec_handover, execHandover, hdormant, ← hbs, hphase, hvalid, handOver, hlen, Bool.not_eq_true', Bool.false_eq_true, and_self,
    if_false, if_true]

section
variable {p : Packet} {off : Nat} (hreq : isRequest p.op = true) (harrived : s.arrived p = true) (hmap : mapAddr p.a48 = .csr uMgt off)
  (hlo : 0x800000 ≤ off) (hhi : off < 0xA00000)
include hreq harrived hmap hlo hhi

theorem exec_bootWindowWrite_arrived : exec (.bootWindowWrite p) s = .next (bootWindow s p) := by
  simp only [exec_bootWindowWrite, execBootWindowWrite, hreq, harrived, hmap, hlo, hhi, Bool.not_true, Bool.or_self, Bool.false_eq_true,
    and_self, if_false, if_true]

end

section
variable {p : Packet} {bs : List Byte} (hop : p.op = opWrite) (henables : p.fullEnables = true) (hicls : p.icls = 2)
  (hphase : s.bootPhase = 4) (hbs : bs = s.mode.container ++ p.payload)
include hop henables hicls hphase hbs

theorem bootWindow_unknownLength (hroom : (if 8 ≤ bs.length then fwRoom bs else none) = none) :
    bootWindow s p = ({ s with mode := { s.mode with container := bs } } : State).reply p .ok := by
  subst hbs
  simp only [bootWindow, hop, henables, hicls, hphase, hroom, Bool.not_true, Bool.false_eq_true, ne_eq, not_true_eq_false, and_false,
    or_self, if_false]

theorem bootWindow_knownLength {room : Nat} (hlen : 8 ≤ bs.length) (hroom : fwRoom bs = some room) : bootWindow s p =
    if room < bs.length then s.reply p .tooLong else ({ s with mode := { s.mode with container := bs } } : State).reply p .ok := by
  subst hbs
  simp only [bootWindow, hop, henables, hicls, hphase, hlen, hroom, Bool.not_true, Bool.false_eq_true, ne_eq, not_true_eq_false, and_false,
    or_self, if_false, if_true]

end

end

/-- Settles O39: a handover goes by where its container came from, a failure by what was fetched, and the boot window by the length it knows. -/
theorem bootCommandsComplete : Obligations.BootCommandsComplete := by
  refine ⟨?handover, ?autoload, ?noContainer, ?badContainer, ?append, ?knownLength, ?autoflip⟩
  case handover =>
    intro container bs n s hdormant hphase hbs hvalid hlen s1 hs1 s2 hs2 hnot
    rw [exec_handover_valid hdormant hphase hbs hvalid hlen hs1 hs2, if_neg]
    rintro ⟨hsrc, hxspi, hnone⟩
    rcases hnot with h | h | h
    · exact h hsrc
    · exact hxspi h
    · exact Bool.false_ne_true (hnone.symm.trans h)
  case autoload =>
    intro container n s hdormant hphase hvalid hlen s1 hs1 s2 hs2 hsrc hnone
    have hxspi : s.bootPhase ≠ 4 := by omega
    rw [exec_handover_valid hdormant (.inl hphase) (by rw [if_neg hxspi]) hvalid hlen hs1 hs2, if_pos ⟨hsrc, hxspi, hnone⟩]
  case noContainer =>
    rintro _ s hdormant - rfl hphase
    simp only [exec_fwFail, execFwFail, hdormant, hphase, ne_eq, not_true_eq_false, Bool.false_eq_true, false_and, or_self, if_false,
      if_true]
  case badContainer =>
    rintro _ s hdormant hphase bs rfl bs' hbs' hcomplete hinvalid
    have hwaits : ¬(s.bootPhase ≠ 2 ∧ s.bootPhase ≠ 4) := by omega
    have hwhole : (s.bootPhase == 4 && !fwComplete bs') = false := by
      rw [Bool.and_eq_false_imp, beq_iff_eq]
      exact fun h => by rw [hcomplete h, Bool.not_true]
    simp only [exec_fwFail, execFwFail, hdormant, hwaits, ← hbs', hinvalid, hwhole, Bool.or_self, Bool.false_eq_true, or_self, if_false]
  case append =>
    intro p off s hreq harrived hmap hlo hhi hop henables hicls hphase bs hbs hroom
    rw [exec_bootWindowWrite_arrived hreq harrived hmap hlo hhi, bootWindow_unknownLength hop henables hicls hphase hbs hroom]
  case knownLength =>
    intro p off room s hreq harrived hmap hlo hhi hop henables hicls hphase bs hbs hlen hroom
    rw [exec_bootWindowWrite_arrived hreq harrived hmap hlo hhi, bootWindow_knownLength hop henables hicls hphase hbs hlen hroom]
  case autoflip =>
    intro s hen hset hclear hcal hoverlay
    rw [exec_autoflip, execAutoflip, if_neg (by simp [hen, hset, hclear, hcal, hoverlay])]

end Sys2Proof.Machine

/-! SUPPORT. The event distributor's commands, MGT_CORE_RUN and the watchdogs. -/

namespace Sys2Proof.Machine

open Sys2Proof

/-! ### Sources, claims and completions (R508-R514) -/

section
variable {s : State}

theorem exec_eventEdge_rising {n : BitVec 12} (hn : n.toNat < 2048) : exec (.eventEdge n true) s = .next (s.edge n.toNat) := by
  simp only [exec_eventEdge, execEventEdge, Nat.not_le.2 hn, if_false, if_true]

theorem exec_eventEdge_fabric {n : BitVec 12} {k : Nat} {fe : Bool} (v : Bool) (hk : k = n.toNat) (hn : 2048 ≤ k)
    (hfe : fe = feInput s ((k - 2048) / 16) (k % 16)) (hfollows : s.regionRuns ((k - 2048) / 16) = true ∨ fe = false) :
    exec (.eventEdge n v) s = .next (s.level k fe) := by
  have hacts : (s.regionRuns ((k - 2048) / 16) || !fe) = true := by rcases hfollows with h | h <;> simp [h]
  rw [hfe] at hacts
  subst hfe hk
  simp only [exec_eventEdge, execEventEdge, hn, hacts, if_true]

theorem exec_claim_read (t : Fin 65) (icls : BitVec 3) :
    exec (.claim t icls) s = .next ((claimRead s t icls.toNat).answer .ok (toLeBytes 4 (claimOf s t))) := by
  rw [exec_claim, execClaim]

theorem claimRead_peek {t : Nat} (hpeek : s.flag uDbg F.dbgCtrlPeek = true) : claimRead s t 3 = s := by
  rw [claimRead, if_pos ⟨rfl, hpeek⟩]

theorem claimRead_claims {t icls : Nat} (h : icls ≠ 3 ∨ s.flag uDbg F.dbgCtrlPeek = false) : claimRead s t icls = claim s t := by
  rw [claimRead, if_neg (by rcases h with h | h <;> simp [h])]

theorem claim_none {t : Nat} (h : claimOf s t = 0) : claim s t = s := by
  rw [claim]
  exact if_pos h

theorem claim_source {t n : Nat} {s1 : State} (hn : n = claimOf s t) (h0 : n ≠ 0) (hs1 : s1 = (s.setPend n false).setActive n true) :
    claim s t = { s1 with evt := { s1.evt with
      assigned := SMap.erase s1.evt.assigned n
      lastClaim := SMap.put s1.evt.lastClaim n t
      claimer := SMap.put s1.evt.claimer n t } } := by
  subst hs1 hn
  rw [claim]
  exact if_neg h0

theorem completeEvt_claimer {t n : Nat} {s1 s2 : State} (hactive : s.evtActive n = true) (hclaimer : SMap.find s.evt.claimer n = some t)
    (hs1 : s1 = s.setActive n false) (hs2 : s2 = { s1 with evt := { s1.evt with claimer := SMap.erase s1.evt.claimer n } }) :
    completeEvt s t n = (if s.evt.level.contains n then s2.setPend n true else s2).assignEvt n := by
  subst hs2 hs1
  simp only [completeEvt, hactive, hclaimer, beq_self_eq_true, Bool.and_self, if_true]

/-! ### Watchdogs (R515, R516) -/

theorem exec_watchdogKick_writer {i : Fin 33} {icls : BitVec 3} (key : Byte) (hwriter : wdWriter i icls.toNat = true) :
    exec (.watchdogKick i key icls) s = .next ((wdKick s i key.toNat).answer .ok) := by
  rw [exec_watchdogKick, execWatchdogKick, if_pos hwriter]

section
variable {i : Fin 33} (hcounts : wdCounts s i = true)
include hcounts

theorem exec_watchdogWarning_due (hdue : wdReload s i / 8 < wdCount s i) :
    exec (.watchdogWarning i) s = .next ((wdSetCount s i (wdReload s i / 8)).edge (48 + i.val)) := by
  rw [exec_watchdogWarning, execWatchdogWarning, if_pos (by simp [hcounts, hdue])]

theorem exec_watchdogExpire_counting {recent : Nat} {s1 : State} (hs1 : s1 = (wdSetCount s i s.fresh).draw) :
    exec (.watchdogExpire i recent) s = .next (if i.val < 32 then startCore (resetCore (s1.raise uEvt 0x0D i) i) i
      else managementReset ((s1.raise uMgt 0x0D i).setFld uMgt F.mgtResetCauseMgtWdog 1) recent) := by
  subst hs1
  simp only [exec_watchdogExpire, execWatchdogExpire, hcounts, Bool.not_true, Bool.false_eq_true, if_false, apply_ite Host.Outcome.next]

end

end

/-- Settles O40: an event goes by its source, a claim by what is assigned to the target, and a watchdog by whether it counts. -/
theorem eventCommandsComplete : Obligations.EventCommandsComplete := by
  refine ⟨?rising, ?fabric, fun n s => exec_eventReassign n s, fun num s => exec_swset num s, ?claimed, ?none, ?peek, ?completed, ?coreRun,
    ?kicked, ?ignored, fun i s hcounts hdue => exec_watchdogWarning_due hcounts hdue, ?worker, ?manager⟩
  case rising =>
    rintro n _ s _ rfl hn rfl
    exact exec_eventEdge_rising hn
  case fabric =>
    intro n v fe s k hk hn hfe hfollows
    exact exec_eventEdge_fabric v hk hn hfe hfollows
  case claimed =>
    intro t icls n s hclaims hn h0 s1 hs1
    rw [exec_claim_read, claimRead_claims hclaims, claim_source hn h0 hs1, ← hn]
  case none =>
    intro t icls s hclaims hzero
    rw [exec_claim_read, claimRead_claims hclaims, claim_none hzero, hzero]
  case peek =>
    rintro t _ s rfl hpeek
    exact (exec_claim_read t 3).trans (congrArg (fun u : State => Host.Outcome.next (u.answer .ok _)) (claimRead_peek hpeek))
  case completed =>
    rintro t n icls _ s hwriter rfl hactive hclaimer s1 hs1 s2 hs2
    rw [exec_completion, execCompletion, if_pos hwriter, completeEvt_claimer hactive hclaimer hs1 hs2]
  case coreRun =>
    rintro run _ s rfl _ rfl
    rw [exec_coreRun, execCoreRun, if_pos (by rfl), coreRunWrite]
  case kicked =>
    intro i icls s hwriter hthawed
    have hkey : (0x5A : Byte).toNat = 0x5A := rfl
    rw [exec_watchdogKick_writer _ hwriter, wdKick, if_pos ⟨hkey, by rw [hthawed]; rfl⟩]
  case ignored =>
    intro i key icls s hwriter hkey
    rw [exec_watchdogKick_writer _ hwriter, wdKick, if_neg (by simp [hkey])]
  case worker =>
    intro i recent s hcounts s1 hs1 hworker
    rw [exec_watchdogExpire_counting hcounts hs1, if_pos hworker]
  case manager =>
    intro i recent s hcounts s1 hs1 hmanager
    rw [exec_watchdogExpire_counting hcounts hs1, if_neg (Nat.not_lt.2 hmanager)]

end Sys2Proof.Machine

/-! SUPPORT. Debug: the key exchange, halts, registers, comparators and watches. -/

namespace Sys2Proof.Machine

open Sys2Proof

/-! ### The key exchange (R521) -/

section
variable {s : State}

theorem kxStart_drawn {soon : Bool} {d : Nat} {ch : List Byte} {s1 s2 s3 : State} (hkey : s.fuse.debugKey ≠ none)
    (hreturned : s.fuse.returned = false) (hwait : s.dbg.kxWrong = false ∨ soon = false)
    (hd : d = beBytes (s.freshBytes 48) % (Crypto.n384 - 1) + 1) (hs1 : s1 = s.drawBytes 48) (hch : ch = s1.freshBytes 48)
    (hs2 : s2 = s1.drawBytes 48) (hs3 : s3 = { s2 with dbg := { s2.dbg with kxKey := some d, kxChallenge := ch, kxWrong := false } }) :
    kxStart s soon = setKxBytes (setKxBytes s3 0 (uncompressed (Crypto.publicKey d))) 128 ch := by
  have hopen : (s.fuse.debugKey.isNone || s.fuse.returned || (s.dbg.kxWrong && soon)) = false := by
    rw [Option.isNone_eq_false_iff.2 (Option.isSome_iff_ne_none.2 hkey), hreturned]
    rcases hwait with h | h <;> simp [h]
  subst hs3 hs2 hch hs1 hd
  rw [kxStart, hopen, if_neg Bool.false_ne_true]

theorem kxAnswer_right {d : Nat} {a : List Byte} (hkey : s.dbg.kxKey = some d) (hauthority : s.fuse.debugKey = some a)
    (hanswer : kxBytes s 192 48 = kxExpected d a s.dbg.kxChallenge) : kxAnswer s false =
      ({ s with dbg := { s.dbg with kxKey := none, kxChallenge := [] } } : State).setFld uDbg F.dbgStatusSession 1 := by
  simp only [kxAnswer, hkey, hauthority, hanswer, beq_self_eq_true, Bool.not_false, Bool.and_self, if_true]

theorem kxAnswer_late {s1 : State} (hs1 : s1 = { s with dbg := { s.dbg with kxKey := none, kxChallenge := [], kxWrong := true } }) :
    kxAnswer s true = (s1.setFld uDbg F.dbgStatusKxFail 1).raise uDbg 0x14 := by
  subst hs1
  unfold kxAnswer
  cases s.dbg.kxKey <;> cases s.fuse.debugKey <;> rfl

end

/-! ### Halts and registers (R516, R520, R524, R525, R532) -/

section
variable {s : State} {i : Fin 33}

section
variable (hfull : dbgFull s i = true) (hhalted : halted s i = true)
include hfull hhalted

theorem exec_dbgResume_halted : exec (.dbgResume i) s = .next (((thawWatchdog s i).setFld uDbg F.dbgHstatHalted 0 i).answer .ok) := by
  simp only [exec_dbgResume, execDbgResume, resumeCore, hfull, hhalted, if_true]

theorem exec_dbgStep_halted (regs : List (BitVec 16 × Word64)) :
    exec (.dbgStep i regs) s = .next ((enterHalt (thawWatchdog s i) i 2 regs).answer .ok) := by
  simp only [exec_dbgStep, execDbgStep, stepCore, hfull, hhalted, if_true]

theorem exec_registerAccess_halted (write : Bool) (reg : BitVec 16) :
    exec (.registerAccess i write reg) s = .next ((registerAccess s i write reg.toNat).answer .ok) := by
  simp only [exec_registerAccess, execRegisterAccess, hfull, hhalted, Bool.and_self, if_true]

end

theorem registerAccess_write {i r : Nat} (hreg : isReg r = true) (h0 : r ≠ 0) :
    registerAccess s i true r = setCoreRegs s i (SMap.store 0 (coreRegs s i) r (regData s i)) := by
  simp only [registerAccess, hreg, h0, Bool.not_true, Bool.false_eq_true, if_false, if_true]

theorem registerAccess_writeZero (i : Nat) : registerAccess s i true 0 = s := rfl

theorem registerAccess_read {i r v : Nat} (hreg : isReg r = true) (hv : v = if r = 0 then 0 else (SMap.get 0 (coreRegs s i) r).toNat) :
    registerAccess s i false r = (s.setFld uDbg F.dbgRegdataLoData v i).setFld uDbg F.dbgRegdataHiData (v / 2 ^ 32) i := by
  subst hv
  simp only [registerAccess, hreg, Bool.not_true, Bool.false_eq_true, if_false]

section
variable (halive : coreAlive s i = true) (hrunning : halted s i = false)
include halive hrunning

theorem exec_dbgHalt_alive (regs : List (BitVec 16 × Word64)) (hfull : dbgFull s i = true) :
    exec (.dbgHalt i regs) s = .next ((enterHalt s i 1 regs).answer .ok) := by
  simp only [exec_dbgHalt, execDbgHalt, haltCore, hfull, halive, hrunning, Bool.not_false, Bool.and_self, if_true]

theorem exec_ebreakHalt_alive (regs : List (BitVec 16 × Word64)) (hen : s.flag uDbg F.dbgHctlEbreakEn i = true)
    (hfull : dbgFull s i = true) : exec (.ebreakHalt i regs) s = .next (enterHalt s i 5 regs) := by
  simp only [exec_ebreakHalt, execEbreakHalt, hen, hfull, halive, hrunning, Bool.not_false, Bool.and_self, if_true]

/-! ### Comparators and watches (R526) -/

variable (hsome : dbgSome s i = true)
include hsome

theorem exec_comparatorMatch_alive (pc : Word64) (acc : List (Bool × Word64)) (scontext : BitVec 16)
    (regs : List (BitVec 16 × Word64)) : exec (.comparatorMatch i pc acc scontext regs) s =
      .next (act s i 3 (cmpActions s i pc.toNat acc scontext.toNat) regs) := by
  simp only [exec_comparatorMatch, execComparatorMatch, hsome, halive, hrunning, Bool.not_true, Bool.or_self, Bool.false_eq_true, if_false]

theorem exec_watchMatch_matches {w : Fin 4} {pc : Word64} {write : Bool} {addr : Word64} {size : Fin 4} {value : Word64}
    {scontext : BitVec 16} (regs : List (BitVec 16 × Word64))
    (hmatch : watchMatches s i w pc.toNat write addr size value.toNat scontext.toNat = true) :
    exec (.watchMatch i w pc write addr size value scontext regs) s =
      .next (act s i 4 [s.fld uDbg F.dbgWcfgAction i w] regs) := by
  simp only [exec_watchMatch, execWatchMatch, hsome, halive, hrunning, hmatch, Bool.not_true, Bool.or_self, Bool.false_eq_true, if_false,
    if_true]

end

end

/-- Settles O42: the exchange goes by what was drawn and answered, and a command on a core by its level of debug and whether it is halted. -/
theorem debugCommandsComplete : Obligations.DebugCommandsComplete := by
  refine ⟨?start, ?answer, ?late, fun icls s => exec_kxClose icls s, fun s => exec_kxSessionTimeout s,
    fun i regs s hfull halive hrunning => exec_dbgHalt_alive halive hrunning regs hfull,
    fun i s hfull hhalted => exec_dbgResume_halted hfull hhalted, fun i regs s hfull hhalted => exec_dbgStep_halted hfull hhalted regs,
    fun i regs s hen hfull halive hrunning => exec_ebreakHalt_alive halive hrunning regs hen hfull, ?write, ?writeZero, ?read,
    fun i pc acc scontext regs s hsome halive hrunning => exec_comparatorMatch_alive halive hrunning hsome pc acc scontext regs,
    fun i w pc write addr size value scontext regs s hsome halive hrunning hmatch =>
      exec_watchMatch_matches halive hrunning hsome regs hmatch⟩
  case start =>
    intro soon icls s hkey hreturned hwait d hd s1 hs1 ch hch s2 hs2 s3 hs3
    rw [exec_kxStart, execKxStart, kxStart_drawn hkey hreturned hwait hd hs1 hch hs2 hs3]
  case answer =>
    rintro icls d a s hkey hauthority hanswer _ rfl
    rw [exec_kxAnswer, execKxAnswer, kxAnswer_right hkey hauthority hanswer]
  case late =>
    intro icls s s1 hs1
    rw [exec_kxAnswer, execKxAnswer, kxAnswer_late hs1]
  case write =>
    rintro i reg _ s hfull hhalted rfl hreg h0
    rw [exec_registerAccess_halted hfull hhalted, registerAccess_write hreg h0]
  case writeZero =>
    intro i s hfull hhalted
    exact exec_registerAccess_halted hfull hhalted true 0
  case read =>
    rintro i reg _ s hfull hhalted rfl hreg v hv
    rw [exec_registerAccess_halted hfull hhalted, registerAccess_read hreg hv]

end Sys2Proof.Machine

/-! SUPPORT. The pins: function switches, GPIO writes, pattern-match units and the monitor ADC. -/

namespace Sys2Proof.Machine

open Sys2Proof

/-! ### Function switches (R545) -/

section
variable {i : Fin 192} {pads : BitVec 192} {s s1 : State} (hawake : s.bankAsleep i = false) (hs1 : s1 = setPinPads s pads)
include hawake hs1

theorem exec_functionSwitch_second {h : Nat} (hhold : SMap.find s1.pin.hold i = some h) : exec (.functionSwitch i true pads) s =
    .next (noteConflicts { s1 with pin := { s1.pin with hold := SMap.erase s1.pin.hold i, func := SMap.erase s1.pin.func i } }) := by
  subst hs1
  simp only [exec_functionSwitch, execFunctionSwitch, hawake, hhold, Option.isNone_some, Bool.false_eq_true, if_false, if_true]

theorem exec_functionSwitch_first {f : Nat} (hfunc : SMap.find s1.pin.func i = some f) (hhold : SMap.find s1.pin.hold i = none) :
    exec (.functionSwitch i false pads) s =
      .next (noteConflicts { s1 with pin := { s1.pin with hold := SMap.put s1.pin.hold i (driveCode (padDrive s1 i)) } }) := by
  subst hs1
  simp only [exec_functionSwitch, execFunctionSwitch, hawake, hfunc, hhold, Option.isSome_some, Option.isNone_none, Bool.and_self,
    Bool.false_eq_true, if_false, if_true]

end

/-! ### Pattern-match units (R549) -/

section
variable {b : Fin 5} {k : Fin 8} {pads : Word32} {s s1 s2 : State} {kept : List Nat} {was now : Bool} {mode : Nat}
  (hdom : s.dom 158 = domRun) (hen : s.flag uPin F.pinPmCtrlEn b k = true) (hkept : kept = s.pin.pads.filter (fun i => i / 32 ≠ b.val))
  (hs1 : s1 = { s with pin := { s.pin with
    pads := ((List.range 32).filter (fun t => pads.getLsbD t)).foldl (fun l t => NSet.add l (b * 32 + t)) kept, tick := false } })
  (hwas : was = s1.pin.cond.contains (b * 8 + k)) (hnow : now = pmCondition s1 b k) (hnew : now ≠ was) (hs2 : s2 = pmStart s1 b k)
  (hmode : mode = s2.fld uPin F.pinPmCtrlMode b k)
include hdom hen hkept hs1 hwas hnow hnew hs2 hmode

/-- A condition that has changed starts the unit again, and the unit fires where MODE selects the edge. -/
theorem exec_patternFire_changed {s3 : State}
    (hs3 : s3 = s2.setFld uPin F.pinPmStatFired (withBit (s2.fld uPin F.pinPmStatFired b) k true) b) :
    exec (.patternFire b k pads) s =
      .next (if mode = 2 ∨ (mode = 1 ∧ now = false) ∨ (mode ≠ 1 ∧ now = true) then
        if s3.flag uPin F.pinPmCtrlSwen b k then pmSwset s3 b k else s3
      else s2) := by
  subst hs3 hmode hs2
  rw [hnow, hwas] at hnew
  subst hwas hnow hs1 hkept
  simp only [exec_patternFire, execPatternFire, hdom, hen, hnew, ne_eq, not_true_eq_false, Bool.not_true, Bool.not_eq_true',
    Bool.false_eq_true, or_self, if_false, apply_ite Host.Outcome.next]

end

/-- Settles O32: a switch goes by its instant, a GPIO write by who owns each pin, and a pattern-match unit by the edge of its condition. -/
theorem pinCommandsComplete : Obligations.PinCommandsComplete := by
  refine ⟨fun i pads h s s1 hawake hs1 hhold => exec_functionSwitch_second hawake hs1 hhold,
    fun i pads f s s1 hawake hs1 hfunc hhold => exec_functionSwitch_first hawake hs1 hfunc hhold, ?gpio, ?fires, ?firesSilent, ?quiet, ?adc⟩
  case gpio =>
    intro bank oe value icls src s u hu f hf k hk new hnew s1 hs1
    simp only [exec_gpioWrite, execGpioWrite, gpioWrite, ← hu, ← hf, ← hk, ← hnew, ← hs1]
  case fires =>
    intro b k pads s hdom hen kept hkept s1 hs1 was hwas now hnow hnew s2 hs2 mode hmode hedge s3 hs3 hswen
    rw [exec_patternFire_changed hdom hen hkept hs1 hwas hnow hnew hs2 hmode hs3, if_pos hedge, if_pos hswen, pmSwset, pmCode]
  case firesSilent =>
    intro b k pads s hdom hen kept hkept s1 hs1 was hwas now hnow hnew s2 hs2 mode hmode hedge s3 hs3 hswen
    rw [exec_patternFire_changed hdom hen hkept hs1 hwas hnow hnew hs2 hmode hs3, if_pos hedge, hswen, if_neg Bool.false_ne_true]
  case quiet =>
    intro b k pads s hdom hen kept hkept s1 hs1 was hwas now hnow hnew s2 hs2 mode hmode hboth hrising hfalling
    rw [exec_patternFire_changed hdom hen hkept hs1 hwas hnow hnew hs2 hmode rfl, if_neg]
    rintro (h2 | ⟨h1, hlow⟩ | ⟨h1, hhigh⟩)
    · exact hboth h2
    · exact Bool.false_ne_true (hlow.symm.trans (hrising.resolve_left (not_not.2 h1)))
    · exact Bool.false_ne_true ((hfalling.resolve_left h1).symm.trans hhigh)
  case adc =>
    rintro code s _ rfl _ rfl _ rfl
    exact exec_adcConversion code s

end Sys2Proof.Machine

/-! SUPPORT. The records of the dictionary: reads, writes and segmented transfers. -/

namespace Sys2Proof.Machine

open Sys2Proof

/-! ### The command that serves the oldest request (R467, R471) -/

section
variable {s s0 : State} {q : DictReq} (h : ServesFirst s q s0)
include h

theorem exec_objectRead_first (e : DictEnv) (hcs : recCs q.record = 1) : exec (.objectRead e) s = .next (serve s e) := by
  rw [exec_objectRead, execObjectRead, headReq_first h, headCs_first h, hcs]
  rfl

theorem exec_objectWrite_first (e : DictEnv) (hcs : recCs q.record = 2) : exec (.objectWrite e) s = .next (serve s e) := by
  rw [exec_objectWrite, execObjectWrite, headCs_first h, hcs]
  rfl

theorem exec_segRead_first (e : DictEnv) (hcs : recCs q.record = 3) : exec (.segRead e) s = .next (serve s e) := by
  rw [exec_segRead, execSegRead, headCs_first h, hcs]
  rfl

theorem exec_segWrite_first (hcs : recCs q.record = 4) : exec .segWrite s = .next (serve s quiet) := by
  rw [exec_segWrite, execSegWrite, headCs_first h, hcs]
  rfl

theorem exec_segment_first (e : DictEnv) (hcs : recCs q.record = 5) : exec (.segment e) s = .next (serve s e) := by
  rw [exec_segment, execSegment, headCs_first h, hcs]
  rfl

theorem exec_recordAbort_first (hcs : recCs q.record = 7) : exec .recordAbort s = .next (serve s quiet) := by
  rw [exec_recordAbort, execRecordAbort, headCs_first h, hcs]
  rfl

/-- A SEGMENT of an open transfer, served. -/
theorem serve_segment {e : DictEnv} {x : Xfer} (hcs : recCs q.record = 5) (hsilent : (s0.ses q.session).silent = false)
    (hx : (s0.ses q.session).xfer = some x) {r : State × List Byte} (hr : segment s0 q.session e q.via q.record x = r) :
    serve s e = answered r.1 q r.2 := by
  rw [serve_first h, performRecord_segment (bootPhase_first h) hcs hsilent hx, hr]

end

/-! ### The next segment of a transfer (R468, R472) -/

section
variable {s t : State} {n k need : Nat} {e : DictEnv} {via : DictVia} {req : List Byte} {x y : Xfer} (hk : k = recArg req)
  (hnext : k = x.last + 1) (hlast : k ≤ (x.total + x.room - 1) / x.room)
include hk hnext hlast

theorem segment_read (hread : x.write = false) {rsp : List Byte} (hrsp : rsp = rspRecord req 0x85 k
    ((x.data.drop ((k - 1) * x.room)).take (min x.room (x.total - (k - 1) * x.room)))) :
    segment s n e via req x = (s.setSes n { s.ses n with xfer := some { x with last := k, rsp := rsp } }, rsp) := by
  have hnew : k ≠ x.last := by omega
  subst hrsp
  simp only [segment, ← hk, hnew, ← hnext, Nat.not_lt.2 hlast, hread, ne_eq, not_true_eq_false, Bool.false_eq_true, false_and, or_self,
    if_false]

section
variable (hwrite : x.write = true) (hneed : need = min x.room (x.total - (k - 1) * x.room)) (hgot : need ≤ (req.drop 8).length)
  (hzeros : ((req.drop 8).drop need).any (· != 0) = false)
  (hy : y = { x with last := k, data := x.data ++ (req.drop 8).take need, rsp := rspRecord req 0x85 k })
include hwrite hneed hgot hzeros hy

/-- A segment of a write is kept; after the last the value is written whole. -/
theorem segment_write : segment s n e via req x =
    if k = (x.total + x.room - 1) / x.room then finishWrite s n e req y
    else (s.setSes n { s.ses n with xfer := some y }, rspRecord req 0x85 k) := by
  have hnew : k ≠ x.last := by omega
  subst hy hneed
  simp only [segment, ← hk, hnew, ← hnext, Nat.not_lt.2 hlast, hwrite, Nat.not_lt.2 hgot, hzeros, ne_eq, not_true_eq_false,
    Bool.and_false, Bool.false_eq_true, false_and, or_self, if_false, if_true]

end

end

/-- The value of a transfer written whole, where neither presence nor a presence unlock is asked for again (R468, R483). -/
theorem finishWrite_written {s t : State} {n : Nat} {e : DictEnv} {req : List Byte} {y : Xfer} {o : ObjSub}
    (hfind : findSub s n e y.index y.sub = .ok o) (hacc : o.acc ≠ .rwp) (hdata : y.data ≠ [1])
    (hwritten : writeValue s n e y.index y.sub o y.data = (t, none)) (hrsp : y.rsp = rspRecord req 0x85 (recArg req)) :
    finishWrite s n e req y = (t.setSes n { t.ses n with xfer := some y }, rspRecord req 0x85 (recArg req)) := by
  simp only [finishWrite, hfind, hacc, hdata, and_false, or_self, if_false, hwritten, ← hrsp]

/-- Settles O52: a request served for the first time is performed by its CS, and a segment by the direction of its transfer. -/
theorem dictionaryRecordsComplete : Obligations.DictionaryRecordsComplete := by
  refine ⟨?read, ?write, ?segRead, ?segWrite, ?segmentRead, ?segmentWrite, ?segmentLast, ?abort, ?timeout⟩
  case read =>
    rintro e q o bs s0 t s h _ rfl hcs hfind hacc hvalue hfits
    rw [exec_objectRead_first h e hcs, serve_read h rfl hcs rfl rfl hfind hacc hvalue hfits]
  case write =>
    rintro e q o s0 t s h _ rfl hcs hadmit hroom hwritten
    rw [exec_objectWrite_first h e hcs, serve_write h rfl hcs rfl rfl rfl hadmit hroom hwritten]
  case segRead =>
    rintro e q o bs s0 t s h _ rfl hcs hfind hacc hvalue hsome
    rw [exec_segRead_first h e hcs, serve_first h, performRecord_segRead (bootPhase_first h) hcs hfind hacc hvalue hsome]
  case segWrite =>
    rintro q o s0 s h _ rfl hcs hsome hadmit
    rw [exec_segWrite_first h hcs, serve_first h, performRecord_segWrite (bootPhase_first h) hcs hadmit hsome]
  case segmentRead =>
    intro e q x k s0 s h hcs hsilent hx hread hk hnext hlast rsp hrsp
    rw [exec_segment_first h e hcs, serve_segment h hcs hsilent hx (segment_read hk hnext hlast hread hrsp)]
  case segmentWrite =>
    rintro e q x k need s0 s h hcs hsilent hx hwrite hk hnext hmore hneed hgot hzeros _ rfl
    have hsegment := (segment_write (s := s0) (n := q.session) (e := e) (via := q.via) hk hnext hmore.le hwrite hneed hgot hzeros rfl).trans
      (if_neg hmore.ne)
    rw [exec_segment_first h e hcs, serve_segment h hcs hsilent hx hsegment]
  case segmentLast =>
    rintro e q x y o k need s0 t s h hcs hsilent hx hwrite hk hnext hlast hneed hgot hzeros _ rfl hy hfind hacc hdata hwritten
    have hsame : y.index = x.index ∧ y.sub = x.sub ∧ y.rsp = rspRecord q.record 0x85 (recArg q.record) := by
      rw [hy, hk]
      exact ⟨rfl, rfl, rfl⟩
    obtain ⟨hindex, hsub, hrsp⟩ := hsame
    rw [← hindex, ← hsub] at hfind hwritten
    have hsegment := ((segment_write (s := s0) (n := q.session) (e := e) (via := q.via) hk hnext hlast.le hwrite hneed hgot hzeros hy).trans
      (if_pos hlast)).trans (finishWrite_written hfind hacc hdata hwritten hrsp)
    rw [exec_segment_first h e hcs, serve_segment h hcs hsilent hx hsegment, hk]
  case abort =>
    rintro q s0 s h _ rfl hcs
    rw [exec_recordAbort_first h hcs, serve_first h, performRecord_abort (bootPhase_first h) hcs]
  case timeout =>
    intro session s x hx hopen
    simp only [exec_transferTimeout, execTransferTimeout, hx, hopen, if_true]

end Sys2Proof.Machine

/-! SUPPORT. The security objects: keys, challenges, attestation, return preparation, presence, seal and measurements. -/

namespace Sys2Proof.Machine

open Sys2Proof

/-! ### Writes that are admitted (R474) -/

section
variable {s : State} {n index sub len : Nat} {e : DictEnv} {first : Byte} {a : ObjAct} {bs : List Byte}

theorem admitWrite_wo {lo hi : Nat} (hfind : findSub s n e index sub = .ok (actSub lo hi .wo a bs)) (ha : a ≠ .unlock) (hlo : lo ≤ len)
    (hhi : len ≤ hi) : admitWrite s n e index sub len first = .ok (actSub lo hi .wo a bs) := by
  unfold admitWrite
  rw [hfind]
  simp [accessCheck, actSub, lengthCheck, ha, Nat.not_lt.2 hlo, Nat.not_lt.2 hhi]

/-- A write of one byte to the unlock needs presence only where it is 1 (R485, R486). -/
theorem admitWrite_unlock (hpresence : first = 1 → presenceCheck s = none) : admitWrite s n e 0xA003 3 1 first =
    .ok (actSub 1 1 .rw .unlock [BitVec.ofNat 8 (boolNat (s.ses n).unlocked)]) := by
  unfold admitWrite
  rw [findSub_unlock]
  by_cases hfirst : first = 1
  · simp [accessCheck, actSub, lengthCheck, hfirst, hpresence hfirst]
  · have hnone : ¬ first = 1#8 := hfirst
    simp [accessCheck, actSub, lengthCheck, hnone]

end

/-- The first byte of a record's value. -/
theorem getD_eight_of_take_one {l : List Byte} {b : Byte} (h : (l.drop 8).take 1 = [b]) : l.getD 8 0 = b := by
  cases hd : l.drop 8 with
  | nil => simp [hd] at h
  | cons c r =>
    obtain rfl : c = b := by simpa [hd] using h
    have h8 : l[8]? = some c := by rw [← List.head?_drop, hd]; rfl
    rw [List.getD, h8]
    rfl

/-! ### What each write does (R485, R487, R488, R489, R573) -/

section
variable {s : State} {n : Nat} {e : DictEnv}

theorem actWrite_keyHash {k : Nat} {data : List Byte} (hk : k = s.selOf n 0xA001 1) (hfree : keySlotState s k = 0) :
    actWrite s n e .keyHash data =
      ({ s with fuse := { s.fuse with slots := SMap.put s.fuse.slots k (BitVec.ofNat 384 (beBytes data)) } }, none) := by
  subst hk
  simp only [actWrite, hfree, if_true]

theorem actWrite_revoke {k : Nat} (hk : k = s.selOf n 0xA001 1) (hother : ∃ j < 4, j ≠ k ∧ keySlotState s j = 1) :
    actWrite s n e .revoke [0x52] = ({ s with fuse := { s.fuse with revoked := NSet.add s.fuse.revoked k } }, none) := by
  obtain ⟨j, hj, hne, hvalid⟩ := hother
  have hany : (List.range 4).any (fun j => j != k && keySlotState s j == 1) = true :=
    List.any_eq_true.2 ⟨j, List.mem_range.2 hj, by simp [hne, hvalid]⟩
  have hv : leBytes [0x52] = 0x52 := rfl
  subst hk
  simp only [actWrite, hv, revokeSlot, hany, if_true]

theorem actWrite_expertKey {data : List Byte} (hnone : s.fuse.expert = none) : actWrite s n e .expertKey data =
    ({ s with fuse := { s.fuse with expert := some (BitVec.ofNat 384 (beBytes data)) } }, none) := by
  simp only [actWrite, hnone, Option.isSome_none, Bool.false_eq_true, if_false]

theorem answerChallenge_right {key c : BitVec 384} {data : List Byte} (hkey : s.fuse.expert = some key)
    (hreturned : s.fuse.returned = false) (hc : (s.ses n).challenge = some c) (htime : e.late = false)
    (hdata : data = Crypto.hmac384 (toBeBytes 48 key.toNat) (toBeBytes 48 c.toNat ++ uid ++ [BitVec.ofNat 8 n])) :
    answerChallenge s n e data = (s.setSes n { s.ses n with challenge := none, unlocked := true }, none) := by
  subst hdata
  simp only [answerChallenge, hkey, hreturned, hc, htime, beq_self_eq_true, Bool.not_false, Bool.and_self, Bool.false_eq_true, if_false,
    if_true]

theorem challenge_drawn {c : List Byte} {t : State} (hwait : s.dict.wrong = false ∨ e.soon = false) (hc : c = s.freshBytes 48)
    (ht : t = { s.drawBytes 48 with dict := { s.dict with wrong := false } }) : challenge s n e =
      (t.setSes n { t.ses n with challenge := some (BitVec.ofNat 384 (beBytes c)) }, .ok c) := by
  have hmay : (s.dict.wrong && e.soon) = false := by rcases hwait with h | h <;> simp [h]
  subst ht hc
  rw [challenge, hmay, if_neg Bool.false_ne_true]

theorem returnPrepare_begun {steps : Nat} {t : State} (hmode : s.modeNo = 7) (ht : t = returnSteps s ((List.range steps).map (· + 1))) :
    returnPrepare s steps = ({ t with mode := { t.mode with reset := if t.fuse.returned then 2 else t.mode.reset } }, none) := by
  subst ht
  rw [returnPrepare, if_neg (not_not.2 hmode)]

theorem returnSteps_all_returned : (returnSteps s [1, 2, 3, 4, 5]).fuse.returned = true := rfl

end

/-! ### A request that writes or reads a security object, served for the first time -/

section
variable {s s0 s1 t : State} {q : DictReq} {index sub len : Nat} {data : List Byte} (h : ServesFirst s q s0) (hs1 : s1 = closeXfer s0 q.session)
include h hs1

section
variable (hcs : recCs q.record = 2) (hindex : recIndex q.record = index) (hsub : recSub q.record = sub) (hlen : recArg q.record = len)
  (hdata : data = (q.record.drop 8).take len)
include hcs hindex hsub hlen hdata

/-- A write that needs presence and acts. -/
theorem serve_actWrite_rwp {a : ObjAct} {bs : List Byte} (hfind : findSub s1 q.session quiet index sub = .ok (actSub len len .rwp a bs))
    (hpresence : presenceCheck s1 = none) (hroom : len ≤ 56) (hacts : actWrite s1 q.session quiet a data = (t, none)) :
    serve s quiet = answered t q (rspRecord q.record 0x82 0) := by
  subst hdata
  exact serve_write h hs1 hcs hindex hsub hlen (admitWrite_rwp hfind hpresence) (rmax_room _ hroom) hacts

end

section
variable (hcs : recCs q.record = 2) (hindex : recIndex q.record = 0xA003) (hsub : recSub q.record = 3) (hlen : recArg q.record = 1)
include hcs hindex hsub hlen

/-- A write of 0 or 1 to the unlock. -/
theorem serve_unlock {b : Byte} (hvalue : (q.record.drop 8).take 1 = [b]) (hone : leBytes [b] ≤ 1)
    (hpresence : b = 1 → presenceCheck s1 = none) : serve s quiet = answered
      (s1.setSes q.session { s1.ses q.session with unlocked := leBytes [b] == 1 }) q (rspRecord q.record 0x82 0) := by
  have hfirst := getD_eight_of_take_one hvalue
  refine serve_write h hs1 hcs hindex hsub hlen (admitWrite_unlock (hfirst ▸ hpresence)) (rmax_room _ (by decide)) ?_
  rw [hvalue]
  simp only [writeValue, actSub, actWrite, hone, if_true]

end

end

/-! ### Return preparation cut short (R573, R574) -/

section
variable {s : State} {q : DictReq} {rest : List DictReq} (hserving : s.serving = true) (hqueue : s.dict.queue = q :: rest)
  (hcs : recCs q.record = 2)
include hserving hqueue hcs

theorem headIs_write_queue {index sub : Nat} (hindex : recIndex q.record = index) (hsub : recSub q.record = sub) :
    headIs s true index sub = true := by
  have hhead : s.headReq = some q := by rw [State.headReq, if_pos hserving, hqueue]; rfl
  simp [headIs, hhead, hcs, hindex, hsub]

theorem exec_returnPreparation_cut {steps : Fin 6} {t : State} (hindex : recIndex q.record = 0xA0F0) (hsub : recSub q.record = 1)
    (hlen : recArg q.record = 1) (hfirst : q.record.getD 8 0 = 0x52) (hpresence : presenceCheck s = none) (hmode : s.modeNo = 7)
    (hreturned : s.fuse.returned = false) (hsteps : steps.val < 5)
    (ht : t = returnSteps { s with dict := { s.dict with queue := rest } } ((List.range steps).map (· + 1))) :
    exec (.returnPreparation steps) s = .next t := by
  have hhead := headIs_write_queue hserving hqueue hcs hindex hsub
  have hadmit := admitWrite_rwp (first := 0x52) (findSub_returnPrep s q.session quiet) hpresence
  have hopen : t.fuse.returned = false := by
    rw [ht, returnSteps_returned _ (by simp; omega)]
    exact hreturned
  simp only [exec_returnPreparation, execReturnPreparation, hhead, hqueue, hlen, hadmit, hcs, hfirst, hsteps.ne, Bool.not_true,
    Bool.false_eq_true, and_self, if_false, if_true,
    returnPrepare_begun (s := { s with dict := { s.dict with queue := rest } }) hmode ht, hopen]

end

/-- Settles O53: a write or read of a security object goes by its subindex, a return preparation by the steps it reaches, and the presence,
seal and measurement commands by what they find. -/
theorem securityObjectsComplete : Obligations.SecurityObjectsComplete := by
  refine ⟨?provision, ?revoke, ?wrap, ?expert, ?challenge, ?answer, ?unlock, ?lock, ?attest, ?returned, ?cut, ?pressed, ?risen,
    fun s => exec_presenceExpire s, ?sealBroken, fun session s => exec_unlockExpire session s, ?completion, ?extended, ?extendRefused⟩
  case provision =>
    intro q k s0 s h s1 hs1 hcs hindex hsub hlen d hd hpresence hk hfree
    rw [exec_keySlotProvision, execKeySlotProvision, if_pos (headIs_write h hcs hindex hsub), serve_actWrite_rwp h hs1 hcs hindex hsub hlen hd
      (findSub_keyHash s1 _ _) hpresence (by decide) (actWrite_keyHash hk hfree)]
  case revoke =>
    intro q k s0 s h s1 hs1 hcs hindex hsub hlen hvalue hpresence hk hother
    rw [exec_keySlotRevoke, execKeySlotRevoke, if_pos (headIs_write h hcs hindex hsub), serve_actWrite_rwp h hs1 hcs hindex hsub hlen
      hvalue.symm (findSub_revoke s1 _ _) hpresence (by decide) (actWrite_revoke hk hother)]
  case wrap =>
    intro q s0 s h s1 hs1 hcs hindex hsub hlen d hd hpresence
    rw [exec_keyWrap, execKeyWrap, if_pos (headIs_write h hcs hindex hsub), serve_actWrite_rwp h hs1 hcs hindex hsub hlen hd
      (findSub_wrapKey s1 _ _) hpresence (by decide) rfl]
  case expert =>
    intro q s0 s h s1 hs1 hcs hindex hsub hlen d hd hpresence hnone
    rw [exec_expertKeyWrite, execExpertKeyWrite, if_pos (headIs_write h hcs hindex hsub), serve_actWrite_rwp h hs1 hcs hindex hsub hlen hd
      (findSub_expertKey s1 _ _) hpresence (by decide) (actWrite_expertKey hnone)]
  case challenge =>
    intro e q s0 s h s1 hs1 hcs hindex hsub hwait c hc hlen t ht
    rw [exec_challengeRead, execChallengeRead, if_pos (headIs_read h hcs hindex hsub), serve_read h hs1 hcs hindex hsub
      (findSub_challenge s1 _ e) nofun (challenge_drawn hwait hc ht) (by rw [hlen]; exact rmax_room _ (by decide)), hlen]
  case answer =>
    intro e q key c s0 s h s1 hs1 hcs hindex hsub hlen hkey hreturned hc htime hdata
    rw [exec_challengeAnswer, execChallengeAnswer, if_pos (headIs_write h hcs hindex hsub), serve_write h hs1 hcs hindex hsub hlen
      (admitWrite_wo (findSub_answer s1 _ e) nofun le_rfl le_rfl) (rmax_room _ (by decide))
      (answerChallenge_right hkey hreturned hc htime hdata)]
  case unlock =>
    intro q s0 s h s1 hs1 hcs hindex hsub hlen hvalue hpresence
    have hfirst : s.headReq.map (fun q => q.record.getD 8 0) = some 1 := by
      rw [headReq_first h, Option.map_some, getD_eight_of_take_one hvalue]
    rw [exec_presenceUnlock, execPresenceUnlock, headIs_write h hcs hindex hsub, hfirst, if_pos (by rfl),
      serve_unlock h hs1 hcs hindex hsub hlen hvalue (by decide) (fun _ => hpresence)]
    rfl
  case lock =>
    intro q s0 s h s1 hs1 hcs hindex hsub hlen hvalue
    have hfirst : s.headReq.map (fun q => q.record.getD 8 0) = some 0 := by
      rw [headReq_first h, Option.map_some, getD_eight_of_take_one hvalue]
    rw [exec_lock, execLock, headIs_write h hcs hindex hsub, hfirst, if_pos (by rfl),
      serve_unlock h hs1 hcs hindex hsub hlen hvalue (by decide) nofun]
    rfl
  case attest =>
    rintro q _ s0 s h s1 hs1 hcs hindex hsub rfl hfits
    rw [exec_attestationRead, execAttestationRead, if_pos (headIs_read h hcs hindex hsub), serve_read h hs1 hcs hindex hsub
      (findSub_attest s1 _ quiet) nofun rfl hfits]
  case returned =>
    rintro q s0 s h s1 hs1 hcs hindex hsub hlen hvalue hpresence hmode t ht
    have hburned : t.fuse.returned = true := ht ▸ returnSteps_all_returned
    have hacts : actWrite s1 q.session quiet .returnPrep [0x52] = ({ t with mode := { t.mode with reset := 2 } }, none) := by
      refine (returnPrepare_begun (steps := 5) hmode ht).trans ?_
      rw [hburned, if_pos rfl]
    rw [exec_returnPreparation, execReturnPreparation, headIs_write h hcs hindex hsub]
    exact congrArg Host.Outcome.next (serve_actWrite_rwp h hs1 hcs hindex hsub hlen hvalue.symm (findSub_returnPrep s1 _ _) hpresence
      (by decide) hacts)
  case cut =>
    intro steps q rest s hserving hqueue hcs hindex hsub hlen hfirst hpresence hmode hreturned hsteps t ht
    exact exec_returnPreparation_cut hserving hqueue hcs hindex hsub hlen hfirst hpresence hmode hreturned hsteps ht
  case pressed =>
    rintro held s _ rfl hheld
    rw [exec_presencePress, execPresencePress]
    exact if_pos hheld
  case risen =>
    rintro held s _ rfl rfl hwas
    simp only [exec_presencePress, execPresencePress, hwas, Bool.false_eq_true, if_false, if_true]
  case sealBroken =>
    rintro s hintact _ rfl _ rfl
    simp only [exec_sealBreak, execSealBreak, hintact, Bool.not_true, Bool.false_eq_true, if_false]
  case completion =>
    intro s hopen hphase hdormant
    rw [exec_returnCompletion, execReturnCompletion, if_pos (by simp [hopen, hphase, hdormant])]
  case extended =>
    rintro slot _ s rfl hmay
    rw [exec_measurementExtend, execMeasurementExtend, if_neg (not_not.2 rfl), measExtend, if_neg (by omega)]
  case extendRefused =>
    rintro slot _ s rfl hslot hphase
    rw [exec_measurementExtend, execMeasurementExtend, if_neg (not_not.2 rfl), measExtend, if_pos ⟨hslot, hphase⟩]

end Sys2Proof.Machine

/-! SUPPORT. The CAN FD controllers and the relay. -/

namespace Sys2Proof.Machine

open Sys2Proof

/-! ### CAN FD (R476, R477) -/

section
variable {c : Fin 2} {s : State} (hon : canOn s c = true)
include hon

/-- A frame received joins the requests that wait where it is the device's and whole, and is only counted where it is not. -/
theorem exec_canFrameReceive_on {id : BitVec 29} {data : List Byte} {x : Nat} {t : State} (hdormant : s.mode.dormant = false)
    (hlen : canLength data.length = data.length) (ht : t = canReceived s c) (hx : x = id.toNat) :
    exec (.canFrameReceive c id data) s = .next
      (if bitsOf x 28 21 = 0xB7 ∧ bitsOf x 20 14 = s.fld uMgt F.mgtStrapNodeId ∧ bitOf x 13 = false ∧
          (recordNeed data ≤ data.length ∨ (8 ≤ data.length ∧ 64 < recordNeed data)) then
        { t with dict := { t.dict with queue := t.dict.queue ++ [⟨c, x % 8192, .can c, data⟩] } }
      else t) := by
  subst hx ht
  simp only [exec_canFrameReceive, execCanFrameReceive, hon, hdormant, hlen, bne_self_eq_false, Bool.not_true, Bool.not_eq_true',
    Bool.or_self, Bool.false_eq_true, if_false, apply_ite Host.Outcome.next]

section
variable {transmit : Bool} {step : BitVec 4} (hstep : step = 8 ∨ (step = 1 ∧ transmit = false))
include hstep

theorem exec_canBusError_step : exec (.canBusError c transmit step) s = .next (if transmit then
      (if 255 < s.fld uCan F.mgtCanStatTec c + 8 then (s.setFld uCan F.mgtCanStatTec 255 c).setFld uCan F.mgtCanStatState 2 c
       else showCan (s.setFld uCan F.mgtCanStatTec (s.fld uCan F.mgtCanStatTec c + 8) c) c)
    else showCan (s.setFld uCan F.mgtCanStatRec (addSat 8 (s.fld uCan F.mgtCanStatRec c) step.toNat) c) c) := by
  have hlegal : (step == 8 || (step == 1 && !transmit)) = true := by
    rcases hstep with h | ⟨h, ht⟩
    · simp [h]
    · simp [h, ht]
  simp only [exec_canBusError, execCanBusError, hon, hlegal, Bool.not_true, Bool.or_self, Bool.false_eq_true, if_false,
    apply_ite Host.Outcome.next]

end

end

/-! ### The relay (R480) -/

theorem relaySend_pending {s t t1 : State} {n k ext : Nat} {d : List Byte} {x : Session} {b : Nat → Nat}
    (hb : b = fun i => (d.getD i 0).toNat) (h0 : b 0 ≤ 15) (h6 : b 6 ≤ 15) (hx : x = s.ses n) (hidle : x.relay.state ≠ 1)
    (hk : k = s.dict.relaySeq)
    (hext : ext = 2 ^ 60 + b 6 * 2 ^ 56 + b 7 * 2 ^ 48 + (b 4 + 256 * b 5) * 2 ^ 32 + s.fld uCns F.cnsSysidSysid * 2 ^ 16 + k)
    (ht : t = s.setSes n { x with relay := { x.relay with state := 1, seq := k, response := [] } })
    (ht1 : t1 = { t with dict := { t.dict with relaySeq := (k + 1) % 8192 } }) :
    relaySend s n d = (ingress t1 (codeOf 96 6) (recordLmsg 2 (b 0) (b 2 + 256 * b 3) (b 1) ext (d.drop 8)), none) := by
  subst hx
  have hlegal : ¬(15 < b 0 ∨ 15 < b 6) := by omega
  rw [hb] at hlegal
  subst ht1 ht hext hk hb
  rw [relaySend]
  exact (if_neg hlegal).trans (if_neg hidle)

/-- Settles O54: a frame goes by its identifier, an error by the role the controller has in it, and a relay request is a write of its object. -/
theorem canAndRelayCommandsComplete : Obligations.CanAndRelayCommandsComplete := by
  refine ⟨?request, ?counted, ?busOff, ?transmit, ?receive, ?rejoin, ?relay, ?timeout⟩
  case request =>
    intro c id data s hon hdormant hlen t ht x hx hprefix hnode hbit hwhole
    rw [exec_canFrameReceive_on hon hdormant hlen ht hx, if_pos ⟨hprefix, hnode, hbit, hwhole⟩]
  case counted =>
    intro c id data s hon hdormant hlen t ht x hx hother
    rw [exec_canFrameReceive_on hon hdormant hlen ht hx, if_neg]
    rintro ⟨hprefix, hnode, hbit, hwhole⟩
    rcases hother with h | h | h | h
    · exact h hprefix
    · exact h hnode
    · exact Bool.false_ne_true (hbit.symm.trans h)
    · omega
  case busOff =>
    rintro c transmit step s hon hstep htransmit _ rfl hover
    rw [exec_canBusError_step hon hstep, if_pos htransmit, if_pos hover]
  case transmit =>
    rintro c transmit step s hon hstep htransmit _ rfl hwithin
    rw [exec_canBusError_step hon hstep, if_pos htransmit, if_neg (Nat.not_lt.2 hwithin)]
  case receive =>
    rintro c transmit step s hon hstep hreceive
    rw [exec_canBusError_step hon hstep, hreceive, if_neg Bool.false_ne_true]
  case rejoin =>
    intro c s hoff
    rw [exec_busOffRejoin, execBusOffRejoin, if_neg (not_not.2 hoff)]
  case relay =>
    intro q d x n s0 s h s1 hs1 hcs hindex hsub hlo hhi hroom hd b hb h0 h6 hx hidle hn ext hext t ht t1 ht1
    have hacts := relaySend_pending hb h0 h6 hx hidle hn hext ht ht1
    rw [hd] at hacts
    rw [exec_relaySend, execRelaySend, if_pos (headIs_write h hcs hindex hsub), serve_write h hs1 hcs hindex hsub rfl
      (admitWrite_wo (findSub_relay s1 _ quiet) nofun hlo hhi) hroom hacts, hd]
  case timeout =>
    rintro session s _ rfl hpending
    rw [exec_relayTimeout, execRelayTimeout]
    exact if_pos hpending

end Sys2Proof.Machine
